-- ==== Sys2Proof/Word.lean ====
section
/-! DEFINITION. The word types of the SV7264's formats. -/

namespace Sys2Proof

/-- One byte of a format (R20: every multi-byte field of the part is little-endian). -/
abbrev Byte := BitVec 8

/-- A register word: registers are 32 bits wide (chapter 00, "Registers"). -/
abbrev Word32 := BitVec 32

/-- One step of a program image: 32 bytes, as one little-endian number (chapter 07). -/
abbrev StepWord := BitVec 256

/-- A channel mask: bit n is channel n (chapter 12, "Session family"). -/
abbrev Mask64 := BitVec 64

/-- A channel number, 0 to 63 (R25). -/
abbrev ChanNo := Fin 64

/-- A Gather number, 0 to 7 (R25). -/
abbrev GatherNo := Fin 8

end Sys2Proof
end

