-- ==== Sys2Proof/Machine/Types.lean ====
section
/-! DEFINITION. Plain data shared by the syntax and the state: modes, channel states, status codes, tags, entries, command heads. -/

namespace Sys2Proof.Machine

open Sys2Proof

/-- The twelve modes of Table 03-1 (R77). -/
inductive Mode where
  | off | ship | keep | wake | boot | ready | run | degraded | twin | service | lehr | lockout
  deriving DecidableEq, Repr

/-- The channel states of Table 04-3 (R136). -/
inductive ChState where
  | stopped | settling | softstart | active | resting | stopping | faulted | paused | released
  deriving DecidableEq, Repr

/-- The loop kinds of Table 04-1, in the order of the LOOP field of CH_STAT (R119). -/
inductive LoopKind where
  | rest | cc | cv | cccv | cp | cr | pulse
  deriving DecidableEq, Repr

/-- Fault classes (R673). -/
inductive FClass where
  | c | u | f
  deriving DecidableEq, Repr

/-- Queue kinds of Table 10-1 (R375). -/
inductive QKind where
  | command | completion | record | event
  deriving DecidableEq, Repr

/-- Status codes of Table 12-2 (R471). -/
inductive Status where
  | ok | okDeferred | malformed | badTrain | unknownKind | badField | notLeased | notPermitted | quota | authFailed
  | wrongMode | busy | notOwner | limit | notErased | worn | media | sigFailed | aborted | timeout | internal
  deriving DecidableEq, Repr

/-- The code of a status (Table 12-2). -/
def statusCode : Status → Nat
  | .ok => 0x00 | .okDeferred => 0x01 | .malformed => 0x10 | .badTrain => 0x11 | .unknownKind => 0x12 | .badField => 0x13
  | .notLeased => 0x20 | .notPermitted => 0x21 | .quota => 0x22 | .authFailed => 0x23 | .wrongMode => 0x30 | .busy => 0x31
  | .notOwner => 0x32 | .limit => 0x33 | .notErased => 0x40 | .worn => 0x41 | .media => 0x42 | .sigFailed => 0x43
  | .aborted => 0x50 | .timeout => 0x51 | .internal => 0xFF

/-- The 16-byte tag of Table 10-4 without OWN and HCHK, which follow from the other fields and from where it stands
(R384 to R387). -/
structure Tag where
  kind    : Nat          -- byte 0
  urgent  : Bool := false
  stale   : Bool := false
  twin    : Bool := false
  loss    : Bool := false
  tidx    : Nat := 0
  tcnt    : Nat := 1
  tenant  : Nat
  channel : Nat := 255
  seq     : Nat := 0
  corr    : Nat := 0
  stepref : Nat := 65535
  calgen  : Nat := 0
  deriving DecidableEq, Repr

/-- An entry: its tag and its 48-byte payload (R384, R464). -/
structure Entry where
  tag     : Tag
  payload : List Byte
  deriving DecidableEq, Repr

/-- An entry as it arrives from outside: 64 bytes, still to be checked (Table 10-7). -/
abbrev RawEntry := List Byte

/-- Who sent a claimed command and where its completion goes: the tag fields of R34, the command queue it was claimed from
(0 for the local port), and the session bound to that queue (R382, R415). -/
structure CmdHead where
  tenant  : Nat
  queue   : Nat
  session : Option Nat := none
  channel : Nat := 255
  corr    : Nat := 0
  urgent  : Bool := false
  ticket  : Nat := 0               -- its place among the commands taken from its queue (R396)
  resv    : Nat := 0               -- completion slots reserved at its claim (R395)
  judged  : Option Mode := none    -- the mode in force when it was claimed (R86)
  deriving DecidableEq, Repr

/-- Calendar fields of Table 12-14, in local civil time. -/
structure CalTime where
  year   : Nat := 2000
  month  : Nat := 1
  day    : Nat := 1
  hour   : Nat := 0
  minute : Nat := 0
  second : Nat := 0
  wday   : Nat := 0
  summer : Bool := false
  deriving DecidableEq, Repr

/-- Lease fields of Tables 11-3 and 12-5 (R442). -/
structure LeaseFields where
  members : Nat            -- P0, mask within the leader's Gather
  track   : Nat := 0       -- P1
  tenant  : Nat            -- P2
  ichg    : Nat            -- µA
  idis    : Nat            -- µA
  vmin    : Int            -- µV
  vmax    : Int            -- µV
  emax    : Nat := 0       -- J, 0 no limit
  gpioev  : Nat := 0       -- 12-bit mask
  shares  : List Nat := [0, 0, 0, 0, 0, 0, 0, 0]
  deriving DecidableEq, Repr

/-- One (channel, quantity) pair of CAL_WRITE (Table 12-17). -/
structure CalPair where
  channel : Nat
  qty     : Nat
  offu    : Int
  gainu   : Int
  qu      : Int
  deriving DecidableEq, Repr

/-- The fields of EST_SET (Table 12-10). -/
structure EstFields where
  mask     : Nat
  cnom     : Nat
  slopemin : Nat
  ocvrest  : Nat
  rate     : Nat
  kskip    : Nat
  kmin     : Nat
  estrec   : Nat
  deriving DecidableEq, Repr

/-- The fields of QUOTA_SET (Table 12-4); 0 keeps a value. -/
structure QuotaFields where
  sessions : Nat
  queues   : Nat
  ringkib  : Nat
  recrate  : Nat
  evrate   : Nat
  deriving DecidableEq, Repr

/-- What one channel's converters and comparators give in one control cycle (R117, R149, R200, R208). Converter values are the
raw values x0 of R218, scaled to nV of the nominal full scale (DESIGN CHOICE, log entry 6). -/
structure ChIn where
  v     : Int := 0                 -- mean over the loop window: cell voltage, nV
  i     : Int := 0                 -- mean over the loop window: shunt voltage, nV
  peak  : Nat := 0                 -- PEAK of the current front end, nV (R200)
  vpeak : Nat := 0                 -- the largest magnitude of the voltage input in the cycle, nV (R197)
  vInt  : Int := 0                 -- means over the 62.5 µs window that ended in the cycle, nV (R208)
  iInt  : Int := 0
  dem   : List (Int × Int) := []   -- the 320 kS/s samples of voltage and current that end in the cycle, nV (R314)
  vbus  : Nat := 0                 -- bus voltage averaged over the channel's own window, µV (R118, R348)
  zc    : Option Nat := none       -- ticks into the period that ended at which the shunt current crossed zero (R149)
  deriving DecidableEq, Repr

/-- What the hardware finds when a claimed command is carried out: whether the signatures of an image hold (R649), the error of a reference
check in ppm (R229), and the calibration of a retested converter (R241) (DESIGN CHOICE, log entry 6). -/
structure Finding where
  sigOk : Bool := true
  ppm   : Nat := 0
  drift : List (Int × Int) := []
  noise : List Nat := []
  deriving DecidableEq, Repr

/-- A part of an output window, between two changes of converter or range: its modulator clocks and the means of the raw values over them
in nV (R203, R218, R233) (DESIGN CHOICE, log entry 6). -/
structure RawPart where
  clocks : Nat
  v      : Int
  i      : Int
  deriving DecidableEq, Repr

/-- What one Gather senses in one control cycle of its eight channels (DESIGN CHOICE, log entry 6). -/
structure CycleIn where
  vbus    : Nat := 0               -- bus voltage over the integration window that ended, µV (R361)
  ch      : List ChIn              -- channel k at place k; missing ones read as zero
  integ   : Bool := false          -- a 62.5 µs window of the integration stream ended in the cycle (R208)
  ibusInt : Int := 0               -- its bus current, µA (R361)
  grid100 : Bool := false          -- a 100 ms point of the PTP grid lay in the cycle (R266)
  epoch   : Nat := 0               -- PTP time of the boundary, ns
  deriving DecidableEq, Repr

/-- The clock of a local-port frame in which the part sends (R705): how long LSCK is held idle after the turnaround byte, and the time of a
byte, in ns. -/
structure FrameClk where
  gap  : Nat
  byte : Nat
  deriving DecidableEq, Repr

/-- A QGET frame (R412, R705): the queue that it names and its clock. -/
structure GetFrame where
  q   : Nat
  clk : FrameClk
  deriving DecidableEq, Repr

/-- What the calibration points of a converter give (R219, R237): offset and gain of each of its front ends, one pair for a voltage converter, four for
a current converter and five for a Punty, and the noise of each in tenths of nV (DESIGN CHOICE, log entry 6). -/
structure CalPoints where
  d     : List (Int × Int) := []
  noise : List Nat := []
  deriving DecidableEq, Repr

/-- A Gather, and the error in ppm of its 2.500 V reference against 4.096 V at a check made now (R229) (DESIGN CHOICE, log entry 6). -/
structure RefAt where
  g   : GatherNo
  ppm : Nat
  deriving DecidableEq, Repr

/-- The shunt voltage of a channel as its comparator sees it, in nV (R164) (DESIGN CHOICE, log entry 6). -/
structure Shunt where
  c : ChanNo
  v : Int
  deriving DecidableEq, Repr

/-- A trap on a Steward core, and whether it came inside the exception handler (R642) (DESIGN CHOICE, log entry 6). -/
structure CoreTrap where
  core      : Fin 4
  inHandler : Bool
  deriving DecidableEq, Repr

/-- The parts of an output window from their modulator clocks and their raw means of voltage and current. -/
def rawParts (clocks : List Nat) (raw : List (Int × Int)) : List RawPart := List.zipWith (fun n x => { clocks := n, v := x.1, i := x.2 }) clocks raw

/-- The header fields of a tenant datagram (Table 10-6) and what its authentication gave (DESIGN CHOICE, log entry 6). -/
structure Datagram where
  port    : Nat := 0
  addr    : Nat := 0
  udp     : Nat := 0
  session : Nat
  queue   : Nat := 0
  dseq    : Nat := 1
  resent  : Bool := false
  authOk  : Bool := true           -- the AES-256-GCM tag verified (R405)
  formOk  : Bool := true           -- MAGIC, VER, DTYPE and lengths are right (R406 step 1)
  cvalid  : Bool := false
  cqueue  : Nat := 0
  cack    : Nat := 0
  climit  : Nat := 0
  deriving DecidableEq, Repr

/-- How a drive answers a read or a write (R510 to R512) (DESIGN CHOICE, log entry 6). -/
inductive DriveAns where
  | ok | error | timeout | lost
  deriving DecidableEq, Repr

end Sys2Proof.Machine
end

