-- ==== Sys2Proof/Machine/StChan.lean ====
section
/-! DEFINITION. State of a channel and of a Gather (chapters 04 to 09): control loop, protection, measurement, step program,
impedance sweep, estimator, counters. -/

namespace Sys2Proof.Machine

open Sys2Proof

/-- What a ramped stop ends in (R143, R290, R99). -/
inductive StopFor where
  | stop                    -- stop command or revoke: STOPPED, CON low
  | endProg (conkeep : Bool) -- END step or END action (R271, R280)
  | pause                   -- PAUSED, program kept (R290)
  | lehr                    -- Lehr: paused for the resume area (R99)
  deriving DecidableEq, Repr

/-- What a settle of CON comes before (R138, R102, R168, R712). -/
inductive SettleFor where
  | start | resume | retry | step
  | takeover (dst : ChState)   -- a channel that a takeover resumes, into this state (R537)
  deriving DecidableEq, Repr

/-- What the switches do in one PWM period (R113, R149 to R151): the on-time of the controlled switch, 0 where both stay low. -/
structure Duty where
  ton   : Nat := 0                     -- ticks
  pwl   : Bool := false                -- PWL is the controlled switch: discharging under DE (R149)
  de    : Bool := false                -- the period runs under DE
  clamp : Bool := false                -- the on-time was clamped (R114)
  burst : Bool := false                -- burst operation decided the period (R151)
  deriving DecidableEq, Repr

/-- Loop, switches and CON of a channel (R116 to R152). Voltages of the loop are counted in units of 1.25 * 10^-10 µV and
currents of the voltage integrator in units of 1.25 * 10^-10 µA, in which R120 and R121 are whole; times in 125 ps ticks
(DESIGN CHOICE, log entry 11). -/
structure LoopSt where
  st       : ChState := .released      -- STATE of CH_STAT, reset 0x8
  before   : ChState := .stopped       -- the state in which the channel was released (R137)
  con      : Bool := false             -- level driven on CON
  settle   : SettleFor := .start
  stopFor  : StopFor := .stop
  si       : Int := 0                  -- current-loop integrator
  sv       : Int := 0                  -- voltage-loop integrator
  clampDir : Int := 0                  -- direction of the last on-time clamp
  last     : Duty := {}                -- the period that ended last: ONTIME, DCLAMP and BURST
  mid      : Duty := {}                -- the period now running (R118)
  next     : Duty := {}                -- the period after it, as computed so far
  start    : Nat := 0                  -- tick of REFCLK time at which the period now running began (R111, R116)
  zc       : Option Nat := none        -- ticks into the last period at which the shunt current crossed zero (R149)
  ff       : Bool := false             -- switching begins: the on-time to be computed is the feed-forward one (R131, R289)
  vbus     : Nat := 0                  -- bus voltage averaged over its last loop window, µV (R118)
  hold     : Nat := 0                  -- control cycles for which a changeover of converters holds the on-time (R238)
  evCorr   : Option Nat := none        -- CORR of the stop or pause in progress, for the events it causes (R34)
  limit    : Bool := false
  deficit  : Nat := 0                  -- R151, ticks
  de       : Bool := false
  deWin    : List Nat := []            -- |current| of the last DEWIN cycles since the start, µA (R147, R148); the leader's for a gang
  deHold   : Nat := 0                  -- control cycles for which the step's reference decides DE in place of the average (R148)
  cvph     : Bool := false
  iref     : Int := 0                  -- IREF, µA after all limits
  total    : Int := 0                  -- the gang total before the shares (R154); the leader's
  iloop    : Int := 0                  -- ILOOP, µA
  vloop    : Int := 0                  -- VLOOP, µV
  vhist    : List Int := []            -- loop samples of voltage, newest first
  ihist    : List Int := []            -- loop samples of current, newest first (NTERM means)
  ramp     : Nat := 0                  -- ticks of the running soft-start, ramped stop or takeover ramp
  rampFrom : Int := 0                  -- reference at the start of a ramped stop
  slewPos  : Int := 0                  -- slew position in 1/8000 µA (R132)
  tkramp   : Bool := false             -- the takeover ramp of R538 runs
  tkT      : Nat := 0                  -- its ticks
  tkFrom   : Nat := 0                  -- |current| of the last loop sample at its start, µA
  ss       : Option (Int × Int) := none -- first loop sample of the soft-start ramp: voltage, gang total of current (R188)
  tcoff    : Bool := false             -- a fault stop waits TCOFF before CON opens (R143)
  prof     : Nat := 0
  kind     : LoopKind := .rest         -- LOOP
  deriving DecidableEq, Repr

/-- Protection of a channel (R161 to R191). USED is counted in 10^-12 IRATED² s. -/
structure ProtSt where
  cause     : Nat := 0                 -- CAUSE
  causeMask : Nat := 0                 -- CAUSEMASK
  twarn     : Bool := false
  used      : Nat := 30 * 10 ^ 12      -- R183: BUDGET
  fold      : Bool := true
  foldFrom  : Nat := 0                 -- |Iref| when FOLD was set, µA
  foldT     : Nat := 400000000         -- ticks since FOLD was set (50 ms ended)
  slowT     : Nat := 0                 -- slow-overload counter, ticks
  retryWait : Bool := false
  retries   : Nat := 0
  tripT     : Nat := 0                 -- PTP time of the last trip: the change of the comparator output (R168)
  ckLatch   : Bool := false            -- the hardware latch of R167
  ckOff     : Bool := false            -- both switches were off at the trip that set it (R170)
  uvhold    : Bool := false
  ovhold    : Bool := false
  xskip     : Bool := false
  twinck    : Nat := 0
  revT      : Nat := 0                 -- ticks with the cell voltage below REVV
  shortWait : Nat := 0                 -- loop samples since the end of SETTLING (R184)
  revSeen   : Bool := false            -- the reverse-cell criterion has acted since the cell was last above REVV
  noTripT   : Nat := 0                 -- ticks in ACTIVE or RESTING since the last trip (R169)
  ckPass    : Bool := false            -- last Crack-off self-test
  ckFail    : Bool := false
  deriving DecidableEq, Repr

/-- A twin sample from the non-owner (R243). -/
structure TwinIn where
  stamp  : Nat
  v      : Int
  i      : Int
  rng    : Nat
  calgen : Nat
  rate   : Nat
  deriving DecidableEq, Repr

/-- The converters and the range in force over a part of an output window, and whether its samples count: those of a failed converter do
not (R218, R233, R238). -/
structure WinPart where
  vconv : Nat
  iconv : Nat
  irng  : Nat
  okV   : Bool := true
  okI   : Bool := true
  deriving DecidableEq, Repr

/-- An output sample that waits for its twin (R244 to R247). -/
structure HeldSmp where
  stamp  : Nat
  v      : Int
  i      : Int
  rng    : Nat
  calgen : Nat
  rate   : Nat
  deriving DecidableEq, Repr

/-- Measurement of a channel (R194 to R251). -/
structure MeasSt where
  irng     : Nat := 0                  -- IRNG
  peakLow  : Nat := 0                  -- cycles with PEAK below the limit of the next lower range (R200)
  rngT     : Nat := 80000000           -- ticks since the last range change (R200)
  ovrv     : Bool := false
  ovri     : Bool := false
  rngforce : Bool := false
  tcold    : Bool := false
  tcell    : Int := 0
  tvalid   : Bool := false
  traw     : List (Option Int) := []   -- thermistor resistances of the last 10 raw windows in mΩ, newest first (R210)
  tdiscard : Nat := 0                  -- raw windows still to discard (R65, R211)
  vout     : Int := 0
  iout     : Int := 0
  stamp    : Nat := 0
  mstat    : Nat := 0                  -- measurement status of the last output sample (Table 06-6)
  smpTcell : Int := 0                  -- TCELL, IREF and state at the last output sample (MEAS_READ, Table 12-9)
  smpIref  : Int := 0
  smpState : Nat := 8
  winFlags : Nat := 0                  -- status bits gathered in the running output window
  winParts : List WinPart := []        -- the parts of the running output window that have ended, oldest first (R218)
  winEnd   : Option Nat := none        -- PTP time at which the running output window began (R203)
  lostV    : Bool := false             -- the voltage converter has failed and no replacement is seated yet (R238)
  lostI    : Bool := false
  newRate  : Option (Nat × Nat) := none   -- an OUTRATE waiting, and the first point of both grids (R207)
  frozenHi : Option Nat := none        -- CH_STAMP_HI frozen by a read of _LO
  calgen   : Nat := 0                  -- CALGEN in force
  offu     : List Int := [0, 0, 0, 0, 0]   -- user layer: voltage, current H, M, L, U
  gainu    : List Int := [0, 0, 0, 0, 0]
  qu       : List Int := [0, 0, 0, 0, 0]
  calNext  : Option (Nat × Nat × List CalPair) := none  -- a new generation waiting for its output window, and its CAL_WRITE's CORR (R225)
  calLoop  : Bool := false             -- the loop stream has switched to it (R225)
  snapOff  : Int := 0                  -- CH_COFF
  snapGain : Int := 0
  snapQ    : Int := 0
  snapGen  : Nat := 0
  snapOk   : Bool := false             -- VALID of CH_CALSEL
  twinok   : Bool := false
  twindiff : Bool := false
  notwin   : Bool := false
  diffRun  : Nat := 0                  -- consecutive disagreements (R247)
  agreeRun : Nat := 256                -- consecutive agreements since the last TWIN_DIFF
  diffArmed : Bool := true
  diffcnt  : Nat := 0
  nocmp    : Nat := 0
  twin     : Option TwinIn := none     -- the last twin sample that arrived (R243)
  vms      : List Int := []            -- cell voltages of the last 16 windows of the integration stream, in µV (R353)
  held     : List HeldSmp := []        -- output samples in their hold, oldest first (R244)
  deriving DecidableEq, Repr

/-- One entry of the loop stack (R278). -/
structure LoopEntry where
  loop      : Nat
  target    : Nat
  remaining : Nat
  deriving DecidableEq, Repr

/-- The last work step that ended: sources 0x10 to 0x16 of Table 07-10. -/
structure LastStep where
  v    : Int
  i    : Int
  t    : Int
  ms   : Int
  q    : Int
  e    : Int
  slot : Int
  deriving DecidableEq, Repr

/-- The means of a DCIR step (R326): sums and counts of the integration stream over its averaging windows. -/
structure Mean where
  v : Int := 0
  i : Int := 0
  n : Nat := 0
  deriving DecidableEq, Repr

/-- Program state of a channel (R252 to R301). Charge is counted in µA * 62.5 µs, energy in µV * µA * 62.5 µs, time in ticks. -/
structure ProgSt where
  live     : List StepWord := []       -- live image; its length is LEN
  imggen   : Nat := 0
  shadow   : List StepWord := []       -- steps written to the shadow image in Steward memory (R254)
  shLen    : Nat := 0                  -- LEN of the shadow image (R291)
  pc       : Nat := 0
  active   : Bool := false             -- a program is in execution or paused
  vars     : List Int := List.replicate 32 0
  loops    : List LoopEntry := []      -- loop stack, top first
  stepT    : Nat := 0
  stepQ    : Int := 0
  stepE    : Int := 0
  startT   : Nat := 0
  startQ   : Int := 0
  startE   : Int := 0
  last     : Option LastStep := none
  dcir     : Option Int := none        -- source 0x17
  arith    : Bool := false
  refetch  : Bool := false
  corr     : Nat := 0                  -- CORR of the last start or resume (R36)
  seta     : Int := 0                  -- SETA in force, after SVAR and its clamp
  pulseB   : Bool := false             -- the PULSE level in force
  phaseT   : Nat := 0                  -- ticks in the pulse level or DCIR phase
  dcirB    : Bool := false             -- the I2 phase of a DCIR step
  dcirA    : Mean := {}
  dcirW    : Mean := {}                -- I2 phase, last 100 ms
  dcir1s   : Mean := {}
  dcirReach : Option Nat := none       -- step time at which the reference reached I2
  events   : List Nat := []            -- EVENT sources that arrived since step entry (R269)
  sum100   : Int := 0                  -- integration samples of the running 100 ms window
  n100     : Nat := 0
  whole100 : Bool := false             -- the running window began in this step (R266)
  means    : List Int := []            -- means of the last 101 windows of 100 ms of the PTP grid, newest first (R266)
  maxMean  : Option Int := none        -- highest mean of a whole 100 ms window since step entry (NEGDV)
  deferT   : Option Nat := none        -- time at which the present deferral began (R356)
  deferMs  : Nat := 0                  -- time the step spent deferred
  newStep  : Bool := false             -- the step has not begun yet (deferred or settling)
  inStep   : Bool := false             -- a work step is in execution or paused
  first    : Bool := false             -- the step that waits is the first after a start, resume or retry (R356)
  sync     : Bool := false             -- the channel waits at a barrier
  limited  : Bool := false             -- a limit moved the reference in a DCIR averaging window (R328)
  commit   : Option (List StepWord) := none   -- image in the commit buffer (R293)
  commitBy : Option CmdHead := none    -- the COMMIT that waits for the swap (R295)
  discard  : Bool := false             -- the lease has been revoked: the image goes when the ramped stop ends (R446)
  deriving DecidableEq, Repr

/-- A sum of complex samples of voltage and current, in 10^-9 nV and 10^-9 nA (R314). -/
structure Tone where
  vre : Int := 0
  vim : Int := 0
  ire : Int := 0
  iim : Int := 0
  n   : Nat := 0                       -- samples
  deriving DecidableEq, Repr

/-- Impedance sweep of a channel (R304 to R323). -/
structure EisSt where
  phase : Nat := 0                     -- PHASE: 0 idle, 1 pending, 2 settle, 3 window
  point : Nat := 0
  code  : Nat := 0
  cfg   : Nat := 0                     -- EIS_CFG as the point took it (R346)
  rep   : Bool := false
  ffpath : Bool := false
  vamp  : Nat := 0                     -- µV, feed-forward path (R312)
  wstart : Nat := 0                    -- PTP time of the window start
  settleT : Nat := 0                   -- PTP time at which the settle of the point began (R307)
  bad   : Nat := 0                     -- PSTAT reasons gathered in the window
  swap  : Bool := false
  tone  : Int := 0                     -- present value of the tone on the reference path, µA
  ph    : Nat := 0                     -- tone phase in units of 1.25 * 10^-22 turns (R310)
  sin9  : Int := 0                     -- sine of the phase in units of 10^-9
  done  : Nat := 0                     -- points completed
  eighths : List Tone := List.replicate 8 {}   -- the demodulators' sums over the eighths of the window (R314)
  vsum  : Int := 0                     -- sum of the window's voltage samples, nV
  deriving DecidableEq, Repr

/-- Estimator of a channel or of the pack (R329 to R344). SoC is counted in 10^-9 of full, charge in µA * 62.5 µs. -/
structure EstSt where
  cnom     : Nat := 0
  table    : List (Nat × Int) := []    -- SoC in 0.01 %, OCV in µV
  slopemin : Nat := 2000
  ocvrest  : Nat := 1800
  rate     : Nat := 100                -- 0.01 %/s
  kskip    : Nat := 1
  kmin     : Nat := 1
  estrec   : Nat := 10
  next     : Option EstFields := none  -- EST_SET waiting for the next update
  cmeas    : Option Nat := none        -- last measured capacity, µAh
  accQ     : Int := 0                  -- the Gather's accumulator (read and cleared every 100 ms)
  accE     : Int := 0
  netQ     : Int := 0
  netE     : Int := 0
  soc      : Option Int := none        -- estimate
  rep      : Option Int := none        -- reported
  full     : Option Int := none        -- net charge at the full mark
  emptyMk  : Bool := false
  chgSince : Int := 0                  -- charge put in since the full mark
  corrd    : Bool := false             -- an OCV correction since the last record
  k        : Option Int := none        -- µV/day
  isd      : Option Int := none
  ocvs     : List (Nat × Int) := []    -- OCV records of the running OCVWATCH step: ms since entry, µV
  dcir     : Option Int := none
  hib      : Bool := false
  upT      : Nat := 0                  -- PTP time of the last update (Table 12-22)
  lowT     : Nat := 0                  -- time with |I| below the threshold, in ms
  hibMs    : Nat := 0                  -- time since the last update in hibernation, in ms (R338)
  restMs   : Nat := 0                  -- length of the present rest, ms
  stamped  : Bool := false             -- an output sample has been taken since the state was lost
  stale    : Bool := false
  src30    : Int := -2147483648        -- values last delivered to the Gather (R276)
  src31    : Int := -2147483648
  fixId    : Nat := 0                  -- fixture identity saved (R342)
  savedOcv : Option Int := none
  deriving DecidableEq, Repr

/-- Lifetime counters of Table 09-5, in the raw units of the Gather (R360, R361). -/
structure Counters where
  imp     : Nat := 0                   -- mJ * 1.6 * 10^13 raw
  exp     : Nat := 0
  qin     : Nat := 0                   -- µA * 62.5 µs
  qout    : Nat := 0
  periods : Nat := 0
  ckoff   : Nat := 0
  bands   : List Nat := [0, 0, 0, 0, 0, 0, 0, 0, 0]   -- ticks
  deriving DecidableEq, Repr

/-- Lease of a channel as leader, kept in NVM (R442). -/
structure Lease where
  f       : LeaseFields
  route   : Option Nat := none         -- Q_ROUTE of the channel (R472)
  base    : Counters := {}             -- lifetime counters at the grant (R360)
  deriving DecidableEq, Repr

/-- One channel (DESIGN CHOICE, log entry 3). -/
structure Chan where
  loop  : LoopSt := {}
  prot  : ProtSt := {}
  meas  : MeasSt := {}
  prog  : ProgSt := {}
  eis   : EisSt := {}
  est   : EstSt := {}
  cnt   : Counters := {}
  cntNvm : Counters := {}              -- as NVM holds them (R362)
  cntNew : Counters := {}              -- accumulated since the last collection (R362)
  eusedE : Nat := 0                    -- HL_EUSED in raw energy units
  icap  : Bool := false                -- ICAP of HL_STAT
  cap   : Option Nat := none           -- bus-balance cap in µA; none is full scale (R357)
  flextrim : Bool := false
  proptrim : Bool := false
  baltrim : Bool := false              -- the cap holds the reference
  meterImp : Nat := 0                  -- energy not yet credited to the lessee (R363)
  meterExp : Nat := 0
  pieces   : List (Nat × Nat × Nat) := []   -- what ended at predicted stamps: tenant, import and export in mJ, oldest first (R367)
  resume : Bool := false               -- the resume area holds an entry of this channel (R99)
  deriving DecidableEq, Repr

/-- State of a Punty (Table 06-13). -/
inductive PuntySt where
  | free | selfcal | shadow | standin | seated | retired
  deriving DecidableEq, Repr

/-- Punty A or Punty B, and the swap that it serves (R230 to R237, Table 06-13). -/
structure Punty where
  st     : PuntySt := .selfcal
  input  : Nat := 0
  swap   : Bool := false               -- a swap of the rotation is in progress with it
  num    : Nat := 0                    -- the number s of that swap (R230)
  rel    : Option Nat := none          -- the converter released while it stands in
  back   : Bool := false               -- that converter shadows it (R232 step 4)
  stuck  : Bool := false               -- that shadow could not complete; it is tried again each ROTINT (R234)
  again  : Bool := false               -- the swap is repeated from step 1 (R236)
  begun  : Nat := 0                    -- time at which the running shadow began
  since  : Nat := 0                    -- time at which the running phase began, or its shadow was restarted (R234)
  deriving DecidableEq, Repr

/-- A take-over that waits for the channel's next control-cycle boundary (R232, R233, R239). -/
structure Takeover where
  input : Nat
  conv  : Nat
  punty : Option (Bool × PuntySt) := none   -- the Punty and the state that it enters
  deriving DecidableEq, Repr

/-- One layer of a converter (R219, R220): offset in nV and gain in 2^-31 for voltage and for current H, M, L and U. -/
structure Drift where
  off  : List Int := [0, 0, 0, 0, 0]
  gain : List Int := [0, 0, 0, 0, 0]
  deriving DecidableEq, Repr

/-- One barrier of a tenant (R282 to R285). -/
structure Barrier where
  tenant   : Nat
  num      : Nat
  count    : Nat
  arrived  : List Nat                  -- channels
  trel     : Option Nat := none
  deriving DecidableEq, Repr

/-- A Gather (DESIGN CHOICE, log entry 3). -/
structure Gather where
  inReset  : Bool := true              -- held in reset
  calibrated : Bool := false           -- the 2.5 s calibration of R242 has ended
  cycle    : Nat := 0                  -- G_CYCLE
  epoch    : Nat := 0                  -- tick of REFCLK time from which its periods count (R111)
  perN     : Nat := 0                  -- control cycles begun since that epoch
  tstg     : Int := 0
  stgValid : Bool := false
  stgSeen  : Bool := false             -- a valid TSTG has been taken since the reset (R179)
  straw    : List (Option Int) := []   -- stage thermistor resistances, newest first
  stgBadMs : Nat := 0                  -- time STGT has been invalid (R179)
  scold    : Bool := false
  sdiscard : Nat := 0
  pa       : Punty := {}
  pb       : Punty := {}
  seats    : List Nat := [0, 1, 2, 3, 4, 5, 6, 7, 8, 9, 10, 11, 12, 13, 14, 15]  -- converter seated on each input
  retired  : Nat := 0                  -- retirement map in NVM
  drift    : List Drift := List.replicate 18 {}
  factory  : List Drift := List.replicate 18 {}   -- fused (R219)
  prev     : List (Nat × Drift) := []  -- the drift layers before the calibration of a released converter (R239)
  due      : List Takeover := []       -- take-overs at the next control-cycle boundary
  rotT     : Nat := 0                  -- time from which the running ROTINT counts; before the calibration, the release from reset
  waiting  : Bool := false             -- a swap waits for a Punty (R231)
  swapNo   : Nat := 0                  -- s of the next swap (R230)
  swaps    : Nat := 0                  -- SWAPS
  checkDue : Bool := false             -- a round of sixteen swaps has ended (R229)
  calhold  : Bool := false
  calT     : Nat := 0                  -- time at which CALHOLD was set (R216)
  refok    : Bool := false
  refHold  : Bool := false             -- CALHOLD from a failed reference check (R229)
  eisOk    : Bool := false             -- CHECKOK
  vbus     : Nat := 0                  -- BG_V, µV
  ibus     : Int := 0                  -- BG_I, µA
  uvw      : Bool := false
  uvs      : Bool := false
  ovw      : Bool := false
  ovs      : Bool := false
  uvCnt    : Nat := 0
  ovCnt    : Nat := 0
  sensok   : Bool := false
  senBad   : Nat := 0                  -- time the bus sense has been out of range
  draining : Bool := false             -- CBUSY
  pieces   : Nat := 0                  -- predicted stamps at which the accumulators have been split (R367)
  slot     : Option Nat := none        -- a self-test slot in progress: kind 0 loop engine, 1 Crack-off
  slotBy   : Option CmdHead := none    -- the SELFTEST that runs in it
  slotDef  : Bool := false             -- it was a deferred test (R92)
  deferred : List (CmdHead × Nat) := []  -- deferred self-tests (R92)
  ckPass   : Nat := 0                  -- G_CKTEST
  ckFail   : Nat := 0
  deriving DecidableEq, Repr

end Sys2Proof.Machine
end

