-- ==== Sys2Proof/Machine/StQueue.lean ====
section
/-! DEFINITION. State of the queue manager, the tenants, the sessions, the local port, the network counters and the DMA engine
(chapters 10 and 11). -/

namespace Sys2Proof.Machine

open Sys2Proof

/-- A queue: the descriptor of Table 10-3 and the ring and hold behind it (R375, R376, R380). HEAD is TAIL plus the entries
of the ring plus the reserved slots that are already numbered (DESIGN CHOICE, log entry 3). -/
structure Queue where
  num      : Nat
  kind     : QKind
  local_   : Bool := false         -- QCFG LOCAL
  size     : Nat                   -- ring of 16 * 2^size entries
  tenant   : Nat
  holdCap  : Nat := 0              -- QCFG HOLD
  base     : Nat := 0              -- BASE in KiB from 0x0100_0000
  tail     : Nat := 0              -- TAIL
  nseq     : Nat := 0              -- NSEQ
  pair     : Option Nat := none    -- PAIR, PAIREN
  bind     : Option Nat := none    -- BIND, BOUND
  cack     : Nat := 0              -- CACK
  climit   : Nat := 0              -- CLIMIT
  overflow : Bool := false         -- QSTATE [0]
  closing  : Bool := false         -- QSTATE [1]
  losspend : Bool := false         -- QSTATE [2]
  drops    : Nat := 0              -- DROPS
  ring     : List Entry := []      -- oldest not freed first
  hold     : List (List Entry) := []  -- waiting trains, oldest first, those that follow a loss marked (R390, R399)
  reserved : Nat := 0              -- completion slots reserved at claims (R395)
  missN    : Nat := 0              -- entries not placed since OVERFLOW began (R400)
  missT0   : Nat := 0              -- PTP time of the first of them
  missT1   : Nat := 0              -- PTP time of the last
  noticeDue : Option Nat := none   -- a LOSS notice due before any later entry: its reason code of Table 12-23
  sent     : Nat := 0              -- SEQ of the next entry to be sent (R409)
  ackT     : Nat := 0              -- time at which CACK last advanced, or of the first send or last resend after it (R409)
  claims   : Nat := 0              -- commands of a command queue that Eloawen has taken (R396)
  written  : Nat := 0              -- those of them whose completion has been written
  creditDue : Bool := false        -- a command queue whose CLIMIT has risen since the last credit (R408)
  creditT  : Nat := 0              -- time of the last credit (R408)
  fetching : Bool := false         -- the queue of a running fetch (R515)
  deriving DecidableEq, Repr

/-- One token bucket of R455; tokens are counted in 4 * 10^9 ths, so that a refill of EVRATE / 4 or / 2 per second is whole per ns. -/
structure Bucket where
  level : Nat
  since : Nat := 0          -- time of the last refill
  deriving DecidableEq, Repr

/-- One entry of a coalescing table (R457). -/
structure Coal where
  queue   : Nat
  kind    : Nat
  channel : Nat
  cls     : Nat
  entries : List Entry      -- the latest event
  count   : Nat
  first   : Nat
  last    : Nat
  deriving DecidableEq, Repr

/-- Counts of one event class in a storm, in the order of R461. -/
structure StormCnt where
  arrived  : Nat := 0
  single   : Nat := 0
  coal     : Nat := 0
  placed   : Nat := 0
  dropped  : Nat := 0
  deriving DecidableEq, Repr

/-- A storm of a tenant (R461). -/
structure Storm where
  start : Nat
  calmT : Nat := 0        -- time from which nothing has disturbed the calm, every bucket refilled to half
  maxL  : Nat := 0
  c0    : StormCnt := {}
  c1    : StormCnt := {}
  c2    : StormCnt := {}
  deriving DecidableEq, Repr

/-- An enrolment code pending (R429): the code and the time it expires. -/
structure EnrolCode where
  code   : List Byte
  expiry : Nat
  deriving DecidableEq, Repr

/-- A tenant that exists (R426), with its quotas of Table 11-4, secret slots of R428 and storm state of R455 to R461 (DESIGN CHOICE, log entry 3). -/
structure Tenant where
  num       : Nat
  suspended : Bool := false
  key0      : Option (List Byte) := none
  key1      : Option (List Byte) := none
  code      : Option EnrolCode := none
  enrolled  : Bool := false           -- tenant 0: the delivered code is void for life (R430)
  dataKey   : List Byte := []         -- ledger data key (R491)
  qSess     : Nat
  qQueues   : Nat
  qRingKib  : Nat
  qRecRate  : Nat
  qEvRate   : Nat
  defRec    : Option Nat := none      -- default record queue (R472)
  defEvt    : Option Nat := none      -- default event queue (R472)
  bucket0   : Bucket
  bucket1   : Bucket
  bucket2   : Bucket
  coal      : List Coal := []         -- oldest first
  decim     : Nat := 0                -- L (R459)
  decimT    : Nat := 0                -- time of the last change of L
  decimLoss : List Nat := []          -- channels whose next periodic record carries LOSS after a rise of L (R460)
  otherRecs : List Nat := []          -- times of the non-periodic records of the last second (R459)
  storm     : Option Storm := none
  lastSeal  : Option Nat := none      -- time of the last LEDGER_SEAL (R496)
  viewSeq   : Nat := 0                -- MODESEQ of the client view (R106)
  viewBits  : Nat := 0                -- the last client view of SYS_MODE bits [12:0] (R106)
  deriving DecidableEq, Repr

/-- An open session (R433 to R439). -/
structure Session where
  num     : Nat
  tenant  : Nat
  keyid   : Nat                       -- 0x00, 0x01 or 0x0F
  keys    : List Byte := []           -- KTP, KPT, KCF of R436
  rxHigh  : Nat := 0                  -- highest DSEQ accepted (R438)
  rxSeen  : List Nat := []            -- DSEQ values accepted among the last 128 (R438)
  txDseq  : Nat := 1                  -- next DSEQ sent (R437)
  lastRx  : Nat := 0                  -- time of the last authenticated datagram (R439)
  port    : Nat := 0                  -- where replies go (R404)
  addr    : Nat := 0
  udp     : Nat := 0
  deriving DecidableEq, Repr

/-- A pending establishment (R434). -/
structure Establish where
  num    : Nat
  tenant : Nat
  keyid  : Nat
  nonceT : List Byte
  nonceP : Nat                        -- the draw that gives NONCE_P
  share  : List Byte := []
  addr   : Nat
  since  : Nat
  deriving DecidableEq, Repr

/-- AUTH_FAILED refusals to one source address, and its throttle (R435). -/
structure Throttle where
  addr   : Nat
  fails  : List Nat := []             -- times of the refusals in the last 60 s
  till   : Option Nat := none         -- throttled until
  deriving DecidableEq, Repr

/-- What the network island has sent, newest first: the datagram kinds of Table 10-6 and Table 11-2 and the neighbour
protocols of Table 10-5. -/
inductive Sent where
  | entries (session queue : Nat) (resent : Bool) (credit : Option (Nat × Nat × Nat)) (es : List Entry)
  | credit (session queue cack climit : Nat)
  | challenge (session : Nat) (nonceP : Nat) (signed : List Byte)
  | accept (session : Nat) (mac : List Byte)
  | refuse (session : Nat) (status : Nat)
  | close (session : Nat)
  | icmpReply (port addr : Nat)
  | addrReply (port : Nat)
  | ptp (port : Nat) (what : Nat)
  deriving DecidableEq, Repr

/-- The local management port (R411 to R416). -/
structure LocalPort where
  lstatus : Nat := 0                  -- LSTATUS of the last frame
  getQ    : Option Nat := none        -- queue of the last QGET, freed by the next good STATUS (R413)
  out     : List Byte := []           -- the bytes the part sent in the last frame
  busyTill : Nat := 0                 -- time at which tWR of the last WRITE or QPUT has passed (R705)
  clk     : FrameClk := { gap := 500, byte := 0 }   -- how the host clocked the last READ or QGET (DESIGN CHOICE, log entry 36)
  deriving DecidableEq, Repr

/-- States of a DMA channel (Table 10-20). -/
inductive DmaState where
  | idle | running | stopping | stopped | halted
  deriving DecidableEq, Repr

/-- One DMA channel (Tables 10-18 to 10-20). -/
structure DmaChan where
  state : DmaState := .idle
  cur   : Nat := 0                    -- DMA_CUR
  code  : Nat := 0                    -- CODE
  done  : Nat := 0                    -- DONE
  quies : Bool := false
  deriving DecidableEq, Repr

end Sys2Proof.Machine
end

