-- ==== Sys2Proof/Machine/StMeter.lean ====
section
/-! DEFINITION. State of the mode, the bus balance and the meters (chapters 03 and 09). -/

namespace Sys2Proof.Machine

open Sys2Proof

/-- The mode as SYS reports it (Tables 03-9 to 03-11, R77 to R107). -/
structure ModeSt where
  mode      : Mode := .boot           -- MODE, reset 0x4
  prev      : Mode := .wake           -- PREV, reset 0x3
  cause     : Nat := 4                -- CAUSE, reset 0x04
  wakecause : Nat := 0                -- WAKECAUSE
  fault     : Nat := 0                -- FAULT of SYS_MODECAUSE
  seq       : Nat := 0                -- MODESEQ
  time      : Nat := 0                -- MODETIME
  history   : List Mode := []         -- modes passed through since the last BOOT, in KEEP memory (R77), newest first
  deriving DecidableEq, Repr

/-- One tenant's meters (R363): import, export, peak and its interval's PTP start for each tariff, and the running interval. -/
structure Meter where
  tenant : Nat
  imp    : List Nat := [0, 0, 0, 0, 0, 0, 0, 0]     -- mJ
  exp    : List Nat := [0, 0, 0, 0, 0, 0, 0, 0]
  peak   : List Nat := [0, 0, 0, 0, 0, 0, 0, 0]     -- mW
  peakT  : List Nat := [0, 0, 0, 0, 0, 0, 0, 0]
  runImp : Nat := 0
  runExp : Nat := 0
  deriving DecidableEq, Repr

/-- Metering (R363 to R372). -/
structure MeterSt where
  meters   : List Meter := []
  tariff   : Nat := 0
  partial_ : Bool := false
  late     : Bool := false
  nocal    : Bool := false
  gap      : Bool := false            -- the running interval carries GAP (R371)
  startCal : CalTime := {}
  startPtp : Nat := 0
  stamps   : List Nat := []           -- predicted boundary stamps given to the Gathers (R367)
  due      : Bool := false            -- a calendar minute has begun and its boundary is not handled yet
  missed   : List (Nat × CalTime) := []   -- boundaries that came while the Steward cores were stalled: stamp, calendar time (R367)
  dirty    : Bool := false            -- increments not yet in NVM
  snapshot : Bool := false            -- the meter snapshot of Lehr is held (R370)
  snapT    : Nat := 0                 -- PTP time of the snapshot
  sched    : List (Nat × Nat) := []   -- METER_SCHED writes waiting for the minute boundary: entry, word (R374)
  lost     : Bool := false            -- increments were lost to a power loss (R362)
  nvm      : List Meter := []         -- the meters as NVM holds them (R362)
  commitT  : Nat := 0                 -- time of the last write of counters and meters (R362)
  deriving DecidableEq, Repr

/-- Bus balance (R352 to R359). -/
structure BalSt where
  holdChg  : Bool := false
  holdDis  : Bool := false
  stage    : Nat := 0
  overruns : Nat := 0
  net      : Int := 0
  mchg     : Nat := 65536
  mdis     : Nat := 65536
  deriving DecidableEq, Repr

end Sys2Proof.Machine
end

