-- ==== Sys2Proof/Machine/StPair.lean ====
section
/-! DEFINITION. State of the pair island (chapter 14), what its frames carry, and the readings and drives that events bring
(chapters 13 and 16). -/

namespace Sys2Proof.Machine

open Sys2Proof

/-- The header of a Zynlink frame as its receiver sees it (Table 14-1) (DESIGN CHOICE, log entry 6). -/
structure FrameHead where
  crcOk : Bool
  epoch : Nat
  inc   : Nat
  fseq  : Nat
  deriving DecidableEq, Repr

/-- The body of an IDENT (Table 14-2) and the verdict on its certificate (R524) (DESIGN CHOICE, log entry 6). -/
structure Ident where
  serial : Nat
  opt    : Nat                 -- ordering code, as the option fuses give it
  mver   : Nat
  epoch  : Nat                 -- stored epoch
  inc    : Nat
  pref   : Bool                -- strap preference
  certOk : Bool
  sirev  : Nat := 0xB0
  fw     : Option (Nat × Nat × Nat) := none
  deriving DecidableEq, Repr

/-- The mirror stream's items (Table 14-4). -/
inductive MirrorItem where
  | chan (c : ChanNo) (l : LoopSt) (p : ProtSt) (g : ProgSt) (e : EisSt) (cap : Option Nat) (flextrim proptrim baltrim : Bool)
  | excite (g : GatherNo) (scold : Bool) (tcold : Nat)
  | est (c : ChanNo) (e : EstSt)
  | counters (c : ChanNo) (n : Counters) (eused meterImp meterExp : Nat)
  | reg (addr value : Nat)
  | tenants (l : List Tenant)
  | leases (l : List (Nat × Lease))
  | sessions (l : List Session)
  | queues (l : List Queue)
  | barriers (l : List Barrier)
  | bal (b : BalSt)
  | meters (m : MeterSt)
  | resume (mask : Nat)
  | ownerMode (m : Mode)
  deriving DecidableEq, Repr

/-- A Zynlink frame that the part has sent, by FTYPE (Table 14-2). -/
inductive ZlFrame where
  | ident (id : Ident)
  | heartbeat (hbseq role sync mseq : Nat)
  | mirror (items : List MirrorItem)
  | snapshot (items : List MirrorItem)
  | twinSample (c : ChanNo) (x : TwinIn)
  | recCopy (train : List Entry)
  | epochMark (count time : Nat)
  | hoPrep | hoReady | hoTime (sAt : Nat) | hoState (items : List MirrorItem) | hoAck
  | ack (ftype fseq : Nat)
  deriving DecidableEq, Repr

/-- FTYPE of a frame (Table 14-2). -/
def ZlFrame.ftype : ZlFrame → Nat
  | .ident _ => 1 | .heartbeat .. => 2 | .mirror _ => 3 | .snapshot _ => 4 | .twinSample .. => 5 | .recCopy _ => 6 | .epochMark .. => 7
  | .hoPrep => 8 | .hoReady => 8 | .hoTime _ => 8 | .hoState _ => 8 | .hoAck => 8 | .ack .. => 9

/-- A frame with the header under which it was sent (Table 14-1). -/
structure ZlSent where
  epoch : Nat
  inc   : Nat
  fseq  : Nat
  frame : ZlFrame
  deriving DecidableEq, Repr

/-- A planned handover under way (R541, Table 14-6). -/
inductive Handover where
  | none
  | prep (h : CmdHead) (till : Nat)           -- owner: PREP sent, READY due by the deadline
  | timed (h : CmdHead) (sAt : Nat)           -- owner: TIME sent
  | given (h : CmdHead) (sAt : Nat)           -- owner: PIPE_OUT low since S − 1 µs
  | answered                                  -- partner: READY sent
  | due (sAt : Nat)                           -- partner: TIME received
  deriving DecidableEq, Repr

/-- Arbitration on ROLL (R526, Table 14-3). -/
inductive Arb where
  | none
  | idle                                      -- waits for the idle check
  | round                                     -- a round is in progress
  | lost (t : Nat)                            -- the round ended at t; PIPE_IN high within 50 µs is awaited
  deriving DecidableEq, Repr

/-- The pair island (R520 to R552) (DESIGN CHOICE, log entry 3; DESIGN CHOICE, log entry 4; DESIGN CHOICE, log entry 8). -/
structure Pair where
  lanes     : Nat := 0             -- lanes up, one bit each (R520)
  run0      : Nat := 0             -- valid heartbeats in a row on a lane that is down
  run1      : Nat := 0
  sync      : Nat := 0             -- SYNC of PAIR_STAT: 0 out of sync, 1 resyncing, 2 in sync
  epochLock : Bool := false
  unmirrored : Bool := false
  cold      : Bool := false
  epoch     : Nat := 0             -- stored epoch, NVM (R528)
  known     : Bool := false        -- a partner's IDENT has been accepted in this BOOT
  pSerial   : Nat := 0
  inc       : Nat := 0             -- own INC, drawn at BOOT (R522)
  pInc      : Option Nat := none   -- partner's INC (R550)
  pPref     : Bool := false
  pMver     : Nat := 0
  noForm    : Bool := false        -- the pair does not form under R16, until a reset
  hbSeq     : Nat := 0
  hbLast    : Option Nat := none   -- time of the last heartbeat counted
  hbMissed  : Bool := true         -- heartbeats are missed (R523)
  linkAtHb  : Bool := false        -- the link was up at the last heartbeat counted (R536)
  syncAtHb  : Bool := false
  pTwin     : Bool := false        -- the partner's last heartbeat shows TWIN
  pSync     : Nat := 0             -- SYNC of the partner's last heartbeat
  mseq      : Nat := 0
  pipeFallT : Option Nat := none
  fseqIn    : List (Nat × Nat) := []   -- FTYPE, FSEQ of the last frame taken
  fseqOut   : List (Nat × Nat) := []
  reacqT    : Option Nat := none
  lostSeen  : Bool := false        -- REACQ ran out since the partner was last heard
  resyncT   : Option Nat := none
  contend   : Bool := false        -- in contention (R544)
  wasOwner  : Bool := false
  won       : Bool := false        -- the contention's winner waits for PIPE_IN and FENCE_IN to fall
  rounds    : Nat := 0
  deadlock  : Bool := false
  arb       : Arb := .none
  ho        : Handover := .none
  markT     : Option Nat := none   -- time of the last valid EPOCHMARK
  lastItems : List MirrorItem := []    -- what the partner has been sent
  ownerMode : Mode := .ready       -- the owner's mode as mirrored (R98)
  out       : List ZlSent := []    -- frames sent, newest first
  hbSentT   : Option Nat := none   -- time of the last HEARTBEAT and of the last EPOCHMARK sent (R523, R534)
  markSentT : Option Nat := none
  roll      : Bool := true         -- level of ROLL
  acked     : List (Nat × Nat) := []   -- FTYPE and the last FSEQ acknowledged of it
  mQueues   : List Queue := []     -- the owner's queues and sessions, as the mirror stream gives them (R529)
  mSessions : List Session := []
  startAt   : Option Nat := none   -- the handover instant at which this part took the Pipe; the ACK follows
  -- roll call, in KEEP memory (R548)
  rcKnown   : Bool := false
  rcPrimary : Bool := false
  rcMisses  : Nat := 0
  rcSearch  : Bool := false
  rcAbsent  : Bool := false
  rcCalls   : Nat := 0
  rcPulse   : Nat := 0             -- time of the last pulse sent or detected
  rcSkips   : Nat := 0             -- periods missed while ABSENT is set
  lehrOwner : Bool := true         -- the part held the Pipe at its last entry to LEHR: the resume area is its own (R104); NVM
  deriving DecidableEq, Repr

/-- The warden's readings (R594): mV, mA and 0.01 °C. -/
structure Readings where
  vin   : Nat := 0
  packv : Nat := 0
  vout  : List Nat := [0, 0, 0, 0]
  iout  : List Nat := [0, 0, 0, 0]
  mon   : List Nat := [0, 0, 0, 0]
  fb    : List Nat := [0, 0, 0, 0] -- FB of each controller, µV (R583)
  tdrv  : List Int := [0, 0, 0, 0]
  tpack : Option Int := none       -- none while the thermistor is open or shorted
  ipack : Int := 0
  ibat  : Nat := 0                 -- charge current, µA (R607)
  deriving DecidableEq, Repr

/-- What discovery finds on a link (R480, R483, R489) (DESIGN CHOICE, log entry 6). -/
structure DriveFound where
  present : Bool := false
  lbaOk   : Bool := true           -- R483 holds
  width   : Nat := 0
  speed   : Nat := 1
  blocks  : Nat := 0
  sn      : Nat := 0
  label   : Nat := 0               -- 0 none, 1 the part's own and agreeing with its copy, 2 own but not agreeing, 3 foreign
  deriving DecidableEq, Repr

end Sys2Proof.Machine
end

