-- ==== Sys2Proof/Syntax.lean ====
section
/-! DEFINITION. The commands and events of the SV7264: one constructor per row of the opcode table.
Operands: the fields of a command's payload, or what the outside world, a converter, a drive or the partner delivers with an event. -/

namespace Sys2Proof

open Sys2Proof.Machine

/-- The rows of spec/opcode_table.json. -/
inductive Instr where
  /-- IDENTIFY (R11): Returns the part's SYS_ID, firmware version, serial number, ordering code and pair role; it is accepted in every mode and from queue 0. -/
  | identify (h : CmdHead)
  /-- STATUS (R106): Returns SYS_MODE, SYS_MODECAUSE and the leased, executing and FAULTED channel masks, in client view for clients. -/
  | status (h : CmdHead)
  /-- Q_CREATE (R376): Creates a queue of the sender's tenant with an empty ring, moving other rings within the pool if that is needed to open a span. -/
  | qCreate (h : CmdHead) (qkind size hold : Nat) (dflt : Bool) (pair : Nat)
  /-- Q_DELETE (R383): Sets CLOSING on a queue and completes when the network island has released the ring. -/
  | qDelete (h : CmdHead) (q : Nat)
  /-- Q_BIND (R382): Binds a queue to the sending session and resumes delivery from CACK. -/
  | qBind (h : CmdHead) (q : Nat)
  /-- Q_ROUTE (R472): Routes the records of the named leased channels to a record queue. -/
  | qRoute (h : CmdHead) (q : Nat) (mask : Mask64)
  /-- KEY_WRITE (R432): Writes a tenant secret slot and completes once NVM holds the new slot. -/
  | keyWrite (h : CmdHead) (slot : Nat) (secret : List Byte)
  /-- KEY_CLEAR (R432): Clears a tenant secret slot unless it is the slot that keys the session or the last slot that is not empty. -/
  | keyClear (h : CmdHead) (slot : Nat)
  /-- TENANT_CREATE (R429): Creates a client tenant with default quotas and returns its enrolment code. -/
  | tenantCreate (h : CmdHead) (ttl : Nat)
  /-- TENANT_SUSPEND (R439): Suspends a client tenant and closes its sessions; its leases, programs and meters continue. -/
  | tenantSuspend (h : CmdHead) (t : Nat)
  /-- TENANT_RESUME (R426): Resumes a suspended client tenant. -/
  | tenantResume (h : CmdHead) (t : Nat)
  /-- TENANT_REMOVE (R449): Removes a client tenant that holds no lease and has zero meters, deleting its queues and clearing its secrets. -/
  | tenantRemove (h : CmdHead) (t : Nat)
  /-- TENANT_REENROL (R491): Clears both secret slots of a tenant, closes its sessions, makes a new data key and returns a new enrolment code. -/
  | tenantReenrol (h : CmdHead) (t ttl : Nat)
  /-- QUOTA_SET (R447): Sets a tenant's quotas, refusing any quota set below present use and any RINGKIB total above the pool. -/
  | quotaSet (h : CmdHead) (t : Nat) (q : QuotaFields)
  /-- LEASE_GRANT (R444): Grants a lease on a channel or gang, writing NVM, the gang slot and the HL registers and emptying the images. -/
  | leaseGrant (h : CmdHead) (l : LeaseFields)
  /-- LEASE_MODIFY (R445): Changes the limits and GPIOEV of an existing lease, effective at the next control-cycle boundary. -/
  | leaseModify (h : CmdHead) (l : LeaseFields)
  /-- LEASE_END (R446): Ends a lease by house revoke or client release, discarding the images, variables and estimator state. -/
  | leaseEnd (h : CmdHead)
  /-- LEASE_READ (R450): Returns a lease, or the lessee of each channel visible to the sender. -/
  | leaseRead (h : CmdHead)
  /-- TENANT_READ (R426): Returns a tenant's existence, key slots, quotas and resource use to the house. -/
  | tenantRead (h : CmdHead) (t : Nat)
  /-- PROG_WRITE (R291): Writes whole steps into the channel's shadow image. -/
  | progWrite (h : CmdHead) (steps : List (Nat × StepWord))
  /-- PROG_LEN (R291): Sets the shadow image length and zeroes the shadow steps at and above it. -/
  | progLen (h : CmdHead) (len : Nat)
  /-- PROG_READ (R252): Returns steps of the live or the shadow image. -/
  | progRead (h : CmdHead) (which first count : Nat)
  /-- PROG_DISCARD (R291): Makes the shadow image equal to the live image again. -/
  | progDiscard (h : CmdHead)
  /-- COMMIT (R292): Checks the shadow image and sends the changed steps and the new length to the Gather's commit buffer. -/
  | commit (h : CmdHead)
  /-- COMMIT_CHECKONLY (R292): Runs the COMMIT checks on the shadow image without sending anything to the Gather. -/
  | commitCheckonly (h : CmdHead)
  /-- COMMIT_SWAP (R294): At the channel's next control-cycle boundary the Gather swaps in the new image, or refuses with BUSY if the executing step changed. -/
  | commitSwap (c : ChanNo)
  /-- COMMIT_BUFFER_DRAIN (R293): The commit buffer finishes draining into step memory, releasing any waiting COMMIT for the same Gather. -/
  | commitBufferDrain (g : GatherNo)
  /-- VAR_WRITE (R274): Writes channel variables at the start of a control cycle. -/
  | varWrite (h : CmdHead) (pairs : List (Nat × Word32))
  /-- VAR_READ (R274): Returns all 32 variables of a channel, read at one control-cycle boundary. -/
  | varRead (h : CmdHead)
  /-- SIGNAL (R269): Sends a tenant signal to each named channel that the sender leases. -/
  | signal (h : CmdHead) (sig : Nat) (mask : Mask64)
  /-- START (R138): Starts the channel's program at the entry step at the next control-cycle boundary, closing CON and settling if it is open. -/
  | start (h : CmdHead) (entry : Nat)
  /-- STOP (R473): Stops a channel according to its state: a ramped stop, a retry cancel, or a discard of a paused program. -/
  | stop (h : CmdHead)
  /-- PAUSE (R290): Gives an executing channel a ramped stop to PAUSED, keeping its program state. -/
  | pause (h : CmdHead)
  /-- RESUME (R102): Resumes a paused program, continuing or restarting the interrupted step with settle and soft-start. -/
  | resume (h : CmdHead) (restart : Nat)
  /-- CLEAR (R172): Clears a latched FAULTED channel to STOPPED with CON low and no program in execution. -/
  | clear (h : CmdHead)
  /-- MEAS_CFG (R251): Sets a channel's OUTRATE and current-range mode. -/
  | measCfg (h : CmdHead) (setRate setRange : Bool) (rate rng fix : Nat)
  /-- MEAS_READ (R249): Returns the last output sample, its status, IREF and the channel state. -/
  | measRead (h : CmdHead)
  /-- COEF_READ (R227): Takes a calibration snapshot and returns the selected layer's coefficients and CALGEN. -/
  | coefRead (h : CmdHead) (layer qty : Nat)
  /-- CH_READ (R473): Returns a channel's status words, read at one control-cycle boundary. -/
  | chRead (h : CmdHead)
  /-- EST_SET (R329): Sets estimator parameters, effective at the next 100 ms update. -/
  | estSet (h : CmdHead) (f : EstFields)
  /-- OCV_TABLE (R329): Replaces a channel's or the pack's OCV table as a whole. -/
  | ocvTable (h : CmdHead) (pts : List (Nat × Int))
  /-- EST_READ (R339): Wakes the estimator and returns its values. -/
  | estRead (h : CmdHead) (table : Bool)
  /-- RELEARN (R341): Returns the learned capacity to CNOM, invalidates K and the DCIR result, and clears STALE. -/
  | relearn (h : CmdHead)
  /-- COUNTER_READ (R360): Returns a channel's lifetime counters, or the lease counters for a client. -/
  | counterRead (h : CmdHead)
  /-- METER_READ (R363): Returns a tenant's per-tariff import, export and peak demand, and the running interval. -/
  | meterRead (h : CmdHead) (t : Nat)
  /-- METER_CLOSE (R369): Closes the billing period, writes billing records and zeroes the totals. -/
  | meterClose (h : CmdHead)
  /-- METER_LIMITS (R374): Writes the front-end import and export limits. -/
  | meterLimits (h : CmdHead) (imp exp : Word32)
  /-- METER_SCHED (R364): Writes entries of the tariff schedule. -/
  | meterSched (h : CmdHead) (first : Nat) (words : List Word32)
  /-- LEDGER_READ (R515): Returns the sender's ledger extent and batch count, plus drive state for the house. -/
  | ledgerRead (h : CmdHead)
  /-- LEDGER_FETCH (R515): Starts reading the sender's ledgered records in a time range back into a record queue. -/
  | ledgerFetch (h : CmdHead) (from_ to_ : Nat) (mask : Mask64) (queue : Nat) (periodic : Bool)
  /-- LEDGER_FETCH_BATCH (R515): A fetched batch arrives from the drive; it is checked and its entries are placed, or the fetch ends with an error. -/
  | ledgerFetchBatch (t : Nat) (ans : DriveAns)
  /-- LEDGER_RETAIN (R505): Sets the retention period of one stream or of all streams. -/
  | ledgerRetain (h : CmdHead) (t days : Nat)
  /-- LEDGER_SEAL (R496): Seals the sender's staged records now and completes when the batch is durable. -/
  | ledgerSeal (h : CmdHead)
  /-- PAIR_READ (R551): Returns the pair role, link state, epoch, partner serial and mirror lag. -/
  | pairRead (h : CmdHead)
  /-- HANDOVER (R541): Starts a planned handover of the Pipe to the partner within a deadline. -/
  | handover (h : CmdHead) (deadline : Nat)
  /-- TIME_READ (R559): Returns calendar time, PTP time and the timebase flags. -/
  | timeRead (h : CmdHead)
  /-- TIME_SET (R557): Loads the calendar, sets it valid, closes the running interval and finds the tariff again. -/
  | timeSet (h : CmdHead) (cal : CalTime) (date wday : Bool)
  /-- SUMMER_FORWARD (R558): Moves the calendar forward one hour at the next second tick and sets SUMMER. -/
  | summerForward (h : CmdHead)
  /-- SUMMER_BACK (R558): Moves the calendar back one hour at the next second tick and clears SUMMER. -/
  | summerBack (h : CmdHead)
  /-- WAKE_SET (R565): Sets an alarm or the periodic wake. -/
  | wakeSet (h : CmdHead) (which : Nat) (en : Bool) (cal : CalTime) (period : Nat)
  /-- CAL_TRIM (R561): Writes the calendar trim in SERVICE. -/
  | calTrim (h : CmdHead) (pulses : Int)
  /-- POWER_READ (R615): Returns input and pack voltages, the path and charger states, and the rail and monitor readings. -/
  | powerRead (h : CmdHead)
  /-- POWER_CTL_SHIP (R614): Requests SHIP; the part enters LEHR and then SHIP. -/
  | powerCtlShip (h : CmdHead)
  /-- POWER_CTL_WARM_RESET (R640): Writes its completion and starts a warm reset 10 ms later. -/
  | powerCtlWarmReset (h : CmdHead)
  /-- POWER_CTL_BLOCK_RESET (R654): Requests quiesce of one block and then resets it. -/
  | powerCtlBlockReset (h : CmdHead) (block : Nat)
  /-- BLOCK_QUIESCE_DONE (R654): The block reports quiet or its quiesce timeout expires; the block is held for 10 µs and released. -/
  | blockQuiesceDone (block : Nat) (timeout : Bool)
  /-- BLOCK_RESET_RETURN (R654): A reset block has returned and the block reset command completes. -/
  | blockResetReturn (block : Nat)
  /-- ENTER (R91): The house enters SERVICE while no channel executes and the part holds the Pipe. -/
  | enter (h : CmdHead)
  /-- EXIT (R91): The house leaves SERVICE while no channel executes. -/
  | exit (h : CmdHead)
  /-- HOUSE_CLEAR (R644): Clears LOCKOUT and the F latch, and the part goes to BOOT. -/
  | houseClear (h : CmdHead)
  /-- FAULT_ACK (R675): Acknowledges pending faults of one code, or of all codes. -/
  | faultAck (h : CmdHead) (code : Nat)
  /-- SELFTEST (R92): Requests a loop-engine or Crack-off self-test of a Gather, run at once or deferred. -/
  | selftest (h : CmdHead) (g kind : Nat)
  /-- DEFERRED_SELFTEST_RUN (R92): A deferred self-test starts once every channel of its Gather is stopped, paused or resting. -/
  | deferredSelftestRun (g : GatherNo)
  /-- SELFTEST_SLOT_END (R93): The self-test slot ends, its result is recorded, and any REST transition held during it applies. -/
  | selftestSlotEnd (g : GatherNo) (pass : BitVec 8) (loopOk : Bool)
  /-- REFCHECK (R229): Runs a house-requested reference check that can lift CALHOLD. -/
  | refcheck (h : CmdHead) (g ppm : Nat)
  /-- RETEST (R241): Retests a retired converter and returns it to service if it passes. -/
  | retest (h : CmdHead) (g conv : Nat) (p : CalPoints)
  /-- NVM_STAT (R686): Returns NVM spare rows, the read-only regions and the highest erase count. -/
  | nvmStat (h : CmdHead)
  /-- NVM_SCRUB (R685): Reads every NVM row in the background and rewrites the marked rows. -/
  | nvmScrub (h : CmdHead)
  /-- SET_TIMES (R439): Writes or reads SESSIDLE and STORMQUIET. -/
  | setTimes (h : CmdHead) (idle storm : Nat)
  /-- CAL_WRITE (R224): Writes user calibration coefficients to NVM and advances the calibration generation. -/
  | calWrite (h : CmdHead) (pairs : List CalPair)
  /-- CALGEN_SWITCH (R225): At its next output-window boundary a channel switches to the new coefficients and CALGEN, and calibration records and events are produced. -/
  | calgenSwitch (c : ChanNo)
  /-- FW_WRITE_DATA (R646): Writes image data into the slot that is not running. -/
  | fwWriteData (h : CmdHead) (offset : Nat) (data : List Byte)
  /-- FW_WRITE_FINISH (R650): Checks the written image's signatures and selects its slot for the next warm reset. -/
  | fwWriteFinish (h : CmdHead) (sigOk : Bool)
  /-- FW_WRITE_ABANDON (R646): Erases the image slot that is not running. -/
  | fwWriteAbandon (h : CmdHead)
  /-- REG_READ (R27): Reads consecutive register words through their island crossings. -/
  | regRead (h : CmdHead) (addr count : Nat)
  /-- REG_WRITE (R27): Writes consecutive register words and returns each word read back. -/
  | regWrite (h : CmdHead) (addr : Nat) (data : List Word32)
  /-- REGISTER_WRITE (R160): A write to a register that has no row of its own takes effect in its owning block as its chapter gives. -/
  | registerWrite (addr : Nat) (data : Word32)
  /-- TENANT_DATAGRAM (R406): An ENTRIES datagram arrives and is authenticated; its trains are checked and placed or refused. -/
  | tenantDatagram (d : Datagram) (entries : List RawEntry)
  /-- TENANT_CREDIT (R407): A tenant credit acknowledges entries, frees their slots and sets the part's send limit. -/
  | tenantCredit (d : Datagram)
  /-- HELLO (R434): A session HELLO is answered with a CHALLENGE, and a session number is reserved for 1,000 ms. -/
  | hello (addr t keyid : Nat) (nonceT share : List Byte)
  /-- CONFIRM (R435): A CONFIRM is checked and answered with ACCEPT or REFUSE, and keys are derived. -/
  | confirm (addr session : Nat) (macOk : Bool)
  /-- CLOSE (R439): A CLOSE datagram ends a session and unbinds its queues. -/
  | close (d : Datagram)
  /-- ESTABLISHMENT_EXPIRY (R434): A reserved session number is freed after 1,000 ms without CONFIRM. -/
  | establishmentExpiry (session : Nat)
  /-- SESSIDLE_EXPIRY (R439): A session closes after SESSIDLE without an authenticated datagram from its tenant. -/
  | sessidleExpiry (session : Nat)
  /-- AUTH_THROTTLE_END (R435): A source address throttled for 60 s is admitted again. -/
  | authThrottleEnd (addr : Nat)
  /-- UNSUPPORTED_FRAME (R403): A frame outside the network subset is dropped and counted. -/
  | unsupportedFrame (port : Nat)
  /-- ICMP_ECHO (R403): An ICMP echo request is answered within the per-port rate. -/
  | icmpEcho (port addr : Nat)
  /-- ADDRESS_RESOLUTION (R403): An ARP or neighbour discovery message is handled. -/
  | addressResolution (port : Nat) (forUs : Bool)
  /-- BOOT_DATAGRAM_DROP (R89): A tenant datagram received in BOOT is dropped and counted. -/
  | bootDatagramDrop
  /-- COMMAND_CREDIT_SEND (R408): The part sends a credit for a command queue whose CLIMIT has risen, at most once per 100 µs. -/
  | commandCreditSend (q : Nat)
  /-- ENTRY_SEND (R409): The part sends entries of a part-produced queue in SEQ order up to CLIMIT. -/
  | entrySend (q n : Nat)
  /-- RETX_EXPIRY (R409): With CACK stalled for RETX, entries are sent again from CACK with RESENT set. -/
  | retxExpiry (q : Nat)
  /-- COMMAND_CLAIM (R395): Eloawen claims a command train once its completion ring has room, reserves completion slots and applies the command. -/
  | commandClaim (q : Nat) (f : Finding)
  /-- COMMAND_COMPLETION (R30): After the Gather or NVM acknowledges, the completion of a command is written to its completion ring. -/
  | commandCompletion (q : Nat)
  /-- RECORD_PLACE (R398): A record from a Gather or from Eloawen is placed in its ring or hold and copied to ledger staging. -/
  | recordPlace
  /-- EVENT_PLACE (R456): An event is placed if it finds a token and a slot, and is otherwise coalesced. -/
  | eventPlace
  /-- COALESCED_PLACE (R457): The oldest coalesced entry of a class is placed with LOSS once a token and a slot are free. -/
  | coalescedPlace (t cls : Nat)
  /-- DECIMATION_UPDATE (R459): Every 100 ms the decimation level of each tenant is recomputed. -/
  | decimationUpdate
  /-- STORM_END (R461): After STORMQUIET of calm, a storm-summary event is placed. -/
  | stormEnd (t : Nat)
  /-- LOCAL_READ (R414): A local-port READ frame returns register words. -/
  | localRead (addr count : Nat) (k : Option FrameClk)
  /-- LOCAL_WRITE (R414): A local-port WRITE frame writes register words when its CHK is correct. -/
  | localWrite (addr : Nat) (data : List Word32) (chkOk : Bool)
  /-- LOCAL_STATUS (R413): A local-port STATUS frame returns LSTATUS and can free the slot of the last QGET. -/
  | localStatus
  /-- QPUT (R415): A local-port QPUT frame places a train in queue 0. -/
  | qput (entries : List RawEntry) (chkOk : Bool)
  /-- QGET (R413): A local-port QGET frame returns the oldest entry of a local queue. -/
  | qget (f : GetFrame)
  /-- DMA_START (R418): A write of START starts a DMA channel at DMA_HEAD. -/
  | dmaStart (c : Fin 32)
  /-- DMA_STOP (R419): A write of STOP stops a DMA channel at the next descriptor boundary. -/
  | dmaStop (c : Fin 32)
  /-- DMA_POKE (R418): A write of POKE makes an IDLE channel fetch its current descriptor again. -/
  | dmaPoke (c : Fin 32)
  /-- DMA_DESCRIPTOR_DONE (R418): A descriptor's transfer completes; DSTAT is written, OWN is cleared and the channel continues. -/
  | dmaDescriptorDone (c : Fin 32)
  /-- DMA_BUS_ERROR (R420): A bus error halts all 32 DMA channels. -/
  | dmaBusError (c : Fin 32) (addr moved : Nat)
  /-- DMA_BUSERR_CLEAR (R420): Clearing BUSERR lets halted channels restart their current descriptors. -/
  | dmaBuserrClear
  /-- CONTROL_CYCLE (R120): Once per PWM period the loop engine computes the on-time, applies the limits, and tests the terminations and protections of each channel. -/
  | controlCycle (g : GatherNo) (x : CycleIn)
  /-- SYNC_RELEASE (R283): At TREL each waiting channel leaves its SYNC step at its next control-cycle boundary. -/
  | syncRelease (t b : Nat)
  /-- SETTLE_END (R138): The CON settle time TCON ends and the channel enters SOFTSTART or its first step. -/
  | settleEnd (c : ChanNo) (v : Int)
  /-- SOFTSTART_END (R140): Soft-start reaches full scale, the channel enters ACTIVE and the crossover test runs. -/
  | softstartEnd (c : ChanNo)
  /-- RAMPED_STOP_END (R143): A ramped stop reaches zero, the switches are held low and CON opens unless CONKEEP holds it. -/
  | rampedStopEnd (c : ChanNo)
  /-- TCOFF_EXPIRY (R143): TCOFF after a fault stop ends and CON opens. -/
  | tcoffExpiry (c : ChanNo)
  /-- PULSE_LEVEL_CHANGE (R125): A PULSE step switches between levels A and B at a control-cycle boundary. -/
  | pulseLevelChange (c : ChanNo)
  /-- DCIR_PHASE_CHANGE (R325): After T1 a DCIR step moves its reference from I1 to I2. -/
  | dcirPhaseChange (c : ChanNo)
  /-- DCIR_STEP_END (R327): After T1 + T2 a DCIR step ends by its own end and computes its result. -/
  | dcirStepEnd (c : ChanNo)
  /-- OCV_RECORD (R263): An OCVWATCH step writes an OCV record at each multiple of its interval. -/
  | ocvRecord (c : ChanNo)
  /-- CRACK_OFF (R165): The shunt comparator trips and the latch forces PWH and PWL low in hardware. -/
  | crackOff (x : Shunt)
  /-- CRACK_OFF_RETRY (R168): At the first boundary at or after 100 ms from the trip, the retry closes CON, settles, soft-starts and continues the step. -/
  | crackOffRetry (c : ChanNo)
  /-- RETRY_COUNT_RESET (R169): After 10 s without a trip, the retries used return to zero. -/
  | retryCountReset (c : ChanNo)
  /-- SLOW_OVL (R174): The slow-overload counter reaches SLOWT and the channel takes a fault stop. -/
  | slowOvl (c : ChanNo)
  /-- REVERSE_CELL (R186): The cell voltage lies below REVV for 1 ms and gives a REVERSE fault stop or event. -/
  | reverseCell (c : ChanNo)
  /-- CONTACT_LOSS (R187): The Kelvin pair is open for more than 5 ms; a CONTACT fault is raised and a cell change starts. -/
  | contactLoss (c : ChanNo)
  /-- TEMPERATURE_UPDATE (R210): Every 1 ms the reported cell and stage temperatures are updated, and the thermal warning and shutdown are applied. -/
  | temperatureUpdate (g : GatherNo) (cells : List Nat) (stage : Nat)
  /-- STGT_SENSOR (R179): The stage temperature stays invalid for 10 ms and the Gather is fenced. -/
  | stgtSensor (g : GatherNo)
  /-- BUS_WINDOW (R350): Each bus window's average is compared with the thresholds, and the warning holds are set or cleared. -/
  | busWindow (g : GatherNo) (v : Nat) (cur : Int)
  /-- BUS_STOP (R350): After BUSDB windows beyond UVSTOP or OVSTOP, the affected channels take fault stops. -/
  | busStop (g : GatherNo) (ovr : Bool)
  /-- BUS_SENSOR (R351): The bus sense stays out of range for 10 ms and the Gather is fenced. -/
  | busSensor (g : GatherNo)
  /-- OUTPUT_SAMPLE (R204): An output window ends on the PTP grid and the calibrated sample is produced. -/
  | outputSample (c : ChanNo) (stamp : Nat) (clocks : List Nat) (raw : List (Int × Int))
  /-- OUTRATE_CHANGE (R207): A new OUTRATE takes effect at the first timestamp shared by the old and the new grid. -/
  | outrateChange (c : ChanNo) (stamp : Nat)
  /-- TWINSAMPLE (R243): A twin sample from the non-owner arrives over Zynlink. -/
  | twinsample (c : ChanNo) (stamp : Nat) (v cur : Int) (rng calgen rate : Nat)
  /-- TWIN_HOLD_EXPIRY (R246): The 60 µs hold of an output sample ends and its record is marked TWIN, TWINDIFF or NOTWIN and placed. -/
  | twinHoldExpiry (c : ChanNo)
  /-- PUNTY_SWAP_START (R230): Every ROTINT a free Punty connects to the next input and starts its shadow. -/
  | puntySwapStart (g : GatherNo)
  /-- SHADOW_DONE (R232): After 256 match samples the Punty takes the input at the next boundary, or repeats the swap on a mismatch. -/
  | shadowDone (g : GatherNo) (b : Bool) (dAbs : Nat)
  /-- CONVERTER_CAL_DONE (R237): A released converter ends its calibration points and computes its drift layer, or fails and is retired. -/
  | converterCalDone (g : GatherNo) (b : Bool) (p : CalPoints) (refPpm : Nat)
  /-- RETURN_SHADOW_DONE (R232): The recalibrated converter ends its shadow and takes its input back from the Punty. -/
  | returnShadowDone (g : GatherNo) (b : Bool)
  /-- SELFCAL_DONE (R232): A Punty ends its self-calibration and becomes FREE, or fails and is retired. -/
  | selfcalDone (g : GatherNo) (b : Bool) (d : List (Int × Int)) (noise : List Nat) (refPpm : Nat)
  /-- SWAP_ABANDON (R234): A shadow not complete within ROTINT abandons the swap and sets SKIP. -/
  | swapAbandon (r : RefAt)
  /-- CONVERTER_HEALTH_FAIL (R238): A health monitor declares a converter failed; a spare seats or the channel stops with MEAS_LOST. -/
  | converterHealthFail (r : RefAt) (conv : Fin 18)
  /-- GATHER_CALIBRATION_DONE (R242): The 2.5 s calibration at BOOT or after a block reset ends, and channels may leave RELEASED. -/
  | gatherCalibrationDone (g : GatherNo) (d : List (List (Int × Int))) (noise : List (List Nat))
  /-- EIS_TONE_START (R305): On the first 1 ms boundary after the reference reaches IBIAS, the tone starts at zero phase. -/
  | eisToneStart (c : ChanNo) (stamp : Nat)
  /-- EIS_SETTLE_END (R312): A point's settle ends, VAMP is scaled on the feed-forward path, and the window opens. -/
  | eisSettleEnd (c : ChanNo) (stamp : Nat) (amps : List Nat)
  /-- EIS_WINDOW_END (R319): A point's window closes, Z and the coherence are computed, and a point record is written or the point repeated. -/
  | eisWindowEnd (c : ChanNo) (stamp : Nat)
  /-- BUS_BALANCE_CYCLE (R355): Every 1 ms, demand is weighed against the limits, and deferrals, trims, caps and HOLD flags are set. -/
  | busBalanceCycle (late : Bool)
  /-- DEFMAX_EXPIRY (R356): A deferred step begins after DEFMAX. -/
  | defmaxExpiry (c : ChanNo)
  /-- TAKEOVER_RAMP_END (R538): The takeover ramp of a channel reaches full scale after TKRAMP. -/
  | takeoverRampEnd (c : ChanNo)
  /-- COUNTER_COLLECT (R362): Every 100 ms the Steward collects the lifetime counters and meters from the Gathers. -/
  | counterCollect
  /-- METER_NVM_COMMIT (R362): Every COMMIT seconds the counters and meters are written to NVM. -/
  | meterNvmCommit
  /-- ESTIMATOR_UPDATE (R336): Every 100 ms, or every 10 s in hibernation, the estimator reads the accumulator and updates SoC, marks and capacity. -/
  | estimatorUpdate (c : ChanNo)
  /-- HIBERNATION_ENTRY (R338): After 60 s below the threshold the estimator hibernates. -/
  | hibernationEntry (c : ChanNo)
  /-- OCV_CORRECTION (R335): After a rest of OCVREST the estimate is corrected from the OCV table. -/
  | ocvCorrection (c : ChanNo)
  /-- ESTIMATOR_RECORD (R329): Every ESTREC seconds an estimator record is written. -/
  | estimatorRecord (c : ChanNo)
  /-- SECOND_TICK (R567): The calendar second advances; it is stamped with PTP time, and alarms, rollover and the weekday are handled. -/
  | secondTick (stamp : Nat)
  /-- MINUTE_BOUNDARY (R364): At each calendar minute the schedule fires tariffs and demand intervals close and open. -/
  | minuteBoundary
  /-- METER_STAMP_SPLIT (R367): At a predicted boundary stamp a Gather splits its meter accumulators. -/
  | meterStampSplit (g : GatherNo)
  /-- PERIODIC_WAKE_EXPIRY (R566): The periodic wake counter expires and is a wake event in KEEP. -/
  | periodicWakeExpiry
  /-- TRIM_WINDOW (R560): At each 64 s window boundary a new TRIM takes effect. -/
  | trimWindow
  /-- AUTOTRIM (R561): After each locked hour KEEP_RATE is updated and, with AUTOTRIM, TRIM is written. -/
  | autotrim (rate : Int)
  /-- XTAL_FAIL (R562): No crystal edge arrives for 1 ms; the calendar becomes invalid. -/
  | xtalFail
  /-- KEEP_LOAD_TIME (R557): A keyed write of LDTIME loads date and time and sets VALID. -/
  | keepLoadTime
  /-- KEEP_LOAD_WDAY (R557): A keyed write of LDWDAY loads the weekday counter. -/
  | keepLoadWday
  /-- CALENDAR_READ_FREEZE (R559): The first read of the calendar registers freezes their read shadows. -/
  | calendarReadFreeze
  /-- KEEP_YEAR_READ (R559): A read of KEEP_YEAR ends the freeze. -/
  | keepYearRead
  /-- FREEZE_TIMEOUT (R559): A calendar freeze ends 1 s after it began. -/
  | freezeTimeout
  /-- PTP_SYNC (R572): A Sync message updates the servo, steps or slews PTP time, and moves the timebase toward LOCKED. -/
  | ptpSync (port : Nat) (t : Nat × Nat) (freq : Int)
  /-- PTP_ANNOUNCE (R568): An Announce message feeds the best master clock algorithm across the ports. -/
  | ptpAnnounce (port rank : Nat)
  /-- PTP_DELAY_RESP (R568): A Delay_Resp or Pdelay_Resp completes a path-delay measurement. -/
  | ptpDelayResp (port : Nat) (d : Int × Int)
  /-- PTP_PDELAY_REQ (R568): A Pdelay_Req from a peer is answered with a two-step Pdelay_Resp. -/
  | ptpPdelayReq (port : Nat)
  /-- PTP_DELAY_REQ_SEND (R568): The part sends a Delay_Req or Pdelay_Req. -/
  | ptpDelayReqSend (port : Nat)
  /-- ANNOUNCE_TIMEOUT (R571): The Announce receipt timeout expires on every port and the state becomes HOLDOVER. -/
  | announceTimeout
  /-- HOLDMAX_EXPIRY (R571): After HOLDMAX in HOLDOVER the state becomes MAINS or FREERUN. -/
  | holdmaxExpiry (mainsOk : Bool)
  /-- BACKWARD_STEP (R572): A pending backward step is applied once no channel executes. -/
  | backwardStep
  /-- ELAPSED_PAIR_STORE (R575): Once per second the elapsed count and PTP time are stored in KEEP memory. -/
  | elapsedPairStore
  /-- MAINS_WINDOW_END (R576): After MAINSWIN the PTP frequency is corrected from the MAINS_REF count. -/
  | mainsWindowEnd (count : Nat)
  /-- MAINS_REF_INVALID (R576): MAINS_REF leaves its range and the state becomes FREERUN. -/
  | mainsRefInvalid
  /-- PPS_OUT (R577): PPS_OUT rises at each whole second of PTP time. -/
  | ppsOut
  /-- PPS_IN (R577): A rising edge on PPS_IN is stamped with PTP time. -/
  | ppsIn
  /-- WAKE_EVENT (R563): An enabled wake source in KEEP latches its bit, drives PWRON_N low and starts WAKE. -/
  | wakeEvent (src : Fin 7)
  /-- WAKE_IN (R563): WAKE_IN_N is low after its 1 ms filter. -/
  | wakeIn
  /-- PWROFF_END (R564): PWROFF after the release of PWRON_N ends and a latched wake takes effect. -/
  | pwroffEnd
  /-- VKEEP_RISE (R80): VKEEP reaches 2.0 V, or VINT comes up, and the part enters KEEP from OFF. -/
  | vkeepRise (vin : Bool)
  /-- VKEEP_LOSS (R556): VKEEP falls below 1.95 V; the calendar restarts invalid, or the part goes OFF. -/
  | vkeepLoss (vin : Bool)
  /-- BUTTON (R612): BTN_N held low for 50 ms is a press: a wake in KEEP, otherwise a POWER event. -/
  | button
  /-- SHIP_EXIT (R614): A press held for 1 s in SHIP closes the path and the part enters KEEP. -/
  | shipExit
  /-- LONG_PRESS (R613): BTN_N held for 8 s writes the snapshot, opens the path for 500 ms and resets the part. -/
  | longPress
  /-- LONG_PRESS_PATH_END (R613): The 500 ms open path of a long press ends and normal path control resumes. -/
  | longPressPathEnd
  /-- PACK_SHIP_LOW (R80): The pack falls below the SHIP detector's minimum and the part goes OFF. -/
  | packShipLow
  /-- INPUT_LOSS (R596): VIN_SNS falls below VINLOSS; the path moves to the pack and the part enters LEHR or takes POWER_LOST. -/
  | inputLoss (vin : Nat) (pathOk : Bool)
  /-- INPUT_PRESENT (R599): The input is present again and the path enters RETURNING. -/
  | inputPresent (vin : Nat)
  /-- PATH_RETURN (R599): After 500 ms of continuous input outside LEHR and WAKE, the path returns to INPUT. -/
  | pathReturn
  /-- PACK_EXHAUSTED (R600): PACK_V falls below NCELL × PACKMIN in holdup and the part takes POWER_LOST. -/
  | packExhausted
  /-- VIN_COLLAPSE (R593): VIN below 6.8 V for 10 µs releases every power output and the part enters KEEP. -/
  | vinCollapse
  /-- VINT_POWER_ON (R638): VINT rising is a cold reset. -/
  | vintPowerOn
  /-- LEHR_RAMP_DONE (R99): Every channel has ramped to rest; the resume area and meter snapshot are written and staging is sealed. -/
  | lehrRampDone
  /-- LEHR_DONE (R592): The Lehr flush ends, the power-down runs, and the part enters KEEP or SHIP. -/
  | lehrDone (flushed : Bool)
  /-- SEQ_SLOT_DONE (R590): A sequencer slot's condition holds and its DELAY ends; the next slot runs, or BOOT begins. -/
  | seqSlotDone
  /-- SEQ_TIMEOUT (R591): A slot's condition does not hold within TIMEOUT; the part powers down and returns to KEEP. -/
  | seqTimeout
  /-- POWER_DOWN_STEP (R592): After OFFDLY the next asserted slot is released; at the end PWRON_N is released. -/
  | powerDownStep
  /-- AUX_PGOOD (R583): An AUX controller's FB stays within ±5 % for 100 µs and PGOOD is set. -/
  | auxPgood (k : Fin 4)
  /-- AUX_HICCUP (R586): Eight cycles in a row at the fast limit stop the controller for 10 ms; three hiccups latch it. -/
  | auxHiccup (k : Fin 4)
  /-- AUX_HICCUP_RESTART (R586): After 10 ms the hiccuping controller restarts with soft-start. -/
  | auxHiccupRestart (k : Fin 4)
  /-- AUX_SLOW_LIMIT (R586): The 1 ms mean exceeds ISLOW for SLOWT and the controller latches off. -/
  | auxSlowLimit (k : Fin 4)
  /-- AUX_TWARN (R587): A gate-driver temperature reaches TWARN and the controller halves its frequency. -/
  | auxTwarn (k : Fin 4) (t : Int)
  /-- AUX_TSHUT (R587): A gate-driver temperature reaches TSHUT; an F fault is taken and the part enters LOCKOUT. -/
  | auxTshut (k : Fin 4) (t : Int)
  /-- THERMAL_POWER_DOWN (R587): A sensor still at TSHUT 1 s later powers down the part to KEEP. -/
  | thermalPowerDown
  /-- RAIL_RANGE (R595): A monitored rail out of range, or a PGOOD that falls, for 1 ms raises an F fault. -/
  | railRange (src : Fin 8)
  /-- WARDEN_READING_REFRESH (R594): Every 1 ms the warden refreshes the copy of its readings for the snapshot. -/
  | wardenReadingRefresh (r : Readings)
  /-- PACK_PRESENT (R603): PACK_V stays at or above 4.0 V for 5 ms and the pack is present. -/
  | packPresent (v : Nat)
  /-- PACK_REMOVED (R603): PACK_V stays below 4.0 V for 5 ms; a pack change is declared and any charge ends. -/
  | packRemoved
  /-- PACK_NTC (R603): An open or shorted pack thermistor stops the charge and fences the charger. -/
  | packNtc
  /-- QUAL_END (R604): After 2 s in QUAL the charger moves to SUSPEND, PRE or FAST. -/
  | qualEnd
  /-- PRE_TIMEOUT (R604): PRE lasting 30 min sends the charger to FAULT. -/
  | preTimeout
  /-- SEARCH_STEP (R605): Every 100 ms the charge-current search rises by 0.02C, or falls two steps on a source dip. -/
  | searchStep (vin : Nat)
  /-- SEARCH_HOLD_END (R605): The 60 s hold of the search ends and the search rises again. -/
  | searchHoldEnd
  /-- CHARGE_MEAN_UPDATE (R606): Each 1 s mean tests −ΔV, dT/dt and the pack temperature and voltage limits. -/
  | chargeMeanUpdate (v : Nat) (t : Int)
  /-- FASTMAX_EXPIRY (R606): FAST ends on its timer with CHG_TIMER. -/
  | fastmaxExpiry
  /-- CHARGER_WATCHDOG (R608): After 40 s without a contact the charger falls back to SAFE settings. -/
  | chargerWatchdog
  /-- HLD_KICK (R608): A keyed write of HLD_KICK is a contact with the charger. -/
  | hldKick (key : BitVec 16)
  /-- PACK_TEST (R610): Setting TEST in HLD_CTL starts a pack test on the pack. -/
  | packTest
  /-- STOPTEST (R610): Setting STOPTEST ends a pack test. -/
  | stoptest
  /-- RESET_N (R638): RESET_N low for 1 µs or more starts a warm reset. -/
  | resetN
  /-- BROWNOUT (R638): A supply below its brownout threshold for 2 µs holds the PLL islands and a warm reset follows. -/
  | brownout
  /-- WARM_RESET_RELEASE (R640): When the reset source ends, the held islands are released, CFG_STRAP is read and BOOT begins. -/
  | warmResetRelease (strap : BitVec 6)
  /-- IMAGE_CHECK (R649): After the PLLs lock the warden checks the boot slots and accepts an image or enters LOCKOUT. -/
  | imageCheck (sig0 sig1 : Bool)
  /-- BOOT_END (R645): After calibration the part arbitrates, or applies R85, and enters READY, DEGRADED, TWIN or LOCKOUT. -/
  | bootEnd
  /-- LEDGER_RECOVERY (R508): During BOOT the ledger writer finds each stream's tail and clears torn blocks. -/
  | ledgerRecovery (found : List DriveFound) (streams intact : List Nat) (torn : Bool)
  /-- SEAL_TICK (R496): At each multiple of SEALINT the open batches are sealed and written, and a Flush follows. -/
  | sealTick
  /-- BATCH_DURABLE (R498): A Flush completes; its batches are durable, their staging blocks are freed and seals complete. -/
  | batchDurable
  /-- STAGING_GAP (R503): Once staging blocks are free again, a STAGING_FULL GAP record is placed in each stream concerned. -/
  | stagingGap
  /-- LEDGER_RECLAIM (R505): Every 60 s expired segments are zeroed and freed. -/
  | ledgerReclaim
  /-- NVME_TIMEOUT (R510): A drive command gives no completion within 1 s and is retried. -/
  | nvmeTimeout (d : Fin 4)
  /-- NVME_ERROR (R511): A drive command returns an error; it is retried, or the batch is rewritten elsewhere or dropped. -/
  | nvmeError (d : Fin 4) (stream : Nat) (again : Bool)
  /-- DRIVE_LOST (R512): A drive is lost and the ledger degrades, moves segments or fails. -/
  | driveLost (d : Fin 4)
  /-- RESILVER_DONE (R513): A resilver copy ends and the ledger leaves DEGRADED. -/
  | resilverDone
  /-- LEDGER_INIT_INIT (R518): The keyed INIT sequence initialises an UNLABELLED drive set and mounts it. -/
  | ledgerInitInit
  /-- LEDGER_INIT_ERASE (R518): The keyed ERASE sequence erases a FOREIGN or INCOMPLETE drive set and initialises it. -/
  | ledgerInitErase
  /-- PIPE_IN_RISE (R68): PIPE_IN rises and every channel ball goes high impedance within 20 ns. -/
  | pipeInRise
  /-- FENCE_IN_RISE (R68): FENCE_IN rises; every channel ball is released and FENCE_RX is raised on the owner. -/
  | fenceInRise
  /-- PIPE_IN_FALL (R535): PIPE_IN falls; it starts a takeover if heartbeats are already missed, and never restores drive by itself. -/
  | pipeInFall
  /-- PIPE_SENSE (R547): PIPE_IN stays low for 10 µs while heartbeats count, outside a handover. -/
  | pipeSense
  /-- CONTENTION (R544): PIPE_IN or FENCE_IN stays high for 1 µs against an own high output; a contention round starts. -/
  | contention
  /-- HEARTBEAT_SEND (R523): Every 8 µs the pair island sends a HEARTBEAT on every lane that is up. -/
  | heartbeatSend
  /-- HEARTBEAT (R523): A valid HEARTBEAT arrives from the partner. -/
  | heartbeat (f : FrameHead) (lane : Fin 2) (hbseq role sync mseq : Nat)
  /-- HEARTBEAT_MISS (R523): 24 µs pass without a counted heartbeat. -/
  | heartbeatMiss
  /-- LANE_DOWN (R520): A lane loses block lock for 1 µs, or misses 8 heartbeat periods, and goes down. -/
  | laneDown (lane : Fin 2)
  /-- IDENT (R524): An IDENT frame arrives; the certificate is checked and the pair forms or fails. -/
  | ident (f : FrameHead) (id : Ident)
  /-- MIRROR (R529): A MIRROR frame is applied in FSEQ order, or a gap puts the non-owner out of sync. -/
  | mirror (f : FrameHead) (lag : Nat) (items : List MirrorItem)
  /-- SNAPSHOT (R533): A SNAPSHOT frame of a resync is applied. -/
  | snapshot (f : FrameHead) (items : List MirrorItem)
  /-- RESYNC_DONE (R533): A resync ends and the non-owner is in sync. -/
  | resyncDone
  /-- RESYNC_FAIL (R551): A resync not ended within 10 s is started again. -/
  | resyncFail
  /-- RECCOPY (R531): A RECCOPY frame delivers the owner's staged records to the non-owner's ledger. -/
  | reccopy (f : FrameHead) (train : List Entry)
  /-- EPOCHMARK (R534): An EPOCHMARK lets the non-owner trim its period epoch to the owner's. -/
  | epochmark (f : FrameHead) (count : Nat) (within : Bool)
  /-- EPOCH_UNLOCK (R534): 10 ms pass without a valid EPOCHMARK and EPOCHLOCK clears. -/
  | epochUnlock
  /-- ACK (R521): An ACK frame acknowledges a frame of the given type and sequence. -/
  | ack (f : FrameHead) (ftype fseq : Nat)
  /-- HANDOVER_PREP (R541): The partner receives step PREP, checks its state and replies READY. -/
  | handoverPrep (f : FrameHead)
  /-- HANDOVER_READY (R541): The owner receives READY and sends step TIME with S. -/
  | handoverReady (f : FrameHead) (sAt : Nat)
  /-- HANDOVER_TIME (R547): The partner receives the handover time S. -/
  | handoverTime (f : FrameHead) (sAt : Nat)
  /-- HANDOVER_STATE (R541): The partner receives STATE frames with on-times and integrators. -/
  | handoverState (f : FrameHead) (items : List MirrorItem)
  /-- HANDOVER_PIPE_RELEASE (R541): At S − 1 µs the owner lowers PIPE_OUT. -/
  | handoverPipeRelease
  /-- HANDOVER_PIPE_TAKE (R542): At S the partner raises PIPE_OUT and drives the scheduled levels. -/
  | handoverPipeTake
  /-- HANDOVER_ACK (R541): The old owner receives step ACK, enters TWIN and completes HANDOVER. -/
  | handoverAck (f : FrameHead)
  /-- HANDOVER_TIMEOUT (R543): The partner has not taken the Pipe by S + 10 µs, or READY misses the deadline; the command times out. -/
  | handoverTimeout
  /-- ARBITRATION_START (R526): At the end of BOOT with PIPE_IN low, the idle check and an arbitration round begin. -/
  | arbitrationStart
  /-- ARBITRATION_END (R527): The round ends; the winner raises PIPE_OUT and a loser enters TWIN or starts again. -/
  | arbitrationEnd (line : List Bool)
  /-- REACQ_EXPIRY (R550): REACQ runs out without the partner and PARTNER_LOST is raised. -/
  | reacqExpiry
  /-- ROLL_CALL_PULSE (R548): The primary drives its 64-tick presence pulse every 10 s in KEEP. -/
  | rollCallPulse
  /-- ROLL_PULSE_DETECT (R548): A ROLL low of 32 ticks or more is detected as a pulse. -/
  | rollPulseDetect
  /-- ROLL_CALL_REPLY (R548): The secondary replies 256 ticks after the primary's pulse ends. -/
  | rollCallReply
  /-- ROLL_CALL_MISS (R548): A listening window ends with no pulse; after three misses a search starts. -/
  | rollCallMiss
  /-- ROLL_CALL_SEARCH_END (R548): A search that found nothing ends and sets ABSENT. -/
  | rollCallSearchEnd
  /-- GPIO_EDGE (R269): A filtered GPIO edge reaches the Gathers for EVENT terminations. -/
  | gpioEdge (pin : Fin 12) (rising : Bool)
  /-- TRAY_TRANSFER_START (R620): A tray port starts the highest-precedence pending transfer once the bus is free. -/
  | trayTransferStart (p : Fin 4)
  /-- GO (R620): A write of GO in TRAY_XCTL requests a tray transfer. -/
  | go (p : Fin 4)
  /-- ABORT (R637): A write of ABORT ends the tray transfer at the next byte boundary. -/
  | abort (p : Fin 4)
  /-- TRAY_TRANSFER_END (R621): A tray transfer ends with its result. -/
  | trayTransferEnd (p : Fin 4) (result : Fin 8) (data : List Byte)
  /-- ARB_LOST (R624): The port loses arbitration, becomes a target on an address match, and retries later. -/
  | arbLost (p : Fin 4) (addr : BitVec 7) (bytes : List Byte)
  /-- TRAY_TIMEOUT (R621): SCL held low for 35 ms ends the transfer. -/
  | trayTimeout (p : Fin 4)
  /-- TRAY_STUCK (R623): SDA held low for 35 ms with no transfer triggers bus recovery or BUSLOCK. -/
  | trayStuck (p : Fin 4) (freed : Bool)
  /-- BUSLOCK_RETRY (R623): Every 1 s bus recovery is tried again while BUSLOCK is set. -/
  | buslockRetry (p : Fin 4) (freed : Bool)
  /-- TARGET_WRITE (R627): A write to OWNADDR is taken into the mailbox and sets RXNEW. -/
  | targetWrite (p : Fin 4) (addr : BitVec 7) (bytes : List Byte)
  /-- RXNEW_CLEAR (R627): Clearing RXNEW lets the mailbox take the next write. -/
  | rxnewClear (p : Fin 4)
  /-- ALERT (R629): ALERT_N is asserted for 10 µs and an alert-response read is made. -/
  | alert (p : Fin 4) (ans : Option (BitVec 7))
  /-- ALERT_REREAD (R629): 100 µs after an answer, or 1 s after a round, the alert is read again. -/
  | alertReread (p : Fin 4) (ans : Option (BitVec 7))
  /-- IDPOLL (R632): Every IDPOLL each distinct fixture identity is read and compared. -/
  | idpoll (p : Fin 4)
  /-- IDENTITY_READ_DONE (R632): A fixture identity read ends; the value is stored, a cell change is declared, or a failure is counted. -/
  | identityReadDone (p : Fin 4) (addr ofs : Nat) (val : Option (BitVec 64))
  /-- WDG_KICK (R658): A write to WDG_KICK restarts the period, or expires the watchdog if it is early or wrong. -/
  | wdgKick (w : Fin 5) (v : BitVec 16)
  /-- WDG_KEY (R663): The two-write key sequence clears EN unless LOCK is set. -/
  | wdgKey (w : Fin 5) (v : BitVec 16)
  /-- WDG_LOCK (R663): Writing LOCK makes EN, CLKSEL and LOCK read only. -/
  | wdgLock (w : Fin 5)
  /-- WDG_EXPIRY (R660): A watchdog period ends without a kick; a trap is raised and the hard timer starts. -/
  | wdgExpiry (w : Fin 5)
  /-- WDG_HARD (R660): The 64 ms hard timer ends and takes a core reset, a warm reset, or in LEHR the hardware end of R661. -/
  | wdgHard (w : Fin 5)
  /-- WDG_CLOCK (R662): The selected watchdog clock stops for 2 µs; the watchdog moves to the other clock and expires. -/
  | wdgClock (w : Fin 5)
  /-- CORE_EXCEPTION (R642): A trap on a Steward core raises EXCEPTION and restarts the core's work. -/
  | coreException (x : CoreTrap)
  /-- EVR_SOURCE_ACCEPT (R665): An event source change passes its filter, is counted and becomes pending. -/
  | evrSourceAccept (src : Nat) (level : Bool)
  /-- EVR_DELIVER (R666): The router delivers the highest-priority pending source to its core when no hold-off applies. -/
  | evrDeliver (core : Fin 4)
  /-- EVR_CLAIM (R666): A read of EVR_CLAIM claims a source and returns its number, NONE or VANISHED. -/
  | evrClaim (core : Fin 4)
  /-- EVR_COMPLETE (R666): A write of EVR_COMPLETE completes a claimed source. -/
  | evrComplete (core : Fin 4) (src : Nat)
  /-- FAULT_TAKEN (R673): The fault collector records a fault, escalates it, and fences the unit or enters LOCKOUT by its class. -/
  | faultTaken (ext : Option (Nat × Nat))
  /-- LOCKSTEP (R673): A warden lockstep mismatch stops every channel and restarts the warden. -/
  | lockstep
  /-- REFCLK_LOST (R673): REFCLK is lost for 1 µs and every channel ball is held low. -/
  | refclkLost
  /-- WDN_OSC (R662): The warden oscillator stops; channel balls are held low and a warm reset follows. -/
  | wdnOsc
  /-- QUIET_PERIOD_END (R678): The quiet period of a fenced unit ends and its recovery starts. -/
  | quietPeriodEnd (unit : Nat)
  /-- RECOVERY_END (R678): A unit's recovery passes and its fence lifts, or fails and the unit waits for FAULT_ACK. -/
  | recoveryEnd (unit : Nat) (pass : Bool)
  /-- CH_CALSEL_SNAP (R227): Writing SNAP loads the selected calibration layer into the snapshot registers. -/
  | chCalselSnap (c : ChanNo)
  /-- NVM_HKCTL_HKEN (R651): Writing HKEN stores the house key fingerprint and locks it for life. -/
  | nvmHkctlHken
  /-- ETH_LINK_DOWN (R423): An Ethernet port loses its link, raising LINK_DOWN and stopping datagrams on that port. -/
  | ethLinkDown (port : Fin 2)
  /-- ETH_LINK_UP (R404): An Ethernet port regains its link and datagrams flow again on it. -/
  | ethLinkUp (port : Fin 2)
  /-- FENCE_IN_FALL (R544): FENCE_IN falls; a contention winner waiting for it may take the Pipe, and a fenced part never regains drive by it alone. -/
  | fenceInFall
  /-- MIRROR_SEND (R529): Every 8 µs the owner sends MIRROR frames with the changed channel, loop and protection state. -/
  | mirrorSend
  /-- EPOCHMARK_SEND (R534): Every 1 ms the owner sends an EPOCHMARK with its period-epoch count. -/
  | epochmarkSend
  /-- ARBITRATION_ROUND_VOID (R526): A ROLL low longer than 200 µs, or any low in the idle phase, voids the arbitration round and every part restarts at the idle check. -/
  | arbitrationRoundVoid
  /-- BUTTON_RELEASE (R612): BTN_N is released before 8 s and the house receives a POWER event with code 9 and the press length. -/
  | buttonRelease (ms : Nat)
  /-- ENROLMENT_CODE_EXPIRY (R429): An unused enrolment code reaches ENRTTL and becomes void. -/
  | enrolmentCodeExpiry (t : Nat)
  /-- COMMANDED_WARM_RESET (R640): 10 ms after the completion of a commanded warm reset, the warm reset starts. -/
  | commandedWarmReset
  /-- WARM_RESET_LEDGER_QUIESCE (R507): During a warm reset the ledger quiesce ends or its timeout expires, and the ledger island is held with SHUT CLEAN or TIMEOUT. -/
  | warmResetLedgerQuiesce (timeout : Bool)
  deriving DecidableEq, Repr

end Sys2Proof
end

