-- ==== Sys2Proof/Config.lean ====
section
/-! DEFINITION. What an implementation fixes and the free values: constants with no body, so no proof can lean on a value of theirs. -/

namespace Sys2Proof.Config

/-- Free values: the spec fixes no number for these draws (R451: numbers allocated at random; R429, R491: enrolment
codes and data keys; R434: NONCE_P; R524: nonces). Each draw applies this constant to the model's own counter (DESIGN CHOICE, log entry 2). -/
opaque freeNat : Nat → Nat

/-- The magnitude of a reference that a patched setpoint leaves without a value (R119, R279), a function of its operands (DESIGN CHOICE, log
entry 60). -/
opaque freeRef : Int → Int → Nat

/-- HKDF-SHA-256 session keys of R436: KTP, KPT and KCF as one 96-byte string from the input keying material, the salt and
the information string. The arithmetic is that of the external standard and is left uninterpreted (DESIGN CHOICE, log entry 58). -/
opaque hkdfSession : List Byte → List Byte → List Byte → List Byte

/-- ECDH P-384 shared secret of an enrolment session (R436), from the tenant's share and the part's draw (DESIGN CHOICE, log entry 58). -/
opaque ecdhP384 : List Byte → Nat → List Byte

/-- The part's ECDH share and its ECDSA P-384 signature under R431, from the part's draw and the transcript (DESIGN CHOICE, log entry 58). -/
opaque signedShare : Nat → List Byte → List Byte

/-- HMAC-SHA-256 of R433 (ACCEPT), from a key and a message (DESIGN CHOICE, log entry 58). -/
opaque hmacSha256 : List Byte → List Byte → List Byte

/-- SHA-256 of R433 (the transcript hash) (DESIGN CHOICE, log entry 58). -/
opaque sha256 : List Byte → List Byte

/-- SHA-384 of R648 and R651 (DESIGN CHOICE, log entry 58). -/
opaque sha384 : List Byte → List Byte

/-- The seal of a ledger batch (AES-256-GCM of R494 and R495): ciphertext and tag from key, nonce, header and body (DESIGN CHOICE, log entry 58). -/
opaque sealBatch : List Byte → List Byte → List Byte → List Byte → List Byte

/-- The enrolment code for tenant 0 with which the part is delivered (R430) (DESIGN CHOICE, log entry 58). -/
opaque houseCode : List Byte

/-- The low 12 bits of IDCODE: R652 gives the others only (DESIGN CHOICE, log entry 2). -/
opaque idcodeLow : BitVec 12

end Sys2Proof.Config
end

