-- ==== Sys2Proof/Machine/Bits.lean ====
section
/-! DEFINITION. Bit fields, signed fields, byte order, rounding and check values used by every chapter. -/

namespace Sys2Proof.Machine

open Sys2Proof

/-- Bits [lo+len-1 : lo] of a number. -/
def bitsOf (v lo len : Nat) : Nat := (v / 2 ^ lo) % 2 ^ len

/-- Bit i of a number. -/
def bitOf (v i : Nat) : Bool := v.testBit i

/-- A one-bit field. -/
def b2n (b : Bool) : Nat := if b then 1 else 0

/-- The two's complement value of the low `len` bits of a number. -/
def sx (len v : Nat) : Int :=
  let w := v % 2 ^ len
  if w < 2 ^ (len - 1) then (w : Int) else (w : Int) - (2 : Int) ^ len

/-- The low `len` bits of an integer in two's complement. -/
def tc (len : Nat) (i : Int) : Nat := (i % (2 : Int) ^ len).toNat

/-- A signed 32-bit word from an integer. -/
def w32 (i : Int) : Nat := tc 32 i

/-- Replace bits [lo+len-1 : lo] of a word. -/
def setBits (w lo len v : Nat) : Nat :=
  w - bitsOf w lo len * 2 ^ lo + (v % 2 ^ len) * 2 ^ lo

/-- `n` bytes of a number, least significant first (R20). -/
def leBytes : Nat → Nat → List Byte
  | 0, _ => []
  | n + 1, v => BitVec.ofNat 8 v :: leBytes n (v / 256)

/-- `n` bytes of a signed number in two's complement, least significant first. -/
def leBytesI (n : Nat) (v : Int) : List Byte := leBytes n (tc (8 * n) v)

/-- The number that a little-endian byte list holds (R20). -/
def leNat : List Byte → Nat
  | [] => 0
  | b :: bs => b.toNat + 256 * leNat bs

/-- `n` bytes of a list from offset `o`, zero past its end. -/
def sliceB (l : List Byte) (o n : Nat) : List Byte :=
  (List.range n).map (fun i => l.getD (o + i) 0)

/-- The little-endian number at offset `o` over `n` bytes. -/
def numAt (l : List Byte) (o n : Nat) : Nat := leNat (sliceB l o n)

/-- The signed little-endian number at offset `o` over `n` bytes. -/
def intAt (l : List Byte) (o n : Nat) : Int := sx (8 * n) (numAt l o n)

/-- Overwrite a list from offset `o`. -/
def putAt (l : List Byte) (o : Nat) (bs : List Byte) : List Byte :=
  l.take o ++ bs ++ l.drop (o + bs.length)

/-- `n` zero bytes. -/
def zeros (n : Nat) : List Byte := List.replicate n 0

/-- A 48-byte payload with the given fields at their offsets, zero elsewhere (R21, R464). -/
def payload (fs : List (Nat × List Byte)) : List Byte :=
  fs.foldl (fun p f => putAt p f.1 f.2) (zeros 48)

/-- A field of `n` bytes holding a number. -/
def fN (o n v : Nat) : Nat × List Byte := (o, leBytes n v)

/-- A field of `n` bytes holding a signed number. -/
def fI (o n : Nat) (v : Int) : Nat × List Byte := (o, leBytesI n v)

/-- Clamp into [lo, hi]. -/
def clampI (lo hi v : Int) : Int := if v < lo then lo else if hi < v then hi else v

/-- Move a value toward zero so that its magnitude is at most `m` (R161). -/
def capMag (m : Nat) (v : Int) : Int := clampI (-(m : Int)) m v

/-- The sign of an integer: -1, 0 or 1. -/
def sgn (v : Int) : Int := if v < 0 then -1 else if v = 0 then 0 else 1

/-- Quotient rounded to the nearest integer, halves away from zero; the denominator is positive (DEDUCED, log entry 14). -/
def rdiv (n d : Int) : Int :=
  if d ≤ 0 then 0
  else if n < 0 then -((2 * (-n) + d) / (2 * d)) else (2 * n + d) / (2 * d)

/-- Quotient rounded toward zero (R154). -/
def tdiv (n d : Int) : Int := Int.tdiv n d

/-- One bit of the integer square root, from the top. -/
def isqrtGo : Nat → Nat → Nat → Nat
  | 0, _, r => r
  | k + 1, n, r =>
    let c := r + 2 ^ k
    if c * c ≤ n then isqrtGo k n c else isqrtGo k n r

/-- Integer square root, rounded down, of a number below 2^256. -/
def isqrt (n : Nat) : Nat := isqrtGo 128 n 0

/-- Square root of the fraction n / d rounded to the nearest integer. -/
def rsqrt (n d : Nat) : Nat := if d = 0 then 0 else (isqrt (4 * n / d) + 1) / 2

/-- The sum of bytes modulo 256. -/
def byteSum (l : List Byte) : Nat := l.foldl (fun a b => (a + b.toNat) % 256) 0

/-- One step of CRC-32C (reflected polynomial 0x82F63B78). -/
def crcStep : Nat → BitVec 32 → BitVec 32
  | 0, c => c
  | k + 1, c => crcStep k (if c.getLsbD 0 then (c >>> 1) ^^^ 0x82F63B78#32 else c >>> 1)

/-- CRC-32C of a byte list. -/
def crc32c (l : List Byte) : BitVec 32 :=
  ~~~ (l.foldl (fun c b => crcStep 8 (c ^^^ (b.zeroExtend 32))) 0xFFFFFFFF#32)

/-- The 0-based positions of the bits set in a mask of `n` bits. -/
def maskList (n m : Nat) : List Nat := (List.range n).filter (fun i => m.testBit i)

/-- The mask with the bits of a list of positions set. -/
def maskOf (l : List Nat) : Nat := l.foldl (fun a i => a ||| 2 ^ i) 0

/-- Saturating addition. -/
def satAdd (top a b : Nat) : Nat := if top ≤ a + b then top else a + b

/-- Remove every element equal to `a`. -/
def dropAll {α : Type} [DecidableEq α] (a : α) (l : List α) : List α := l.filter (fun x => decide (x ≠ a))

/-- Replace the first element that meets `p`. -/
def updFirst {α : Type} (p : α → Bool) (f : α → α) : List α → List α
  | [] => []
  | a :: l => if p a then f a :: l else a :: updFirst p f l

/-- Sequence comparison of chapter 10: a comes before b when (b − a) mod 65,536 lies from 1 to 32,767 (R407). -/
def seqBefore (a b : Nat) : Bool :=
  let d := (b + 65536 - a % 65536) % 65536
  decide (1 ≤ d ∧ d ≤ 32767)

end Sys2Proof.Machine
end

