-- ==== Sys2Proof/Machine/RegMap.lean ====
section
/-! DEFINITION. The register map of the fabric: one descriptor per register table of chapters 03 to 10 and 13 to 18
of the spec (names, offsets, instance counts, fields, access codes of Table 00-4, reset values of R23, ranges).
A field whose reset column names fuses, the strap, NVM or KEEP memory carries here the value the model's log names for it. -/

namespace Sys2Proof.Machine

/-- Access codes of Table 00-4 (R22). -/
inductive Acc where
  | ro | rw | wo | w1c | rc | rwl | wk
  deriving DecidableEq, Repr

/-- One field: bit offset, width, access, reset value as raw bits, and the written value's range where its row gives one. -/
structure FieldDesc where
  lo : Nat
  len : Nat
  acc : Acc
  reset : Nat
  signed : Bool := false
  range : Option (Int × Int) := none
  deriving DecidableEq, Repr

/-- One register table row: its first fabric address and up to three levels of instances (count, stride). -/
structure RegDesc where
  name : String
  base : Nat
  dims : List (Nat × Nat)
  fields : List FieldDesc
  deriving DecidableEq, Repr

/-- Shorthand used by the table below. -/
def fld (lo len : Nat) (acc : Acc) (reset : Nat) : FieldDesc := { lo, len, acc, reset }
/-- A field with a range. -/
def fldR (lo len : Nat) (acc : Acc) (reset : Nat) (sg : Bool) (a b : Int) : FieldDesc :=
  { lo, len, acc, reset, signed := sg, range := some (a, b) }

/-- Block SYS: SYS_ID, SYS_SERIAL_LO, SYS_SERIAL_HI, … -/
def regsSys : List RegDesc := [
  ⟨"SYS_ID", 0x000000, [], [fld 0 16 .ro 29284, fld 16 4 .ro 0, fld 20 8 .ro 176]⟩,
  ⟨"SYS_SERIAL_LO", 0x000004, [], [fld 0 32 .ro 0]⟩,
  ⟨"SYS_SERIAL_HI", 0x000008, [], [fld 0 32 .ro 0]⟩,
  ⟨"SYS_FWVER", 0x00000C, [], [fld 0 8 .ro 0, fld 8 8 .ro 0, fld 16 16 .ro 0]⟩,
  ⟨"SYS_MODE", 0x000010, [], [fld 0 4 .ro 4, fld 4 4 .ro 3, fld 8 1 .ro 0, fld 9 1 .ro 0, fld 10 1 .ro 0, fld 11 1 .ro 0, fld 12 1 .ro 0, fld 16 16 .ro 0]⟩,
  ⟨"SYS_MODECAUSE", 0x000014, [], [fld 0 8 .ro 4, fld 8 8 .ro 0, fld 16 16 .ro 0]⟩,
  ⟨"SYS_MODETIME_LO", 0x000018, [], [fld 0 32 .ro 0]⟩,
  ⟨"SYS_MODETIME_HI", 0x00001C, [], [fld 0 32 .ro 0]⟩,
  ⟨"SYS_STRAP", 0x000020, [], [fld 0 4 .ro 0, fld 4 6 .ro 0, fld 16 1 .ro 0]⟩]

/-- Block GATHER: G_PWMCFG, G_DEAD, G_TMIN, … -/
def regsGather0 : List RegDesc := [
  ⟨"G_PWMCFG", 0x100000, [(8, 65536)], [fldR 0 17 .rw 32000 false (16000) (80000), fld 24 1 .rw 1]⟩,
  ⟨"G_DEAD", 0x100004, [(8, 65536)], [fld 0 10 .rw 160, fld 16 10 .rw 160]⟩,
  ⟨"G_TMIN", 0x100008, [(8, 65536)], [fldR 0 10 .rw 320 false (80) (1023), fldR 16 10 .rw 320 false (80) (1023)]⟩,
  ⟨"G_TIMING", 0x10000C, [(8, 65536)], [fldR 0 16 .rw 20 false (1) (500), fldR 16 16 .rw 20 false (1) (1000)]⟩,
  ⟨"G_STOP", 0x100010, [(8, 65536)], [fldR 0 16 .rw 20 false (1) (400), fldR 16 16 .rw 10 false (1) (100)]⟩,
  ⟨"G_DE", 0x100014, [(8, 65536)], [fld 0 1 .rw 1, fld 1 1 .rw 1, fldR 8 8 .rw 16 false (4) (255)]⟩,
  ⟨"G_STATUS", 0x100018, [(8, 65536)], [fld 0 1 .ro 0, fld 1 1 .ro 0, fld 8 8 .ro 0, fld 16 8 .ro 0]⟩,
  ⟨"G_CYCLE", 0x10001C, [(8, 65536)], [fld 0 32 .ro 0]⟩,
  ⟨"G_ERR", 0x100020, [(8, 65536)], [fld 0 1 .w1c 0, fld 1 1 .w1c 0]⟩,
  ⟨"G_GANG0", 0x100040, [(8, 65536), (4, 4)], [fld 0 8 .rw 0, fld 8 3 .rw 0, fld 12 1 .rw 0, fld 15 1 .rw 0]⟩,
  ⟨"CH_CFG", 0x101000, [(8, 65536), (8, 256)], [fld 0 1 .rw 0, fld 1 1 .rw 0]⟩,
  ⟨"CH_STAGE", 0x101004, [(8, 65536), (8, 256)], [fldR 0 16 .rw 1000 false (100) (65535)]⟩,
  ⟨"CH_SHUNT", 0x101008, [(8, 65536), (8, 256)], [fldR 0 24 .rw 500000 false (50000) (10000000)]⟩,
  ⟨"CH_SHARE", 0x10100C, [(8, 65536), (8, 256)], [fld 0 16 .rw 0]⟩,
  ⟨"CH_STAT", 0x101010, [(8, 65536), (8, 256)], [fld 0 4 .ro 8, fld 4 4 .ro 0, fld 8 1 .ro 0, fld 9 1 .ro 0, fld 10 1 .ro 0, fld 11 1 .ro 0, fld 12 1 .ro 0, fld 13 1 .ro 0, fld 14 1 .ro 0, fld 15 1 .ro 0, fld 16 2 .ro 0, fld 18 2 .ro 0]⟩,
  ⟨"CH_IREF", 0x101014, [(8, 65536), (8, 256)], [fld 0 32 .ro 0]⟩,
  ⟨"CH_ILOOP", 0x101018, [(8, 65536), (8, 256)], [fld 0 32 .ro 0]⟩,
  ⟨"CH_VLOOP", 0x10101C, [(8, 65536), (8, 256)], [fld 0 32 .ro 0]⟩,
  ⟨"CH_ONTIME", 0x101020, [(8, 65536), (8, 256)], [fld 0 17 .ro 0]⟩,
  ⟨"PROFp_KPI", 0x101040, [(8, 65536), (8, 256), (4, 16)], [fld 0 20 .rw 12566]⟩]

/-- Block GATHER: PROFp_KII, PROFp_KPV, PROFp_KIV, … -/
def regsGather1 : List RegDesc := [
  ⟨"PROFp_KII", 0x101044, [(8, 65536), (8, 256), (4, 16)], [fld 0 16 .rw 32]⟩,
  ⟨"PROFp_KPV", 0x101048, [(8, 65536), (8, 256), (4, 16)], [fld 0 16 .rw 0]⟩,
  ⟨"PROFp_KIV", 0x10104C, [(8, 65536), (8, 256), (4, 16)], [fld 0 32 .rw 50000]⟩,
  ⟨"G_PSTAT", 0x100100, [(8, 65536)], [fld 0 1 .ro 0, fld 1 1 .ro 0, fld 8 8 .ro 0, fld 16 8 .ro 0, fld 24 8 .ro 0]⟩,
  ⟨"G_STGT", 0x100104, [(8, 65536)], [fld 0 16 .ro 0, fld 16 1 .ro 0]⟩,
  ⟨"G_CKTEST", 0x100108, [(8, 65536)], [fld 0 8 .ro 0, fld 8 8 .ro 0]⟩,
  ⟨"CH_RATED", 0x101080, [(8, 65536), (8, 256)], [fldR 0 20 .rw 60000 false (1000) (1000000)]⟩,
  ⟨"CH_CKOFF", 0x101084, [(8, 65536), (8, 256)], [fld 0 8 .rw 135, fldR 8 2 .rw 3 false (0) (3)]⟩,
  ⟨"CH_SLOW", 0x101088, [(8, 65536), (8, 256)], [fldR 0 9 .rw 220 false (50) (300), fldR 16 10 .rw 20 false (1) (1000)]⟩,
  ⟨"CH_I2T", 0x10108C, [(8, 65536), (8, 256)], [fldR 0 8 .rw 30 false (1) (255), fldR 8 7 .rw 50 false (10) (100)]⟩,
  ⟨"CH_I2TSTATE", 0x101090, [(8, 65536), (8, 256)], [fld 0 24 .ro 0, fld 24 1 .ro 1]⟩,
  ⟨"CH_THERM", 0x101094, [(8, 65536), (8, 256)], [fld 0 16 .rw 9500, fld 16 16 .rw 11500]⟩,
  ⟨"CH_THERM2", 0x101098, [(8, 65536), (8, 256)], [fldR 0 12 .rw 1000 false (100) (4000), fldR 16 7 .rw 50 false (0) (100)]⟩,
  ⟨"CH_SHORT", 0x10109C, [(8, 65536), (8, 256)], [fldR 0 13 .rw 200 false (1) (5000), fldR 16 8 .rw 10 false (1) (255)]⟩,
  ⟨"CH_SHVMIN", 0x1010A0, [(8, 65536), (8, 256)], [fldR 0 32 .rw 500000 true (-1000000) (5500000)]⟩,
  ⟨"CH_REVV", 0x1010A4, [(8, 65536), (8, 256)], [fldR 0 32 .rw 4294867296 true (-1000000) (0)]⟩,
  ⟨"CH_XOVER", 0x1010A8, [(8, 65536), (8, 256)], [fldR 0 16 .rw 10 false (1) (65535), fldR 16 16 .rw 1000 false (1) (65535)]⟩,
  ⟨"CH_PCFG", 0x1010AC, [(8, 65536), (8, 256)], [fld 0 1 .rw 1, fld 1 1 .rw 1, fld 2 1 .rw 1, fld 3 1 .rw 1, fld 4 1 .rw 1]⟩,
  ⟨"CH_PSTAT", 0x1010B0, [(8, 65536), (8, 256)], [fld 0 8 .ro 0, fld 8 1 .ro 0, fld 9 1 .ro 1, fld 10 1 .ro 0, fld 11 1 .ro 0, fld 12 1 .ro 0, fld 13 1 .ro 0, fld 14 2 .ro 0, fld 16 12 .ro 0, fld 28 4 .rc 0]⟩,
  ⟨"G_MCFG", 0x100200, [(8, 65536)], [fld 0 1 .rw 1, fldR 4 12 .rw 64 false (8) (1024), fldR 16 8 .rw 8 false (1) (255)]⟩]

/-- Block GATHER: G_CALLIM, G_CALLIMV, G_CALLIMI, … -/
def regsGather2 : List RegDesc := [
  ⟨"G_CALLIM", 0x100204, [(8, 65536)], [fldR 0 16 .rw 100 false (1) (1000)]⟩,
  ⟨"G_CALLIMV", 0x100208, [(8, 65536)], [fldR 0 32 .rw 20000 false (1) (1000000)]⟩,
  ⟨"G_CALLIMI", 0x10020C, [(8, 65536)], [fldR 0 32 .rw 200 false (1) (10000)]⟩,
  ⟨"G_MSTAT", 0x100210, [(8, 65536)], [fld 0 1 .ro 0, fld 1 1 .ro 0, fld 2 1 .ro 0, fld 4 2 .ro 0, fld 8 4 .ro 0, fld 16 16 .ro 0]⟩,
  ⟨"G_PUNTY", 0x100214, [(8, 65536)], [fld 0 3 .ro 1, fld 4 4 .ro 0, fld 8 3 .ro 1, fld 12 4 .ro 0]⟩,
  ⟨"G_RETIRED", 0x100218, [(8, 65536)], [fld 0 18 .ro 0]⟩,
  ⟨"G_STGTMODEL", 0x10021C, [(8, 65536)], [fldR 0 16 .rw 1000 false (100) (65535), fldR 16 16 .rw 3435 false (1000) (10000)]⟩,
  ⟨"G_MERR", 0x100220, [(8, 65536)], [fld 0 1 .w1c 0, fld 1 1 .w1c 0, fld 2 1 .w1c 0, fld 3 1 .w1c 0, fld 4 1 .w1c 0]⟩,
  ⟨"CH_MCFG", 0x1010C0, [(8, 65536), (8, 256)], [fld 0 4 .rw 0, fldR 4 2 .rw 0 false (0) (2), fld 6 2 .rw 0, fld 8 1 .rw 1]⟩,
  ⟨"CH_MSTAT", 0x1010C4, [(8, 65536), (8, 256)], [fld 0 2 .ro 0, fld 2 1 .ro 0, fld 3 1 .ro 0, fld 4 1 .ro 0, fld 5 1 .ro 0, fld 6 1 .ro 0, fld 8 8 .ro 0, fld 16 1 .ro 0, fld 17 1 .ro 0, fld 18 1 .ro 0]⟩,
  ⟨"CH_VOUT", 0x1010C8, [(8, 65536), (8, 256)], [fld 0 32 .ro 0]⟩,
  ⟨"CH_IOUT", 0x1010CC, [(8, 65536), (8, 256)], [fld 0 32 .ro 0]⟩,
  ⟨"CH_TCELL", 0x1010D0, [(8, 65536), (8, 256)], [fld 0 16 .ro 0]⟩,
  ⟨"CH_STAMP_LO", 0x1010D4, [(8, 65536), (8, 256)], [fld 0 32 .ro 0]⟩,
  ⟨"CH_STAMP_HI", 0x1010D8, [(8, 65536), (8, 256)], [fld 0 32 .ro 0]⟩,
  ⟨"CH_TMODEL", 0x1010DC, [(8, 65536), (8, 256)], [fldR 0 16 .rw 1000 false (100) (65535), fldR 16 16 .rw 3435 false (1000) (10000)]⟩,
  ⟨"CH_CONV", 0x1010E0, [(8, 65536), (8, 256)], [fld 0 5 .ro 0, fld 8 5 .ro 0]⟩,
  ⟨"CH_CALSEL", 0x1010E4, [(8, 65536), (8, 256)], [fld 0 2 .rw 0, fldR 2 3 .rw 0 false (0) (4), fld 8 1 .wo 0, fld 9 1 .ro 0]⟩,
  ⟨"CH_COFF", 0x1010E8, [(8, 65536), (8, 256)], [fld 0 32 .ro 0]⟩,
  ⟨"CH_CGAIN", 0x1010EC, [(8, 65536), (8, 256)], [fld 0 32 .ro 0]⟩]

/-- Block GATHER: CH_CQ, CH_CGEN, CH_TWINCNT, … -/
def regsGather3 : List RegDesc := [
  ⟨"CH_CQ", 0x1010F0, [(8, 65536), (8, 256)], [fld 0 32 .ro 0]⟩,
  ⟨"CH_CGEN", 0x1010F4, [(8, 65536), (8, 256)], [fld 0 8 .ro 0]⟩,
  ⟨"CH_TWINCNT", 0x1010F8, [(8, 65536), (8, 256)], [fld 0 16 .rc 0, fld 16 16 .rc 0]⟩,
  ⟨"G_PGSTAT", 0x100300, [(8, 65536)], [fld 0 8 .ro 0, fld 8 8 .ro 0, fld 16 1 .ro 0]⟩,
  ⟨"PG_STAT", 0x102000, [(8, 65536), (8, 256)], [fld 0 9 .ro 0, fld 9 1 .ro 0, fld 10 1 .ro 0, fld 11 1 .ro 0, fld 12 1 .ro 0, fld 16 4 .ro 0]⟩,
  ⟨"PG_LEN", 0x102004, [(8, 65536), (8, 256)], [fld 0 10 .ro 0, fld 16 8 .ro 0]⟩,
  ⟨"PG_TIME", 0x102008, [(8, 65536), (8, 256)], [fld 0 32 .ro 0]⟩,
  ⟨"PG_CFG", 0x10200C, [(8, 65536), (8, 256)], [fldR 0 9 .rw 16 false (1) (256)]⟩,
  ⟨"HL_ICHG", 0x102010, [(8, 65536), (8, 256)], [fldR 0 32 .rw 0 false (0) (1000000000)]⟩,
  ⟨"HL_IDIS", 0x102014, [(8, 65536), (8, 256)], [fldR 0 32 .rw 0 false (0) (1000000000)]⟩,
  ⟨"HL_VMAX", 0x102018, [(8, 65536), (8, 256)], [fldR 0 32 .rw 0 true (-1000000) (5500000)]⟩,
  ⟨"HL_VMIN", 0x10201C, [(8, 65536), (8, 256)], [fldR 0 32 .rw 0 true (-1000000) (5500000)]⟩,
  ⟨"HL_EMAX", 0x102020, [(8, 65536), (8, 256)], [fld 0 32 .rw 0]⟩,
  ⟨"HL_EUSED", 0x102024, [(8, 65536), (8, 256)], [fld 0 32 .ro 0]⟩,
  ⟨"HL_STAT", 0x102028, [(8, 65536), (8, 256)], [fld 0 1 .ro 0, fld 1 1 .w1c 0, fld 2 1 .w1c 0]⟩,
  ⟨"PG_VARv", 0x102080, [(8, 65536), (8, 256), (32, 4)], [fld 0 32 .ro 0]⟩]

/-- Block EIS: EIS_CFG, EIS_STAT, EIS_PTk, … -/
def regsEis : List RegDesc := [
  ⟨"EIS_CFG", 0x210000, [(8, 256)], [fld 0 1 .rw 1, fld 1 1 .rw 1, fldR 8 8 .rw 2 false (1) (16), fldR 16 16 .rw 9000 false (0) (10000)]⟩,
  ⟨"EIS_STAT", 0x210004, [(8, 256)], [fld 0 8 .ro 0, fld 8 8 .ro 0, fld 16 1 .ro 0, fld 17 1 .ro 0]⟩,
  ⟨"EIS_PTk", 0x210010, [(8, 256), (8, 4)], [fld 0 13 .ro 0, fld 13 2 .ro 0, fld 15 1 .ro 0, fld 16 9 .ro 0]⟩,
  ⟨"EIS_ERR", 0x210030, [(8, 256)], [fld 0 1 .w1c 0, fld 1 1 .w1c 0, fld 2 1 .w1c 0]⟩,
  ⟨"EIS_CNT", 0x210034, [(8, 256)], [fld 0 16 .ro 0, fld 16 16 .ro 0]⟩]

/-- Block BUS: BUS_CFG, BUS_IMPLIM, BUS_EXPLIM, … -/
def regsBus : List RegDesc := [
  ⟨"BUS_CFG", 0x200000, [], [fld 0 1 .rw 1, fldR 1 7 .rw 95 false (50) (100), fldR 16 10 .rw 1000 false (500) (1000)]⟩,
  ⟨"BUS_IMPLIM", 0x200004, [], [fld 0 32 .rw 0]⟩,
  ⟨"BUS_EXPLIM", 0x200008, [], [fld 0 32 .rw 0]⟩,
  ⟨"BUS_DEFMAX", 0x20000C, [], [fld 0 16 .rw 600]⟩,
  ⟨"BUS_STAT", 0x200010, [], [fld 0 1 .ro 0, fld 1 1 .ro 0, fld 2 2 .ro 0, fld 4 1 .w1c 0, fld 8 8 .ro 0, fld 16 16 .ro 0]⟩,
  ⟨"BUS_NET", 0x200014, [], [fld 0 32 .ro 0]⟩,
  ⟨"BUS_MCHG", 0x200018, [], [fld 0 17 .ro 65536]⟩,
  ⟨"BUS_MDIS", 0x20001C, [], [fld 0 17 .ro 65536]⟩,
  ⟨"BG_DIV", 0x200100, [(8, 32)], [fldR 0 16 .rw 8000 false (1000) (65535)]⟩,
  ⟨"BG_SHUNT", 0x200104, [(8, 32)], [fldR 0 24 .rw 100000 false (10000) (10000000)]⟩,
  ⟨"BG_UV", 0x200108, [(8, 32)], [fld 0 16 .rw 9500, fld 16 16 .rw 8000]⟩,
  ⟨"BG_OV", 0x20010C, [(8, 32)], [fld 0 16 .rw 15000, fld 16 16 .rw 16000]⟩,
  ⟨"BG_HYST", 0x200110, [(8, 32)], [fldR 0 10 .rw 200 false (10) (1000), fldR 16 8 .rw 4 false (1) (255)]⟩,
  ⟨"BG_V", 0x200114, [(8, 32)], [fld 0 32 .ro 0]⟩,
  ⟨"BG_I", 0x200118, [(8, 32)], [fld 0 32 .ro 0]⟩,
  ⟨"BG_STAT", 0x20011C, [(8, 32)], [fld 0 1 .ro 0, fld 1 1 .ro 0, fld 2 1 .ro 0, fld 3 1 .ro 0, fld 4 1 .ro 0, fld 5 1 .ro 0]⟩,
  ⟨"BC_STAT", 0x200400, [(64, 4)], [fld 0 1 .ro 0, fld 1 1 .ro 0, fld 2 1 .ro 0, fld 16 16 .ro 0]⟩,
  ⟨"METER_CFG", 0x200800, [], [fld 0 6 .rw 15, fld 6 1 .rw 0, fldR 8 12 .rw 300 false (60) (3600)]⟩,
  ⟨"METER_STAT", 0x200804, [], [fld 0 3 .ro 0, fld 3 1 .ro 0, fld 4 1 .ro 0, fld 5 1 .ro 0]⟩,
  ⟨"METER_SCHEDe", 0x200900, [(32, 4)], [fldR 0 11 .rw 0 false (0) (1439), fld 11 3 .rw 0, fld 15 7 .rw 0, fld 22 1 .rw 0]⟩]

/-- Block QM: QM_STAT, QM_POOL, QM_ERR, … -/
def regsQm : List RegDesc := [
  ⟨"QM_STAT", 0x440000, [], [fld 0 14 .ro 4, fld 16 1 .ro 0]⟩,
  ⟨"QM_POOL", 0x440004, [], [fld 0 14 .ro 11968]⟩,
  ⟨"QM_ERR", 0x440008, [], [fld 0 1 .w1c 0, fld 1 1 .w1c 0, fld 16 13 .ro 0]⟩]

/-- Block DMA: DMA_STAT, DMA_ACTIVE, DMA_ERRADDR_LO, … -/
def regsDma : List RegDesc := [
  ⟨"DMA_STAT", 0x300000, [], [fld 0 1 .w1c 0, fld 1 5 .ro 0, fld 16 16 .ro 0]⟩,
  ⟨"DMA_ACTIVE", 0x300004, [], [fld 0 32 .ro 0]⟩,
  ⟨"DMA_ERRADDR_LO", 0x300008, [], [fld 0 32 .ro 0]⟩,
  ⟨"DMA_ERRADDR_HI", 0x30000C, [], [fld 0 32 .ro 0]⟩,
  ⟨"DMA_CTL", 0x300100, [(32, 32)], [fld 0 1 .wo 0, fld 1 1 .wo 0, fld 2 1 .wo 0]⟩,
  ⟨"DMA_HEAD", 0x300104, [(32, 32)], [fld 0 16 .rw 0]⟩,
  ⟨"DMA_CUR", 0x300108, [(32, 32)], [fld 0 16 .ro 0]⟩,
  ⟨"DMA_CSTAT", 0x30010C, [(32, 32)], [fld 0 3 .ro 0, fld 8 4 .ro 0, fld 16 16 .ro 0]⟩]

/-- Block NET: NET_UDPPORT, NET_RETX, NET_VLAN, … -/
def regsNet : List RegDesc := [
  ⟨"NET_UDPPORT", 0x320000, [], [fldR 0 16 .rw 27264 false (1024) (65535)]⟩,
  ⟨"NET_RETX", 0x320004, [], [fldR 0 8 .rw 5 false (1) (255)]⟩,
  ⟨"NET_VLAN", 0x320008, [], [fld 0 12 .rw 0, fld 12 3 .rw 0]⟩,
  ⟨"NET_RXOK", 0x32000C, [], [fld 0 32 .rc 0]⟩,
  ⟨"NET_RXDROP", 0x320010, [], [fld 0 32 .rc 0]⟩,
  ⟨"NET_DGDROP", 0x320014, [], [fld 0 16 .rc 0, fld 16 16 .rc 0]⟩,
  ⟨"NET_BOOTDROP", 0x320018, [], [fld 0 32 .rc 0]⟩,
  ⟨"NET_BADCREDIT", 0x32001C, [], [fld 0 32 .rc 0]⟩,
  ⟨"NET_PTPCFG", 0x320040, [], [fldR 0 7 .rw 0 false (0) (127), fld 7 1 .rw 0, fld 8 1 .rw 1, fld 9 1 .rw 1, fld 10 1 .rw 0, fld 11 1 .rw 0, fld 12 1 .rw 0, fldR 16 16 .rw 1000 false (1) (65535)]⟩,
  ⟨"NET_PTPHOLD", 0x320044, [], [fldR 0 16 .rw 600 false (1) (65535), fldR 16 8 .rw 100 false (1) (200)]⟩,
  ⟨"NET_PTPSTAT", 0x320048, [], [fld 0 3 .ro 0, fld 3 1 .ro 0, fld 4 2 .ro 3, fld 6 1 .ro 0, fld 7 1 .w1c 0]⟩,
  ⟨"NET_PTPOFS", 0x32004C, [], [fld 0 32 .ro 0]⟩,
  ⟨"NET_PTPFREQ", 0x320050, [], [fld 0 32 .ro 0]⟩,
  ⟨"NET_PTPLATp", 0x320054, [(2, 4)], [fld 0 16 .rw 0, fld 16 16 .rw 0]⟩,
  ⟨"NET_PPSCFG", 0x32005C, [], [fld 0 1 .rw 0, fld 1 1 .rw 0, fldR 8 9 .rw 100 false (1) (500)]⟩,
  ⟨"NET_PPSIN_LO", 0x320060, [], [fld 0 32 .ro 0]⟩,
  ⟨"NET_PPSIN_HI", 0x320064, [], [fld 0 32 .ro 0]⟩,
  ⟨"NET_PTPSTEP", 0x320068, [], [fld 0 32 .ro 0]⟩,
  ⟨"NET_PTPSTEPS", 0x32006C, [], [fld 0 16 .ro 0, fld 16 16 .ro 0]⟩]

/-- Block LEDGER: LEDGER_CFG, LEDGER_INIT, LEDGER_STAT, … -/
def regsLedger : List RegDesc := [
  ⟨"LEDGER_CFG", 0x310000, [], [fld 0 1 .rw 1, fld 1 2 .rw 0, fld 3 2 .rw 0, fldR 8 8 .rw 90 false (10) (90), fldR 16 6 .rw 5 false (1) (50)]⟩,
  ⟨"LEDGER_INIT", 0x310004, [], [fld 0 32 .wk 0]⟩,
  ⟨"LEDGER_STAT", 0x310008, [], [fld 0 4 .ro 0, fld 4 4 .ro 0, fld 8 4 .ro 0, fld 12 1 .ro 0, fld 16 11 .ro 0]⟩,
  ⟨"LEDGER_STAGE", 0x31000C, [], [fld 0 7 .ro 0, fld 8 24 .rc 0]⟩,
  ⟨"LEDGER_SEGFREE", 0x310010, [], [fld 0 28 .ro 0]⟩,
  ⟨"LEDGER_SEGDATA", 0x310014, [], [fld 0 28 .ro 0]⟩,
  ⟨"LEDGER_BOOTCNT", 0x310018, [], [fld 0 32 .ro 0]⟩,
  ⟨"LEDGER_ERR", 0x31001C, [], [fld 0 1 .w1c 0, fld 1 1 .w1c 0, fld 2 1 .w1c 0, fld 3 1 .w1c 0, fld 4 1 .w1c 0, fld 5 1 .w1c 0, fld 6 1 .w1c 0, fld 7 1 .w1c 0, fld 8 1 .w1c 0]⟩,
  ⟨"LEDGER_GAPS", 0x310020, [], [fld 0 16 .ro 0]⟩,
  ⟨"LDRV_STAT", 0x310100, [(4, 32)], [fld 0 1 .ro 0, fld 1 1 .ro 0, fld 2 2 .ro 0, fld 4 3 .ro 0, fld 7 1 .ro 0, fld 8 2 .ro 0, fld 16 16 .ro 0]⟩,
  ⟨"LDRV_BLOCKS_LO", 0x310104, [(4, 32)], [fld 0 32 .ro 0]⟩,
  ⟨"LDRV_BLOCKS_HI", 0x310108, [(4, 32)], [fld 0 32 .ro 0]⟩,
  ⟨"LDRV_RESILVER", 0x31010C, [(4, 32)], [fld 0 28 .ro 0]⟩]

/-- Block PAIR: PAIR_CFG, PAIR_STAT, PAIR_EPOCH, … -/
def regsPair : List RegDesc := [
  ⟨"PAIR_CFG", 0x330000, [], [fldR 0 8 .rw 10 false (1) (200), fldR 8 8 .rw 50 false (10) (255), fld 16 1 .rw 1, fldR 24 8 .rw 60 false (20) (250)]⟩,
  ⟨"PAIR_STAT", 0x330004, [], [fld 0 2 .ro 0, fld 2 2 .ro 0, fld 4 2 .ro 0, fld 6 1 .ro 0, fld 7 1 .ro 0, fld 8 1 .ro 0, fld 9 1 .ro 0, fld 10 1 .ro 0, fld 11 1 .ro 0, fld 12 1 .ro 1, fld 13 1 .ro 0]⟩,
  ⟨"PAIR_EPOCH", 0x330008, [], [fld 0 32 .ro 0]⟩,
  ⟨"PAIR_PSERIAL_LO", 0x33000C, [], [fld 0 32 .ro 0]⟩,
  ⟨"PAIR_PSERIAL_HI", 0x330010, [], [fld 0 32 .ro 0]⟩,
  ⟨"PAIR_LAG", 0x330014, [], [fld 0 16 .ro 0, fld 16 16 .rc 0]⟩,
  ⟨"PAIR_COUNT", 0x330018, [], [fld 0 16 .rc 0, fld 16 16 .ro 0]⟩,
  ⟨"PAIR_TKTIME_LO", 0x33001C, [], [fld 0 32 .ro 0]⟩,
  ⟨"PAIR_TKTIME_HI", 0x330020, [], [fld 0 32 .ro 0]⟩,
  ⟨"PAIR_KEEP", 0x330024, [], [fld 0 1 .ro 0, fld 1 1 .ro 0, fld 2 2 .ro 0, fld 4 1 .ro 0, fld 5 1 .ro 0, fld 16 16 .ro 0]⟩,
  ⟨"PAIR_ERR", 0x330028, [], [fld 0 1 .w1c 0, fld 1 1 .w1c 0, fld 2 1 .w1c 0, fld 3 1 .w1c 0, fld 4 1 .w1c 0, fld 16 16 .rc 0]⟩]

/-- Block KEEP: KEEP_TIME, KEEP_DAY, KEEP_YEAR, … -/
def regsKeep : List RegDesc := [
  ⟨"KEEP_TIME", 0x050000, [], [fldR 0 6 .rw 0 false (0) (59), fldR 8 6 .rw 0 false (0) (59), fldR 16 5 .rw 0 false (0) (23)]⟩,
  ⟨"KEEP_DAY", 0x050004, [], [fld 0 5 .rw 1, fldR 8 4 .rw 1 false (1) (12), fldR 16 3 .rw 0 false (0) (6)]⟩,
  ⟨"KEEP_YEAR", 0x050008, [], [fldR 0 8 .rw 0 false (0) (199), fld 8 1 .ro 0, fld 9 1 .ro 0]⟩,
  ⟨"KEEP_LOAD", 0x05000C, [], [fld 0 1 .wk 0, fld 1 1 .wk 0, fld 16 16 .wk 0]⟩,
  ⟨"KEEP_TRIM", 0x050010, [], [fldR 0 10 .rw 0 true (-511) (511), fld 16 1 .rw 0]⟩,
  ⟨"KEEP_RATE", 0x050014, [], [fld 0 32 .ro 0]⟩,
  ⟨"KEEP_STAT", 0x050018, [], [fld 0 1 .ro 0, fld 1 1 .ro 0, fld 2 1 .w1c 0, fld 3 1 .w1c 0]⟩,
  ⟨"KEEP_ALMaT", 0x050020, [(2, 8)], [fld 0 6 .rw 0, fld 6 1 .rw 0, fld 8 6 .rw 0, fld 14 1 .rw 0, fld 16 5 .rw 0, fld 21 1 .rw 0, fld 31 1 .rw 0]⟩,
  ⟨"KEEP_ALMaD", 0x050024, [(2, 8)], [fld 0 5 .rw 1, fld 5 1 .rw 0, fld 8 4 .rw 1, fld 12 1 .rw 0, fld 16 8 .rw 0, fld 24 1 .rw 0]⟩,
  ⟨"KEEP_PWAKE", 0x050030, [], [fldR 0 23 .rw 64 false (1) (5529600), fld 31 1 .rw 0]⟩,
  ⟨"KEEP_WAKECFG", 0x050034, [], [fld 0 1 .rw 1, fldR 8 8 .rw 10 false (0) (100)]⟩,
  ⟨"KEEP_WAKESRC", 0x050038, [], [fld 0 1 .w1c 0, fld 1 1 .w1c 0, fld 2 1 .w1c 0, fld 3 1 .w1c 0, fld 4 1 .w1c 0, fld 5 1 .w1c 0, fld 6 1 .w1c 0]⟩]

/-- Block PWR: PWR_AUXk_CFG, PWR_AUXk_LIM, PWR_AUXk_TRIM, … -/
def regsPwr : List RegDesc := [
  ⟨"PWR_AUXk_CFG", 0x060000, [(4, 32)], [fldR 0 8 .rw 50 false (20) (200), fld 8 1 .rw 1, fldR 9 2 .rw 0 false (0) (2), fld 11 2 .rw 0, fldR 16 8 .rw 10 false (1) (255)]⟩,
  ⟨"PWR_AUXk_LIM", 0x060004, [(4, 32)], [fldR 0 7 .rw 60 false (10) (75), fldR 8 7 .rw 40 false (5) (75), fldR 16 7 .rw 10 false (1) (100)]⟩,
  ⟨"PWR_AUXk_TRIM", 0x060008, [(4, 32)], [fldR 0 8 .rw 0 true (-100) (100), fldR 16 16 .rw 20 false (1) (65535)]⟩,
  ⟨"PWR_AUXk_STAT", 0x06000C, [(4, 32)], [fld 0 1 .ro 0, fld 1 1 .ro 0, fld 2 1 .ro 0, fld 3 1 .ro 0, fld 4 1 .w1c 0, fld 5 1 .ro 0, fld 6 1 .ro 0, fld 16 16 .ro 0]⟩,
  ⟨"PWR_AUXk_MEAS", 0x060010, [(4, 32)], [fld 0 16 .ro 0, fld 16 16 .ro 0]⟩,
  ⟨"PWR_MONm", 0x060080, [(4, 4)], [fldR 0 11 .rw 0 false (0) (1200), fldR 16 11 .rw 0 false (0) (1200)]⟩,
  ⟨"PWR_MONVm", 0x060090, [(4, 4)], [fld 0 11 .ro 0, fld 11 1 .ro 0]⟩,
  ⟨"PWR_SEQCFG", 0x0600A0, [], [fldR 0 8 .rw 10 false (1) (255)]⟩,
  ⟨"PWR_SEQSTAT", 0x0600A4, [], [fld 0 4 .ro 0, fld 4 2 .ro 0, fld 6 1 .w1c 0, fld 7 1 .w1c 0, fld 8 1 .w1c 0, fld 16 12 .ro 0]⟩,
  ⟨"PWR_TEMP", 0x0600A8, [], [fldR 0 8 .rw 115 false (80) (130), fldR 8 8 .rw 135 false (80) (150), fldR 16 8 .rw 10 false (2) (30)]⟩,
  ⟨"PWR_SLOTs", 0x0600C0, [(16, 4)], [fldR 0 4 .rw 0 false (0) (11), fld 4 1 .rw 0, fldR 5 2 .rw 0 false (0) (2), fld 7 2 .rw 0, fldR 16 8 .rw 10 false (0) (255), fldR 24 8 .rw 20 false (1) (255)]⟩]

/-- Block HLD: HLD_PACK, HLD_CHG, HLD_TERM, … -/
def regsHld : List RegDesc := [
  ⟨"HLD_PACK", 0x070000, [], [fldR 0 4 .rw 10 false (8) (12), fldR 8 15 .rw 4500 false (500) (20000)]⟩,
  ⟨"HLD_CHG", 0x070004, [], [fldR 0 7 .rw 50 false (5) (100), fldR 8 7 .rw 10 false (2) (20), fldR 16 16 .rw 21600 false (7000) (36000)]⟩,
  ⟨"HLD_TERM", 0x070008, [], [fldR 0 5 .rw 4 false (1) (20), fldR 8 8 .rw 5 false (1) (60), fldR 16 9 .rw 100 false (20) (500)]⟩,
  ⟨"HLD_TERM2", 0x07000C, [], [fldR 0 10 .rw 150 false (10) (600), fldR 16 7 .rw 90 false (50) (99)]⟩,
  ⟨"HLD_PATH", 0x070010, [], [fldR 0 16 .rw 16000 false (7000) (30000), fldR 16 10 .rw 1000 false (200) (1000), fld 26 1 .rw 1]⟩,
  ⟨"HLD_HOLD", 0x070014, [], [fldR 0 11 .rw 1100 false (1000) (1250), fldR 16 11 .rw 1000 false (800) (1100)]⟩,
  ⟨"HLD_LOAD", 0x070018, [], [fldR 0 10 .rw 880 false (500) (1000), fld 16 16 .rw 0]⟩,
  ⟨"HLD_CTL", 0x07001C, [], [fld 0 1 .rw 1, fld 1 1 .wo 0, fld 2 1 .wo 0]⟩,
  ⟨"HLD_KICK", 0x070020, [], [fld 0 16 .wk 0]⟩,
  ⟨"HLD_STAT", 0x070024, [], [fld 0 3 .ro 0, fld 3 1 .ro 0, fld 4 1 .ro 0, fld 5 1 .ro 0, fld 8 4 .ro 0, fld 12 3 .ro 0, fld 15 1 .w1c 0, fld 16 1 .w1c 0]⟩,
  ⟨"HLD_MEAS", 0x070028, [], [fld 0 16 .ro 0, fld 16 16 .ro 0]⟩,
  ⟨"HLD_MEAS2", 0x07002C, [], [fld 0 16 .ro 0, fld 16 16 .ro 0]⟩,
  ⟨"HLD_SEARCH", 0x070030, [], [fld 0 16 .ro 0, fld 16 1 .ro 0]⟩]

/-- Block TRAY: TRAY_CFG, TRAY_XCTL, TRAY_XSTAT, … -/
def regsTray : List RegDesc := [
  ⟨"TRAY_CFG", 0x080000, [(4, 256)], [fldR 0 2 .rw 0 false (0) (2), fld 2 1 .rw 1, fld 3 1 .rw 0, fld 4 7 .rw 0, fld 11 1 .rw 0, fld 12 1 .rw 0, fld 16 8 .rw 10]⟩,
  ⟨"TRAY_XCTL", 0x080004, [(4, 256)], [fld 0 7 .rw 0, fldR 8 6 .rw 0 false (0) (32), fldR 16 6 .rw 0 false (0) (32), fld 22 1 .rw 0, fld 24 1 .wo 0, fld 25 1 .wo 0]⟩,
  ⟨"TRAY_XSTAT", 0x080008, [(4, 256)], [fld 0 2 .ro 0, fld 4 4 .ro 0, fld 8 6 .ro 0, fld 16 3 .ro 0]⟩,
  ⟨"TRAY_XDATAi", 0x080020, [(4, 256), (8, 4)], [fld 0 32 .rw 0]⟩,
  ⟨"TRAY_TGTSTAT", 0x080040, [(4, 256)], [fld 0 6 .ro 0, fld 6 1 .w1c 0, fld 7 1 .w1c 0, fld 8 1 .w1c 0]⟩,
  ⟨"TRAY_TGTRXi", 0x080060, [(4, 256), (8, 4)], [fld 0 32 .ro 0]⟩,
  ⟨"TRAY_ALERT", 0x080080, [(4, 256)], [fld 0 1 .ro 0, fld 1 1 .w1c 0, fld 8 7 .ro 0, fld 16 16 .ro 0]⟩,
  ⟨"TRAY_ERR", 0x080084, [(4, 256)], [fld 0 1 .w1c 0, fld 1 1 .ro 0, fld 2 1 .w1c 0, fld 3 1 .w1c 0, fld 16 16 .ro 0]⟩,
  ⟨"TRAY_FIXn", 0x080400, [(64, 4)], [fld 0 2 .rw 0, fld 2 1 .rw 0, fld 3 7 .rw 0, fld 16 8 .rw 0, fld 24 1 .ro 0, fld 25 1 .ro 0]⟩,
  ⟨"TRAY_IDn_LO", 0x080500, [(64, 8)], [fld 0 32 .ro 0]⟩,
  ⟨"TRAY_IDn_HI", 0x080504, [(64, 8)], [fld 0 32 .ro 0]⟩]

/-- Block RST: RST_CAUSE, RST_FLATCH, RST_QTO, … -/
def regsRst : List RegDesc := [
  ⟨"RST_CAUSE", 0x010000, [], [fld 0 4 .ro 0, fld 4 8 .ro 0, fld 16 16 .ro 0]⟩,
  ⟨"RST_FLATCH", 0x010004, [], [fld 0 16 .ro 0, fld 16 1 .ro 0]⟩,
  ⟨"RST_QTO", 0x010008, [], [fldR 0 8 .rw 10 false (1) (100), fldR 16 8 .rw 20 false (5) (100)]⟩,
  ⟨"RST_STAT", 0x01000C, [], [fld 0 6 .ro 0, fld 8 8 .ro 0, fld 16 4 .ro 0, fld 20 12 .ro 0]⟩]

/-- Block WDG: WDG_CTL, WDG_KICK, WDG_KEY, … -/
def regsWdg : List RegDesc := [
  ⟨"WDG_CTL", 0x020000, [(5, 32)], [fld 0 1 .rwl 1, fld 1 1 .rwl 0, fld 2 1 .rwl 0, fldR 8 4 .rw 0 false (0) (12), fldR 16 14 .rw 1000 false (10) (10000)]⟩,
  ⟨"WDG_KICK", 0x020004, [(5, 32)], [fld 0 16 .wk 0]⟩,
  ⟨"WDG_KEY", 0x020008, [(5, 32)], [fld 0 16 .wk 0]⟩,
  ⟨"WDG_STAT", 0x02000C, [(5, 32)], [fld 0 1 .ro 1, fld 1 1 .ro 0, fld 2 1 .w1c 0, fld 3 1 .w1c 0, fld 4 1 .w1c 0, fld 16 16 .ro 0]⟩]

/-- Block EVR: EVR_CLAIMc, EVR_COMPLETEc, EVR_HOLDOFFg, … -/
def regsEvr : List RegDesc := [
  ⟨"EVR_CLAIMc", 0x030000, [(4, 16)], [fld 0 12 .rc 4095]⟩,
  ⟨"EVR_COMPLETEc", 0x030004, [(4, 16)], [fld 0 12 .wo 4095]⟩,
  ⟨"EVR_HOLDOFFg", 0x030100, [(16, 4)], [fld 0 16 .rw 0]⟩,
  ⟨"EVR_SRCi", 0x031000, [(512, 4)], [fld 0 2 .rw 0, fld 2 3 .rw 0, fld 5 1 .rw 0, fld 6 2 .rw 0, fld 8 12 .rw 0, fld 20 1 .rw 0, fld 24 4 .rw 0, fld 31 1 .ro 0]⟩,
  ⟨"EVR_CNTi", 0x032000, [(512, 4)], [fld 0 8 .rc 0]⟩]

/-- Block FLT: FLT_STAT, FLT_LAST, FLT_ALARM, … -/
def regsFlt : List RegDesc := [
  ⟨"FLT_STAT", 0x040000, [], [fld 0 1 .ro 0, fld 1 1 .ro 0, fld 8 8 .ro 0, fld 16 8 .ro 0]⟩,
  ⟨"FLT_LAST", 0x040004, [], [fld 0 16 .ro 0, fld 16 2 .ro 0, fld 18 1 .ro 0]⟩,
  ⟨"FLT_ALARM", 0x040008, [], [fld 0 14 .rw 25, fld 16 14 .ro 0]⟩,
  ⟨"FLT_QUIET", 0x04000C, [], [fldR 0 10 .rw 10 false (1) (600)]⟩,
  ⟨"FLT_RECu", 0x040400, [(128, 4)], [fld 0 16 .ro 0, fld 16 1 .ro 0, fld 17 1 .ro 0, fld 18 1 .ro 0]⟩]

/-- Block NVM: NVM_STAT, NVM_WEAR, NVM_HKEYi, … -/
def regsNvm : List RegDesc := [
  ⟨"NVM_STAT", 0x090000, [], [fld 0 9 .ro 0, fld 9 1 .ro 0, fld 10 6 .ro 0]⟩,
  ⟨"NVM_WEAR", 0x090004, [], [fld 0 17 .ro 0]⟩,
  ⟨"NVM_HKEYi", 0x090040, [(12, 4)], [fld 0 32 .rwl 0]⟩,
  ⟨"NVM_HKCTL", 0x090070, [], [fld 0 1 .rwl 0]⟩]

/-- Every register of the fabric map (DESIGN CHOICE, log entry 8). -/
def regTable : List RegDesc :=
  regsSys ++ regsGather0 ++ regsGather1 ++ regsGather2 ++ regsGather3 ++ regsEis ++ regsBus ++ regsQm ++ regsDma ++ regsNet ++ regsLedger ++ regsPair ++ regsKeep ++ regsPwr ++ regsHld ++ regsTray ++ regsRst ++ regsWdg ++ regsEvr ++ regsFlt ++ regsNvm

end Sys2Proof.Machine
end

