-- ==== Sys2Proof/Machine/StCmd.lean ====
section
/-! DEFINITION. Commands in flight: what a claimed command asks, the completions waiting to be written, and the records and
events waiting to be placed (chapter 12; crossings of R28). -/

namespace Sys2Proof.Machine

open Sys2Proof

/-- What a command asks, one alternative per command of Tables 12-3 to 12-18. -/
inductive CmdOp where
  | identify
  | status
  | qCreate (qkind size hold : Nat) (dflt : Bool) (pair : Nat)
  | qDelete (q : Nat)
  | qBind (q : Nat)
  | qRoute (q : Nat) (mask : Nat)
  | keyWrite (slot : Nat) (secret : List Byte)
  | keyClear (slot : Nat)
  | tenantCreate (ttl : Nat)
  | tenantSuspend (t : Nat)
  | tenantResume (t : Nat)
  | tenantRemove (t : Nat)
  | tenantReenrol (t ttl : Nat)
  | quotaSet (t : Nat) (q : QuotaFields)
  | leaseGrant (l : LeaseFields)
  | leaseModify (l : LeaseFields)
  | leaseEnd
  | leaseRead
  | tenantRead (t : Nat)
  | progWrite (steps : List (Nat × StepWord))
  | progLen (len : Nat)
  | progRead (which first count : Nat)
  | progDiscard
  | commit (checkOnly : Bool)
  | varWrite (pairs : List (Nat × Nat))
  | varRead
  | signal (sig : Nat) (mask : Nat)
  | start (entry : Nat)
  | stop
  | pause
  | resume (restart : Nat)
  | clear
  | measCfg (setRate setRange : Bool) (rate rng fix : Nat)
  | measRead
  | coefRead (layer qty : Nat)
  | chRead
  | estSet (f : EstFields)
  | ocvTable (pts : List (Nat × Int))
  | estRead (table : Bool)
  | relearn
  | counterRead
  | meterRead (t : Nat)
  | meterClose
  | meterLimits (imp exp : Nat)
  | meterSched (first : Nat) (words : List Nat)
  | ledgerRead
  | ledgerFetch (from_ to_ mask queue : Nat) (periodic : Bool)
  | ledgerRetain (t days : Nat)
  | ledgerSeal
  | pairRead
  | handover (deadline : Nat)
  | timeRead
  | timeSet (cal : CalTime) (date wday : Bool)
  | summer (forward : Bool)
  | wakeSet (which : Nat) (en : Bool) (cal : CalTime) (period : Nat)
  | calTrim (pulses : Int)
  | powerRead
  | ship
  | warmReset
  | blockReset (block : Nat)
  | svcEnter
  | svcExit
  | houseClear
  | faultAck (code : Nat)
  | selftest (g kind : Nat)
  | refcheck (g ppm : Nat)
  | retest (g conv : Nat) (d : List (Int × Int)) (noise : List Nat)
  | nvmStat
  | nvmScrub
  | setTimes (idle storm : Nat)
  | calWrite (pairs : List CalPair)
  | fwData (offset : Nat) (data : List Byte)
  | fwFinish (sigOk : Bool)
  | fwAbandon
  | regRead (addr count : Nat)
  | regWrite (addr : Nat) (data : List Nat)
  | badTrain (op : Nat)               -- TCNT outside the command's column (R465)
  | badField (op index : Nat)         -- a payload no field value of the command can carry (R21)
  | unknown (op : Nat)                -- KIND not assigned (R465)
  deriving DecidableEq, Repr

/-- A completion waiting to be written (Table 12-1). -/
structure Reply where
  head    : CmdHead
  opcode  : Nat
  status  : Status
  index   : Nat := 65535
  detail  : Nat := 0
  applied : Nat := 0
  results : List (List Byte) := []    -- RESULT of each entry, 32 bytes; none is one entry of zeros
  stepref : Nat := 65535
  calgen  : Nat := 0
  deriving DecidableEq, Repr

/-- A record on its way to the queue manager (R398). -/
structure RecIn where
  kind     : Nat
  tenant   : Nat
  channel  : Nat
  corr     : Nat := 0
  stepref  : Nat := 65535
  calgen   : Nat := 0
  stale    : Bool := false
  twin     : Bool := false
  time     : Nat := 0                 -- PTP time by which R459, R460 and R400 judge it
  periodic : Bool := false
  payloads : List (List Byte)
  queue    : Option Nat := none       -- a queue named by the producer (a fetch, R515)
  staged   : Bool := true             -- goes to ledger staging too (R398)
  holdT    : Option Nat := none       -- waits for its twin sample until this time (R244)
  deriving DecidableEq, Repr

/-- An event on its way to the queue manager (R472, R455). -/
structure EvtIn where
  kind     : Nat
  tenant   : Nat                      -- TENANT of the tag
  dest     : Nat                      -- the tenant whose default event queue takes it
  channel  : Nat := 255
  corr     : Nat := 0
  stepref  : Nat := 65535
  calgen   : Nat := 0
  urgent   : Bool := false
  time     : Nat := 0
  payloads : List (List Byte)
  deriving DecidableEq, Repr

end Sys2Proof.Machine
end

