-- ==== Sys2Proof/Machine/StBoard.lean ====
section
/-! DEFINITION. State of the ledger, the timebases and KEEP, the board power and holdup, and the tray bus (chapters 13 to 17).
Registers of these blocks that are not named here stand in the register list of the state. -/

namespace Sys2Proof.Machine

open Sys2Proof

/-! ### Ledger -/

/-- A ledger batch (Table 13-7). -/
structure Batch where
  stream  : Nat
  btype   : Nat
  cause   : Nat
  bseq    : Nat := 0               -- given when the batch is written out, as LADDR and CHAIN are
  laddr   : Nat := 0
  nblk    : Nat
  entries : List Entry
  raw     : List (List Byte) := []  -- 64-byte entries of a key batch (R492)
  bootcnt : Nat := 0
  epoch   : Nat := 0
  keygen  : Nat := 0
  first   : Nat
  last    : Nat
  sealt   : Nat
  bytes   : List Byte := []        -- header, sealed body and tag as written
  chain   : List Byte := []        -- CHAIN (R502)
  tries   : Nat := 0               -- segments in which its Write has failed (R511)
  written : Bool := false          -- its Write has been issued
  deriving DecidableEq, Repr

/-- One stream (R490). -/
structure Stream where
  num      : Nat
  keygen   : Nat := 0              -- KEYGEN; 0 before the first key batch
  bseq     : Nat := 0              -- BSEQ of the newest batch written out
  chain    : List Byte := List.replicate 32 0
  open_    : List (Entry × Nat) := []   -- the open batch: entries and the times they entered staging
  needKey  : Bool := true          -- a key batch is due before the next data batch (R492)
  seg      : Option (Nat × Nat) := none -- open segment and its next free block
  missed   : Nat := 0              -- records not staged (R503)
  missT0   : Nat := 0
  missT1   : Nat := 0
  durable  : Nat := 0              -- BSEQ of the newest durable batch
  lastSeal : Nat := 0              -- SEALTIME and LADDR of the newest batch
  lastAddr : Nat := 0
  tailLast : Nat := 0              -- LAST of the newest durable batch
  deriving DecidableEq, Repr

/-- A segment table entry that is not free (Table 13-6). -/
structure Seg where
  num    : Nat
  stream : Nat
  full   : Bool := false
  firstB : Nat
  lastB  : Nat := 0
  newest : Nat := 0
  deriving DecidableEq, Repr

/-- One drive (Table 13-19). -/
structure Drive where
  present : Bool := false
  linkUp  : Bool := false
  width   : Nat := 0
  speed   : Nat := 0
  labelOk : Bool := false
  state   : Nat := 0               -- 0 offline, 1 online, 2 resilvering, 3 lost
  blocks  : Nat := 0
  sn      : Nat := 0
  errs    : Nat := 0
  errT    : List Nat := []         -- times of the failed commands of the last 60 s (R512)
  deriving DecidableEq, Repr

/-- The NVMe commands that the part issues (Table 13-3, R482); addresses and lengths are in 4 KiB blocks. -/
inductive NvmeOp where
  | identifyController | identifyNamespace | setWriteCache | setQueues | createCq | createSq | deleteSq | deleteCq | errorLog | smartLog
  | write (lba : Nat) (data : List Byte)
  | read (lba blocks : Nat)
  | writeZeroes (lba blocks : Nat)
  | flush
  deriving DecidableEq, Repr

/-- An NVMe command and the drive that it goes to. -/
structure NvmeCmd where
  drive : Nat
  op    : NvmeOp
  deriving DecidableEq, Repr

/-- States of the ledger (Table 13-13). -/
inductive LedgerSt where
  | off | discovering | mounted | degraded | full | unlabelled | foreign | incomplete | failed
  deriving DecidableEq, Repr

/-- A running LEDGER_FETCH (R515). -/
structure Fetch where
  head     : CmdHead
  from_    : Nat
  to_      : Nat
  mask     : Nat
  queue    : Nat
  periodic : Bool
  next     : Nat                   -- BSEQ of the next batch to read
  placed   : Nat := 0              -- records placed so far
  deriving DecidableEq, Repr

/-- The ledger island (R478 to R518) (DESIGN CHOICE, log entry 3). -/
structure Ledger where
  st       : LedgerSt := .off
  running  : Bool := false         -- the root port runs (R478)
  bifur    : Nat := 0              -- BIFUR and ARRANGE in force
  arrange  : Nat := 0
  drives   : List Drive := [{}, {}, {}, {}]
  labelSns : List Nat := []        -- serial numbers of the label's drives
  nseg     : Nat := 0
  bootcnt  : Nat := 0
  bootNvm  : Nat := 0              -- BOOTCNT in NVM
  cntSeq   : Nat := 0              -- the last copy of counters and meters in label segment 0, and its first block (R687)
  cntBlock : Nat := 0
  shut     : Nat := 0              -- the shutdown record: SHUT, BOOTCNT and PTP time (R486)
  shutBoot : Nat := 0
  shutT    : Nat := 0
  initPtp  : Nat := 0              -- PTP time of initialisation in the label (Table 13-5)
  io       : List NvmeCmd := []    -- NVMe commands issued, newest first (R482)
  flight   : List Batch := []      -- batches whose Write had no Flush when the island was held (R508)
  tickT    : Nat := 0              -- PTP time of the last seal tick (R496)
  lastKeys : List (Nat × List Byte) := []   -- data keys of removed tenants until their last batch is durable (R491)
  streams  : List Stream := []
  segs     : List Seg := []        -- data segments that are open or full
  sealed_  : List Batch := []      -- sealed, not durable, oldest first
  stored   : List Batch := []      -- durable batches on the drives, oldest first
  gapN     : Nat := 0
  raised   : Bool := false         -- STAGING_FULL raised since the reserve was last empty
  lowSent  : Bool := false         -- the space-low event sent
  reclaimT : Nat := 0
  initT    : Option Nat := none    -- time of the first key write of R518
  initBusy : Bool := false
  fetches  : List Fetch := []
  seals    : List (CmdHead × Nat × Nat) := []   -- LEDGER_SEAL waiting: command, stream, sealed batches still to become durable
  kd255    : List Byte := []       -- data key of the metadata stream, in NVM (R491)
  retain   : List (Nat × Nat) := []  -- retention in days of each stream that has one (R505)
  perst    : Bool := true          -- PERST_N held low
  sealint  : Nat := 90             -- SEALINT and LOWPCT in force since the last seal round (R517)
  lowpct   : Nat := 5
  deriving DecidableEq, Repr

/-! ### Timebases and KEEP -/

/-- The states of the timebase (Table 15-3). -/
inductive PtpSt where
  | unset | seeded | locking | locked | holdover | mains | freerun
  deriving DecidableEq, Repr

/-- The pair that KEEP memory stores (R575): the elapsed count, the PTP time, and the last ratio of the crystal to PTP, as counts over ns. -/
structure ElapsedPair where
  count : Nat
  ptp   : Nat
  dc    : Nat := 32768
  dp    : Nat := 1000000000
  deriving DecidableEq, Repr

/-- Calendar, wake and PTP (chapter 15) (DESIGN CHOICE, log entry 3). -/
structure TimeSt where
  cal      : CalTime := {}
  valid    : Bool := false
  rcond    : Bool := false         -- an uninterrupted KEEP since the stored pair (R575)
  tickT    : Nat := 0              -- time of the last second tick or load
  stamp    : Nat := 0              -- PTP stamp of the last second tick (R567)
  sumReq   : Option (Bool × CmdHead) := none   -- a SUMMER step waiting for the next tick (R558)
  fired0   : Option CalTime := none    -- last firing of each alarm, in local time (R558)
  fired1   : Option CalTime := none
  repeat_  : Nat := 0              -- seconds left of the hour repeated by a back step
  frozen   : Option (CalTime × Bool) := none   -- read shadows: fields and VALID (R559)
  frozenT  : Nat := 0
  trim     : Int := 0              -- TRIM in force (R560)
  pwakeT   : Nat := 0              -- time of the last start or expiry of the periodic wake
  xtalOk   : Bool := false         -- XTALOK: crystal edges arrive
  xtalBad  : Bool := false         -- no edge for 1 ms since the last tick (R562)
  loadT    : Option Nat := none    -- time of the last load, which wins over a tick in the same KEEP tick (R557)
  pair     : Option ElapsedPair := none   -- stored pair (R575)
  pairLive : Bool := false         -- it was stored in this BOOT, with no step of PTP time since
  lockT    : Nat := 0              -- LOCKED was entered, or the last locked hour ended (R561)
  netNext  : List (Nat × Nat) := []    -- NET writes that take effect at the next Sync (R580)
  rolled   : Bool := false
  vkeepLost : Bool := false        -- reported at BOOT (Table 15-5)
  pwron    : Bool := true          -- PWRON_N driven low
  pwroffT  : Option Nat := none    -- PWRON_N was released at this time (R564)
  wake     : Bool := false         -- a wake is latched and has not taken effect
  wakecause : Nat := 0
  ptp      : PtpSt := .unset
  slave    : Nat := 3
  rank0    : Option Nat := none    -- the best master heard on each port
  rank1    : Option Nat := none
  inN      : Nat := 0              -- consecutive offsets within 50 ns
  outN     : Nat := 0              -- consecutive offsets beyond 500 ns
  stepPend : Option Int := none    -- a backward step waiting (R572)
  holdT    : Nat := 0              -- entry to HOLDOVER
  freq     : Int := 0              -- frequency correction, 0.001 ppm
  delay0   : Nat := 0              -- mean path delay of each port, ns
  delay1   : Nat := 0
  mainsT   : Nat := 0              -- start of the MAINS window
  ppsHigh  : Option Nat := none    -- PPS_OUT rose at this PTP time
  tunsync  : Bool := false         -- the running output window was cut by a step (R572)
  ppsHi    : Option Nat := none    -- NET_PPSIN_HI frozen by a read of _LO (Table 15-24)
  deriving DecidableEq, Repr

/-! ### Board power -/

/-- Path states (Table 16-3). -/
inductive PathSt where
  | input | holdup | returning | test | parked | open_
  deriving DecidableEq, Repr

/-- Charger states (Table 16-4). -/
inductive ChgSt where
  | off | qual | pre | fast | full | suspend | safe | fault | test
  deriving DecidableEq, Repr

/-- One AUX controller (R583 to R588). -/
structure Aux where
  on      : Bool := false
  pgood   : Bool := false
  de      : Bool := false
  latched : Bool := false
  twarn   : Bool := false
  hicT    : List Nat := []         -- times of the hiccups of the last second
  stopped : Bool := false          -- stopped for the 10 ms of a hiccup
  onT     : Nat := 0               -- time at which it was enabled or restarted, and FB in µV then (R583)
  fb0     : Nat := 0
  overT   : Option Nat := none     -- the 1 ms mean has exceeded ISLOW since this time (R586)
  deriving DecidableEq, Repr

/-- Board power and holdup (chapter 16) (DESIGN CHOICE, log entry 3). -/
structure PowerSt where
  path    : PathSt := .input
  chg     : ChgSt := .off
  holdok  : Bool := false
  present : Bool := false
  input   : Bool := false
  endcause : Nat := 0
  rd      : Readings := {}
  aux     : Vector Aux 4 := Vector.replicate 4 {}
  slot    : Nat := 0               -- sequencer slot in progress or last run
  slotT   : Nat := 0               -- time at which its target was asserted, or the last one released (R590, R592)
  condT   : Option Nat := none     -- its condition has held since this time
  rdT     : Nat := 0               -- time of the last readings, of the last 1 s mean, of the last search step
  meanT   : Nat := 0
  stepT   : Nat := 0
  phase   : Nat := 0               -- PHASE of PWR_SEQSTAT
  ran     : List Nat := []         -- slots asserted, newest first
  onMask  : Nat := 0
  inputT  : Nat := 0               -- time since which the input has been present
  packT   : Nat := 0               -- time at which the path left INPUT
  search  : Nat := 0               -- search limit, mA
  searchT : Option Nat := none     -- start of the 60 s hold
  chgT    : Nat := 0               -- entry to the charger state
  means   : List (Nat × Int) := [] -- 1 s means of PACK_V and of the temperature, newest first, at most 61
  vMax    : Nat := 0               -- highest 1 s mean of PACK_V in FAST
  kickT   : Nat := 0               -- last contact
  fallback : Bool := false         -- the watchdog fallback holds (R608)
  wdDue   : Bool := false          -- a watchdog expiry waits for INPUT (R609)
  contact : Bool := false          -- a contact since the fallback
  ntcBad  : Bool := false
  snap    : List Byte := []        -- snapshot in KEEP memory, 256 bytes once written
  snaps   : Nat := 0
  ship    : Bool := false          -- this Lehr follows a SHIP request
  longT   : Option Nat := none     -- a long press opened the path
  tshutT  : Option Nat := none     -- AUX_TSHUT taken
  failed  : Bool := false          -- the power-down follows a slot that failed (PHASE 3 at its end)
  lehrRest : Bool := false         -- LEHR_RAMP_DONE has been taken
  lehrSealT : Nat := 0
  pack    : EstSt := {}            -- the pack estimator (R344)
  next    : List (Nat × Nat) := []   -- PWR writes that take effect at the next WAKE: address, word
  deriving DecidableEq, Repr

/-! ### Tray bus -/

/-- What a tray port runs (R620). -/
inductive TrayJob where
  | alert | xfer | poll (addr ofs : Nat)
  deriving DecidableEq, Repr

/-- One tray port beyond its registers (chapter 17). -/
structure TrayPort where
  active  : Option TrayJob := none
  xferReq : Bool := false          -- GO waits for the bus
  abort   : Bool := false
  alertReq : Bool := false
  polls   : List (Nat × Nat) := [] -- identities due, in order: address, offset
  losses  : Nat := 0
  round   : Bool := false          -- an alert round is open
  fails   : List (Nat × Nat × Nat) := []   -- identity and failed polls in a row
  firstDone : List (Nat × Nat) := []       -- identities read since BOOT (R632)
  freeT   : Nat := 50000           -- the bus counts as free from this time of REFCLK on while it is idle (R619)
  cfg     : Option Nat := none     -- TRAY_CFG as written while the bus was not free (R637)
  alertT  : Option Nat := none     -- end of the last alert read (R629)
  pollT   : Nat := 0               -- the last identity poll (R632)
  lockT   : Nat := 0               -- the last bus recovery that failed (R623)
  deriving DecidableEq, Repr

/-- Everything of chapters 13 to 17 (DESIGN CHOICE, log entry 3). -/
structure Board where
  owner    : Bool := false            -- the part holds the Pipe (OWNER of SYS_MODE)
  pipeIn   : Bool := false
  fenceIn  : Bool := false
  pipeOut  : Bool := false
  fenceOut : Bool := false
  barred   : Bool := false            -- PIPE_IN or FENCE_IN has risen since the part took the Pipe (R69)
  formed   : Bool := false            -- a pair has formed in this BOOT
  pair     : Pair := {}
  time     : TimeSt := {}
  pwr      : PowerSt := {}
  led      : Ledger := {}
  tray     : Vector TrayPort 4 := Vector.replicate 4 {}
  found    : List (Nat × Nat) := []   -- cell changes found while the Steward cores stalled: channel and reason (R633)
  echoes   : List (Nat × Nat) := []   -- ICMP echo answers of the last second: port and time (R403)
  deriving DecidableEq, Repr

/-- PTP time is valid in every state but UNSET (R570). -/
def Board.ptpValid (b : Board) : Bool := b.time.ptp != .unset

/-- The timebase is LOCKED. -/
def Board.ptpLocked (b : Board) : Bool := b.time.ptp == .locked

/-- The link is up while a lane is (R520). -/
def Board.linkUp (b : Board) : Bool := b.pair.lanes != 0

end Sys2Proof.Machine
end

