-- ==== Sys2Proof/Machine/StFault.lean ====
section
/-! DEFINITION. State of the fault collector, the reset controller, the watchdogs, the event router, the boot flash and internal
NVM (chapter 18). -/

namespace Sys2Proof.Machine

open Sys2Proof

/-- A fault on its way to the collector: 0xUUCC, its time, the CORR its event carries, the channel data of Table 12-23 and
the detail bytes P16 to P27. -/
structure FaultIn where
  uu     : Nat
  cc     : Nat
  time   : Nat := 0
  corr   : Nat := 0
  stepref : Nat := 65535              -- the step in execution when it arose (R35)
  detail : List Byte := []
  fenceUnit : Option Nat := none      -- the unit that the fault's rule names, when it is not UU (R673)
  reportOnly : Bool := false          -- an F fault of LEHR reported at the next BOOT (R82)
  deriving DecidableEq, Repr

/-- A fault that awaits FAULT_ACK (R675). -/
structure Pending where
  uu  : Nat
  cc  : Nat
  cls : FClass
  deriving DecidableEq, Repr

/-- A fence (R673, R678): the fenced unit, the fault code behind it, and where its quiet period and recovery stand. -/
structure Fence where
  unit     : Nat
  uu       : Nat
  cc       : Nat
  needAck  : Bool := false            -- the quiet period starts only at FAULT_ACK (Table 18-9)
  quietT   : Option Nat := none       -- start of the quiet period
  recov    : Bool := false            -- the recovery runs
  probation : Bool := false           -- R678
  failed   : Bool := false            -- the recovery failed; a FAULT_ACK starts a new quiet period
  deriving DecidableEq, Repr

/-- The fault collector (R673 to R679, Tables 18-24 to 18-28) (DESIGN CHOICE, log entry 3). -/
structure Collector where
  fifo    : List FaultIn := []        -- faults not yet taken, oldest first
  pend    : List Pending := []        -- awaiting FAULT_ACK
  counts  : List (Nat × Nat) := []    -- occurrences of each code since BOOT (Table 12-24)
  fences  : List Fence := []
  recovs  : List (Nat × Nat) := []    -- recovery counters in NVM (R678)
  lastCode : Nat := 0                 -- FLT_LAST
  lastCls  : FClass := .c
  lastEsc  : Bool := false
  lifted   : Nat := 0                 -- the code behind the fence that lifted last (Table 03-10)
  /-- a fault kept in the KEEP snapshot during LEHR and reported at the next BOOT (R82) -/
  kept    : List Nat := []
  deriving DecidableEq, Repr

/-- One watchdog beyond its registers (R657 to R663). -/
structure Wdg where
  base    : Nat := 0                  -- time at which the period began
  hard    : Option Nat := none        -- time at which the hard timer began
  keyT    : Option Nat := none        -- time of the first key write of R663
  newPer  : Option Nat := none        -- a PERIOD write waiting for the next kick (R659)
  newWin  : Option Nat := none        -- a WSTART write waiting for the next kick
  expiries : Nat := 0
  trap    : Bool := false             -- the non-maskable trap of R660 is raised on the guarded processor
  deriving DecidableEq, Repr

/-- One shared source of the event router (R664 to R671). -/
structure EvrSrc where
  id      : Nat
  line    : Bool := false             -- the accepted level of the input
  pend    : Bool := false             -- pending
  pendT   : Nat := 0                  -- time at which it became deliverable
  claimed : Option Nat := none        -- the core that has claimed it and not completed it
  offT    : Option Nat := none        -- time at which EN was cleared (R668)
  count   : Nat := 0                  -- EVR_CNTi
  deriving DecidableEq, Repr

/-- The event router: sources that differ from their reset state, the delivery of each core and the hold-off of each group. -/
structure Evr where
  srcs    : List EvrSrc := []
  deliv   : List (Option Nat) := [none, none, none, none]   -- the source delivered to each core
  holdT   : List (Nat × Nat) := []    -- group, time of its last delivery (R667)
  deriving DecidableEq, Repr

/-- A block reset in progress (R654). -/
structure BlockReset where
  block   : Nat                       -- UU code
  head    : Option CmdHead            -- the commands that wait for its return (none for a recovery)
  more    : List CmdHead := []        -- later requests that complete when this reset ends (R655)
  quieted : Bool := false             -- quiesce done; the block is held
  at_     : Nat := 0                  -- time of the request, and then of the hold
  deriving DecidableEq, Repr

/-- The header of the image that the model's flash holds at reset: IMAGIC, format 1, Eloawen 3.2 build 0, SECVER 0 and an empty body
(Table 18-4; log entry 30). -/
def imageHeader : List Byte := leBytes 4 0x4D495653 ++ leBytes 2 1 ++ leBytes 1 3 ++ leBytes 1 2 ++ zeros 16

/-- A firmware image slot: what R649 reads of it. -/
structure Slot where
  image   : List Byte := []           -- written bytes from offset 0
  deriving DecidableEq, Repr

/-- The boot flash (R646 to R649) (DESIGN CHOICE, log entry 3; DESIGN CHOICE, log entry 30). -/
structure Flash where
  primary : Nat := 0                  -- PRIMARY of the directory in force
  dseq    : Nat := 0
  running : Nat := 0                  -- slot of the running image
  slot0   : Slot := { image := imageHeader }
  slot1   : Slot := {}
  deriving DecidableEq, Repr

/-- A row of internal NVM that has been erased: how often, and a mask of its 64 units that are programmed (R682, R686). -/
structure NvmRow where
  row    : Nat                         -- 0 to 4095, spares from 4096
  erases : Nat := 0
  units  : Nat := 0
  deriving DecidableEq, Repr

/-- A copy of a structure of a region: its row, and its number in the order of writing (R684). -/
structure NvmCopy where
  region : Nat
  seq    : Nat
  row    : Nat
  deriving DecidableEq, Repr

/-- Internal NVM beyond the structures that other chapters keep in it (R682 to R687) (DESIGN CHOICE, log entry 3; DESIGN CHOICE, log entry 8). -/
structure Nvm where
  spares  : Nat := 256
  roMask  : Nat := 0
  maxErase : Nat := 0
  minSecver : Nat := 0                -- R650
  hken    : Bool := false             -- R651
  marked  : List Nat := []            -- rows marked for rewrite (R685)
  rows    : List NvmRow := []         -- rows erased at least once
  moved   : List (Nat × Nat) := []    -- retired rows and their replacements (R686)
  weak    : List Nat := []            -- rows that fail their verify: a condition of the medium
  copies  : List NvmCopy := []        -- newest first (R684)
  calBy   : List (CmdHead × Nat × List Nat) := []   -- CAL_WRITEs that wait for their Gathers: generation, channels (R225)
  busy    : Bool := false
  regs    : List (Nat × Nat) := []    -- copies of the PWR and HLD registers (R581)
  deriving DecidableEq, Repr

/-- Reset controller state in KEEP memory and in the warden (R638 to R644, Tables 18-13 to 18-16)
(DESIGN CHOICE, log entry 3; DESIGN CHOICE, log entry 8). -/
structure Rst where
  kind    : Nat := 1                  -- 1 cold, 2 warm
  source  : Nat := 1                  -- 0x01 power-on
  warms   : Nat := 0
  fcode   : Nat := 0                  -- F latch of R644
  latched : Bool := false
  blocks  : List BlockReset := []
  coreRst : Nat := 0                  -- cores in reset, one bit each
  stalled : Nat := 0                  -- Steward cores that stall until their reset, one bit each (R642, R660)
  noClk   : Bool := false             -- REFCLK is lost: the PLL islands stand still (R41)
  wdnT    : Nat := 0                  -- time at which the warden was released: the lamps' time base (R107)
  coreResets : Nat := 0
  coreTimes : List Nat := []          -- times of the core resets of the last 60 s (R643)
  warm    : Bool := false             -- a warm reset holds its islands (R640)
  ledgerQuiesce : Bool := false       -- the ledger island still quiesces in a warm reset (R640)
  quiesceT : Nat := 0                 -- time at which that quiesce times out
  commanded : Bool := false           -- a commanded warm reset waits 10 ms (R640)
  commandedSrc : Nat := 8
  commandedT : Nat := 0               -- time of its completion
  deriving DecidableEq, Repr

end Sys2Proof.Machine
end

