-- ==== Sys2Proof/Machine/State.lean ====
section
/-! DEFINITION. The state of the SV7264 as plain data, the reasons a step can stop, and the state right after reset. -/

namespace Sys2Proof.Machine

open Sys2Proof

/-- Why the block stops with a fault. -/
inductive Fault where
  /-- A register write that names an address outside every extent of Table 01-3 (R27: outside the fabric map); raised by
  REGISTER_WRITE alone. Safe: the spec gives such an access no effect. -/
  | outsideFabric
  deriving DecidableEq, Repr

/-- Why a command has no meaning. -/
inductive Refusal where
  /-- The command is not modelled. Safe. -/
  | notModelled (mnemonic : String)
  deriving DecidableEq, Repr

/-- The eight Gathers of a part, in reset (R242). -/
def gathersReset : Vector Gather 8 := Vector.replicate 8 {}

/-- The 64 channels of a part, RELEASED (R48, Table 04-19). -/
def chansReset : Vector Chan 64 := Vector.replicate 64 {}

/-- The four local queues of R375: 64 entries each, tenant 0, HOLD 16 under R415. -/
def localQueues : List Queue :=
  [{ num := 0, kind := .command, local_ := true, size := 2, tenant := 0, pair := some 1, base := 12032 },
   { num := 1, kind := .completion, local_ := true, size := 2, tenant := 0, base := 12036 },
   { num := 2, kind := .record, local_ := true, size := 2, tenant := 0, holdCap := 16, base := 12040 },
   { num := 3, kind := .event, local_ := true, size := 2, tenant := 0, base := 12044 }]

/-- Refill per ns and capacity of a bucket are counted in 1 / (4 * 10^9) of a token (R455). -/
def bucketCap (cls evrate : Nat) : Nat :=
  let perSec := if cls = 0 then evrate * 2 else evrate          -- quarter tokens per second
  Nat.max (perSec * 1000000000) (16 * 4000000000)

/-- The house tenant as it always exists (R426, Table 11-4, R430). -/
def houseTenant : Tenant :=
  { num := 0, qSess := 64, qQueues := 64, qRingKib := 1024, qRecRate := 100000, qEvRate := 10000,
    bucket0 := { level := bucketCap 0 10000 }, bucket1 := { level := bucketCap 1 10000 },
    bucket2 := { level := bucketCap 2 10000 } }

/-- The whole state of the part. -/
structure State where
  /-- time since power-on in ns, from REFCLK: the model's own clock (log entry 1) -/
  now        : Nat := 0
  /-- PTP time in ns (chapter 15) -/
  ptp        : Nat := 0
  /-- the model's own count of free values drawn (log entry 2) -/
  draws      : Nat := 0
  /-- option fuses L, Z, T, M in bits 0 to 3 (Table 03-6; R4) -/
  opt        : Nat := 15
  /-- serial number fuses (Table 03-7) -/
  serial     : Nat := 0
  /-- RAW of CFG_STRAP (R75, Table 03-12); reset: an open ball -/
  strapRaw   : Nat := 63
  /-- VALID of SYS_STRAP -/
  strapValid : Bool := false
  /-- running image: major, minor, build (Table 03-8); none until BOOT accepts an image -/
  fw         : Option (Nat × Nat × Nat) := none
  /-- SYS block mode registers -/
  mode       : ModeSt := {}
  /-- registers that software writes or that count, by fabric address; only those that differ from their reset value -/
  regs       : List (Nat × Word32) := []
  gathers    : Vector Gather 8 := gathersReset
  chans      : Vector Chan 64 := chansReset
  /-- queues that exist (R375) -/
  queues     : List Queue := localQueues
  tenants    : List Tenant := [houseTenant]
  sessions   : List Session := []
  establish  : List Establish := []
  throttles  : List Throttle := []
  /-- frames the network island has sent, newest first -/
  sent       : List Sent := []
  /-- Ethernet links that are up, one bit per port -/
  links      : Nat := 3
  localPort  : LocalPort := {}
  dma        : Vector DmaChan 32 := Vector.replicate 32 {}
  /-- stored bytes of the Crucible that differ from zero, by offset (R377, Table 10-2); the rings' entries stand in `queues` -/
  cru        : List Host.Cell := []
  /-- completions waiting to be written (R30) -/
  inflight   : List Reply := []
  /-- claimed commands that wait for a channel (R469) -/
  waiting    : List (CmdHead × CmdOp) := []
  recFifo    : List RecIn := []
  evtFifo    : List EvtIn := []
  col        : Collector := {}
  wdg        : Vector Wdg 5 := Vector.replicate 5 {}
  evr        : Evr := {}
  rst        : Rst := {}
  nvm        : Nvm := {}
  flash      : Flash := {}
  /-- leases in NVM, by leader channel (R442) -/
  leases     : List (Nat × Lease) := []
  barriers   : List Barrier := []
  bal        : BalSt := {}
  met        : MeterSt := {}
  /-- SESSIDLE in s and STORMQUIET in 0.1 s (R439, R461), kept in NVM -/
  sessidle   : Nat := 30
  stormquiet : Nat := 10
  /-- the part-wide storm of R461 -/
  storm      : Option Storm := none
  /-- calibration generation counter in NVM (R223) -/
  calgenCtr  : Nat := 0
  /-- the part's board: time, KEEP, power, pack, pair, ledger, tray -/
  board      : Board := {}
  /-- commands and events waiting, first in, first out -/
  pending    : List Instr := []
  deriving DecidableEq, Repr

/-- The part right after a power-on reset, at the start of BOOT (R23, Table 03-9). -/
def State.reset : State := {}

end Sys2Proof.Machine
end

