-- ==== Sys2Proof/Machine/Ops.lean ====
section
/-! DEFINITION. Named operations over the state: channels, Gathers, registers, leases, gangs, draws, records, events and faults on
their way. -/

namespace Sys2Proof.Machine

open Sys2Proof

/-! ### Channels and Gathers (R25) -/

/-- The Gather of a channel: n / 8, rounded down (R25). -/
def gOf (c : ChanNo) : GatherNo := ⟨c.val / 8, by omega⟩

/-- The index of a channel in its Gather. -/
def kOf (c : ChanNo) : Nat := c.val % 8

/-- Channel k of Gather g (R25). -/
def chOf (g : GatherNo) (k : Fin 8) : ChanNo := ⟨8 * g.val + k.val, by omega⟩

/-- The channels of a Gather. -/
def chansOf (g : GatherNo) : List ChanNo := (List.finRange 8).map (chOf g)

/-- A channel number from an operand. -/
def chan? (n : Nat) : Option ChanNo := if h : n < 64 then some ⟨n, h⟩ else none

/-- A Gather number from an operand. -/
def gather? (n : Nat) : Option GatherNo := if h : n < 8 then some ⟨n, h⟩ else none

def State.chan (s : State) (c : ChanNo) : Chan := s.chans[c]

def State.gat (s : State) (g : GatherNo) : Gather := s.gathers[g]

/-- Change one channel. -/
def State.onChan (s : State) (c : ChanNo) (f : Chan → Chan) : State :=
  { s with chans := s.chans.set c (f (s.chan c)) }

/-- Change one Gather. -/
def State.onGat (s : State) (g : GatherNo) (f : Gather → Gather) : State :=
  { s with gathers := s.gathers.set g (f (s.gat g)) }

/-- Change the loop part of a channel. -/
def State.onLoop (s : State) (c : ChanNo) (f : LoopSt → LoopSt) : State :=
  s.onChan c (fun x => { x with loop := f x.loop })

def State.onProt (s : State) (c : ChanNo) (f : ProtSt → ProtSt) : State :=
  s.onChan c (fun x => { x with prot := f x.prot })

def State.onMeas (s : State) (c : ChanNo) (f : MeasSt → MeasSt) : State :=
  s.onChan c (fun x => { x with meas := f x.meas })

def State.onProg (s : State) (c : ChanNo) (f : ProgSt → ProgSt) : State :=
  s.onChan c (fun x => { x with prog := f x.prog })

def State.onEis (s : State) (c : ChanNo) (f : EisSt → EisSt) : State :=
  s.onChan c (fun x => { x with eis := f x.eis })

def State.onEst (s : State) (c : ChanNo) (f : EstSt → EstSt) : State :=
  s.onChan c (fun x => { x with est := f x.est })

def State.onBoard (s : State) (f : Board → Board) : State := { s with board := f s.board }

/-- The next FSEQ of a frame type (Table 14-1). -/
def Pair.nextFseq (p : Pair) (ftype : Nat) : Nat :=
  match p.fseqOut.find? (fun x => x.1 == ftype) with | some x => (x.2 + 1) % 2 ^ 32 | none => 0

/-- A frame goes out under the epoch, the incarnation and the next sequence of its type (R521). -/
def Pair.send (p : Pair) (f : ZlFrame) : Pair :=
  let n := p.nextFseq f.ftype
  { p with fseqOut := (f.ftype, n) :: p.fseqOut.filter (fun x => x.1 != f.ftype), out := { epoch := p.epoch, inc := p.inc, fseq := n, frame := f } :: p.out }

/-- Send a frame. -/
def State.sendZl (s : State) (f : ZlFrame) : State := s.onBoard (fun b => { b with pair := b.pair.send f })

/-- Apply an operation to each channel of a list, in order. -/
def State.forChans (s : State) (l : List ChanNo) (f : ChanNo → State → State) : State :=
  l.foldl (fun t c => f c t) s

/-- All channels, in order. -/
def allChans : List ChanNo := List.finRange 64

/-- All Gathers, in order. -/
def allGathers : List GatherNo := List.finRange 8

/-! ### Free draws (R451) -/

/-- Draw a free value: the opaque constant of Config at the model's own counter, which advances (DESIGN CHOICE, log entry 2). -/
def State.draw (s : State) : Nat × State := (Config.freeNat s.draws, { s with draws := s.draws + 1 })

/-- A free choice among candidates (R451); none without a candidate (DESIGN CHOICE, log entry 2). -/
def State.pick (s : State) (l : List Nat) : Option Nat × State :=
  let (n, s) := s.draw
  (l[n % l.length]?, s)

/-- The clocks advance to a PTP time that an event carries; they never go back (DESIGN CHOICE, log entry 5). -/
def State.tickTo (s : State) (t : Nat) : State :=
  if s.ptp < t then { s with now := s.now + (t - s.ptp), ptp := t } else s

/-- The clocks advance to a time of REFCLK that an event implies; they never go back (DESIGN CHOICE, log entry 5). -/
def State.passTo (s : State) (t : Nat) : State :=
  if s.now < t then { s with now := t, ptp := s.ptp + (t - s.now) } else s

/-! ### Registers (R22, R27) -/

/-- Does a register row own this address? -/
def dimsHit : List (Nat × Nat) → Nat → Bool
  | [], off => off == 0
  | (n, st) :: l, off => decide (off / st < n) && dimsHit l (off % st)

def regHit (addr : Nat) (d : RegDesc) : Bool := decide (d.base ≤ addr) && dimsHit d.dims (addr - d.base)

/-- The register row at a fabric address. -/
def regAt (addr : Nat) : Option RegDesc := regTable.find? (regHit addr)

/-- Reset values that differ between the instances of one row (Tables 16-13, 16-18, 18-17, 18-22). -/
def regResetAt (addr : Nat) : Option Nat :=
  if 0x060080 ≤ addr ∧ addr < 0x060090 then
    some (([855, 950, 0, 0].getD ((addr - 0x060080) / 4) 0)
      + 65536 * ([945, 1050, 1200, 1200].getD ((addr - 0x060080) / 4) 0))
  else if 0x0600C0 ≤ addr ∧ addr < 0x060100 then
    let i := (addr - 0x0600C0) / 4
    some (([8, 9, 0, 10, 11, 1].getD i 0) + 16 * (if i < 6 then 1 else 0)
      + 32 * ([2, 2, 1, 2, 2, 1].getD i 0) + 128 * ([0, 1, 0, 2, 3, 1].getD i 0) + 65536 * 10 + 16777216 * 20)
  else if addr = 0x020080 then some (1 + 2 + 65536 * 1000)
  else if 0x0312C0 ≤ addr ∧ addr < 0x0312F0 then some (256 * 2500)
  else none

/-- The reset value of the register at an address (R23); an address without a register reads zero (R27). -/
def regReset (addr : Nat) : Nat :=
  match regResetAt addr with
  | some w => w
  | none =>
    match regAt addr with
    | some d => d.fields.foldl (fun a f => a + f.reset * 2 ^ f.lo) 0
    | none => 0

/-- Store a word in the sparse register list: addresses strictly rising, nothing equal to the reset value. -/
def regsPut (a dflt w : Nat) : List (Nat × Word32) → List (Nat × Word32)
  | [] => if w = dflt then [] else [(a, BitVec.ofNat 32 w)]
  | (b, v) :: l =>
    if a < b then (if w = dflt then (b, v) :: l else (a, BitVec.ofNat 32 w) :: (b, v) :: l)
    else if a = b then (if w = dflt then l else (a, BitVec.ofNat 32 w) :: l)
    else (b, v) :: regsPut a dflt w l

/-- The stored value of a register (DESIGN CHOICE, log entry 9). -/
def State.reg (s : State) (a : Nat) : Nat :=
  match s.regs.find? (fun x => x.1 == a) with
  | some x => x.2.toNat
  | none => regReset a

/-- A field of a stored register. -/
def State.fld (s : State) (a lo len : Nat) : Nat := bitsOf (s.reg a) lo len

/-- A signed field of a stored register. -/
def State.fldS (s : State) (a lo len : Nat) : Int := sx len (s.fld a lo len)

/-- A one-bit field of a stored register. -/
def State.bit (s : State) (a i : Nat) : Bool := (s.reg a).testBit i

/-- Store a register. -/
def State.setReg (s : State) (a w : Nat) : State :=
  { s with regs := regsPut a (regReset a) (w % 2 ^ 32) s.regs }

/-- Store a field of a register. -/
def State.setFld (s : State) (a lo len v : Nat) : State := s.setReg a (setBits (s.reg a) lo len v)

/-- Set one bit of a register. -/
def State.setBit (s : State) (a i : Nat) : State := s.setFld a i 1 1

/-- Count in a field that saturates. -/
def State.bump (s : State) (a lo len : Nat) : State :=
  s.setFld a lo len (satAdd (2 ^ len - 1) (s.fld a lo len) 1)

/-- Count in a field that wraps. -/
def State.bumpWrap (s : State) (a lo len : Nat) : State := s.setFld a lo len (s.fld a lo len + 1)

/-- Fabric address of a GATHER register (Table 01-3). -/
def gA (g : GatherNo) (off : Nat) : Nat := 0x100000 + g.val * 0x10000 + off

/-- Fabric address of a channel-window register. -/
def chA (c : ChanNo) (off : Nat) : Nat := gA (gOf c) (0x1000 + kOf c * 0x100 + off)

/-- Fabric address of a program-window register. -/
def pgA (c : ChanNo) (off : Nat) : Nat := gA (gOf c) (0x2000 + kOf c * 0x100 + off)

/-- Fabric address of a bus Gather window register (chapter 09). -/
def bgA (g : GatherNo) (off : Nat) : Nat := 0x200100 + g.val * 0x20 + off

/-- Fabric address of an EIS register. -/
def eisA (g : GatherNo) (off : Nat) : Nat := 0x210000 + g.val * 0x100 + off

/-- CFGBUSY of G_ERR (Table 04-13). -/
def State.cfgBusy (s : State) (g : GatherNo) : State := s.setBit (gA g 0x20) 0

/-- RANGE of G_ERR (Table 04-13). -/
def State.rangeErr (s : State) (g : GatherNo) : State := s.setBit (gA g 0x20) 1

/-- PERIOD of a Gather in ticks (R110). -/
def State.period (s : State) (g : GatherNo) : Nat := s.fld (gA g 0) 0 17

/-- A Gather counts its periods from the common epoch, at its next multiple of PERIOD (R111): the epoch of every PERIOD is tick 0 of REFCLK time
(DESIGN CHOICE, log entry 5). -/
def State.alignGather (s : State) (g : GatherNo) : State :=
  let t := Nat.max 1 (s.period g)
  s.onGat g (fun y => { y with epoch := (8 * s.now + t - 1) / t * t, perN := 0 })

/-- SHUNT of a channel in nΩ (R109). -/
def State.shunt (s : State) (c : ChanNo) : Nat := s.fld (chA c 0x08) 0 24

/-- LIND of a channel in nH (R109). -/
def State.lind (s : State) (c : ChanNo) : Nat := s.fld (chA c 0x04) 0 16

/-- IRATED of a channel in µA (R180). -/
def State.irated (s : State) (c : ChanNo) : Nat := s.fld (chA c 0x80) 0 20 * 1000

/-- The H range of a channel in µA: 64 * 10^12 divided by SHUNT in nΩ (R147). -/
def State.hRange (s : State) (c : ChanNo) : Nat := 64000000000000 / Nat.max 1 (s.shunt c)

/-! ### Options (R3 to R9) -/

def State.optL (s : State) : Bool := s.opt.testBit 0
def State.optZ (s : State) : Bool := s.opt.testBit 1
def State.optT (s : State) : Bool := s.opt.testBit 2
def State.optM (s : State) : Bool := s.opt.testBit 3

/-- The ordering code (R3) as 12 ASCII bytes padded with zero bytes (Table 12-3). -/
def orderCode (opt : Nat) : List Byte :=
  let base : List Byte := [0x53, 0x56, 0x37, 0x32, 0x36, 0x34]
  let ls : List Byte := (if opt.testBit 0 then [0x4C] else []) ++ (if opt.testBit 1 then [0x5A] else [])
    ++ (if opt.testBit 2 then [0x54] else []) ++ (if opt.testBit 3 then [0x4D] else [])
  let code := if ls.isEmpty then base else base ++ [0x2D] ++ ls
  code ++ zeros (12 - code.length)

/-- The strap code of R75 and its bits of Table 18-5. -/
def State.strap (s : State) : Nat := s.strapRaw / 4

/-! ### Leases and gangs (R153, R442) -/

/-- Does a lease with leader `l` hold channel `n`? -/
def leaseHolds (l : Nat) (f : LeaseFields) (n : Nat) : Bool :=
  decide (l / 8 = n / 8) && f.members.testBit (n % 8)

/-- The lease that holds a channel, with its leader. -/
def State.leaseOf (s : State) (n : Nat) : Option (Nat × Lease) :=
  s.leases.find? (fun x => leaseHolds x.1 x.2.f n)

/-- The lessee of a channel. -/
def State.lessee (s : State) (n : Nat) : Option Nat := (s.leaseOf n).map (fun x => x.2.f.tenant)

/-- The tenant that a channel's records and energy belong to: its lessee, or the house (R363, R446). -/
def State.ownerOf (s : State) (n : Nat) : Nat := (s.lessee n).getD 0

/-- The mask of the channels that a tenant leases. -/
def State.leasedMask (s : State) (t : Nat) : Nat :=
  maskOf ((List.range 64).filter (fun n => s.lessee n == some t))

/-- An enabled gang slot that holds a channel: slot, members, leader index, ratiometric (Table 04-14). -/
structure Gang where
  slot    : Nat
  members : Nat
  leader  : Nat
  ratio   : Bool
  deriving DecidableEq, Repr

/-- The gang of a channel (R153). -/
def State.gangOf (s : State) (c : ChanNo) : Option Gang :=
  (List.range 4).findSome? (fun i =>
    let w := s.reg (gA (gOf c) (0x40 + 4 * i))
    if w.testBit 15 && (bitsOf w 0 8).testBit (kOf c) then
      some { slot := i, members := bitsOf w 0 8, leader := bitsOf w 8 3, ratio := w.testBit 12 }
    else none)

/-- The channel that runs the program of a channel: its gang's leader, or itself (R255). -/
def State.leaderOf (s : State) (c : ChanNo) : ChanNo :=
  match s.gangOf c with
  | some g => (chan? (8 * (gOf c).val + g.leader)).getD c
  | none => c

/-- The members of a channel's gang, or the channel alone. -/
def State.membersOf (s : State) (c : ChanNo) : List ChanNo :=
  match s.gangOf c with
  | some g => (chansOf (gOf c)).filter (fun x => g.members.testBit (kOf x))
  | none => [c]

/-- Is a channel a follower? -/
def State.follower (s : State) (c : ChanNo) : Bool := decide (s.leaderOf c ≠ c)

/-! ### Channel states (R78, R136) -/

def stCode : ChState → Nat
  | .stopped => 0 | .settling => 1 | .softstart => 2 | .active => 3 | .resting => 4
  | .stopping => 5 | .faulted => 6 | .paused => 7 | .released => 8

/-- States in which a program is in execution (R78). -/
def stExec : ChState → Bool
  | .settling | .softstart | .active | .resting | .stopping => true
  | _ => false

/-- States in which the switches run (Table 04-3). -/
def stSwitch : ChState → Bool
  | .softstart | .active | .stopping => true
  | _ => false

/-- A channel executes under R78; RELEASED while executing counts only on the part that holds the Pipe (R137). -/
def State.executing (s : State) (c : ChanNo) : Bool :=
  let l := (s.chan c).loop
  stExec l.st || (decide (l.st = .released) && stExec l.before && s.board.owner)

/-- The executing mask of R78: a gang counts as its leader. -/
def State.execMask (s : State) : Nat :=
  maskOf ((allChans.filter (fun c => s.executing c && !s.follower c)).map Fin.val)

/-- A channel's program is paused (R101). -/
def State.isPaused (s : State) (c : ChanNo) : Bool :=
  let l := (s.chan c).loop
  decide (l.st = .paused) || (decide (l.st = .released) && decide (l.before = .paused))

/-- Some channel of a Gather executes. -/
def State.gatExec (s : State) (g : GatherNo) : Bool := (chansOf g).any s.executing

/-- Every channel of a Gather is STOPPED, PAUSED, FAULTED or RELEASED (R115). -/
def State.gatQuiet (s : State) (g : GatherNo) : Bool :=
  (chansOf g).all (fun c => !stExec (s.chan c).loop.st)

/-! ### Fences (R673) -/

/-- A unit is fenced. -/
def State.fenced (s : State) (u : Nat) : Bool := s.col.fences.any (fun f => f.unit == u)

def State.anyFence (s : State) : Bool := !s.col.fences.isEmpty

/-- Fence unit numbers: Gather, channel, and the impedance engine of a Gather (EIS engines are fenced one by one, R324). -/
def uGat (g : GatherNo) : Nat := 0x10 + g.val
def uChan (c : ChanNo) : Nat := 0x40 + c.val
def uEis (g : GatherNo) : Nat := 0x100 + g.val

/-- A command sees a channel's Gather, or the channel itself, as fenced (R91, R172, R678). -/
def State.chanFenced (s : State) (c : ChanNo) : Bool := s.fenced (uGat (gOf c)) || s.fenced (uChan c)

/-- A unit is on probation (R678). -/
def State.onProbation (s : State) (u : Nat) : Bool := s.col.fences.any (fun f => f.unit == u && f.probation)

/-! ### Islands (R38 to R41) -/

/-- Modes from BOOT to LOCKOUT, in which the islands above KEEP run (Table 03-3). -/
def modeUp : Mode → Bool
  | .off | .ship | .keep | .wake => false
  | _ => true

/-- The PLL islands run: from BOOT to LOCKOUT, with REFCLK, and no warm reset holds them (R41, R640). -/
def State.pllOn (s : State) : Bool := modeUp s.mode.mode && !s.rst.noClk && !s.rst.warm

/-- The elapsed counter of KEEP (R575): 48 bits of raw crystal pulses, at their nominal rate against REFCLK (DESIGN CHOICE, log entry 54). -/
def State.elapsed (s : State) : Nat := s.now * 32768 / 1000000000 % 2 ^ 48

/-- The Steward's work goes on (R39, R41): its island runs, and not all of its four cores stall (DESIGN CHOICE, log entry 63). -/
def State.stewardOn (s : State) : Bool := s.pllOn && s.rst.stalled % 16 != 15

/-- A Gather stands still: held in reset, or without REFCLK (R41). -/
def State.gatOff (s : State) (g : GatherNo) : Bool := (s.gat g).inReset || s.rst.noClk

/-! ### Drive (R66) -/

/-- The modes in which a part may drive its channel balls (R66). -/
def modeDrives : Mode → Bool
  | .ready | .run | .degraded | .service | .lehr => true
  | _ => false

/-- R66: a part drives the balls of a channel only while all of these hold; in LEHR until all channels rest (R67). -/
def State.mayDrive (s : State) (c : ChanNo) : Bool :=
  let g := s.gat (gOf c)
  (s.board.owner || !s.optT) && !s.board.pipeIn && !s.board.fenceIn && !s.board.barred && !g.inReset && g.calibrated
    && (!s.fenced (uGat (gOf c)) || s.onProbation (uGat (gOf c))) && modeDrives s.mode.mode
    && !(s.mode.mode == .lehr && s.board.pwr.lehrRest)

/-! ### Records, events and faults on their way -/

def State.pushRec (s : State) (r : RecIn) : State := { s with recFifo := s.recFifo ++ [r] }

def State.pushEvt (s : State) (e : EvtIn) : State := { s with evtFifo := s.evtFifo ++ [e] }

/-- A fault reaches the collector's input (R673) (DEDUCED, log entry 7). -/
def State.pushFault (s : State) (f : FaultIn) : State :=
  { s with col := { s.col with fifo := s.col.fifo ++ [{ f with time := s.ptp }] } }

/-- A fault of a unit with no further detail. -/
def State.fault (s : State) (uu cc : Nat) : State := s.pushFault { uu, cc }

/-- A fault with detail bytes P16 onward of its record. -/
def State.faultD (s : State) (uu cc : Nat) (detail : List Byte) : State := s.pushFault { uu, cc, detail }

/-- An event to the house alone, TENANT 255 and CHANNEL 0xFF (R37, R477). -/
def State.houseEvt (s : State) (kind : Nat) (payloads : List (List Byte)) : State :=
  s.pushEvt { kind, tenant := 255, dest := 0, time := s.ptp, payloads }

/-- A POWER event with its code and value (Table 12-24, KIND 0xAD). -/
def State.powerEvt (s : State) (code : Nat) (v : Nat) : State :=
  s.houseEvt 0xAD [payload [fN 0 1 code, fN 4 4 v, fN 8 8 s.ptp]]

/-- STEPREF of what arises on a channel: the step in execution, or none (R35). -/
def State.stepRef (s : State) (c : ChanNo) : Nat :=
  let p := (s.chan c).prog
  if p.inStep then p.pc else 65535

/-- STEPREF and CALGEN of an entry that names a channel, and of one that names none (R35). -/
def State.refOf (s : State) (n : Nat) : Nat × Nat :=
  match chan? n with
  | some c => (s.stepRef c, (s.chan c).meas.calgen)
  | none => (65535, 0)

/-- An event of a channel (R34 to R36): its lessee, the CORR of the command that causes it or else of the program, the step in execution,
the calibration generation. -/
def State.chanEvt (s : State) (kind : Nat) (c : ChanNo) (payloads : List (List Byte)) : State :=
  let x := s.chan c
  let t := s.ownerOf c.val
  s.pushEvt { kind, tenant := t, dest := t, channel := c.val, corr := x.loop.evCorr.getD x.prog.corr,
              stepref := s.stepRef c, calgen := x.meas.calgen, time := s.ptp, payloads }

/-- The events from place n of the queue on were caused by a command: they carry its CORR (R34). -/
def State.corrFrom (s : State) (n corr : Nat) : State :=
  { s with evtFifo := s.evtFifo.take n ++ (s.evtFifo.drop n).map (fun (e : EvtIn) => { e with corr := corr }) }

/-- What a channel's events carry while a command's effect on it is under way: the CORR of that command (R34). -/
def State.byCorr (s : State) (c : ChanNo) (corr : Nat) (f : State → State) : State :=
  (f (s.onLoop c (fun l => { l with evCorr := some corr }))).onLoop c (fun l => { l with evCorr := none })

/-- A record of a channel, to its lessee (R34 to R36, R341). -/
def State.chanRec (s : State) (kind : Nat) (c : ChanNo) (stepref : Nat) (time : Nat) (periodic : Bool)
    (payloads : List (List Byte)) : State :=
  let x := s.chan c
  s.pushRec { kind, tenant := s.ownerOf c.val, channel := c.val, corr := x.prog.corr, stepref,
              calgen := x.meas.calgen, stale := x.est.stale, time, periodic, payloads }

/-! ### Tenants, queues and sessions by number -/

def State.tenant? (s : State) (t : Nat) : Option Tenant := s.tenants.find? (fun x => x.num == t)

def State.onTenant (s : State) (t : Nat) (f : Tenant → Tenant) : State :=
  { s with tenants := updFirst (fun x => x.num == t) f s.tenants }

def State.queue? (s : State) (q : Nat) : Option Queue := s.queues.find? (fun x => x.num == q)

def State.onQueue (s : State) (q : Nat) (f : Queue → Queue) : State :=
  { s with queues := updFirst (fun x => x.num == q) f s.queues }

def State.session? (s : State) (n : Nat) : Option Session := s.sessions.find? (fun x => x.num == n)

def State.onSession (s : State) (n : Nat) (f : Session → Session) : State :=
  { s with sessions := updFirst (fun x => x.num == n) f s.sessions }

/-- Change the lease of a leader. -/
def State.onLease (s : State) (l : Nat) (f : Lease → Lease) : State :=
  { s with leases := s.leases.map (fun x => if x.1 = l then (x.1, f x.2) else x) }

end Sys2Proof.Machine
end

