-- ==== Sys2Proof/Machine/Cal.lean ====
section
/-! DEFINITION. Calibration layers, accuracy and twin tolerances (R198, R218 to R227, R245). -/

namespace Sys2Proof.Machine

open Sys2Proof

/-- FS of a quantity in nV: 0 voltage, 1 to 4 current H, M, L, U (Table 06-2). -/
def fsOf (qty : Nat) : Nat := [6553600000, 64000000, 16000000, 4000000, 1000000].getD qty 1

/-- The input of a channel's quantity in its Gather (Table 06-1). -/
def inputOf (c : ChanNo) (current : Bool) : Nat := 2 * kOf c + b2n current

/-- The converter seated on an input. -/
def State.seated (s : State) (g : GatherNo) (input : Nat) : Nat := (s.gat g).seats.getD input input

/-- Factory and drift layers of a converter: offset and gain of each. -/
def State.convLayers (s : State) (g : GatherNo) (conv qty : Nat) : Int × Int × Int × Int :=
  let y := s.gat g
  let f := y.factory.getD conv {}
  let d := y.drift.getD conv {}
  (f.off.getD qty 0, f.gain.getD qty 0, d.off.getD qty 0, d.gain.getD qty 0)

/-- The user coefficients OFFU, GAINU and QU of a quantity in force. -/
def MeasSt.coef (m : MeasSt) (qty : Nat) : Int × Int × Int := (m.offu.getD qty 0, m.gainu.getD qty 0, m.qu.getD qty 0)

/-- The coefficients that a channel will have: in force, with those of a generation still waiting. -/
def MeasSt.pendCoef (m : MeasSt) (qty : Nat) : Int × Int × Int :=
  match m.calNext with
  | some (_, _, l) => (match l.reverse.find? (fun p => p.qty == qty) with | some p => (p.offu, p.gainu, p.qu) | none => m.coef qty)
  | none => m.coef qty

/-- The measurement of a channel with the generation that waits in force, as NVM holds it (R224, R225). -/
def MeasSt.calSwitched (m : MeasSt) : MeasSt :=
  match m.calNext with
  | some (gen, _, pairs) =>
    pairs.foldl (fun m p => { m with offu := m.offu.set p.qty p.offu, gainu := m.gainu.set p.qty p.gainu, qu := m.qu.set p.qty p.qu })
      { m with calgen := gen, calNext := none, calLoop := false }
  | none => m

/-- The coefficients of the loop stream, which switches at the first control-cycle boundary (R225). -/
def MeasSt.loopCoef (m : MeasSt) (qty : Nat) : Int × Int × Int := if m.calLoop then m.pendCoef qty else m.coef qty

/-- R218: the calibrated value in units of 2^-62 nV from a raw value in nV of a converter, under user coefficients (DEDUCED, log entry 14). -/
def State.calY (s : State) (g : GatherNo) (conv qty : Nat) (u : Int × Int × Int) (x0 : Int) : Int :=
  let (of, gf, od, gd) := s.convLayers g conv qty
  let one : Int := 2147483648
  let x1 := of * one + x0 * (one + gf)
  let x2 := od * one + rdiv (x1 * (one + gd)) one
  u.1 * one * one + x2 * (one + u.2.1) + rdiv (u.2.2 * x2 * x2) (one * fsOf qty)

/-- Cell voltage in µV from a sum of n calibrated values. -/
def toUv (y : Int) (n : Nat) : Int := rdiv y (1000 * 4611686018427387904 * n)

/-- Current in µA from a sum of n calibrated values: the shunt voltage in nV times 1,000,000 over SHUNT in nΩ (R198). -/
def State.toUa (s : State) (c : ChanNo) (y : Int) (n : Nat) : Int :=
  rdiv (y * 1000000) (4611686018427387904 * Nat.max 1 (s.shunt c) * n)

/-- The samples of one control cycle, calibrated with the seated converters in the range in force: µV and µA. The loop stream has its own
user coefficients for a while after a CAL_WRITE (R225). While a failed converter has no replacement the last loop sample stands in
(R238) (DEDUCED, log entry 14). -/
def State.calIn (s : State) (c : ChanNo) (x : ChIn) : ChIn :=
  let g := gOf c
  let m := (s.chan c).meas
  let q := 1 + m.irng
  let l := (s.chan c).loop
  let v (k : Int × Int × Int) (x0 : Int) : Int := if m.lostV then l.vloop else toUv (s.calY g (s.seated g (inputOf c false)) 0 k x0) 1
  let i (k : Int × Int × Int) (x0 : Int) : Int := if m.lostI then l.iloop else s.toUa c (s.calY g (s.seated g (inputOf c true)) q k x0) 1
  { x with v := v (m.loopCoef 0) x.v, i := i (m.loopCoef q) x.i, vInt := v (m.coef 0) x.vInt, iInt := i (m.coef q) x.iInt }

/-- A calibrated sample of the demodulators: voltage in nV, current in nA (R314) (DEDUCED, log entry 14). -/
def State.nvOf (s : State) (c : ChanNo) (x0 : Int) : Int :=
  rdiv (s.calY (gOf c) (s.seated (gOf c) (inputOf c false)) 0 ((s.chan c).meas.coef 0) x0) 4611686018427387904
def State.naOf (s : State) (c : ChanNo) (x0 : Int) : Int :=
  let q := 1 + (s.chan c).meas.irng
  rdiv (s.calY (gOf c) (s.seated (gOf c) (inputOf c true)) q ((s.chan c).meas.coef q) x0 * 1000000000) (4611686018427387904 * Nat.max 1 (s.shunt c))

/-! ### Output windows (R203, R218, R233, R238) -/

/-- The part of the output window that now runs. -/
def State.winNow (s : State) (c : ChanNo) : WinPart :=
  let m := (s.chan c).meas
  { vconv := s.seated (gOf c) (inputOf c false), iconv := s.seated (gOf c) (inputOf c true), irng := m.irng, okV := !m.lostV, okI := !m.lostI }

/-- The running part ends as `was` and another begins. -/
def State.cutWin (s : State) (c : ChanNo) (was : WinPart) : State := s.onMeas c (fun m => { m with winParts := m.winParts ++ [was] })

/-- Calibrated values over the modulator clocks of an output window: the sum of each part's, weighted by its clocks, and the clocks;
`raw` gives the parts in order (R218, R233). -/
def winSum (f : WinPart → RawPart → Int) (ps : List WinPart) (raw : List RawPart) : Int × Nat :=
  (ps.zip raw).foldl (fun a p => (a.1 + p.2.clocks * f p.1 p.2, a.2 + p.2.clocks)) (0, 0)

/-- The voltage of an output window in µV; none where no modulator clock counts (R238). -/
def State.winV (s : State) (c : ChanNo) (raw : List RawPart) : Option Int :=
  let ps := (s.chan c).meas.winParts ++ [s.winNow c]
  let m := (s.chan c).meas
  let raw := (ps.zip raw).map (fun p => if p.1.okV then p.2 else { p.2 with clocks := 0 })
  let r := winSum (fun p x => s.calY (gOf c) p.vconv 0 (m.coef 0) x.v) ps raw
  if r.2 = 0 then none else some (toUv r.1 r.2)

/-- The current of an output window in µA. -/
def State.winI (s : State) (c : ChanNo) (raw : List RawPart) : Option Int :=
  let ps := (s.chan c).meas.winParts ++ [s.winNow c]
  let m := (s.chan c).meas
  let raw := (ps.zip raw).map (fun p => if p.1.okI then p.2 else { p.2 with clocks := 0 })
  let r := winSum (fun p x => s.calY (gOf c) p.iconv (1 + p.irng) (m.coef (1 + p.irng)) x.i) ps raw
  if r.2 = 0 then none else some (s.toUa c r.1 r.2)

/-! ### Ranges (R197, R199 to R201) -/

/-- The current range becomes r: RNGCHG in the running output window. -/
def MeasSt.setRange (m : MeasSt) (r : Nat) : MeasSt :=
  if r = m.irng then m else { m with irng := r, rngT := 0, peakLow := 0, winFlags := m.winFlags ||| 16 }

/-- An overrange no longer holds the range at H (R201). -/
def MeasSt.release (m : MeasSt) : MeasSt := { m with rngforce := false }

/-- A shadow that runs on an input begins again, in the new range (R234). -/
def Punty.restart (p : Punty) (input now : Nat) : Punty :=
  if p.input = input ∧ (p.st = .shadow ∨ p.back) then { p with since := now } else p

/-- What follows a change of a channel's current range: the part of the output window ends, and a shadow of the input begins again. -/
def State.rangeMoved (s : State) (c : ChanNo) (was : WinPart) : State :=
  if (s.chan c).meas.irng = was.irng then s
  else
    let n := inputOf c true
    (s.cutWin c was).onGat (gOf c) (fun y => { y with pa := y.pa.restart n s.now, pb := y.pb.restart n s.now })

/-- A layer or the effective coefficients as (OFF, GAIN, Q) (R227): 0 effective, 1 user, 2 factory, 3 drift. -/
def State.coefs (s : State) (c : ChanNo) (layer qty : Nat) : Int × Int × Int :=
  let (of, gf, od, gd) := s.convLayers (gOf c) (s.seated (gOf c) (inputOf c (qty != 0))) qty
  let (ou, gu, qu) := (s.chan c).meas.coef qty
  match layer with
  | 1 => (ou, gu, qu)
  | 2 => (of, gf, 0)
  | 3 => (od, gd, 0)
  | _ =>
    let one : Int := 2147483648
    let fs : Int := fsOf qty
    -- x2 = a + b * x0, with a in 2^-31 nV and b in 2^-62
    let a := od * one + of * (one + gd)
    let b := (one + gf) * (one + gd)
    -- offset: OFFU + a (1 + GU) + q a² / FS
    let o := ou * fs * one * one * one + a * (one + gu) * fs * one + qu * a * a
    let off := rdiv o (fs * one * one * one)
    -- gain: b (1 + GU) + 2 q a b / FS - 1, in 2^-31
    let gn := b * (one + gu) * fs * one + 2 * qu * a * b
    let gain := rdiv gn (fs * one * one * one) - one
    let q := rdiv (qu * b * b) (one * one * one * one)
    (off, gain, q)

/-- How long CALHOLD has held in a Gather, in ns (R216). -/
def State.heldFor (s : State) (g : GatherNo) : Nat := if (s.gat g).calhold then s.now - (s.gat g).calT else 0

/-- Thirty days in ns. -/
def days30 : Nat := 2592000000000000

/-- Accuracy of Table 06-4 at a reading, in fV at the balls, with the widening of R216 after CALHOLD has held for a time, in proportion to
it (DEDUCED, log entry 14): voltage from µV, current from µA through SHUNT. -/
def accV (v : Int) (hold : Nat) : Nat := v.natAbs * 30000 + 30000000000 + (v.natAbs * 2000 + 1000000000) * hold / days30
def State.accI (s : State) (c : ChanNo) (i : Int) (rng : Nat) : Nat :=
  let x := i.natAbs * s.shunt c
  x * 50 / 1000000 + fsOf (1 + rng) * 20 + (x * 3 / 1000000 + fsOf (1 + rng) * 2) * s.heldFor (gOf c) / days30

/-- Noise of Table 06-5 in tenths of nV: rows 10 S/s, 100 S/s, 1 kS/s, 16 kS/s; the columns voltage, H, M, L, U. -/
def noiseTable : List (List Nat) :=
  [[20000, 400, 120, 50, 30], [63000, 1260, 380, 160, 95], [200000, 4000, 1200, 500, 300],
   [800000, 16000, 4800, 2000, 1200]]

/-- Output rates of Table 06-3 in S/s and output periods in ns. -/
def rateOf (code : Nat) : Nat := [10, 20, 50, 100, 200, 500, 1000, 2000, 4000, 8000, 16000].getD code 10
def outPeriod (code : Nat) : Nat := 1000000000 / rateOf code

/-- The first PTP time after now that lies on the grids of two output rates; 100 ms is on every grid (R207) (DEDUCED, log entry 18). -/
def State.rateTime (s : State) (old new : Nat) : Nat :=
  let l := Nat.lcm (outPeriod old) (outPeriod new)
  (s.ptp / l + 1) * l

/-- Noise at a rate in fV: between the rows it scales with the square root of the rate (R217) (DEDUCED, log entry 14). -/
def noiseAt (rate col : Nat) : Nat :=
  let row := if 16000 ≤ rate then 3 else if 1000 ≤ rate then 2 else if 100 ≤ rate then 1 else 0
  let base := [10, 100, 1000, 16000].getD row 10
  (noiseTable.getD row []).getD col 0 * 100000 * isqrt (rate * 1000000 / base) / 1000

/-- Two readings agree: their difference is at most three combined tolerances, each √2 times the part tolerance (R245) (DEDUCED, log entry 14). -/
def agree (d : Nat) (tol : Nat) : Bool := decide (d * d ≤ 18 * tol * tol)

/-- The twin comparison of R245 for an own reading and a twin sample. -/
def State.twinAgrees (s : State) (c : ChanNo) (v i : Int) (rng rate : Nat) (t : TwinIn) : Bool :=
  let tv := accV v (s.heldFor (gOf c)) + 3 * noiseAt (rateOf rate) 0
  let ti := Nat.max (s.accI c i rng + 3 * noiseAt (rateOf rate) (1 + rng))
    (s.accI c i t.rng + 3 * noiseAt (rateOf rate) (1 + t.rng))
  agree ((v - t.v).natAbs * 1000000000) tv && agree ((i - t.i).natAbs * s.shunt c) ti

end Sys2Proof.Machine
end

