-- ==== Sys2Proof/Machine/Operands.lean ====
section
/-! DEFINITION. Operand forms: the fields of a step (chapter 07, Tables 07-1 to 07-10) and the payloads of commands (chapter 12). -/

namespace Sys2Proof.Machine

open Sys2Proof

/-- A bit field of a step. -/
def stepBits (w : StepWord) (lo len : Nat) : Nat := bitsOf w.toNat lo len

/-- KIND of a step (Tables 07-2 and 07-8). -/
def stepKind (w : StepWord) : Nat := stepBits w 0 5
/-- PROF. -/
def stepProf (w : StepWord) : Nat := stepBits w 5 2
/-- IRNG. -/
def stepIrng (w : StepWord) : Nat := stepBits w 7 2
/-- CONB: the step opens CON. -/
def stepConb (w : StepWord) : Bool := w.getLsbD 9
/-- SVAR. -/
def stepSvar (w : StepWord) : Bool := w.getLsbD 10
/-- FLEX. -/
def stepFlex (w : StepWord) : Bool := w.getLsbD 11
/-- FTOL in per mille of the demand (Table 07-2). -/
def stepFtol (w : StepWord) : Nat := [50, 100, 250, 500].getD (stepBits w 12 2) 0
/-- SLEW in mA/ms. -/
def stepSlew (w : StepWord) : Nat := stepBits w 16 16
/-- SETA as raw bits. -/
def stepSetaRaw (w : StepWord) : Nat := stepBits w 32 32
/-- SETA, signed (Table 07-1). -/
def stepSeta (w : StepWord) : Int := sx 32 (stepSetaRaw w)
/-- The 16-bit control field of slot i (Table 07-1). -/
def slotCtl (w : StepWord) (i : Nat) : Nat := stepBits w (64 + 48 * i) 16
/-- The 32-bit value of slot i. -/
def slotVal (w : StepWord) (i : Nat) : Nat := stepBits w (80 + 48 * i) 32
/-- COND of slot i (Table 07-4). -/
def slotCond (w : StepWord) (i : Nat) : Nat := bitsOf (slotCtl w i) 0 4
/-- ACT of slot i. -/
def slotAct (w : StepWord) (i : Nat) : Nat := bitsOf (slotCtl w i) 4 2
/-- VREF of slot i. -/
def slotVref (w : StepWord) (i : Nat) : Bool := (slotCtl w i).testBit 6
/-- TARGET of slot i. -/
def slotTarget (w : StepWord) (i : Nat) : Nat := bitsOf (slotCtl w i) 7 9
/-- Operand B of a control step: bytes 8 to 11 (Table 07-8). -/
def stepOpB (w : StepWord) : Nat := stepBits w 64 32
/-- TARGET of a control step. -/
def ctlTarget (w : StepWord) : Nat := stepBits w 16 9

/-- Work kinds of Table 07-3. -/
def isWork (k : Nat) : Bool := decide (1 ≤ k ∧ k ≤ 11)
/-- Control kinds of Table 07-8, END included. -/
def isControl (k : Nat) : Bool := decide (0x10 ≤ k ∧ k ≤ 0x15) || k == 0x1F
/-- Kinds that hold both switches low: REST, OCVWATCH, SYNC (R263). -/
def isRestKind (k : Nat) : Bool := k == 1 || k == 10 || k == 11

/-- The loop kind that a work kind runs (R119: DCIR and EIS run the CC loop). -/
def loopOf (k : Nat) : LoopKind :=
  match k with
  | 2 | 8 | 9 => .cc
  | 3 => .cv
  | 4 => .cccv
  | 5 => .cp
  | 6 => .cr
  | 7 => .pulse
  | _ => .rest

/-- LOOP of CH_STAT (Table 04-19). -/
def loopCode : LoopKind → Nat
  | .rest => 0 | .cc => 1 | .cv => 2 | .cccv => 3 | .cp => 4 | .cr => 5 | .pulse => 6

/-- The PARAM slots a kind requires and allows, from slot 3 downward (Table 07-3): least and greatest count. -/
def paramCount (k : Nat) : Nat × Nat :=
  match k with
  | 3 => (0, 2)
  | 4 => (1, 1)
  | 7 => (2, 2)
  | 8 => (2, 2)
  | 9 => (3, 3)
  | _ => (0, 0)

/-- The number of PARAM slots that a step holds, from slot 3 downward without a gap. -/
def paramsOf (w : StepWord) : Nat :=
  if slotCond w 3 ≠ 13 then 0
  else if slotCond w 2 ≠ 13 then 1
  else if slotCond w 1 ≠ 13 then 2
  else if slotCond w 0 ≠ 13 then 3 else 4

/-- Conditions that a kind accepts (Table 07-6). -/
def condOk (k cond : Nat) : Bool :=
  match cond with
  | 0 | 1 | 11 | 12 => true
  | 2 | 3 | 9 | 10 => decide (k ≠ 11)
  | 4 => k == 3 || k == 4
  | 5 | 6 => k == 2 || k == 3 || k == 4 || k == 5 || k == 6 || k == 7
  | 7 | 8 => decide (k ≠ 8 ∧ k ≠ 9 ∧ k ≠ 11)
  | 13 => true
  | _ => false

/-- Program charge in µAh from the raw count of µA * 62.5 µs, toward zero (R18). -/
def qUah (q : Int) : Int := tdiv q 57600000

/-- Energy in mJ from the raw count of µV * µA * 62.5 µs, toward zero. -/
def eMj (e : Int) : Int := tdiv e 16000000000000

/-- Step time in ms from ticks of 125 ps; held at 0xFFFF_FFFF (Table 07-20). -/
def tMs (t : Nat) : Nat := Nat.min (t / 8000000) 0xFFFFFFFF

/-- The invalid value of a source or a result. -/
def invalid32 : Int := -2147483648

/-- Saturate to 32 bits signed; the flag says that it saturated (R275). -/
def sat32 (v : Int) : Int × Bool :=
  if v < -2147483648 then (-2147483648, true)
  else if 2147483647 < v then (2147483647, true) else (v, false)

/-- SET operations (Table 07-9): the result before saturation, and ARITH of a division by zero. -/
def setOp (op : Nat) (a b : Int) : Int × Bool :=
  match op with
  | 0 => (a, false)
  | 1 => (a + b, false)
  | 2 => (a - b, false)
  | 3 => (a * b, false)
  | 4 => if b = 0 then (if a = 0 then 0 else if a < 0 then -2147483648 else 2147483647, true)
         else (tdiv a b, false)
  | 5 => (if a ≤ b then a else b, false)
  | 6 => (if a ≤ b then b else a, false)
  | 7 => (if a < 0 then -a else a, false)
  | _ => (0, false)

/-- Comparison codes of VARCMP and IF (R266); codes 6 and 7 never hold. -/
def cmpHolds (code : Nat) (a b : Int) : Bool :=
  match code with
  | 0 => decide (a = b)
  | 1 => decide (a ≠ b)
  | 2 => decide (a < b)
  | 3 => decide (a ≤ b)
  | 4 => decide (b < a)
  | 5 => decide (b ≤ a)
  | _ => false

/-- The loop profile registers of a channel (R129, Tables 04-24 to 04-27): KPI in µΩ, KII in Ω/s, KPV in A/V, KIV in A/(V·s). -/
def State.kpi (s : State) (c : ChanNo) (p : Nat) : Nat := s.fld (chA c (0x40 + 16 * p)) 0 20
def State.kii (s : State) (c : ChanNo) (p : Nat) : Nat := s.fld (chA c (0x44 + 16 * p)) 0 16
def State.kpv (s : State) (c : ChanNo) (p : Nat) : Nat := s.fld (chA c (0x48 + 16 * p)) 0 16
def State.kiv (s : State) (c : ChanNo) (p : Nat) : Nat := s.fld (chA c (0x4C + 16 * p)) 0 32

/-- NTERM of a channel (Table 07-21). -/
def State.nterm (s : State) (c : ChanNo) : Nat := Nat.max 1 (s.fld (pgA c 0x0C) 0 9)

/-- Hardware limits (Tables 07-22 to 07-24). -/
def State.hlIchg (s : State) (c : ChanNo) : Nat := s.reg (pgA c 0x10)
def State.hlIdis (s : State) (c : ChanNo) : Nat := s.reg (pgA c 0x14)
def State.hlVmax (s : State) (c : ChanNo) : Int := sx 32 (s.reg (pgA c 0x18))
def State.hlVmin (s : State) (c : ChanNo) : Int := sx 32 (s.reg (pgA c 0x1C))
def State.hlEmax (s : State) (c : ChanNo) : Nat := s.reg (pgA c 0x20)

/-- The step at an index of the live image; zero past its end. -/
def ProgSt.step (p : ProgSt) (i : Nat) : StepWord := p.live.getD i 0

/-- The executing or paused step of a channel. -/
def Chan.cur (x : Chan) : StepWord := x.prog.step x.prog.pc

/-- Variable Vv. -/
def ProgSt.var (p : ProgSt) (v : Nat) : Int := p.vars.getD v 0

/-- The mean of the last NTERM loop samples, toward zero. -/
def meanOf (l : List Int) (n : Nat) : Int :=
  let m := l.take n
  if m.isEmpty then 0 else tdiv m.sum m.length

/-- Sources of Table 07-10 (R275, R276); a reserved code reads 0. -/
def State.source (s : State) (c : ChanNo) (code : Nat) : Int :=
  let x := s.chan c
  let p := x.prog
  let n := s.nterm c
  let last (f : LastStep → Int) : Int := match p.last with | some l => f l | none => invalid32
  match code with
  | 0x00 => meanOf x.loop.vhist n
  | 0x01 => meanOf x.loop.ihist n
  | 0x02 => if x.meas.tvalid then x.meas.tcell else invalid32
  | 0x03 => (s.gat (gOf c)).tstg
  | 0x10 => last LastStep.v
  | 0x11 => last LastStep.i
  | 0x12 => last LastStep.t
  | 0x13 => last LastStep.ms
  | 0x14 => last LastStep.q
  | 0x15 => last LastStep.e
  | 0x16 => last LastStep.slot
  | 0x17 => p.dcir.getD invalid32
  | 0x20 => qUah p.startQ
  | 0x21 => eMj p.startE
  | 0x22 => (p.startT / 8000000000 : Nat)
  | 0x30 => x.est.src30
  | 0x31 => x.est.src31
  | _ => 0

/-- A SET operand (R275): type 0 variable, 1 immediate, 2 source. -/
def State.setOperand (s : State) (c : ChanNo) (ty w : Nat) : Int :=
  match ty with
  | 0 => (s.chan c).prog.var (w % 32)
  | 1 => sx 32 w
  | 2 => s.source c (w % 256)
  | _ => 0

/-- The frequency code of an EIS point i (R306): a step of round(1,000 / PPD) from FSTART toward FSTOP, FSTOP last; none past it. -/
def eisCode (w : StepWord) (i : Nat) : Option Nat :=
  let fs := bitsOf (slotVal w 2) 0 16
  let fe := bitsOf (slotVal w 2) 16 16
  let ppd := Nat.max 1 (bitsOf (slotVal w 1) 0 8)
  let st := (2000 + ppd) / (2 * ppd)
  let span := if fs ≤ fe then fe - fs else fs - fe
  let whole := span / st
  let n := if span % st = 0 then whole + 1 else whole + 2
  if i ≥ n then none
  else if i ≤ whole then some (if fs ≤ fe then fs + i * st else fs - i * st)
  else some fe

/-- The KIND of a command (Tables 12-3 to 12-17). -/
def CmdOp.opcode : CmdOp → Nat
  | .identify => 0x01 | .status => 0x02 | .qCreate .. => 0x03 | .qDelete _ => 0x04 | .qBind _ => 0x05 | .qRoute .. => 0x06
  | .keyWrite .. => 0x07 | .keyClear _ => 0x07 | .tenantCreate _ => 0x08 | .tenantSuspend _ => 0x09 | .tenantResume _ => 0x09
  | .tenantRemove _ => 0x09 | .tenantReenrol .. => 0x09 | .quotaSet .. => 0x0A | .leaseGrant _ => 0x0B | .leaseModify _ => 0x0C
  | .leaseEnd => 0x0D | .leaseRead => 0x0E | .tenantRead _ => 0x0F | .progWrite _ => 0x10 | .progLen _ => 0x11 | .progRead .. => 0x12
  | .progDiscard => 0x13 | .commit _ => 0x14 | .varWrite _ => 0x15 | .varRead => 0x16 | .signal .. => 0x17 | .start _ => 0x18
  | .stop => 0x19 | .pause => 0x1A | .resume _ => 0x1B | .clear => 0x1C | .measCfg .. => 0x1E | .measRead => 0x1F | .coefRead .. => 0x20
  | .chRead => 0x21 | .estSet _ => 0x22 | .ocvTable _ => 0x23 | .estRead _ => 0x24 | .relearn => 0x25 | .counterRead => 0x27
  | .meterRead _ => 0x28 | .meterClose => 0x29 | .meterLimits .. => 0x2A | .meterSched .. => 0x2B | .ledgerRead => 0x2C
  | .ledgerFetch .. => 0x2D | .ledgerRetain .. => 0x2E | .ledgerSeal => 0x2F | .pairRead => 0x30 | .handover _ => 0x31 | .timeRead => 0x34
  | .timeSet .. => 0x35 | .summer _ => 0x36 | .wakeSet .. => 0x37 | .calTrim _ => 0x38 | .powerRead => 0x39 | .ship => 0x3A
  | .warmReset => 0x3A | .blockReset _ => 0x3A | .svcEnter => 0x3C | .svcExit => 0x3C | .houseClear => 0x3C | .faultAck _ => 0x3C
  | .selftest .. => 0x3C | .refcheck .. => 0x3C | .retest .. => 0x3C | .nvmStat => 0x3C | .nvmScrub => 0x3C | .setTimes .. => 0x3C
  | .calWrite _ => 0x3D | .fwData .. => 0x3E | .fwFinish _ => 0x3E | .fwAbandon => 0x3E | .regRead .. => 0x3F | .regWrite .. => 0x3F
  | .badTrain op => op | .badField op _ => op | .unknown op => op

end Sys2Proof.Machine
end

