-- ==== Sys2Proof/Machine/Flags.lean ====
section
/-! DEFINITION. Flag and status words: SYS_MODE, CH_STAT, CH_PSTAT, PFLAGS, the measurement status and the other status registers
that follow from the state. -/

namespace Sys2Proof.Machine

open Sys2Proof

/-- Mode codes of Table 03-1. -/
def modeCode : Mode → Nat
  | .off => 0 | .ship => 1 | .keep => 2 | .wake => 3 | .boot => 4 | .ready => 5 | .run => 6 | .degraded => 7
  | .twin => 8 | .service => 9 | .lehr => 10 | .lockout => 11

/-- A deferred self-test is pending (R92). -/
def State.anyDeferred (s : State) : Bool := allGathers.any (fun g => !(s.gat g).deferred.isEmpty)

def State.anyPaused (s : State) : Bool := allChans.any s.isPaused

/-- Bits [12:0] of SYS_MODE (Table 03-9). -/
def State.modeBits (s : State) : Nat :=
  modeCode s.mode.mode + 16 * modeCode s.mode.prev + 256 * b2n s.anyFence + 512 * b2n (s.execMask != 0)
    + 1024 * b2n s.board.owner + 2048 * b2n s.anyPaused + 4096 * b2n s.anyDeferred

/-- SYS_MODE as the house reads it. -/
def State.sysMode (s : State) : Nat := s.modeBits + 65536 * s.mode.seq

/-- SYS_MODECAUSE. -/
def State.sysCause (s : State) : Nat := s.mode.cause + 256 * s.mode.wakecause + 65536 * s.mode.fault

/-- RUN and DEGRADED appear as READY in client view (R106). -/
def viewMode : Mode → Mode
  | .run => .ready
  | .degraded => .ready
  | m => m

/-- A fenced unit holds a channel leased to the client (R106). -/
def State.clientFenced (s : State) (t : Nat) : Bool :=
  allChans.any (fun c => s.lessee c.val == some t && s.chanFenced c)

/-- Bits [12:0] of SYS_MODE in client view (R106). -/
def State.viewBitsOf (s : State) (t : Nat) : Nat :=
  modeCode (viewMode s.mode.mode) + 16 * modeCode (viewMode s.mode.prev) + 256 * b2n (s.clientFenced t)
    + 1024 * b2n s.board.owner
    + 2048 * b2n (allChans.any (fun c => s.lessee c.val == some t && s.isPaused c))

/-- CH_STAT (Table 04-19). -/
def State.chStat (s : State) (c : ChanNo) : Nat :=
  let x := s.chan c
  let l := x.loop
  let g := s.gangOf c
  stCode l.st + 16 * loopCode l.kind + 256 * b2n l.de + 512 * b2n l.last.burst
    + 1024 * b2n (l.con && decide (l.st ≠ .released)) + 2048 * b2n (l.cvph && decide (l.st ≠ .released)) + 4096 * b2n l.last.clamp + 8192 * b2n l.limit
    + 16384 * b2n g.isSome + 32768 * b2n (g.isSome && !s.follower c)
    + 65536 * (g.map Gang.slot).getD 0 + 262144 * l.prof

/-- A channel is FAULTED, also while RELEASED (R137). -/
def Chan.isFaulted (x : Chan) : Bool :=
  decide (x.loop.st = .faulted) || (decide (x.loop.st = .released) && decide (x.loop.before = .faulted))

/-- CH_PSTAT (Table 05-19). -/
def State.chPstat (s : State) (c : ChanNo) : Nat :=
  let x := s.chan c
  let p := x.prot
  p.cause + 256 * b2n p.twarn + 512 * b2n p.fold + 1024 * b2n p.retryWait + 2048 * b2n p.uvhold + 4096 * b2n p.xskip
    + 8192 * b2n (x.isFaulted && !p.retryWait) + 16384 * p.retries + 65536 * p.causeMask + 268435456 * p.twinck

/-- The CAP of R298 and the flags of PFLAGS (chapter 12, "Records"). -/
def State.pflags (s : State) (c : ChanNo) : Nat :=
  let x := s.chan c
  b2n x.loop.limit + 2 * b2n x.icap + 4 * b2n x.prot.twarn + 8 * b2n x.prot.fold + 16 * b2n x.prot.uvhold
    + 32 * b2n x.prot.ovhold + 64 * b2n x.prog.deferT.isSome + 128 * b2n x.baltrim + 256 * b2n x.loop.cvph
    + 512 * b2n x.loop.de + 1024 * b2n x.loop.last.burst + 2048 * b2n (s.gangOf c).isSome

/-- PG_STAT (Table 07-18). -/
def State.pgStat (s : State) (c : ChanNo) : Nat :=
  let p := (s.chan c).prog
  p.pc + 512 * b2n (!p.live.isEmpty) + 1024 * b2n p.sync + 2048 * b2n p.arith + 4096 * b2n p.refetch
    + 65536 * p.loops.length

/-- PG_LEN (Table 07-19). -/
def State.pgLen (s : State) (c : ChanNo) : Nat :=
  let p := (s.chan c).prog
  p.live.length + 65536 * p.imggen

/-- HL_EUSED in J, saturating (Table 07-25). -/
def State.hlEused (s : State) (c : ChanNo) : Nat :=
  Nat.min ((s.chan c).eusedE / 16000000000000000) 0xFFFFFFFF

/-- BC_STAT (Table 09-19). -/
def State.bcStat (s : State) (c : ChanNo) : Nat :=
  let x := s.chan c
  let d := match x.prog.deferT with | some t => Nat.min ((s.now - t) / 1000000000) 0xFFFF | none => 0
  b2n x.prog.deferT.isSome + 2 * b2n x.flextrim + 4 * b2n x.proptrim + 65536 * d

/-- CH_MSTAT (Table 06-18). -/
def State.chMstat (s : State) (c : ChanNo) : Nat :=
  let m := (s.chan c).meas
  m.irng + 4 * b2n m.ovrv + 8 * b2n m.ovri + 16 * b2n m.tcold + 32 * b2n m.tvalid + 64 * b2n m.rngforce
    + 256 * m.calgen + 65536 * b2n m.twinok + 131072 * b2n m.twindiff + 262144 * b2n m.notwin

/-- The status bits that hold at the end of an output window, beside those gathered in it (Table 06-6). -/
def State.statusNow (s : State) (c : ChanNo) : Nat :=
  let m := (s.chan c).meas
  4 * m.irng + 64 * b2n (m.lostV || m.lostI) + 128 * b2n (s.gat (gOf c)).calhold + 1024 * b2n (!m.tvalid) + 2048 * b2n m.tcold
    + 4096 * b2n (!s.board.ptpLocked)

/-- State codes of a Punty (Table 06-13). -/
def puntyCode : PuntySt → Nat
  | .free => 0 | .selfcal => 1 | .shadow => 2 | .standin => 3 | .seated => 4 | .retired => 5

/-- PASTATE and PAINPUT, or PBSTATE and PBINPUT (Table 06-13). -/
def Punty.view (p : Punty) : Nat := puntyCode p.st + 16 * (if p.st = .shadow ∨ p.st = .standin ∨ p.st = .seated then p.input else 0)

/-- Punty converters neither seated for good nor retired (Table 06-12). -/
def Gather.spares (g : Gather) : Nat :=
  b2n (g.pa.st != .seated && g.pa.st != .retired) + b2n (g.pb.st != .seated && g.pb.st != .retired)

/-- A mask over the channels of a Gather. -/
def State.gMask (s : State) (g : GatherNo) (p : Chan → Bool) : Nat :=
  maskOf ((chansOf g).filter (fun c => p (s.chan c)) |>.map kOf)

end Sys2Proof.Machine
end

