-- ==== Sys2Proof/Machine/ModeOps.lean ====
section
/-! DEFINITION. Mode transitions, mode events and client views (chapter 03). -/

namespace Sys2Proof.Machine

open Sys2Proof

/-- PTP time as MODETIME holds it: zero while PTP time is not valid (Table 03-11). -/
def State.stampNow (s : State) : Nat := if s.board.ptpValid then s.ptp else 0

/-- The payload of a MODE event (Table 12-24) from SYS_MODE bits and the rest of the view. -/
def modePayload (bits cause fault seq time : Nat) : List Byte :=
  payload [fN 0 1 (bitsOf bits 0 4), fN 1 1 (bitsOf bits 4 4), fN 2 1 cause, fN 3 1 (bitsOf bits 8 5), fN 4 2 fault,
    fN 6 2 seq, fN 8 8 time]

/-- The MODE event to the house (R105) (DEDUCED, log entry 7). -/
def State.modeEvt (s : State) : State :=
  s.pushEvt { kind := 0xA0, tenant := 255, dest := 0, time := s.mode.time,
              urgent := s.mode.mode == .lehr || s.mode.mode == .lockout,
              payloads := [modePayload s.modeBits s.mode.cause s.mode.fault s.mode.seq s.mode.time] }

/-- One client's view: a MODE event at each change of its bits [12:0], and at no other time (R106) (DEDUCED, log entry 26). -/
def State.viewOne (s : State) (t : Nat) : State :=
  match s.tenant? t with
  | some x =>
    let b := s.viewBitsOf t
    if b = x.viewBits then s
    else
      let q := (x.viewSeq + 1) % 65536
      let s := s.onTenant t (fun x => { x with viewBits := b, viewSeq := q })
      s.pushEvt { kind := 0xA0, tenant := t, dest := t, time := s.ptp,
                  payloads := [modePayload b 0 0 q s.ptp] }
  | none => s

/-- Every client's view (DEDUCED, log entry 26). -/
def State.syncViews (s : State) : State :=
  (s.tenants.filter (fun t => t.num != 0)).foldl (fun s t => s.viewOne t.num) s

/-- A mode transition (R80, R87): SYS shows it, MODESEQ counts it (the entry to BOOT is its zero), the event follows. -/
def State.enterMode (s : State) (m : Mode) (cause fault : Nat) : State :=
  let boot := m == .boot
  let md : ModeSt :=
    { s.mode with
      mode := m, prev := s.mode.mode, cause := cause, fault := fault, time := s.stampNow
      seq := if boot then 0 else (s.mode.seq + 1) % 65536
      history := if boot then [m] else m :: s.mode.history }
  let s := { s with mode := md }
  -- the entry to BOOT is the zero of every client's count, whether or not its view changes (R106)
  let zero (n : Nat) (s : State) : State := if boot then { s with tenants := s.tenants.map (fun t => { t with viewSeq := n }) } else s
  match m with
  | .off | .ship | .keep | .wake => s
  | _ => zero 0 (zero 65535 s.modeEvt).syncViews

/-- The mode that READY, RUN and DEGRADED stand for now (R79). -/
def State.workMode (s : State) : Mode :=
  if s.anyFence then .degraded else if s.execMask != 0 then .run else .ready

/-- The code behind the newest fence, for SYS_MODECAUSE (Table 03-10). -/
def State.fenceCode (s : State) : Nat :=
  match s.col.fences.getLast? with
  | some f => 256 * f.uu + f.cc
  | none => 0

/-- R79 and R80 among READY, RUN and DEGRADED; every other mode is left alone. -/
def State.refreshMode (s : State) : State :=
  let w := s.workMode
  let m := s.mode.mode
  if m == .ready || m == .run || m == .degraded then
    if m = w then s.syncViews
    else if w = .degraded then s.enterMode w 0x0B s.fenceCode
    else if m = .degraded then s.enterMode w 0x0C s.col.lifted
    else if w = .run then s.enterMode w 0x09 0
    else s.enterMode w 0x0A 0
  else s.syncViews

end Sys2Proof.Machine
end

