-- ==== Sys2Proof/Machine/Conds.lean ====
section
/-! DEFINITION. Conditions that a Gather tests on its channels in every control cycle: terminations and protection stops (chapters 05
and 07). -/

namespace Sys2Proof.Machine

open Sys2Proof

/-! ### Terminations (R265 to R271) -/

/-- The threshold of a slot: its value or the variable it names (R267); a negative value of an unsigned condition is 0. -/
def ProgSt.threshold (p : ProgSt) (w : StepWord) (i : Nat) (signed : Bool) : Int :=
  if slotVref w i then
    let v := p.var (slotVal w i % 32)
    if !signed && v < 0 then 0 else v
  else if signed then sx 32 (slotVal w i) else (slotVal w i : Int)

/-- Is slot i of the executing step met, and by which data (R270, Table 07-5)? -/
def State.slotMet (s : State) (c : ChanNo) (i : Nat) : Option Nat :=
  let x := s.chan c
  let p := x.prog
  let w := x.cur
  let n := s.nterm c
  let v := meanOf x.loop.vhist n
  let cur := meanOf x.loop.ihist n
  let u := p.threshold w i false
  let sg := p.threshold w i true
  let met (b : Bool) (d : Int) : Option Nat := if b then some (w32 d) else none
  match slotCond w i with
  | 1 => met (decide (u ≤ tMs p.stepT)) (tMs p.stepT)
  | 2 => met (decide (sg ≤ v)) v
  | 3 => met (decide (v ≤ sg)) v
  | 4 => met ((stepKind w == 3 || x.loop.cvph) && decide ((cur.natAbs : Int) ≤ u)) cur
  | 5 => met (decide (u ≤ (qUah p.stepQ).natAbs)) (qUah p.stepQ)
  | 6 => met (decide (u ≤ (eMj p.stepE).natAbs)) (eMj p.stepE)
  | 7 =>
    match p.means.head?, p.means[100]? with
    | some a, some b =>
      met (decide (80000000000 ≤ p.stepT) && (if 0 ≤ sg then decide (10 * sg ≤ a - b) else decide (a - b ≤ 10 * sg))) (tdiv (a - b) 10)
    | _, _ => none
  | 8 =>
    match p.means.head?, p.maxMean with
    | some a, some m => met (decide (u ≤ m - a)) (m - a)
    | _, _ => none
  | 9 => met (x.meas.tvalid && decide (sg ≤ x.meas.tcell)) x.meas.tcell
  | 10 => met (x.meas.tvalid && decide (x.meas.tcell ≤ sg)) x.meas.tcell
  | 11 => met (p.events.contains (slotVal w i % 256)) (slotVal w i % 256 : Nat)
  | 12 =>
    let val := slotVal w i
    let a := p.var (val % 32)
    met (cmpHolds (bitsOf val 5 3) a (sx 24 (bitsOf val 8 24))) a
  | _ => none

/-- The lowest-numbered slot met, with its data (R270). -/
def State.slotTaken (s : State) (c : ChanNo) : Option (Nat × Nat) :=
  (List.range 4).findSome? (fun i => (s.slotMet c i).map (fun d => (i, d)))

/-- Terminations are tested while a work step executes (R270). -/
def State.tests (s : State) (c : ChanNo) : Bool :=
  let x := s.chan c
  x.prog.inStep && !x.prog.newStep && x.prog.active
    && (x.loop.st == .softstart || x.loop.st == .active || x.loop.st == .resting)

/-- The termination that a stop of this moment finds met, to be handled first (R134, R290). -/
def State.endingSlot (s : State) (c : ChanNo) : Option (Nat × Nat) := if s.tests c then s.slotTaken c else none

/-! ### Protection stops (R162, R167 to R191, R298, R350) -/

/-- The number of loop samples in SHWIN. -/
def State.shwin (s : State) (c : ChanNo) : Nat :=
  let t := Nat.max 1 (s.period (gOf c))
  Nat.max 1 ((2 * s.fld (chA c 0x9C) 16 8 * 8000000 + t) / (2 * t))

/-- Short signatures of Table 05-2 that are met. -/
def State.shortCauses (s : State) (m : ChanNo) : List Nat :=
  let x := s.chan m
  let l := x.loop
  let n := s.shwin m
  if !l.con ∨ l.st = .settling ∨ l.st = .released ∨ l.st = .faulted then []
  else
    let old := l.vhist.getD n 0
    let rate := s.bit (chA m 0xAC) 0 && decide (n < x.prot.shortWait) && decide (n < l.vhist.length) && decide (0 ≤ l.iref)
      && decide ((s.fld (chA m 0x9C) 0 13 : Int) * 1000 < old - l.vloop)
    let level := s.bit (chA m 0xAC) 1 && decide (l.vloop < sx 32 (s.reg (chA m 0xA0)))
    (if rate then [5] else []) ++ (if level then [6] else [])

/-- A stop finds something to stop on a channel: it is driven, and not latched in FAULTED already (DEDUCED, log entry 15). -/
def Chan.stoppable (x : Chan) : Bool :=
  decide (x.loop.st ≠ .released) && (decide (x.loop.st ≠ .faulted) || x.prot.retryWait)

/-- The slow-overload counter has reached SLOWT (R174, R175). -/
def State.slowMet (s : State) (m : ChanNo) : Bool :=
  let x := s.chan m
  decide (s.fld (chA m 0x88) 16 10 * 800000 ≤ x.prot.slowT) && decide (x.loop.st ≠ .softstart) && x.stoppable

/-- The cell voltage has lain below REVV for 1 ms (R184). -/
def State.reversed (s : State) (c : ChanNo) : Bool := s.bit (chA c 0xAC) 2 && decide (8000000 ≤ (s.chan c).prot.revT)

/-- TSTG has reached TSHUT (R178); before a first valid reading there is none (R179) (DEDUCED, log entry 15). -/
def State.shutMet (s : State) (m : ChanNo) : Bool :=
  let y := s.gat (gOf m)
  y.stgSeen && decide (s.fldS (chA m 0x94) 16 16 ≤ y.tstg) && (s.chan m).stoppable

/-- The stop condition of the bus against a channel's reference (R350). -/
def State.busCauses (s : State) (m : ChanNo) : List Nat :=
  let l := (s.chan m).loop
  let y := s.gat (gOf m)
  if !stSwitch l.st then []
  else (if y.uvs ∧ 0 < l.iref then [0x15] else []) ++ (if y.ovs ∧ l.iref < 0 then [0x16] else [])

/-- The lease limits that the leader finds broken (R298). -/
def State.leaseCauses (s : State) (c : ChanNo) : List Nat :=
  let x := s.chan c
  if !stSwitch x.loop.st then []
  else
    let v := meanOf x.loop.vhist (s.nterm c)
    let vt := (0 < x.loop.total ∧ s.hlVmax c < v) ∨ (x.loop.total < 0 ∧ v < s.hlVmin c)
    (if vt then [0x10] else []) ++ (if s.hlEmax c ≠ 0 ∧ s.hlEmax c ≤ s.hlEused c then [0x11] else [])

/-- The cause of a Crack-off trip (R168, R170): CK_IDLE with both switches off, CK_TRIP with a retry left, else CK_LATCH. -/
def State.ckCause (s : State) (m : ChanNo) : Nat :=
  let l := s.leaderOf m
  if (s.chan m).prot.ckOff then 3 else if (s.chan l).prot.retries < s.fld (chA l 0x84) 8 2 then 1 else 2

/-- Every stop of a member whose condition is met at present (R162). -/
def State.metCauses (s : State) (m : ChanNo) : List Nat :=
  let x := s.chan m
  (if x.prot.ckLatch then [s.ckCause m] else [])
    ++ (if s.shutMet m then [4] else [])
    ++ s.shortCauses m
    ++ (if s.reversed m ∧ x.loop.con ∧ x.stoppable then [7] else [])
    ++ (if s.slowMet m then [0x0A] else [])
    ++ (if s.leaderOf m = m then s.leaseCauses m else [])
    ++ s.busCauses m

end Sys2Proof.Machine
end

