-- ==== Sys2Proof/Machine/ChanOps.lean ====
section
/-! DEFINITION. What stops, releases and ends do to a channel or gang, and the step-end record (chapters 04, 05, 07). -/

namespace Sys2Proof.Machine

open Sys2Proof

/-- Table 12-24, CHSTATE: the stop kind byte. -/
inductive StopKind where
  | none | ramped | fault | hard | release
  deriving DecidableEq, Repr

def stopKindCode : StopKind → Nat
  | .none => 0 | .ramped => 1 | .fault => 2 | .hard => 3 | .release => 4

/-- The part starts to drive a channel, and with it the excitation: its TMP and STGT samples of 1 ms are discarded (R64, R65). -/
def State.exciteOn (s : State) (c : ChanNo) : State :=
  (s.onMeas c (fun m => { m with tdiscard := 1 })).onGat (gOf c) (fun y => { y with sdiscard := 1 })

/-- Change a channel's state; the CHSTATE event is the leader's or the single channel's (R159). -/
def State.setSt (s : State) (c : ChanNo) (new : ChState) (k : StopKind) (fault : Nat) : State :=
  let old := (s.chan c).loop.st
  if old = new then s
  else
    let s := s.onLoop c (fun l => { l with st := new })
    let s := if old = .released then s.exciteOn c else s
    if s.follower c then s
    else s.chanEvt 0xA2 c [payload [fN 0 1 (stCode new), fN 1 1 (stCode old), fN 2 1 (stopKindCode k), fN 4 2 fault,
      fN 8 8 s.ptp, fN 16 2 (s.chan c).prog.pc]]

/-- REST governs from the period after the one now running (R126, R288): both switches low, integrators and references zero. DE and its
average stay as they were (R148). -/
def LoopSt.rest (l : LoopSt) : LoopSt :=
  { l with next := {}, si := 0, sv := 0, clampDir := 0, deficit := 0, cvph := false, iref := 0, total := 0, ramp := 0, rampFrom := 0,
           slewPos := 0, tkramp := false, tkT := 0, tkFrom := 0, limit := false, ff := false, hold := 0 }

/-- Switches low at once, nothing kept of the loops (R143); the average of R147 is cleared with them (R148). -/
def LoopSt.quiet (l : LoopSt) : LoopSt :=
  { l.rest with mid := {}, de := false, deWin := [], deHold := 0, ss := none }

/-! ### Barriers -/

/-- A channel withdraws its arrival (R284); a release already set stands for the others. -/
def State.withdraw (s : State) (c : ChanNo) : State :=
  let bs := s.barriers.map (fun b => if b.arrived.contains c.val then { b with arrived := dropAll c.val b.arrived } else b)
  { s.onProg c (fun p => { p with sync := false }) with
    barriers := bs.filter (fun b => !b.arrived.isEmpty || b.trel.isSome) }

/-! ### Estimator marks (R332 to R334, R340) -/

/-- The capacity in use (R330): the last measured one, or CNOM. -/
def EstSt.cap (e : EstSt) : Nat := e.cmeas.getD e.cnom

def State.estEvt (s : State) (c : ChanNo) (code : Nat) (v : Int) : State :=
  s.chanEvt 0xA8 c [payload [fN 0 1 code, fI 4 4 v, fN 8 8 s.ptp]]

/-- A full mark: the estimate becomes 100.00 % (R332). -/
def State.fullMark (s : State) (c : ChanNo) : State :=
  let s := s.onEst c (fun e => { e with soc := if e.cap = 0 then e.soc else some 1000000000, full := some (e.netQ + e.accQ),
                                        emptyMk := false, chgSince := 0 })
  s.estEvt c 2 10000

/-- An empty mark, and the capacity measured after a full mark (R333, R334, R341). -/
def State.emptyMark (s : State) (c : ChanNo) : State :=
  let e := (s.chan c).est
  let net := e.netQ + e.accQ
  let s := s.onEst c (fun e => { e with soc := if e.cap = 0 then e.soc else some 0, emptyMk := true, full := none })
  let s := s.estEvt c 3 0
  match e.full with
  | some q0 =>
    if e.chgSince ≤ (e.cap : Int) * 57600000 / 100 then
      let cm := (qUah (q0 - net)).natAbs
      let s := s.onEst c (fun e => { e with cmeas := some cm, soc := some 0 })
      let s := s.estEvt c 0 cm
      if e.stale then (s.onEst c (fun e => { e with stale := false })).estEvt c 1 cm else s
    else s
  | none => s

/-- A fault stop, a contact loss or a cell change clears the full mark (R334). -/
def State.clearMarks (s : State) (c : ChanNo) : State := s.onEst c (fun e => { e with full := none, emptyMk := false })

/-- VSET of a CV or CCCV step as its setpoint or its PARAM slot 3 holds it (Table 07-3). -/
def Chan.vset (x : Chan) : Int :=
  let w := x.cur
  if stepKind w = 3 then x.prog.seta else sx 32 (slotVal w 3)

/-- Marks that a step's end sets (R332, R333): `slot` is the slot taken. -/
def State.markEnd (s : State) (c : ChanNo) (slot : Nat) : State :=
  let x := s.chan c
  let w := x.cur
  let k := stepKind w
  let cond := if slot < 4 then slotCond w slot else 0
  let t := x.est.table
  let s := s.onEst c (fun e => e)
  if (k = 3 ∨ k = 4) ∧ cond = 4 then
    match t.getLast? with
    | some top => if top.2 ≤ x.vset then s.fullMark c else s
    | none => s.fullMark c
  else if (k = 2 ∨ k = 5 ∨ k = 6) ∧ cond = 3 ∧ x.loop.total < 0 then
    let thr := if slotVref w slot then x.prog.var (slotVal w slot % 32) else sx 32 (slotVal w slot)
    match t.head? with
    | some bot => if thr ≤ bot.2 then s.emptyMark c else s
    | none => s.emptyMark c
  else s

/-! ### The end of a work step (R272, Table 12-21) -/

/-- Means of a DCIR window. -/
def Mean.mv (m : Mean) : Int := if m.n = 0 then 0 else tdiv m.v m.n
def Mean.mi (m : Mean) : Int := if m.n = 0 then 0 else tdiv m.i m.n

/-- (Vb − Va) / (Ib − Ia) in µΩ, invalid below 5 % of IRATED (R326, R327). -/
def dcirOf (a b : Mean) (irated : Nat) : Int :=
  let dv := b.mv - a.mv
  let di := b.mi - a.mi
  if b.n = 0 ∨ a.n = 0 ∨ di = 0 ∨ di.natAbs * 20 < irated then invalid32
  else if di < 0 then rdiv (-dv * 1000000) (-di) else rdiv (dv * 1000000) di

/-- The OCV records of the K fit (R337): those taken after KSKIP; and the span of the fit in ms. -/
def EstSt.fitted (e : EstSt) : List (Nat × Int) := e.ocvs.filter (fun x => e.kskip * 3600000 ≤ x.1)
def EstSt.fitSpan (e : EstSt) : Nat := match e.fitted.head?, e.fitted.getLast? with | some a, some b => b.1 - a.1 | _, _ => 0

/-- Entry 1 of a STEP_END (Table 12-21). -/
def State.stepEnd1 (s : State) (c : ChanNo) (own : Bool) : List Byte :=
  let x := s.chan c
  let p := x.prog
  match stepKind x.cur with
  | 8 =>
    let r1 := if own then dcirOf p.dcirA p.dcir1s (s.irated c) else invalid32
    let re := if own then dcirOf p.dcirA p.dcirW (s.irated c) else invalid32
    payload [fI 0 4 p.dcirA.mv, fI 4 4 p.dcirA.mi, fI 8 4 p.dcirW.mv, fI 12 4 p.dcirW.mi, fI 16 4 r1, fI 20 4 re]
  | 9 => payload [fN 0 2 x.eis.done]
  | 10 =>
    payload [fI 0 4 (x.est.k.getD invalid32), fI 4 4 (x.est.isd.getD invalid32), fN 8 4 (x.est.fitSpan / 1000)]
  | _ => payload []

/-- The current that a channel's records carry: the gang total (R159). -/
def State.recI (s : State) (c : ChanNo) : Int := ((s.membersOf c).map (fun m => (s.chan m).meas.iout)).sum

/-- The time that the step has spent deferred, the present deferral included (R356). -/
def State.deferredMs (s : State) (c : ChanNo) : Nat :=
  let p := (s.chan c).prog
  p.deferMs + (match p.deferT with | some t => (s.now - t) / 1000000 | none => 0)

/-- The step-end record: slots 0 to 3, 4 own end, 5 stop, pause or fault. -/
def State.stepEndRec (s : State) (c : ChanNo) (slot data fcode : Nat) : State :=
  let x := s.chan c
  let p := x.prog
  let m := x.meas
  let own := slot == 4
  let pf := s.pflags c
  let pf := if p.limited && !pf.testBit 0 then pf + 1 else pf
  s.chanRec 0x61 c p.pc s.ptp false
    [payload [fN 0 8 s.ptp, fN 8 1 slot, fN 9 1 (stepKind x.cur), fN 10 1 p.imggen, fN 12 4 (tMs p.stepT),
       fI 16 4 (qUah p.stepQ), fI 20 4 (eMj p.stepE), fN 24 4 data, fI 28 4 m.vout, fI 32 4 (s.recI c), fI 36 2 m.tcell,
       fN 38 2 m.mstat, fN 40 2 pf, fN 42 2 fcode, fN 44 4 (s.deferredMs c)],
     s.stepEnd1 c own]

/-- A work step ends: its record, the sources 0x10 to 0x17, the estimator marks, its barrier and sweep. `keep` is a pause. -/
def State.endStep (s : State) (c : ChanNo) (slot data fcode : Nat) (keep : Bool) : State :=
  let x := s.chan c
  if !x.prog.inStep then s
  else
    let k := stepKind x.cur
    let s := s.stepEndRec c slot data fcode
    let s := s.withdraw c
    let s := s.onEis c (fun e => { e with phase := 0, tone := 0, ffpath := false })
    if keep then s.onProg c (fun p => { p with deferMs := s.deferredMs c, deferT := none })
    else
      let s := s.markEnd c slot
      let last : LastStep :=
        { v := x.meas.vout, i := s.recI c, t := if x.meas.tvalid then x.meas.tcell else invalid32,
          ms := tMs x.prog.stepT, q := qUah x.prog.stepQ, e := eMj x.prog.stepE, slot }
      let r := if slot = 4 then dcirOf x.prog.dcirA x.prog.dcirW (s.irated c) else invalid32
      let s := s.onProg c (fun p => { p with inStep := false, last := some last, deferT := none, newStep := false,
                                              dcir := if k = 8 then some r else p.dcir })
      if k = 8 then s.onEst c (fun e => { e with dcir := if r = invalid32 then none else some r }) else s

/-! ### Stops (R143) -/

/-- The program of a channel without an image: IMGGEN stands (R446, Table 07-20). -/
def ProgSt.emptied (p : ProgSt) : ProgSt := { imggen := p.imggen }

/-- The end of a program: nothing executes, the loop stack is empty; the image of a lease that has been revoked goes with it (R446). -/
def State.endProg (s : State) (c : ChanNo) : State :=
  s.onProg c (fun p =>
    if p.discard then p.emptied
    else { p with active := false, inStep := false, newStep := false, loops := [], deferT := none })

/-- A termination met in the same cycle as a stop is handled first: its step-end record is written, and the next step never executes
(R134, R290) (DEDUCED, log entry 10). -/
def State.termFirst (s : State) (c : ChanNo) : State :=
  match s.endingSlot c with
  | some (i, d) => s.endStep c i d 0 false
  | none => s

/-- The ramp of a ramped stop has reached zero: switches low, CON as Table 04-4 gives, STOPPED or PAUSED. -/
def State.finishStop (s : State) (c : ChanNo) : State :=
  let sf := (s.chan c).loop.stopFor
  let conkeep := match sf with | .endProg k => k | _ => false
  let pausing := match sf with | .pause => true | .lehr => true | _ => false
  let s := s.endStep c 5 0 0 pausing
  let s := if pausing then s.onProg c (fun p => { p with first := false }) else s.endProg c
  let s := s.forChans (s.membersOf c) (fun m s =>
    let s := s.onLoop m (fun l => { l.quiet with con := conkeep && l.con, kind := .rest })
    let s := s.onProt m (fun p => { p with uvhold := false, ovhold := false })
    s.setSt m (if pausing then .paused else .stopped) .ramped 0)
  s.onLoop c (fun l => { l with evCorr := none })

/-- A ramped stop (R143), with the CORR of the command that asks for it, if one does (R34). It overrides a ramped stop in progress
(R145), from the reference that one has reached. A channel whose switches do not run is at zero already and stops at once
(DEDUCED, log entry 13). -/
def State.rampStop (s : State) (c : ChanNo) (sf : StopFor) (corr : Option Nat) : State :=
  let s := s.termFirst c
  let l := (s.chan c).loop
  if !stExec l.st ∧ ¬ (l.st = .stopped ∧ (s.chan c).prog.active) then s
  else
    let sw := stSwitch l.st
    let s := s.forChans (s.membersOf c) (fun m s =>
      let s := s.onLoop m (fun l => { l with stopFor := sf, ramp := 0, rampFrom := l.iref, tkramp := false, ff := false })
      s.onChan m (fun x => { x with cap := none }))
    let s := s.onLoop c (fun l => { l with rampFrom := l.total, evCorr := corr })
    if sw then s.forChans (s.membersOf c) (fun m s => s.setSt m .stopping .ramped 0)
    else s.finishStop c

/-- The bit of a cause in CAUSEMASK: CC − 1 for the causes of Table 05-3, none for later ones (R192, R250). -/
def causeBit (cc : Nat) : Nat := if 1 ≤ cc ∧ cc ≤ 0x0C then 2 ^ (cc - 1) else 0

/-- CAUSE after a fault: the causes of Table 05-3 and MEAS_LOST (R193, R250). -/
def ProtSt.noteCause (p : ProtSt) (cc : Nat) : ProtSt := { p with cause := if 1 ≤ cc ∧ cc ≤ 0x0D then cc else p.cause }

/-- Voltage, current and IREF at a channel fault (Table 12-23). -/
def State.chDetail (s : State) (c : ChanNo) : List Byte :=
  let l := (s.chan c).loop
  leBytesI 4 l.vloop ++ leBytesI 4 l.iloop ++ leBytesI 4 l.iref

/-- One member takes a fault stop with these causes (R143, R162): low at once, CON opens TCOFF after the switches went low, FAULTED;
`report` raises the fault. A released one is FAULTED when it is driven again (R137). -/
def State.faultOne (s : State) (c : ChanNo) (causes : List Nat) (corr stepref : Nat) (report : Bool) : State :=
  let d := s.chDetail c
  let cc := causes.foldl Nat.min 255
  let code := 256 * uChan c + cc
  let s := s.onProt c (fun p =>
    { p.noteCause cc with causeMask := causes.foldl (fun a x => a ||| causeBit x) 0, retryWait := false, ckLatch := false
                          uvhold := false, ovhold := false })
  let s :=
    if (s.chan c).loop.st = .released then s.onLoop c (fun l => { l with before := .faulted, evCorr := none })
    else
      let s := s.onLoop c (fun l =>
        { l.quiet with tcoff := l.con, ramp := if l.tcoff then l.ramp else 0, kind := .rest, evCorr := none })
      s.setSt c .faulted .fault code
  let s := s.clearMarks c
  if report then s.pushFault { uu := uChan c, cc, corr, stepref, detail := d } else s

/-- Record LEASE_V and LEASE_E in HL_STAT (Table 07-26). -/
def State.leaseTrips (s : State) (c : ChanNo) (causes : List Nat) : State :=
  let s := if causes.contains 0x10 then s.setBit (pgA c 0x28) 1 else s
  if causes.contains 0x11 then s.setBit (pgA c 0x28) 2 else s

/-- A fault stop of a channel or gang for these causes of channel c and every other stop condition met on a member in the same cycle
(R143, R156, R162): every member stops; one without a cause of its own carries GANG; the fault is reported on each faulted member and on
the leader. -/
def State.faultStop (s : State) (c : ChanNo) (causes : List Nat) : State :=
  let l := s.leaderOf c
  let corr := (s.chan l).prog.corr
  let ref := s.stepRef l
  let ms := s.membersOf c
  let own := ms.map (fun m => (m, (if m = c then causes else []) ++ s.metCauses m))
  let all := (own.map Prod.snd).flatten
  let code := match own.find? (fun x => x.2.contains (all.foldl Nat.min 255)) with
    | some x => 256 * uChan x.1 + x.2.foldl Nat.min 255
    | none => 256 * uChan c
  let s := s.termFirst l
  let s := (s.endStep l 5 0 code false).endProg l
  let s := s.leaseTrips l all
  own.foldl (fun s x => s.faultOne x.1 (if x.2.isEmpty then [0x0B] else x.2) corr ref (!x.2.isEmpty || x.1 == l)) s

/-- A criterion met while the channel is not to be stopped: an event with the same cause (R184, R193). -/
def State.faultEvent (s : State) (c : ChanNo) (cc : Nat) : State :=
  (s.onProt c (fun p => p.noteCause cc)).pushFault
    { uu := uChan c, cc, corr := (s.chan c).prog.corr, stepref := s.stepRef c, detail := s.chDetail c }

/-- A retry wait is cancelled (R169): FAULTED with CK_LATCH on each member that tripped, which reports it; the program ends (DEDUCED, log
entry 33). -/
def State.cancelRetry (s : State) (c : ChanNo) (corr : Option Nat) : State :=
  let co := corr.getD (s.chan c).prog.corr
  let ref := s.stepRef c
  let s := (s.endStep c 5 0 (256 * uChan c + 2) false).endProg c
  s.forChans (s.membersOf c) (fun m s =>
    let hit := decide ((s.chan m).prot.cause = 1)
    let s := s.onProt m (fun p => { p with retryWait := false, cause := if hit then 2 else p.cause })
    if hit then s.pushFault { uu := uChan m, cc := 2, corr := co, stepref := ref, detail := s.chDetail m } else s)

/-- A hard stop (R83): low within one control cycle, CON open, no ramp; the program ends, a paused one stays PAUSED (R103). -/
def State.hardStop (s : State) (c : ChanNo) : State :=
  let l := (s.chan c).loop
  if l.st = .released then s
  else
    let s := if stExec l.st then ((s.termFirst c).endStep c 5 0 0 false).endProg c else s
    let s := s.onLoop c (fun l => { l.quiet with con := false, tcoff := false, kind := .rest, evCorr := none })
    let s := if l.st = .faulted ∧ (s.chan c).prot.retryWait then s.endProg c else s
    let s := s.onProt c (fun p => { p with retryWait := false })
    if stExec l.st then s.setSt c .stopped .hard 0 else s

/-! ### Release and drive (R66, R137) -/

/-- A channel's balls are released (R143, Release kind). -/
def State.releaseChan (s : State) (c : ChanNo) : State :=
  let l := (s.chan c).loop
  if l.st = .released then s
  else
    let s := if stExec l.st then s.withdraw c else s
    let s := s.onLoop c (fun l => { l.quiet with con := false, tcoff := false, before := l.st, sv := l.sv, cvph := l.cvph, total := l.total,
                                                   ramp := l.ramp, rampFrom := l.rampFrom, slewPos := l.slewPos, de := l.de, evCorr := none })
    s.setSt c .released .release 0

/-- A channel may be driven again: it leaves RELEASED by the state it was released in (R137). -/
def State.driveChan (s : State) (c : ChanNo) : State :=
  let l := (s.chan c).loop
  if l.st ≠ .released then s
  else
    let dst : ChState :=
      if stExec l.before ∨ l.before = .paused then .paused
      else if l.before = .faulted then .faulted else .stopped
    let s := s.onLoop c (fun l => { l.quiet with con := false, before := .stopped })
    let s := if stExec l.before then s.onProg c (fun p => { p with deferMs := s.deferredMs c, deferT := none, first := false }) else s
    s.setSt c dst .none 0

/-- Apply R66 to every channel. -/
def State.syncDrive (s : State) : State :=
  s.forChans allChans (fun c s => if s.mayDrive c then s.driveChan c else s.releaseChan c)

/-- What follows any change of ownership, fence, reset or mode: drive, then the mode and the views. -/
def State.settle (s : State) : State := s.syncDrive.refreshMode

end Sys2Proof.Machine
end

