-- ==== Sys2Proof/Machine/ProgOps.lean ====
section
/-! DEFINITION. Running a step program: entering a work step, control chains, terminations and transitions (chapters 04 and 07). -/

namespace Sys2Proof.Machine

open Sys2Proof

/-! ### Limits on the reference (R127, R298, R182, R177) -/

/-- The I²t cap of a member in µA (R180 to R182): 2 × IRATED, or the fold-back ramp over 50 ms down to IRATED. -/
def State.i2tCap (s : State) (c : ChanNo) : Nat :=
  let r := s.irated c
  let p := (s.chan c).prot
  if p.fold then
    if p.foldT ≥ 400000000 ∨ p.foldFrom ≤ r then r
    else p.foldFrom - (p.foldFrom - r) * p.foldT / 400000000
  else 2 * r

/-- The thermal cap of a member in µA while its warning holds (R177). -/
def State.thermCap (s : State) (c : ChanNo) : Option Nat :=
  if (s.chan c).prot.twarn then some (s.irated c * s.fld (chA c 0x98) 16 7 / 100) else none

/-- The bus-balance and lease limits, on the total (R127, R154, R298). -/
def State.limTotal (s : State) (c : ChanNo) (r : Int) : Int :=
  let r := match (s.chan c).cap with | some m => capMag m r | none => r
  clampI (-(s.hlIdis c : Int)) (s.hlIchg c) r

/-- A member's own I²t and thermal limits, last in the order (R155). -/
def State.limOwn (s : State) (c : ChanNo) (r : Int) : Int :=
  let r := capMag (s.i2tCap c) r
  match s.thermCap c with | some m => capMag m r | none => r

/-- The share of each member in a total (R154): followers first, rounded toward zero; the leader takes the rest. -/
def State.shareOf (s : State) (c : ChanNo) (total : Int) : Int :=
  match s.gangOf c with
  | none => total
  | some g =>
    let ms := s.membersOf c
    let one (m : ChanNo) : Int :=
      if g.ratio then tdiv (total * s.fld (chA m 0x0C) 0 16) 65536 else tdiv total ms.length
    if s.follower c then one c
    else total - ((ms.filter (fun m => m ≠ c)).map one).sum

/-- Vavg: the mean of the last 8 loop samples of voltage times 8 (R119), at least 0.5 V in CP. -/
def LoopSt.v8 (l : LoopSt) : Int := (l.vhist.take 8).sum
def LoopSt.n8 (l : LoopSt) : Nat := Nat.max 1 (l.vhist.take 8).length

/-- Iref of a CP step (R119, R124): PSET / max(Vavg, 0.5 V), in µA, toward zero. -/
def cpRef (pset : Int) (l : LoopSt) : Int :=
  if 2 * l.v8 ≤ 1000000 * l.n8 then tdiv (pset * 1000000000) 500000
  else tdiv (pset * 1000000000 * l.n8) l.v8

/-- Iref of a CR step (R119, R124): −max(Vavg, 0) / RSET. A patched RSET of 0 or below leaves the magnitude open (DESIGN CHOICE, log
entry 60): a CR step never charges a cell. -/
def crRef (rset : Int) (l : LoopSt) : Int :=
  if l.v8 ≤ 0 then 0
  else if rset ≤ 0 then -((Config.freeRef rset l.v8 % 1000000000 : Nat) : Int)
  else -(tdiv (l.v8 * 1000000) (rset * l.n8))

/-- ILO and IHI of a voltage-loop step (Table 04-1, R260). -/
def State.cvClamp (s : State) (c : ChanNo) : Int × Int :=
  let x := s.chan c
  let w := x.cur
  if stepKind w = 3 then
    (if slotCond w 2 = 13 then sx 32 (slotVal w 2) else 0,
     if slotCond w 3 = 13 then sx 32 (slotVal w 3) else s.hlIchg c)
  else if x.prog.seta > 0 then (0, x.prog.seta) else (x.prog.seta, 0)

/-- The reference of the step before limits, at its full value; the voltage loop's present output for CV and CCCV (DEDUCED, log entry 12). -/
def State.fullRef (s : State) (c : ChanNo) : Int :=
  let x := s.chan c
  let w := x.cur
  match stepKind w with
  | 2 => x.prog.seta
  | 3 => x.loop.total
  | 4 => if x.loop.cvph then x.loop.total else x.prog.seta
  | 5 => cpRef x.prog.seta x.loop
  | 6 => crRef x.prog.seta x.loop
  | 7 => if x.prog.pulseB then sx 32 (slotVal w 3) else x.prog.seta
  | 8 => if x.prog.dcirB then sx 32 (slotVal w 3) else x.prog.seta
  | 9 => x.prog.seta + (if x.eis.ffpath then 0 else x.eis.tone)
  | _ => 0

/-- The direction in which a step drives current when it begins (R350, R356): that of its setpoint. -/
def State.stepDir (s : State) (c : ChanNo) : Int :=
  let x := s.chan c
  match stepKind x.cur with
  | 3 => let v := x.loop.vloop
         if x.prog.seta ≥ v then 1 else if (s.cvClamp c).1 < 0 then -1 else 0
  | 4 => sgn x.prog.seta
  | _ => sgn (s.fullRef c)

/-! ### Entering a work step -/

/-- The setpoint of a step: the literal, or the variable clamped to its field's range (R264); a patched literal is not checked (R279). The flag
is ARITH. -/
def ProgSt.setpoint (p : ProgSt) (w : StepWord) : Int × Bool :=
  if !stepSvar w then (stepSeta w, false)
  else
    let v := p.var (stepSetaRaw w % 32)
    if stepKind w = 6 then
      let r := clampI 1000 100000000 v
      (r, decide (r ≠ v))
    else (v, false)

/-- The setpoint that the step of pc begins with (R264). -/
def ProgSt.sampled (p : ProgSt) : ProgSt :=
  let v := p.setpoint (p.step p.pc)
  { p with seta := v.1, arith := p.arith || v.2 }

/-! ### Soft-start, takeover ramp and voltage loop (R121, R123, R140, R538) -/

/-- The limit of a running takeover ramp (R538): from the magnitude of the last loop sample to full over TKRAMP. -/
def State.tkLimit (s : State) (c : ChanNo) (r : Int) : Int :=
  let l := (s.chan c).loop
  let tk := Nat.max 1 (s.fld 0x330000 0 8 * 400000)
  if !l.tkramp ∨ tk ≤ l.tkT then r
  else
    let a := l.tkFrom
    capMag (if r.natAbs ≤ a then a else a + (r.natAbs - a) * l.tkT / tk) r

/-- Scale by a running soft-start, or limit by a takeover ramp (R140, R538). -/
def State.ramped (s : State) (c : ChanNo) (r : Int) : Int :=
  let l := (s.chan c).loop
  if l.st = .softstart then
    let tss := Nat.max 1 (s.fld (gA (gOf c) 0x0C) 16 16 * 800000)
    if tss ≤ l.ramp then r else tdiv (r * l.ramp) tss
  else s.tkLimit c r

/-- The chain of limits on a total; a channel alone also takes its own I²t and thermal limits here. -/
def State.limits (s : State) (c : ChanNo) (r : Int) : Int :=
  let r := s.limTotal c r
  if (s.gangOf c).isSome then r else s.limOwn c r

/-- A total after every limit, the members' own included (R127, R155). -/
def State.afterLimits (s : State) (c : ChanNo) (r : Int) : Int :=
  let t := s.limTotal c r
  ((s.membersOf c).map (fun m => s.limOwn m (s.shareOf m t))).sum

/-- What the voltage loop gives: reference, new sv, CV phase, and whether a limit moved the end of the clamp it lies at. -/
structure VoltOut where
  r    : Int
  sv   : Int
  cvph : Bool
  lim  : Bool
  deriving DecidableEq, Repr

/-- The voltage loop of one control cycle (R121, R123) `ramp` scales its clamp during a
soft-start (DESIGN CHOICE, log entry 11). -/
def State.voltLoop (s : State) (c : ChanNo) (ramp : Int → Int) : VoltOut :=
  let x := s.chan c
  let l := x.loop
  let w := x.cur
  let u : Int := 8000000000
  let (lo0, hi0) := s.cvClamp c
  let lo1 := ramp lo0
  let hi1 := ramp hi0
  let lo := s.limits c lo1
  let hi := s.limits c hi1
  let ev := x.vset - l.vloop
  let t : Int := s.period (gOf c)
  let cc := l.kind = .cccv ∧ !l.cvph
  let sv0 := if cc then clampI (lo * u) (hi * u) (x.prog.seta * u) else l.sv
  let sv := clampI (lo * u) (hi * u) (sv0 + s.kiv c (stepProf w) * t * ev)
  let out := clampI (lo * u) (hi * u) (s.kpv c (stepProf w) * ev * u + sv)
  let top := if 0 < x.prog.seta then hi * u else lo * u
  let inside := cc ∧ out ≠ top
  { r := tdiv out u
    sv := if cc ∧ !inside then x.prog.seta * u else sv
    cvph := l.cvph || inside
    lim := (lo ≠ lo1 ∧ out = lo * u) ∨ (hi ≠ hi1 ∧ out = hi * u) }

/-- The reference with which a step begins, after the limits, at its full value (R148); for CV and CCCV the voltage loop's first output. -/
def State.beginRef (s : State) (c : ChanNo) : Int :=
  let k := stepKind (s.chan c).cur
  s.afterLimits c (if k = 3 ∨ k = 4 then (s.voltLoop c id).r else s.fullRef c)

/-- DE is enabled on every member of a gang, and the step allows it (R152, R305) (DESIGN CHOICE, log entry 59). -/
def State.deAllowed (s : State) (c : ChanNo) : Bool :=
  (s.membersOf c).all (fun m => s.bit (gA (gOf m) 0x14) 0 && !s.bit (chA m 0x00) 0) && stepKind (s.chan c).cur != 9

/-- DE as a step begins (R148, R158): at a start, resume or retry the average is cleared and DE holds below the entry threshold; at a
transition it ends above the exit threshold and the average decides again DEWIN control cycles later. The burst deficit starts at zero
(DESIGN CHOICE, log entry 59). -/
def State.deBegin (s : State) (c : ChanNo) (first : Bool) : State :=
  let ms := s.membersOf c
  let h := (ms.map s.hRange).sum
  let r := (s.beginRef c).natAbs
  let ok := s.deAllowed c
  let n := Nat.max 1 (s.fld (gA (gOf c) 0x14) 8 8)
  s.forChans ms (fun m s => s.onLoop m (fun l =>
    let leave := decide (3 * h < 100 * r)
    { l with de := ok && (if first then decide (r * 1000 < 15 * h) else l.de && !leave)
             deWin := if first then [] else l.deWin
             deHold := if first then 0 else if l.de && leave then n else 1
             deficit := 0 }))

/-- The integrators at a transition to a step with the clamp [lo, hi] (Table 04-2, R131) (DEDUCED, log entry 13). -/
def LoopSt.carry (l : LoopSt) (new : LoopKind) (iset lo hi : Int) : LoopSt :=
  let volt (k : LoopKind) : Bool := k == .cv || k == .cccv
  if l.kind = .rest then
    { l with si := 0, sv := if new = .cccv then iset * 8000000000 else 0 }
  else if new = .rest then { l with si := 0, sv := 0 }
  else if volt l.kind && volt new then { l with sv := clampI (lo * 8000000000) (hi * 8000000000) l.sv }
  else if volt new then { l with sv := l.total * 8000000000 }
  else if volt l.kind then { l with sv := 0 }
  else l

/-- An arrival at a SYNC barrier (R282, R283) (DEDUCED, log entry 13). -/
def State.arrive (s : State) (c : ChanNo) : State :=
  let seta := (stepSetaRaw (s.chan c).cur)
  let b := seta % 32
  let n := bitsOf seta 8 7
  let t := s.ownerOf c.val
  let put (a : List Nat) : Barrier :=
    { tenant := t, num := b, count := n, arrived := a, trel := if n ≤ a.length then some (s.ptp + 2000) else none }
  match s.barriers.find? (fun x => x.tenant == t && x.num == b && x.trel.isNone) with
  | some x =>
    if x.count ≠ n then s.faultStop c [0x13]
    else
      let s := { s with barriers := s.barriers.map (fun y => if y = x then put (dropAll c.val x.arrived ++ [c.val]) else y) }
      s.onProg c (fun p => { p with sync := true })
  | none =>
    let s := { s with barriers := s.barriers ++ [put [c.val]] }
    s.onProg c (fun p => { p with sync := true })

/-- The mean cell voltage over the last 1 ms of the integration stream (R353); before its first window, the last loop sample
(DEDUCED, log entry 67). -/
def Chan.vMean (x : Chan) : Int := if x.meas.vms.isEmpty then x.loop.vloop else tdiv x.meas.vms.sum x.meas.vms.length

/-- A current after the lease, I²t and thermal caps, over the members of a gang (R163, R353). -/
def State.capped (s : State) (c : ChanNo) (i : Int) : Int :=
  let r := clampI (-(s.hlIdis c : Int)) (s.hlIchg c) i
  ((s.membersOf c).map (fun m => s.limOwn m (s.shareOf m r))).sum

/-- Demand current of a channel's step (Table 09-3); `fresh` is a step as it begins, or a deferred one as if it had just begun. -/
def State.demandI (s : State) (c : ChanNo) (fresh : Bool) : Int :=
  let x := s.chan c
  let w := x.cur
  let v := x.vMean
  let big (a b : Int) : Int := if a.natAbs ≥ b.natAbs then a else b
  s.capped c (match stepKind w with
    | 2 => x.prog.seta
    | 3 =>
      let (lo, hi) := s.cvClamp c
      if fresh then (if v ≤ x.prog.seta then hi else lo)
      else if x.baltrim then (if 0 ≤ x.loop.total then hi else lo)
      else x.loop.total
    | 4 => if fresh || !x.loop.cvph || x.baltrim then x.prog.seta else x.loop.total
    | 5 => cpRef x.prog.seta { vhist := [v] }
    | 6 => crRef x.prog.seta { vhist := [v] }
    | 7 => big x.prog.seta (sx 32 (slotVal w 3))
    | 8 => big x.prog.seta (sx 32 (slotVal w 3))
    | 9 => if 0 ≤ x.prog.seta then x.prog.seta + slotVal w 3 else x.prog.seta - slotVal w 3
    | _ => 0)

/-- The range that RNGMODE selects for a channel (R199): IRNGFIX, or the range of the step in execution; none in auto mode, and where no step
that switches is in execution. -/
def State.rangeSel (s : State) (m : ChanNo) : Option Nat :=
  let p := (s.chan (s.leaderOf m)).prog
  match s.fld (chA m 0xC0) 4 2 with
  | 0 => none
  | 1 => some (s.fld (chA m 0xC0) 6 2)
  | _ => if p.inStep && !p.newStep && !isRestKind (stepKind (s.chan (s.leaderOf m)).cur) then some (stepIrng (s.chan (s.leaderOf m)).cur) else none

/-- The current range at a step transition (R199, R201): fixed and by-step modes apply their range again; a REST step of by-step mode keeps
the range in force (DEDUCED, log entry 18). -/
def State.stepRange (s : State) (c : ChanNo) : State :=
  s.forChans (s.membersOf c) (fun m s =>
    let was := s.winNow m
    (s.onMeas m (fun x => (match s.rangeSel m with | some r => x.setRange r | none => x).release)).rangeMoved m was)

/-- CON as a work step wants it (R263, R712). -/
def wantCon (w : StepWord) : Bool := !((stepKind w == 1 || stepKind w == 11) && stepConb w)

/-- Both switches of every member stay low: REST, OCVWATCH, SYNC or a deferral (R126, R356). -/
def State.toRest (s : State) (c : ChanNo) : State :=
  s.forChans (s.membersOf c) (fun m s => (s.onLoop m (fun l => { l.rest with kind := .rest })).setSt m .resting .none 0)

/-- A step that opens CON opens it once the last switching period is over (R126, R146). -/
def State.openIdle (s : State) (c : ChanNo) : State :=
  s.forChans (s.membersOf c) (fun m s => s.onLoop m (fun l => { l with con := l.con && decide (0 < l.mid.ton) }))

/-- The step of pc begins: its setpoint applies from here (R130, R138, R264, R712). `defer` allows the deferral of R356. The first step
after a start, a resume or a retry runs its soft-start. -/
def State.stepOn (s : State) (c : ChanNo) (defer : Bool) : State :=
  let s := if (s.chan c).prog.newStep then s.onProg c ProgSt.sampled else s
  let x := s.chan c
  let w := x.cur
  let k := stepKind w
  let g := s.gat (gOf c)
  let dir := s.stepDir c
  let first := x.prog.first
  if k = 9 ∧ s.fenced (uEis (gOf c)) then s.faultStop c [0x14]
  else if (k = 3 ∨ k = 4) ∧ (x.vset < s.hlVmin c ∨ s.hlVmax c < x.vset) then s.faultStop c [0x10]
  else if !isRestKind k ∧ 0 < dir ∧ g.uvs then s.faultStop c [0x15]
  else if !isRestKind k ∧ dir < 0 ∧ g.ovs then s.faultStop c [0x16]
  else if defer ∧ stepFlex w ∧ s.bit 0x200000 0 ∧ !isRestKind k
      ∧ (if dir < 0 then s.bal.holdDis else (dir ≠ 0 ∨ k = 9) ∧ s.bal.holdChg) then
    (s.onProg c (fun p => { p with deferT := some s.now, newStep := true })).toRest c
  else
    let s := s.onProg c (fun p => { p with newStep := false, deferT := none, first := false })
    let kind := loopOf k
    let dem := s.demandI c true
    let f := if 0 < dem then s.bal.mchg else if dem < 0 then s.bal.mdis else 65536
    let s := s.onChan c (fun x => { x with
      cap := if s.bit 0x200000 0 && f < 65536 && !isRestKind k then some (dem.natAbs * f / 65536) else none
      flextrim := false
      proptrim := decide (f < 65536) && !isRestKind k })
    if isRestKind k then
      let s := (s.toRest c).stepRange c
      let s := if wantCon w then s else s.openIdle c
      if k = 11 then s.arrive c else s
    else
      let (lo, hi) := s.cvClamp c
      let s := s.forChans (s.membersOf c) (fun m s => s.onLoop m (fun l =>
        let idle := l.kind == .rest
        let l := if first then { l.quiet with sv := if kind = .cccv then x.prog.seta * 8000000000 else 0 }
                 else l.carry kind x.prog.seta lo hi
        { l with kind, prof := stepProf w, cvph := false, ff := idle }))
      let s := (s.deBegin c first).stepRange c
      let s := if k = 9 then s.onEis c (fun _ => { phase := 1, code := (eisCode w 0).getD 0 }) else s
      s.forChans (s.membersOf c) (fun m s => s.setSt m (if first then .softstart else .active) .none 0)

/-- Counters and conditions of a step at its entry (R265, R286); it has not begun yet. -/
def ProgSt.fresh (p : ProgSt) (idx : Nat) : ProgSt :=
  let w := p.step idx
  { p with
    pc := idx, inStep := true, newStep := true, stepT := 0, stepQ := 0, stepE := 0, events := []
    whole100 := false, maxMean := none, pulseB := false, phaseT := 0, dcirB := false
    dcirA := {}, dcirW := {}, dcir1s := {}, dcirReach := none, limited := false, deferMs := 0, deferT := none, sync := false
    dcir := if stepKind w = 8 then none else p.dcir }

/-- A work step is entered, with CON closed first where the step before it held it open (R126, R712). -/
def State.enterWork (s : State) (c : ChanNo) (idx : Nat) : State :=
  let s := s.onProg c (fun p => p.fresh idx)
  let w := (s.chan c).cur
  let s := if stepKind w = 10 then s.onEst c (fun e => { e with ocvs := [], k := none, isd := none }) else s
  if wantCon w && !(s.chan c).loop.con then
    s.forChans (s.membersOf c) (fun m s =>
      let s := s.onLoop m (fun l => { l.rest with con := true, settle := .step, kind := .rest })
      s.setSt m .settling .none 0)
  else s.stepOn c true

/-! ### Control steps (R273 to R281) -/

/-- After every jump: entries whose body does not hold the new index are dropped (R278). -/
def popLoops (idx : Nat) : List LoopEntry → List LoopEntry
  | [] => []
  | e :: l => if e.target ≤ idx ∧ idx ≤ e.loop then e :: l else popLoops idx l

def State.jump (s : State) (c : ChanNo) (idx : Nat) : State :=
  s.onProg c (fun p => { p with loops := popLoops idx p.loops })

/-- LOOP at index p (R278): the new stack and the index at which execution continues. -/
def loopStep (p : ProgSt) (idx : Nat) (w : StepWord) : List LoopEntry × Nat × Bool :=
  let t := ctlTarget w
  let count : Nat :=
    if stepBits w 13 1 = 1 then (clampI 1 65535 (p.var (stepSetaRaw w % 32))).toNat else stepSetaRaw w
  let (rem, rest) : Nat × List LoopEntry :=
    match p.loops with
    | e :: l => if e.loop = idx then (e.remaining - 1, l) else (count - 1, e :: l)
    | [] => (count - 1, [])
  if 0 < rem then ({ loop := idx, target := t, remaining := rem } :: rest, t, true) else (rest, idx + 1, false)

/-- PATCH (R279): one 32-bit field of a step of the live image. -/
def patchStep (w : StepWord) (field : Nat) (v : Int) : StepWord :=
  let lo := if field = 0 then 32 else 80 + 48 * (field - 1)
  BitVec.ofNat 256 (setBits w.toNat lo 32 (w32 v))

/-- A mark record (Table 12-22, R280). -/
def State.markRec (s : State) (c : ChanNo) (idx : Nat) (w : StepWord) : State :=
  let p := (s.chan c).prog
  s.chanRec 0x62 c idx s.ptp false
    [payload [fN 0 8 s.ptp, fN 8 2 (stepSetaRaw w % 65536), fI 12 4 (p.var (stepBits w 5 5)),
       fI 16 4 (p.var (stepBits w 10 5)), fN 20 1 p.imggen]]

/-- A control chain from index `idx` to the next work step, or END, or the fault CHAIN at the seventeenth step (R281).
A step of neither kind, which COMMIT never lets into an image, ends the program. -/
def State.chain : Nat → ChanNo → Nat → State → State
  | 0, c, _, s => s.faultStop c [0x12]
  | n + 1, c, idx, s =>
    let p := (s.chan c).prog
    let w := p.step idx
    let k := stepKind w
    if isWork k then s.enterWork c idx
    else if n = 0 ∧ isControl k then s.faultStop c [0x12]
    else
      match k with
      | 0x10 =>
        let (a, oa) := sat32 (s.setOperand c (stepBits w 14 2) (stepSetaRaw w))
        let (b, ob) := sat32 (s.setOperand c (stepBits w 16 2) (stepOpB w))
        let (r, ar) := setOp (stepBits w 10 4) a b
        let (r, ov) := sat32 r
        let s := s.onProg c (fun p => { p with vars := p.vars.set (stepBits w 5 5) r, arith := p.arith || oa || ob || ar || ov })
        State.chain n c (idx + 1) s
      | 0x11 =>
        let b := if stepBits w 13 1 = 1 then stepSeta w else p.var (stepSetaRaw w % 32)
        if cmpHolds (stepBits w 10 3) (p.var (stepBits w 5 5)) b then
          State.chain n c (ctlTarget w) (s.jump c (ctlTarget w))
        else State.chain n c (idx + 1) s
      | 0x12 => State.chain n c (ctlTarget w) (s.jump c (ctlTarget w))
      | 0x13 =>
        let (st, dst, jumped) := loopStep p idx w
        let s := s.onProg c (fun p => { p with loops := st })
        State.chain n c dst (if jumped then s.jump c dst else s)
      | 0x14 =>
        let t := ctlTarget w
        let v := p.var (stepBits w 5 5)
        let s := s.onProg c (fun p => { p with
          live := p.live.set t (patchStep (p.step t) (stepBits w 10 3) v)
          refetch := p.refetch || t == idx + 1 })
        State.chain n c (idx + 1) s
      | 0x15 => State.chain n c (idx + 1) (s.markRec c idx w)
      | 0x1F => s.rampStop c (.endProg (stepBits w 9 1 = 1)) none
      | _ => s.rampStop c (.endProg false) none

/-- Execution continues at an index after a work step (R288). -/
def State.goTo (s : State) (c : ChanNo) (idx : Nat) : State :=
  State.chain 17 c idx (s.onProg c (fun p => { p with refetch := false }))

/-! ### Ends of work steps (R270, R271) -/

/-- The crossover test at the end of a soft-start (R188): skipped, or met with the apparent resistance outside its range. -/
def State.xover (s : State) (c : ChanNo) : State × Bool :=
  let l := (s.chan c).loop
  let (v0, i0) := l.ss.getD (l.vloop, l.ihist.getD 0 0)
  let dv := l.vloop - v0
  let di := l.ihist.getD 0 0 - i0
  if l.st ≠ .softstart ∨ !s.bit (chA c 0xAC) 4 then (s, false)
  else if di.natAbs * 20 < s.irated c ∨ di = 0 then (s.onProt c (fun p => { p with xskip := true }), false)
  else
    let d := (if di < 0 then -dv else dv) * 1000000
    let n : Int := di.natAbs
    (s.onProt c (fun p => { p with xskip := false }),
     decide (d < s.fld (chA c 0xA8) 0 16 * n ∨ s.fld (chA c 0xA8) 16 16 * 1000 * n < d))

/-- The action of the slot taken (R271). A termination ends a soft-start (R135), and the crossover test that fails there stops the channel
in the same cycle (R134, R188). -/
def State.takeSlot (s : State) (c : ChanNo) (i data : Nat) : State :=
  let w := (s.chan c).cur
  let pc := (s.chan c).prog.pc
  let (s, bad) := s.xover c
  let s := s.endStep c i data 0 false
  if bad then s.faultStop c [9]
  else
    match slotAct w i with
    | 0 => s.goTo c (pc + 1)
    | 1 => (s.jump c (slotTarget w i)).goTo c (slotTarget w i)
    | 2 => s.rampStop c (.endProg false) none
    | _ => s.faultStop c [0x0F]

/-- A step ends by its own end, which acts as NEXT (R270, Table 07-3). -/
def State.ownEnd (s : State) (c : ChanNo) : State :=
  let pc := (s.chan c).prog.pc
  let (s, bad) := s.xover c
  let s := s.endStep c 4 0 0 false
  if bad then s.faultStop c [9] else s.goTo c (pc + 1)

/-- The step's own end, unless a slot is met at the same time: an explicit slot takes precedence (R270). -/
def State.slotOrEnd (s : State) (c : ChanNo) : State :=
  match s.slotTaken c with
  | some (i, d) => s.takeSlot c i d
  | none => s.ownEnd c

/-! ### Start, resume, retry -/

/-- CON closes and the channel settles, or goes on at once when CON is high (R138). A Crack-off latch and the slow-overload counter stay as
they are (R167, R174). -/
def State.beginSettle (s : State) (c : ChanNo) (f : SettleFor) : State × Bool :=
  if (s.chan c).loop.con ∧ f = .start then (s, true)
  else
    (s.forChans (s.membersOf c) (fun m s =>
      let s := s.onLoop m (fun l => { l.quiet with con := true, settle := f, tcoff := false, kind := .rest })
      let s := s.onProt m (fun p => { p with shortWait := 0 })
      s.setSt m .settling .none 0), false)

/-- Program state at a start (R274, R286). -/
def ProgSt.started (p : ProgSt) (entry corr : Nat) : ProgSt :=
  { p with
    active := true, pc := entry, inStep := false, newStep := false, vars := List.replicate 32 0, loops := []
    startT := 0, startQ := 0, startE := 0, last := none, dcir := none, arith := false, refetch := false, corr := corr, events := [] }

/-- The first step of a start, at the end of its settle or at once: control steps of the entry run first, and a switching step runs its
soft-start (R138, R140). -/
def State.firstStep (s : State) (c : ChanNo) (idx : Nat) : State :=
  State.chain 17 c idx (s.onProg c (fun p => { p with first := true }))

end Sys2Proof.Machine
end

