-- ==== Sys2Proof/Machine/Commit.lean ====
section
/-! DEFINITION. The checks that COMMIT makes on a shadow image (R256 to R279, R287, R292, R297, Tables 07-1 to 07-10). -/

namespace Sys2Proof.Machine

open Sys2Proof

/-- An image as its steps 0 to LEN − 1. -/
abbrev Image := List StepWord

/-- The step of an image. -/
def Image.at_ (m : Image) (i : Nat) : StepWord := m.getD i 0

/-- The limits that literal setpoints meet: ICHG, IDIS, VMIN, VMAX (R297). -/
structure Limits where
  ichg : Nat
  idis : Nat
  vmin : Int
  vmax : Int
  deriving DecidableEq, Repr

/-- The limits of a channel: its lease, or its HL registers without one (R297). -/
def State.limitsOf (s : State) (c : ChanNo) : Limits :=
  match s.leaseOf c.val with
  | some l => { ichg := l.2.f.ichg, idis := l.2.f.idis, vmin := l.2.f.vmin, vmax := l.2.f.vmax }
  | none => { ichg := s.hlIchg c, idis := s.hlIdis c, vmin := s.hlVmin c, vmax := s.hlVmax c }

/-- The GPIO sources that a channel's programs may use: GPIOEV of its lease, every one without a lease (R292). -/
def State.gpioOf (s : State) (c : ChanNo) : Nat :=
  match s.leaseOf c.val with | some l => l.2.f.gpioev | none => 0xFFF

/-! ### NOT_PERMITTED (R8, R292) -/

/-- The GPIO that an EVENT source code names (R269). -/
def gpioSource (v : Nat) : Option Nat :=
  if v ≤ 0x0B then some v else if 0x10 ≤ v ∧ v ≤ 0x1B then some (v - 0x10) else none

/-- A step kind of an absent option, or an EVENT source on a GPIO that the lease does not grant. -/
def stepAllowed (z : Bool) (gpio : Nat) (w : StepWord) : Bool :=
  let k := stepKind w
  (k != 9 || z) && (!isWork k || (List.range 4).all (fun i =>
    slotCond w i != 11 || (match gpioSource (slotVal w i) with | some p => gpio.testBit p | none => true)))

/-! ### BAD_FIELD of a work step (R256 to R269, R713) -/

/-- Header fields that a kind does not use are zero (Table 07-7). -/
def headerOk (w : StepWord) : Bool :=
  let k := stepKind w
  stepBits w 14 2 == 0 && (stepFlex w || stepBits w 12 2 == 0)
    && (if isRestKind k then stepBits w 5 4 == 0 && stepBits w 10 4 == 0 && stepSlew w == 0 && (k != 10 || !stepConb w)
        else !stepConb w)

/-- SETA lies in its range (Table 07-3); a variable's name takes five bits (R264). -/
def setaOk (w : StepWord) : Bool :=
  let k := stepKind w
  let v := stepSetaRaw w
  if stepSvar w then decide (v < 32)
  else
    match k with
    | 1 => v == 0
    | 6 => decide (1000 ≤ stepSeta w ∧ stepSeta w ≤ 100000000)
    | 10 => decide (1000 ≤ v ∧ v ≤ 3600000)
    | 11 => bitsOf v 5 3 == 0 && bitsOf v 15 17 == 0 && decide (2 ≤ bitsOf v 8 7 ∧ bitsOf v 8 7 ≤ 64)
    | _ => true

/-- The value of PARAM slot i lies in its range (Table 07-3). -/
def paramOk (w : StepWord) (i : Nat) : Bool :=
  let v := slotVal w i
  match stepKind w, i with
  | 3, 3 => decide (0 ≤ sx 32 v)
  | 3, 2 => decide (sx 32 v ≤ 0)
  | 7, 2 => bitsOf v 0 16 != 0 && bitsOf v 16 16 != 0
  | 9, 3 => decide (1000 ≤ v ∧ v ≤ 5000000)
  | 9, 2 => decide (bitsOf v 0 16 ≤ 6000 ∧ bitsOf v 16 16 ≤ 6000)
  | 9, 1 => decide (1 ≤ bitsOf v 0 8 ∧ bitsOf v 0 8 ≤ 50) && bitsOf v 8 8 != 0 && bitsOf v 16 16 == 0
  | _, _ => true

/-- A slot that holds a parameter (R257, R258). -/
def paramSlotOk (w : StepWord) (i : Nat) : Bool :=
  slotAct w i == 0 && slotTarget w i == 0 && (!slotVref w i || (stepKind w == 7 && i == 2)) && paramOk w i

/-- A termination slot: its condition, threshold, action and target (R265 to R271, Tables 07-4 to 07-6) (DEDUCED, log entry 16). -/
def termSlotOk (len : Nat) (w : StepWord) (i : Nat) : Bool :=
  let cond := slotCond w i
  let v := slotVal w i
  cond != 13 && condOk (stepKind w) cond
    && (if slotAct w i = 1 then decide (slotTarget w i < len) else slotTarget w i == 0)
    && (match cond with
        | 0 => v == 0 && !slotVref w i
        | 11 => !slotVref w i && (decide (0x20 ≤ v ∧ v ≤ 0x2F) || (gpioSource v).isSome)
        | 12 => !slotVref w i && decide (bitsOf v 5 3 ≤ 5)
        | _ => !slotVref w i || decide (v < 32))

/-- A kind that ends by itself, as NEXT: DCIR, EIS, SYNC (Table 07-3, R270). -/
def endsItself (k : Nat) : Bool := k == 8 || k == 9 || k == 11

/-- The last step of an image leads nowhere by NEXT (R287). -/
def nextOk (len idx : Nat) (w : StepWord) : Bool :=
  decide (idx + 1 < len) ||
    (!endsItself (stepKind w) && (List.range 4).all (fun i => slotCond w i == 0 || slotCond w i == 13 || slotAct w i != 0))

/-- A work step holds no field that R292 refuses. -/
def workOk (len idx : Nat) (w : StepWord) : Bool :=
  let (lo, hi) := paramCount (stepKind w)
  let n := paramsOf w
  headerOk w && setaOk w && decide (lo ≤ n ∧ n ≤ hi)
    && (List.range 4).all (fun i => if 4 ≤ i + n then paramSlotOk w i else termSlotOk len w i)
    && nextOk len idx w

/-! ### BAD_FIELD of a control step (R273 to R280) -/

/-- Source codes of Table 07-10. -/
def sourceOk (c : Nat) : Bool := decide (c ≤ 3) || decide (0x10 ≤ c ∧ c ≤ 0x17) || decide (0x20 ≤ c ∧ c ≤ 0x22) || c == 0x30 || c == 0x31

/-- A SET operand (R275). -/
def operandOk (ty v : Nat) : Bool :=
  match ty with
  | 0 => decide (v < 32)
  | 1 => true
  | 2 => decide (v < 256) && sourceOk v
  | _ => false

/-- The field that a PATCH names is SETA, or a slot whose COND is not NONE, of a work step (R279). -/
def patchOk (m : Image) (t f : Nat) : Bool :=
  decide (t < m.length) && isWork (stepKind (m.at_ t)) && (f == 0 || (decide (f ≤ 4) && slotCond (m.at_ t) (f - 1) != 0))

/-- A control step holds no field that R292 refuses, and does not lead past the image. -/
def controlOk (m : Image) (idx : Nat) (w : StepWord) : Bool :=
  let last := decide (idx + 1 < m.length)
  let tgt := decide (ctlTarget w < m.length)
  let hi := stepBits w 25 7 == 0
  let from8 := stepBits w 64 192 == 0
  let from4 := stepBits w 32 224 == 0
  let a := stepSetaRaw w
  match stepKind w with
  | 0x10 => decide (stepBits w 10 4 ≤ 7) && operandOk (stepBits w 14 2) a && operandOk (stepBits w 16 2) (stepOpB w)
              && stepBits w 18 14 == 0 && stepBits w 96 160 == 0 && last
  | 0x11 => decide (stepBits w 10 3 ≤ 5) && stepBits w 14 2 == 0 && tgt && hi && (stepBits w 13 1 == 1 || decide (a < 32)) && from8 && last
  | 0x12 => stepBits w 5 11 == 0 && tgt && hi && from4
  | 0x13 => stepBits w 5 8 == 0 && stepBits w 14 2 == 0 && tgt && hi && decide (ctlTarget w ≤ idx)
              && (if stepBits w 13 1 = 1 then decide (a < 32) else decide (1 ≤ a ∧ a ≤ 65535)) && from8 && last
  | 0x14 => stepBits w 13 3 == 0 && hi && patchOk m (ctlTarget w) (stepBits w 10 3) && from4 && last
  | 0x15 => stepBits w 15 17 == 0 && decide (a < 65536) && from8 && last
  | 0x1F => stepBits w 5 4 == 0 && stepBits w 10 22 == 0 && from4
  | _ => false

/-! ### LOOP bodies (R278, R292) -/

/-- The bodies of an image: TARGET and own index of each LOOP. -/
def Image.loops (m : Image) : List (Nat × Nat) :=
  (List.range m.length).filterMap (fun i => if stepKind (m.at_ i) = 0x13 then some (ctlTarget (m.at_ i), i) else none)

/-- One body holds another. -/
def bodyIn (a b : Nat × Nat) : Bool := decide (b.1 ≤ a.1 ∧ a.2 ≤ b.2)

/-- Two bodies overlap without one holding the other. -/
def bodyCross (a b : Nat × Nat) : Bool := decide (a.1 ≤ b.2 ∧ b.1 ≤ a.2) && !bodyIn a b && !bodyIn b a

/-- A LOOP step's body crosses no other and is nested at most 8 deep (DEDUCED, log entry 16). -/
def Image.loopOk (m : Image) (idx : Nat) : Bool :=
  let ls := m.loops
  match ls.find? (fun x => x.2 == idx) with
  | some a => !ls.any (bodyCross a) && decide ((ls.filter (bodyIn a)).length ≤ 8)
  | none => true

/-- A step passes the second check of R292. -/
def Image.stepOk (m : Image) (idx : Nat) : Bool :=
  let w := m.at_ idx
  if isWork (stepKind w) then workOk m.length idx w else controlOk m idx w && m.loopOk idx

/-! ### LIMIT (R297) -/

/-- A current lies within [−IDIS, ICHG]. -/
def Limits.cur (l : Limits) (i : Int) : Bool := decide (-(l.idis : Int) ≤ i ∧ i ≤ l.ichg)

/-- A voltage lies within [VMIN, VMAX]. -/
def Limits.volt (l : Limits) (v : Int) : Bool := decide (l.vmin ≤ v ∧ v ≤ l.vmax)

/-- The literal setpoints of a work step lie within the limits. PSET is in mW, RSET in µΩ. -/
def Limits.step (l : Limits) (w : StepWord) : Bool :=
  let a := stepSeta w
  let lit := !stepSvar w
  let p (i : Nat) : Int := sx 32 (slotVal w i)
  let par (i : Nat) : Bool := slotCond w i == 13
  match stepKind w with
  | 2 => !lit || l.cur a
  | 3 => (!lit || l.volt a) && (!par 3 || l.cur (p 3)) && (!par 2 || l.cur (p 2))
  | 4 => (!lit || l.cur a) && l.volt (p 3)
  | 5 => !lit || decide ((a.natAbs : Int) * 1000000000 ≤ l.vmax * (Nat.max l.ichg l.idis : Nat))
  | 6 => !lit || decide (l.vmax * 1000000 ≤ a * l.idis)
  | 7 => (!lit || l.cur a) && l.cur (p 3)
  | 8 => (!lit || l.cur a) && l.cur (p 3)
  | 9 => !lit || (l.cur (a + slotVal w 3) && l.cur (a - slotVal w 3))
  | _ => true

/-! ### The whole check -/

/-- The first index of an image that fails a test. -/
def Image.firstBad (m : Image) (ok : Nat → Bool) : Option Nat := (List.range m.length).find? (fun i => !ok i)

/-- R292: the first status that applies, with the index of the first offending step; none for an image that passes. -/
def Image.check (m : Image) (z : Bool) (gpio : Nat) (l : Limits) : Option (Status × Nat) :=
  match m.firstBad (fun i => stepAllowed z gpio (m.at_ i)) with
  | some i => some (.notPermitted, i)
  | none =>
    match m.firstBad m.stepOk with
    | some i => some (.badField, i)
    | none =>
      match m.firstBad (fun i => l.step (m.at_ i)) with
      | some i => some (.limit, i)
      | none => none

/-- The shadow image of a program: LEN steps (R291). -/
def ProgSt.shadowImage (p : ProgSt) : Image := (List.range p.shLen).map (fun i => p.shadow.getD i 0)

/-- The check of a channel's shadow image (DEDUCED, log entry 16). -/
def State.commitCheck (s : State) (c : ChanNo) : Option (Status × Nat) :=
  (s.chan c).prog.shadowImage.check s.optZ (s.gpioOf c) (s.limitsOf c)

/-! ### The swap (R293 to R295) -/

/-- The executing step is changed by an image, or lies at or beyond its length (R294). -/
def ProgSt.swapBusy (p : ProgSt) (m : Image) : Bool := p.inStep && (decide (m.length ≤ p.pc) || m.at_ p.pc != p.step p.pc)

/-- IMGGEN steps from 0xFF to 0x01 (R295). -/
def nextGen (n : Nat) : Nat := if 255 ≤ n then 1 else n + 1

/-- The swap: the live and the shadow image are the new one. -/
def ProgSt.swapped (p : ProgSt) (m : Image) : ProgSt :=
  { p with live := m, shadow := m, shLen := m.length, imggen := nextGen p.imggen, commit := none, commitBy := none }

end Sys2Proof.Machine
end

