-- ==== Sys2Proof/Machine/NvmOps.lean ====
section
/-! DEFINITION. Writes of internal NVM (R682 to R687). -/

namespace Sys2Proof.Machine

open Sys2Proof

/-- First row and number of rows of a region (Table 18-12). -/
def nvmRegion (r : Nat) : Nat × Nat := [(0, 128), (128, 128), (256, 128), (384, 512), (896, 896), (1792, 2304)].getD r (0, 1)

/-- The row that stands for a row: itself, or the last of its replacements. -/
def Nvm.rowOf (n : Nvm) (row : Nat) : Nat := ((n.moved.find? (fun x => x.1 == row)).map Prod.snd).getD row

def Nvm.at_ (n : Nvm) (row : Nat) : NvmRow := (n.rows.find? (fun x => x.row == row)).getD { row }

def Nvm.put (n : Nvm) (x : NvmRow) : Nvm := { n with rows := x :: n.rows.filter (fun y => y.row != x.row), maxErase := Nat.max n.maxErase x.erases }

/-- What an operation on NVM answers (R683, R686). -/
inductive NvmRes where
  | ok | notErased | verify
  deriving DecidableEq, Repr

/-- Erase a row; a row at 100,000 erases, or one that fails its verify, is worn (R686). -/
def Nvm.erase (n : Nvm) (row : Nat) : Nvm × NvmRes :=
  let x := n.at_ row
  if 100000 ≤ x.erases ∨ n.weak.contains row then (n, .verify) else (n.put { row, erases := x.erases + 1, units := 0 }, .ok)

/-- Program a unit: one that is not erased is refused and stays as it is (R683). -/
def Nvm.program (n : Nvm) (row unit : Nat) : Nvm × NvmRes :=
  let x := n.at_ row
  if x.units.testBit unit then (n, .notErased)
  else if n.weak.contains row then (n, .verify)
  else (n.put { x with units := x.units ||| 2 ^ unit }, .ok)

/-- A copy on a fresh row: the row is erased, the structure programmed and its commit word, the last unit, after it (R684)
(DESIGN CHOICE, log entry 65). -/
def Nvm.writeRow (n : Nvm) (row : Nat) : Nvm × NvmRes :=
  match n.erase row with
  | (n, .ok) =>
    match n.program row 0 with
    | (n, .ok) => n.program row 63
    | r => r
  | r => r

/-- A copy counts once its commit word is programmed (R684). -/
def Nvm.committed (n : Nvm) (c : NvmCopy) : Bool := (n.at_ c.row).units.testBit 63

/-- The copy of a region in force: the newest that is committed (R684). -/
def Nvm.inForce (n : Nvm) (region : Nat) : Option NvmCopy := n.copies.find? (fun c => c.region == region && n.committed c)

/-- The region is read only (R687). -/
def State.worn (s : State) (region : Nat) : Bool := s.nvm.roMask.testBit region

/-- A spare is used up; SPARES_LOW at 16 (R686). -/
def State.useSpare (s : State) : State :=
  let n := s.nvm.spares - 1
  let s : State := { s with nvm := { s.nvm with spares := n } }
  if n = 16 then s.fault 5 3 else s

/-- A row wears out (R683, R686, R687): a spare replaces it; with none left its region becomes read only. -/
def State.retireRow (s : State) (region row : Nat) : State × Bool :=
  if s.nvm.spares = 0 then (({ s with nvm := { s.nvm with roMask := s.nvm.roMask ||| 2 ^ region } } : State).fault 5 4, false)
  else
    let to_ := 4096 + (256 - s.nvm.spares)
    let s := (s.useSpare).fault 5 2
    ({ s with nvm := { s.nvm with moved := (row, to_) :: s.nvm.moved.filter (fun x => x.1 != row) } }, true)

/-- The row of a region that takes its next copy: each in turn (DESIGN CHOICE, log entry 65). -/
def Nvm.nextRow (n : Nvm) (region : Nat) : Nat :=
  let r := nvmRegion region
  r.1 + (match n.copies.find? (fun c => c.region == region) with | some c => c.seq + 1 | none => 0) % r.2

/-- Write a new copy of a structure of a region (R683, R684): where a row fails, it is retired and the write repeated on the replacement;
false where no row takes the write. -/
def State.nvmTry (s : State) (region row : Nat) : Nat → State × Bool
  | 0 => (s, false)
  | k + 1 =>
    match s.nvm.writeRow (s.nvm.rowOf row) with
    | (n, .ok) =>
      let seq := match n.copies.find? (fun c => c.region == region) with | some c => c.seq + 1 | none => 0
      -- the copy in force before stays, for a copy that is cut off
      let old := (n.inForce region).toList
      ({ s with nvm := { n with copies := { region, seq, row := n.rowOf row } :: old ++ n.copies.filter (fun c => c.region != region) } }, true)
    | (n, _) =>
      match ({ s with nvm := n } : State).retireRow region row with
      | (s, true) => s.nvmTry region row k
      | r => r

/-- A write of a structure of a region; every spare may be used up by it. -/
def State.nvmWrite (s : State) (region : Nat) : State × Bool := s.nvmTry region (s.nvm.nextRow region) 257

/-- Region of a row (Table 18-12). -/
def nvmRegionOf (row : Nat) : Nat := ((List.range 6).find? (fun r => decide (row < (nvmRegion r).1 + (nvmRegion r).2))).getD 5

/-- A marked row is rewritten into a fresh row, when it holds a copy in force (R685). -/
def State.rewriteRow (s : State) (row : Nat) : State :=
  let region := nvmRegionOf row
  if s.worn region then s
  else
    match s.nvm.inForce region with
    | some c => if c.row = s.nvm.rowOf row then (s.nvmWrite region).1 else s
    | none => s

/-- A change that the part itself stores in a region: nothing changes where NVM refuses it (R687) (DESIGN CHOICE, log entry 65). -/
def State.keepNvm (s : State) (region : Nat) (f : State → State) : State :=
  if s.worn region then s
  else
    let r := s.nvmWrite region
    if r.2 then f r.1 else r.1

end Sys2Proof.Machine
end

