-- ==== Sys2Proof/Machine/ConvOps.lean ====
section
/-! DEFINITION. Converters of a Gather: seats, Punty rotation, CALHOLD, failures (R228 to R242). -/

namespace Sys2Proof.Machine

open Sys2Proof

/-- Punty A or B. -/
def Gather.punty (y : Gather) (b : Bool) : Punty := if b then y.pb else y.pa
def Gather.onPunty (y : Gather) (b : Bool) (f : Punty → Punty) : Gather := if b then { y with pb := f y.pb } else { y with pa := f y.pa }
def puntyConv (b : Bool) : Nat := if b then 17 else 16

/-- A Punty enters a phase outside a swap, or ends one. -/
def Punty.enter (p : Punty) (st : PuntySt) (input now : Nat) : Punty := { st, input, num := p.num, begun := now, since := now }

/-- ROTACTIVE (Table 06-12). -/
def Gather.swapping (y : Gather) : Bool := y.pa.swap || y.pb.swap

/-- A Punty that can be free again (R231). -/
def Gather.canFree (y : Gather) (b : Bool) : Bool := (y.punty b).st != .seated && (y.punty b).st != .retired

/-- The channel of an input. -/
def chanOfInput (g : GatherNo) (input : Nat) : ChanNo := (chan? (8 * g.val + input / 2)).getD 0

/-! ### CALHOLD and the fault flags -/

/-- CALHOLD (R216, R229, R231, Table 06-8): rotation is off and no swap runs, the references failed, or no spare is left. -/
def State.syncHold (s : State) (g : GatherNo) : State :=
  let rot := s.bit (gA g 0x200) 0
  s.onGat g (fun y =>
    let hold := (!rot && !y.swapping) || y.refHold || y.spares == 0
    { y with calhold := hold, calT := if hold && !y.calhold then s.now else y.calT })

/-- NO_SPARE when the last spare is used up (R231). -/
def State.noSpare (s : State) (g : GatherNo) (before : Nat) : State :=
  if before ≠ 0 ∧ (s.gat g).spares = 0 then (s.fault (uGat g) 6).syncHold g else s

/-- A bit of G_MERR (Table 06-16). -/
def State.merr (s : State) (g : GatherNo) (i : Nat) : State := s.setBit (gA g 0x220) i

/-! ### Seats -/

/-- A converter takes the input of a channel (R233): the part of its output window ends, which carries SWAP, as does a sweep's window; a
replacement delivers from here (R238). -/
def State.seat (s : State) (g : GatherNo) (input conv : Nat) : State :=
  let c := chanOfInput g input
  let s := s.cutWin c (s.winNow c)
  let s := s.onGat g (fun y => { y with seats := y.seats.set input conv })
  let s := s.onChan c (fun x =>
    { x with
      meas := { x.meas with winFlags := x.meas.winFlags ||| 32, lostV := x.meas.lostV && input % 2 == 1, lostI := x.meas.lostI && input % 2 == 0 }
      loop := { x.loop with hold := 0 } })
  let l := s.leaderOf c
  if (s.chan l).eis.phase = 3 then s.onEis l (fun e => { e with swap := true }) else s

/-- The converter that an input has, or takes at the next control-cycle boundary. -/
def Gather.seatSoon (y : Gather) (input : Nat) : Nat :=
  (y.due.foldl (fun (l : List Nat) (d : Takeover) => l.set d.input d.conv) y.seats).getD input input

/-- A released converter has not been calibrated since its release. -/
def Gather.forget (y : Gather) (conv : Nat) : Gather := { y with prev := y.prev.filter (fun x => x.1 != conv) }

/-- The take-overs of a control-cycle boundary (R232, R233, R239): a Punty that takes an input releases its converter; one that gives its
input back calibrates itself. -/
def State.takeInputs (s : State) (g : GatherNo) : State :=
  (s.gat g).due.foldl (fun s d =>
    let old := s.seated g d.input
    (s.seat g d.input d.conv).onGat g (fun y =>
      let y := { y with due := y.due.erase d }
      match d.punty with
      | some (b, .standin) => y.onPunty b (fun p => { p with st := .standin, rel := some old, again := false, since := s.now }) |>.forget old
      | some (b, st) => y.onPunty b (fun p => { p with st, rel := none, back := false, stuck := false, since := s.now })
      | none => y)) s

/-- A take-over at the next control-cycle boundary. -/
def Gather.plan (y : Gather) (input conv : Nat) (punty : Option (Bool × PuntySt)) : Gather := { y with due := y.due ++ [{ input, conv, punty }] }

/-- A Punty whose take-over waits for the boundary. -/
def Gather.planned (y : Gather) (b : Bool) : Bool :=
  y.due.any (fun d => match d.punty with | some x => x.1 == b | none => false)

/-! ### Drift layers -/

/-- Drift coefficients within the limits of Tables 06-9 to 06-11 (R220, R237). -/
def State.driftOk (s : State) (g : GatherNo) (volt : Bool) (d : List (Int × Int)) : Bool :=
  let off := if volt then s.reg (gA g 0x208) else s.reg (gA g 0x20C)
  let gl := s.fld (gA g 0x204) 0 16
  d.all (fun x => decide (x.1.natAbs ≤ off) && decide (x.2.natAbs * 1000000 ≤ gl * 2147483648))

/-- Limits of a Punty's five pairs: voltage first, then the four current ranges. -/
def State.driftOk5 (s : State) (g : GatherNo) (d : List (Int × Int)) : Bool :=
  s.driftOk g true (d.take 1) && s.driftOk g false (d.drop 1)

/-- The columns of Table 06-5 of a converter's front ends: voltage, current H, M, L, U. -/
def convCols (conv : Nat) : List Nat := if 16 ≤ conv then [0, 1, 2, 3, 4] else if conv % 2 = 0 then [0] else [1, 2, 3, 4]

/-- Noise of the reference points, in tenths of nV, within four times its value in Table 06-5 at the rate of a match sample (R237)
(DEDUCED, log entry 14). -/
def noiseOk (conv : Nat) (noise : List Nat) : Bool :=
  ((convCols conv).zip noise).all (fun p => decide (p.2 ≤ 4 * (noiseTable.getD 3 []).getD p.1 0))

/-- A converter passes its calibration: the drift layer is within its limits and the noise within its own (R237). -/
def State.calOk (s : State) (g : GatherNo) (conv : Nat) (d : List (Int × Int)) (noise : List Nat) : Bool :=
  noiseOk conv noise && (if 16 ≤ conv then s.driftOk5 g d else s.driftOk g (conv % 2 == 0) d)

/-- How long the points of a converter take: 250 ms each, zero and reference in every range of its front ends (R232). -/
def calNs (conv : Nat) : Nat := 500000000 * (convCols conv).length

/-- A converter's drift layer from the pairs of its front end. -/
def driftOf (conv : Nat) (d : List (Int × Int)) : Drift :=
  let o := d.map Prod.fst
  let g := d.map Prod.snd
  if conv ≥ 16 then { off := o, gain := g }
  else if conv % 2 = 0 then { off := o.take 1 ++ [0, 0, 0, 0], gain := g.take 1 ++ [0, 0, 0, 0] }
  else { off := 0 :: o, gain := 0 :: g }

def Gather.setDrift (y : Gather) (conv : Nat) (d : Drift) : Gather := { y with drift := y.drift.set conv d }

/-- A calibration of the rotation sets a drift layer, unless CALHOLD freezes them (R216). -/
def Gather.renew (y : Gather) (conv : Nat) (d : Drift) : Gather := if y.calhold then y else y.setDrift conv d

def Gather.retire (y : Gather) (conv : Nat) : Gather := { y with retired := y.retired ||| 2 ^ conv }

/-- A Punty is retired; a swap of its own ends. -/
def Gather.losePunty (y : Gather) (b : Bool) (now : Nat) : Gather := y.onPunty b (fun p => p.enter .retired 0 now)

/-! ### The rotation (R229 to R236) -/

/-- A swap has ended, the sixteenth of a round with a reference check to come (R229, Table 06-12). -/
def Gather.swapDone (y : Gather) (num : Nat) : Gather :=
  { y with swaps := (y.swaps + 1) % 65536, checkDue := y.checkDue || num % 16 == 15 }

/-- A swap is abandoned in its first shadow: its number is used up (R234). -/
def Gather.swapAbandoned (y : Gather) (num : Nat) : Gather := { y with checkDue := y.checkDue || num % 16 == 15 }

/-- The reference check at the end of a round, with a free Punty; `refPpm` is the error of 2.500 / 4.096 (R229). -/
def State.roundCheck (s : State) (g : GatherNo) (refPpm : Nat) : State :=
  let y := s.gat g
  if !y.checkDue || !(y.pa.st == .free || y.pb.st == .free) then s
  else if 200 < refPpm then
    (((s.onGat g (fun y => { y with checkDue := false, refok := false, refHold := true })).merr g 2).fault (uGat g) 5).syncHold g
  else (s.onGat g (fun y => { y with checkDue := false, refok := true })).syncHold g

/-- A swap that is due or waits begins, with the Punty that R230 names or else the other; a shadow of step 4 comes first (R230, R231, R234).
An input on which a Punty still stands in is passed over (DESIGN CHOICE, log entry 64). -/
def State.trySwap (s : State) (g : GatherNo) : State :=
  let y := s.gat g
  let n := y.swapNo
  let input := n % 16
  let b0 := decide ((n + n / 16) % 2 = 1)
  let go (b : Bool) : State := s.onGat g (fun y =>
    ({ y with waiting := false, swapNo := n + 1 }).onPunty b (fun p => { p.enter .shadow input s.now with swap := true, num := n }))
  if !y.waiting || y.refHold || !s.bit (gA g 0x200) 0 || y.pa.back || y.pb.back then s
  else if y.pa.st == .standin && y.pa.input == input || y.pb.st == .standin && y.pb.input == input then
    s.onGat g (fun y => { y with waiting := false, swapNo := n + 1 })
  else if (y.punty b0).st == .free then go b0
  else if (y.punty (!b0)).st == .free then go (!b0)
  else s

/-- What follows every change of a Punty: the check of a round, CALHOLD, and a swap that waits. -/
def State.rotate (s : State) (g : GatherNo) (refPpm : Nat) : State := ((s.roundCheck g refPpm).syncHold g).trySwap g

/-! ### Failures (R237 to R240) -/

/-- The Punty that can replace a failed converter (R239). -/
def Gather.replacement (y : Gather) (conv : Nat) : Option Bool :=
  let ok (b : Bool) : Bool := puntyConv b != conv && !y.planned b
  ([false, true].find? (fun b => ok b && (y.punty b).st == .free)).or
    (([false, true].find? (fun b => ok b && (y.punty b).st == .selfcal)).or
      ([false, true].find? (fun b => ok b && (y.punty b).st == .standin)))

/-- A Punty that stands in gives its input back, with no shadow, to the converter that it released; the drift layer of that converter is the
one from before its calibration (R239). -/
def Gather.giveBack (y : Gather) (b : Bool) : Gather :=
  match (y.punty b).rel with
  | some k =>
    let y := match y.prev.find? (fun x => x.1 == k) with | some x => y.setDrift k x.2 | none => y
    y.plan (y.punty b).input k none
  | none => y

/-- The converter of an input has failed: a Punty is seated for good, or the channel stops with MEAS_LOST, which fences it (R237, R239,
R240). -/
def State.replaceConv (s : State) (g : GatherNo) (input conv : Nat) : State :=
  match (s.gat g).replacement conv with
  | some b =>
    let s := s.onGat g (fun y =>
      ((if (y.punty b).st == .standin then y.giveBack b else y).onPunty b (fun p => p.enter .seated input s.now)).plan input (puntyConv b) none)
    s.fault (uGat g) 2
  | none => s.faultStop (chanOfInput g input) [0x0D]

end Sys2Proof.Machine
end

