-- ==== Sys2Proof/Machine/EstOps.lean ====
section
/-! DEFINITION. The estimator's arithmetic: capacity, SoC, OCV table, self-discharge, cell change (R329 to R344). -/

namespace Sys2Proof.Machine

open Sys2Proof

/-- ΔQ / C in 10^-9 of full, from raw charge (R331). -/
def EstSt.dSoc (e : EstSt) (dq : Int) : Int :=
  if e.cap = 0 then 0 else tdiv (dq * 1000000000) (57600000 * (e.cap : Int))

/-- The table segment that holds a voltage: SoC in 10^-9 of full and slope in µV per %; none outside the table (R329)
(DESIGN CHOICE, log entry 17). -/
def ocvSeg : List (Nat × Int) → Int → Option (Int × Int)
  | a :: b :: l, v =>
    if a.2 ≤ v ∧ v ≤ b.2 then
      let ds : Int := (b.1 : Int) - a.1
      let dv := b.2 - a.2
      some ((a.1 : Int) * 100000 + rdiv ((v - a.2) * ds * 100000) dv, rdiv (dv * 100) ds)
    else ocvSeg (b :: l) v
  | _, _ => none

/-- Form an estimate that is missing, from the table at a valid sample; outside the table the spec states no SoC: a free value. -/
def EstSt.form (e : EstSt) (v : Int) (free : Nat) : EstSt :=
  if e.cap = 0 ∨ e.soc.isSome ∨ e.table.isEmpty ∨ !e.stamped then e
  else
    match ocvSeg e.table v with
    | some r => { e with soc := some r.1 }
    | none => { e with soc := some free }

/-- One update of the estimator (R331, R336, R338): `dt` in ms, `low` while |I| is below the hibernation threshold (DESIGN CHOICE, log entry 17). -/
def EstSt.update (e : EstSt) (dt : Nat) (low : Bool) : EstSt :=
  let e := match e.next with
    | some f => { e with next := none, cnom := f.cnom, slopemin := f.slopemin, ocvrest := f.ocvrest, rate := f.rate,
                         kskip := f.kskip, kmin := f.kmin, estrec := f.estrec }
    | none => e
  let dq := e.accQ
  let e := { e with
    netQ := e.netQ + dq, netE := e.netE + e.accE, accQ := 0, accE := 0
    chgSince := if e.full.isSome && decide (0 < dq) then e.chgSince + dq else e.chgSince
    lowT := if low then e.lowT + dt else 0
    restMs := if low then e.restMs + dt else 0
    hib := e.hib && low }
  let d := e.dSoc dq
  let e :=
    if e.cap = 0 then { e with soc := none, rep := none }
    else
      match e.soc with
      | some q =>
        let q := q + d
        let lim : Int := e.rate * 100 * dt
        let r := match e.rep with
          | some r => let r := r + d; clampI 0 1000000000 (r + clampI (-lim) lim (q - r))
          | none => clampI 0 1000000000 q
        { e with soc := some q, rep := some r }
      | none => { e with rep := none }
  { e with src30 := (match e.rep with | some r => tdiv r 100000 | none => invalid32)
           src31 := (match e.cmeas with | some m => (m : Int) | none => invalid32) }

/-- The hibernation threshold: 0.05 % of the H range, in µA (R338). -/
def State.hibLimit (s : State) (c : ChanNo) : Nat := s.hRange c / 2000

/-- |I| lies below the hibernation threshold (R338). -/
def State.lowI (s : State) (c : ChanNo) : Bool := decide ((s.chan c).meas.iout.natAbs < s.hibLimit c)

/-- One update of a channel's estimator over the last `dt` ms from its present output sample. -/
def State.updateEst (s : State) (c : ChanNo) (dt : Nat) : State :=
  let (f, s) := s.draw
  let x := s.chan c
  s.onEst c (fun e => { (e.form x.meas.vout (f % 1000000001)).update dt (s.lowI c) with hibMs := 0, upT := s.ptp })

/-- The estimator wakes when a command names its channel, and computes its values anew (R339). -/
def State.wakeEst (s : State) (c : ChanNo) : State :=
  let e := (s.chan c).est
  if e.hib then (s.updateEst c e.hibMs).onEst c (fun e => { e with hib := false, lowT := 0 }) else s

/-- A least-squares line through (ms, µV): its fall in µV/day and its span in ms (R337). -/
def kFit (l : List (Nat × Int)) : Option Int :=
  let n : Int := l.length
  let st : Int := (l.map (fun x => (x.1 : Int))).sum
  let sv : Int := (l.map Prod.snd).sum
  let stt : Int := (l.map (fun x => (x.1 : Int) * x.1)).sum
  let stv : Int := (l.map (fun x => (x.1 : Int) * x.2)).sum
  let d := n * stt - st * st
  if d ≤ 0 then none else some (rdiv (-(n * stv - st * sv) * 86400000) d)

/-- K and ISD from the OCV records so far (R337): records after KSKIP, valid once they span KMIN. ISD is a current: the charge
lost per day over 24 h (DESIGN CHOICE, log entry 17). -/
def EstSt.fit (e : EstSt) : EstSt :=
  let l := e.fitted
  if e.fitSpan < e.kmin * 3600000 then e
  else
    match kFit l with
    | some k =>
      let isd := match l.getLast? with
        | some b => match ocvSeg e.table b.2 with
          | some r => if 0 < r.2 then some (if 0 ≤ k then rdiv (k * e.cap) (2400 * r.2) else -(rdiv (-k * e.cap) (2400 * r.2))) else none
          | none => none
        | none => none
      { e with k := some k, isd }
    | none => e

/-- A cell change (R340, R341): marks cleared, STALE, the event to the lessee. -/
def State.cellChange (s : State) (c : ChanNo) (why : Nat) : State :=
  let s := s.clearMarks c
  let s := s.onEst c (fun e => { e with stale := true })
  s.chanEvt 0xA7 c [payload [fN 0 1 why, fN 8 8 s.ptp]]

/-- The ESTIMATE record (Table 12-22). -/
def estPayload (e : EstSt) : List Byte :=
  let o (v : Option Int) : Int := v.getD invalid32
  let soc : Int := match e.soc with | some q => tdiv q 100000 | none => invalid32
  let rep : Nat := match e.rep with | some r => (tdiv r 100000).toNat | none => 0xFFFF
  payload [fN 0 8 e.upT, fI 8 4 soc, fN 12 2 rep,
    fN 14 2 (b2n e.hib + 2 * b2n e.full.isSome + 4 * b2n e.emptyMk + 8 * b2n e.cmeas.isSome + 16 * b2n e.k.isSome
      + 32 * b2n e.corrd + 64 * b2n (!e.table.isEmpty)),
    fN 16 4 e.cap, fI 20 8 (qUah e.netQ), fI 28 8 (eMj e.netE), fI 36 4 (o e.k), fI 40 4 (o e.isd), fI 44 4 (o e.dcir)]

end Sys2Proof.Machine
end

