-- ==== Sys2Proof/Machine/EisOps.lean ====
section
/-! DEFINITION. Frequencies, windows and tones of the impedance engine (R305 to R312). -/

namespace Sys2Proof.Machine

open Sys2Proof

/-- Largest n below 2^k + r with n^1000 at most m, found bit by bit. -/
def rootGo : Nat → Nat → Nat → Nat
  | 0, _, r => r
  | k + 1, m, r =>
    let c := r + 2 ^ k
    if c ^ 1000 ≤ m then rootGo k m c else rootGo k m r

/-- The nominal frequency of code c in 10^-12 Hz: 10 mHz * 10^(c / 1,000) (R262, R306). -/
def fnP (c : Nat) : Nat := rootGo 54 (10 ^ (10000 + c)) 0

/-- Cycle count Q of a point (R307). -/
def eisQ (stagger : Bool) (nper : Nat) : Nat := if stagger then 8 * nper else nper

/-- Window length W in units of 3.125 µs (R307). -/
def eisW (q code : Nat) : Nat :=
  let f := fnP code
  (q * 320000000000000000 + (f - 1)) / f

/-- Settle length in units of 3.125 µs: one nominal period rounded up, at least 1 ms (R307). -/
def eisSettle (code : Nat) : Nat := Nat.max 320 (eisW 1 code)

/-- Tone frequency of Gather g in 10^-12 Hz (R308). -/
def eisToneP (stagger : Bool) (nper code g : Nat) : Nat :=
  let q := eisQ stagger nper
  (if stagger then q - g else q) * 320000000000000000 / eisW q code

/-- Tone frequency in µHz, to the nearest (Table 08-1). -/
def eisToneU (stagger : Bool) (nper code g : Nat) : Nat :=
  let q := eisQ stagger nper
  let w := eisW q code
  (2 * ((if stagger then q - g else q) * 320000000000) + w) / (2 * w)

/-- A whole turn of the phase counter (R310): one turn is 8 * 10^21 units of 1.25 * 10^-22 (DESIGN CHOICE, log entry 11). -/
def phTurn : Nat := 8000000000000000000000

/-- sin of an angle from 0 to π / 2, in 10^-9, from the angle in 10^-9 rad (DESIGN CHOICE, log entry 11). -/
def sinQuarter (x : Int) : Int :=
  let y := x * x / 1000000000
  let t (d a : Int) : Int := 1000000000 - y * a / (d * 1000000000)
  clampI 0 1000000000 (x * t 6 (t 20 (t 42 (t 72 (t 110 (t 156 1000000000))))) / 1000000000)

/-- sin(2π ph) in 10^-9. -/
def sinPh (ph : Nat) : Int :=
  let q := phTurn / 4
  let r := ph % q
  let a (n : Nat) : Int := ((n * 1570796327 / q : Nat) : Int)
  match (ph / q) % 4 with
  | 0 => sinQuarter (a r)
  | 1 => sinQuarter (a (q - r))
  | 2 => -(sinQuarter (a r))
  | _ => -(sinQuarter (a (q - r)))

/-- What a window gathers begins anew (R314, R316). -/
def EisSt.cleared (e : EisSt) : EisSt := { e with bad := 0, swap := false, eighths := List.replicate 8 {}, vsum := 0 }

/-- The sum over the whole window (R314). -/
def Tone.add (a b : Tone) : Tone := { vre := a.vre + b.vre, vim := a.vim + b.vim, ire := a.ire + b.ire, iim := a.iim + b.iim, n := a.n + b.n }
def EisSt.window (e : EisSt) : Tone := e.eighths.foldl Tone.add {}

/-- The complex amplitudes of a sum: twice its mean (R314). -/
def Tone.amplitude (x : Tone) : Tone :=
  { vre := rdiv (2 * x.vre) x.n, vim := rdiv (2 * x.vim) x.n, ire := rdiv (2 * x.ire) x.n, iim := rdiv (2 * x.iim) x.n, n := 1 }

/-- One sample of the demodulators, the j-th of a window of n at a tone of f * 10^-12 Hz (R314): voltage in nV and current in nA, times
e^(-j2πft). -/
def EisSt.demod (e : EisSt) (f n : Nat) (v i : Int) : EisSt :=
  let j := e.window.n
  let ph := f * j * 25000 % phTurn
  let co := sinPh ((ph + phTurn / 4) % phTurn)
  let si := sinPh ph
  let b := Nat.min 7 (8 * j / Nat.max 1 n)
  { e with eighths := e.eighths.modify b (fun t => t.add { vre := v * co, vim := -(v * si), ire := i * co, iim := -(i * si), n := 1 })
           vsum := e.vsum + v }

/-- STAGGER of EIS_CFG, as a channel's point took it (R346). -/
def State.eisStagger (s : State) (c : ChanNo) : Bool := (s.chan c).eis.cfg.testBit 0

/-- NPER of an EIS step (Table 07-3). -/
def stepNper (w : StepWord) : Nat := Nat.max 1 (bitsOf (slotVal w 1) 8 8)

/-- AMP of an EIS step in µA. -/
def stepAmp (w : StepWord) : Nat := slotVal w 3

/-- The feed-forward path is used when fn lies above FXO, the crossover divided by FFDIV (R311). -/
def State.eisFF (s : State) (c : ChanNo) (code : Nat) : Bool :=
  let x := s.chan c
  decide (s.kpi c (stepProf x.cur) * 1000000000000000000000000000000
    < fnP code * s.lind c * bitsOf x.eis.cfg 8 8 * 6283185307179586)

/-- VAMP of a point at its start in µV: AMP * 2π * fn * LIND (R312). -/
def State.eisVamp (s : State) (c : ChanNo) (amp code : Nat) : Nat :=
  amp * 6283185307179586 * fnP code * s.lind c / 1000000000000000000000000000000000000

end Sys2Proof.Machine
end

