-- ==== Sys2Proof/Machine/LoopOps.lean ====
section
/-! DEFINITION. The work of one control cycle: samples, ranges, protection counters, integration, the reference chain, the voltage
and current loops, light load (chapters 04 and 05). -/

namespace Sys2Proof.Machine

open Sys2Proof

/-! ### Ranges (R197 to R201) -/

/-- The flags of one control cycle (R197, R200): an input that passed 100 % of FS, and the cycles in a row with PEAK below 45 % of the next
lower range's FS. The samples of a failed converter do not count (R238). -/
def MeasSt.peakCycle (m : MeasSt) (t : Nat) (x : ChIn) : MeasSt :=
  let peak := if m.lostI then 0 else Nat.max x.peak x.i.natAbs
  let ovrv := !m.lostV && decide (fsOf 0 < Nat.max x.vpeak x.v.natAbs)
  let ovri := decide (fsOf (1 + m.irng) < peak)
  let low := !m.lostI && decide (m.irng < 3 ∧ peak * 100 < 45 * fsOf (2 + m.irng))
  { m with rngT := m.rngT + t, winFlags := m.winFlags ||| (b2n ovrv + 2 * b2n ovri), ovrv, ovri,
           peakLow := if low then Nat.min 64 (m.peakLow + 1) else 0 }

/-- The range after one control cycle: mode 0 is auto; `sel` is the range that the other modes select; `held` is a sweep that holds the
range (R199 to R201, R318). -/
def MeasSt.rangeCycle (m : MeasSt) (mode : Nat) (sel : Option Nat) (held : Bool) (t : Nat) (x : ChIn) : MeasSt :=
  let y := m.peakCycle t x
  if y.ovri then { y.setRange 0 with rngforce := y.rngforce || mode != 0 }
  else if held then y
  else if mode ≠ 0 then (if y.rngforce then y else y.setRange (sel.getD y.irng))
  else if !y.lostI && decide (fsOf (1 + y.irng) * 9 < Nat.max x.peak x.i.natAbs * 10) then y.setRange (y.irng - 1)
  else if 64 ≤ y.peakLow ∧ 80000000 ≤ y.rngT then y.setRange (y.irng + 1)
  else y

/-! ### One channel's samples and protection counters -/

/-- I²t model of one control cycle (R181): USED in 10^-12 IRATED² s, `t` in ticks. -/
def ProtSt.i2t (p : ProtSt) (i irated budget rearm t iref : Nat) : ProtSt :=
  let r := Nat.max 1 irated
  let d := t * 125
  let used :=
    if r < i then p.used + (i * i - r * r) * d / (r * r)
    else p.used - p.used * d / 60000000000000 + p.used * d * d / 7200000000000000000000000000
  let p := { p with used, foldT := Nat.min 400000000 (p.foldT + t) }
  let p := if !p.fold && decide (budget * 1000000000000 ≤ used) then { p with fold := true, foldFrom := iref, foldT := 0 } else p
  if p.fold && decide (used * 100 ≤ budget * 1000000000000 * rearm) then { p with fold := false } else p

/-- One channel takes its samples of one control cycle; the period then ended, and the next one runs (R117, R118). -/
def State.sampleRaw (s : State) (m : ChanNo) (raw : ChIn) : State :=
  let x := s.calIn m raw
  let t := s.period (gOf m)
  let c := s.chan m
  let l := c.loop
  let keep := Nat.max 256 (s.shwin m + 1)
  let held := decide (2 ≤ (s.chan (s.leaderOf m)).eis.phase)
  let slow := s.fld (chA m 0x88) 0 9 * s.irated m / 100
  let i := x.i.natAbs
  let revv := sx 32 (s.reg (chA m 0xA4))
  let budget := s.fld (chA m 0x8C) 0 8
  let rearm := s.fld (chA m 0x8C) 8 7
  let irated := s.irated m
  let mode := s.fld (chA m 0xC0) 4 2
  let band :=
    if !c.meas.tvalid then 8
    else if c.meas.tcell < 0 then 0 else if c.meas.tcell < 1500 then 1 else if c.meas.tcell < 2500 then 2
    else if c.meas.tcell < 3500 then 3 else if c.meas.tcell < 4500 then 4 else if c.meas.tcell < 5500 then 5
    else if c.meas.tcell < 6500 then 6 else 7
  s.onChan m (fun c =>
    { c with
      loop := { l with vloop := x.v, iloop := x.i, vhist := (x.v :: l.vhist).take keep, last := l.mid, mid := l.next, zc := x.zc, vbus := x.vbus }
      meas := { c.meas.rangeCycle mode (s.rangeSel m) held t raw with calLoop := c.meas.calNext.isSome }
      prot :=
        let p := c.prot.i2t i irated budget rearm t l.iref.natAbs
        { p with
          slowT := if l.st = .softstart then 0 else if slow < i then p.slowT + t else p.slowT - t
          revT := if x.v < revv then p.revT + t else 0
          revSeen := decide (x.v < revv) && p.revSeen
          shortWait := if l.con && l.st ≠ .settling then p.shortWait + 1 else 0
          noTripT := if l.st = .active ∨ l.st = .resting then p.noTripT + t else p.noTripT }
      cntNew := { c.cntNew with
        periods := c.cntNew.periods + b2n (decide (0 < l.mid.ton))
        bands := if l.con && decide (l.st ≠ .released) then c.cntNew.bands.set band (c.cntNew.bands.getD band 0 + t)
                 else c.cntNew.bands } })

/-- The samples of one control cycle; an overrange or a range change spoils the EIS window that runs (R316). -/
def State.sampleOne (s : State) (m : ChanNo) (raw : ChIn) : State :=
  let was := s.winNow m
  let s := (s.sampleRaw m raw).rangeMoved m was
  let x := s.chan m
  let l := s.leaderOf m
  if (s.chan l).eis.phase = 3 ∧ (x.meas.ovrv || x.meas.ovri || x.meas.irng != was.irng) then
    s.onEis l (fun e => { e with bad := e.bad ||| 32 })
  else s

/-- The gang total of current in a leader's history (R159). -/
def State.pushTotal (s : State) (c : ChanNo) : State :=
  let tot := ((s.membersOf c).map (fun m => (s.chan m).loop.iloop)).sum
  s.onLoop c (fun l => { l with ihist := (tot :: l.ihist).take 256 })

/-! ### The integration stream (R208, R299, R331, R360, R361) -/

/-- One 62.5 µs window of a Gather, its samples calibrated: charge, energy, counters and shared losses of each channel. -/
def State.integrate (s : State) (g : GatherNo) (x : CycleIn) : State :=
  let inOf (c : ChanNo) : ChIn := x.ch.getD (kOf c) {}
  let cs := chansOf g
  let pw (c : ChanNo) : Int := (inOf c).vInt * (inOf c).iInt
  let sw (c : ChanNo) : Bool := stSwitch (s.chan c).loop.st && !(s.chan c).prot.ckLatch
  let loss : Int := (x.vbus : Int) * x.ibusInt - (cs.map pw).sum
  let loss : Int := if loss < 0 then 0 else loss
  let itot : Int := ((cs.filter sw).map (fun c => ((inOf c).iInt.natAbs : Int))).sum
  let s := s.forChans cs (fun c s =>
    let i := (inOf c).iInt
    let share : Int := if sw c && decide (0 < itot) then loss * i.natAbs / itot else 0
    let bus := pw c + share
    let imp := if 0 ≤ bus then bus.natAbs else 0
    let exp := if bus < 0 then bus.natAbs else 0
    s.onChan c (fun y =>
      { y with
        cntNew := { y.cntNew with
          imp := y.cntNew.imp + imp, exp := y.cntNew.exp + exp
          qin := y.cntNew.qin + i.toNat, qout := y.cntNew.qout + (-i).toNat }
        meterImp := y.meterImp + imp
        meterExp := y.meterExp + exp
        eusedE := y.eusedE + (pw c).natAbs
        meas := { y.meas with vms := ((inOf c).vInt :: y.meas.vms).take 16 }
        est := { y.est with accQ := y.est.accQ + i, accE := y.est.accE + pw c } }))
  s.forChans (cs.filter (fun c => !s.follower c)) (fun c s =>
    let ms := s.membersOf c
    let i := (ms.map (fun m => (inOf m).iInt)).sum
    let v := (inOf c).vInt
    let e := (ms.map pw).sum
    let rest := ((ms.filter (fun m => m ≠ c)).map (fun m => (pw m).natAbs)).sum
    let y := s.chan c
    let st := y.loop.st
    let runs := y.prog.active && stExec st
    let steps := runs && st != .settling && y.prog.inStep && !y.prog.newStep
    s.onChan c (fun y =>
      { y with
        eusedE := y.eusedE + rest
        prog :=
          let p := y.prog
          let p := if runs then { p with startQ := p.startQ + i, startE := p.startE + e } else p
          let p := if steps then { p with stepQ := p.stepQ + i, stepE := p.stepE + e } else p
          let p := { p with sum100 := p.sum100 + v, n100 := p.n100 + 1 }
          let w := (p.step p.pc)
          if steps && stepKind w == 8 then
            let ms (n : Nat) : Nat := n * 8000000
            let t1 := let a := bitsOf (slotVal w 2) 0 16; if a = 0 then 10000 else a
            let t2 := let a := bitsOf (slotVal w 2) 16 16; if a = 0 then 10000 else a
            let win (t : Nat) : Nat := if t < 400 then ms t / 4 else ms 100
            let add (a : Mean) : Mean := { v := a.v + v, i := a.i + i, n := a.n + 1 }
            if !p.dcirB then (if ms t1 - win t1 ≤ p.phaseT then { p with dcirA := add p.dcirA } else p)
            else
              let p := if ms t2 - win t2 ≤ p.phaseT then { p with dcirW := add p.dcirW } else p
              match p.dcirReach with
              | some r => if 1100 ≤ t2 ∧ r + ms 990 ≤ p.stepT ∧ p.stepT ≤ r + ms 1000 then { p with dcir1s := add p.dcir1s } else p
              | none => p
          else p }))

/-- A 100 ms point of the PTP grid: the mean of the window; the highest mean counts windows that lay whole in the step (R266). -/
def ProgSt.point100 (p : ProgSt) : ProgSt :=
  let p :=
    if 0 < p.n100 then
      let m := tdiv p.sum100 p.n100
      { p with means := (m :: p.means).take 101
               maxMean := if p.whole100 then some (match p.maxMean with | some a => if a < m then m else a | none => m) else p.maxMean }
    else p
  { p with sum100 := 0, n100 := 0, whole100 := true }

/-! ### Time in a step -/

/-- Ticks counted in one control cycle by the leader and its members (R138, R140, R143, R286) (DEDUCED, log entry 10). -/
def State.countTicks (s : State) (c : ChanNo) : State :=
  let g := gOf c
  let t := s.period g
  let y := s.chan c
  let st := y.loop.st
  let runs := y.prog.active && stExec st
  let steps := runs && st != .settling && y.prog.inStep && !y.prog.newStep
  let gg := s.gat g
  let hold := decide (st = .softstart) && ((decide (0 < s.fullRef c) && gg.uvw) || (decide (s.fullRef c < 0) && gg.ovw))
  let s := s.forChans (s.membersOf c) (fun m s =>
    let ramps := st == .settling || st == .stopping || (st == .softstart && !hold) || (s.chan m).loop.tcoff
    let s := s.onLoop m (fun l => { l with ramp := if ramps then l.ramp + t else l.ramp, tkT := if l.tkramp then l.tkT + t else l.tkT })
    s.onProt m (fun p => { p with uvhold := hold && decide (0 < s.fullRef c), ovhold := hold && decide (s.fullRef c < 0) }))
  s.onProg c (fun p =>
    let p := if runs ∨ (p.active ∧ y.prot.retryWait) then { p with startT := p.startT + t } else p
    if steps then { p with stepT := Nat.min (p.stepT + t) 34359738360000000, phaseT := p.phaseT + t } else p)

/-! ### The reference chain (R119 to R127, R132, R140, R154, R155) -/

/-- One slew step toward a reference (R132): `pos` in 1/8000 µA, slew in mA/ms, period in ticks. -/
def slewTo (pos target : Int) (slew t : Nat) : Int :=
  if slew = 0 then target * 8000
  else
    let d : Int := (slew : Int) * t
    let g := target * 8000
    if pos + d < g then pos + d else if g < pos - d then pos - d else g

/-- The leader's total of one control cycle, with the flags it sets; `none` of the loops run in REST. -/
def State.refCycle (s : State) (c : ChanNo) : State :=
  let x := s.chan c
  let l := x.loop
  let g := s.gat (gOf c)
  let w := x.cur
  if l.st = .stopping then
    let ts := Nat.max 1 (s.fld (gA (gOf c) 0x10) 0 16 * 800000)
    let r := s.tkLimit c (if ts ≤ l.ramp then 0 else tdiv (l.rampFrom * (ts - l.ramp)) ts)
    let r' := s.limits c r
    s.onLoop c (fun l => { l with total := r', limit := r' ≠ r, slewPos := r' * 8000 })
  else
    let volt := l.kind = .cv ∨ l.kind = .cccv
    let vo : VoltOut := if volt then s.voltLoop c (s.ramped c) else { r := s.ramped c (s.fullRef c), sv := l.sv, cvph := false, lim := false }
    let pos := slewTo l.slewPos vo.r (stepSlew w) (s.period (gOf c))
    let rises := l.slewPos.natAbs < pos.natAbs ∧ stepSlew w ≠ 0
    let uv := rises ∧ 0 < pos ∧ g.uvw
    let ov := rises ∧ pos < 0 ∧ g.ovw
    let pos := if uv ∨ ov then l.slewPos else pos
    let r := tdiv pos 8000
    let rb := match x.cap with | some m => capMag m r | none => r
    let rl := clampI (-(s.hlIdis c : Int)) (s.hlIchg c) rb
    let rf := s.limits c r
    let held := rf ≠ r
    let s := s.onChan c (fun x =>
      { x with
        icap := rl ≠ rb
        baltrim := rb ≠ r || (vo.lim && x.cap.isSome)
        loop := { x.loop with total := rf, limit := held || vo.lim, sv := vo.sv, cvph := vo.cvph
                              slewPos := if held then rf * 8000 else pos }
        prog := { x.prog with
          limited := x.prog.limited || ((held || vo.lim) && stepKind w == 8)
          dcirReach := if x.prog.dcirB && x.prog.dcirReach.isNone && rf == sx 32 (slotVal w 3) then some x.prog.stepT
                       else x.prog.dcirReach }
        eis := if (held || vo.lim) && x.eis.phase == 3 then { x.eis with bad := x.eis.bad ||| 64 } else x.eis })
    s.forChans (s.membersOf c) (fun m s =>
      let s := s.onLoop m (fun l => { l with cvph := vo.cvph })
      s.onProt m (fun p => { p with uvhold := p.uvhold || uv, ovhold := p.ovhold || ov }))

/-- Each member's share after its own limits; a clipped member lowers the gang total (R154, R155). -/
def State.shareCycle (s : State) (c : ChanNo) : State :=
  let total := (s.chan c).loop.total
  let lead := (s.chan c).loop.limit
  let ms := s.membersOf c
  let own (m : ChanNo) : Int := s.limOwn m (s.shareOf m total)
  let clipped := ms.any (fun m => own m ≠ s.shareOf m total)
  let sum := (ms.map own).sum
  let s := s.forChans ms (fun m t => t.onLoop m (fun l => { l with iref := own m, limit := if m = c then lead || clipped else own m ≠ s.shareOf m total }))
  s.onLoop c (fun l => { l with total := sum })

/-! ### Light load (R147, R148, R158) -/

/-- DE of the leader and its members from the average over the last DEWIN control cycles; a step's own reference decides while it holds
(R148) (DESIGN CHOICE, log entry 59). -/
def State.deCycle (s : State) (c : ChanNo) : State :=
  let x := s.chan c
  let ms := s.membersOf c
  let n := Nat.max 1 (s.fld (gA (gOf c) 0x14) 8 8)
  let win := ((x.loop.ihist.getD 0 0).natAbs :: x.loop.deWin).take n
  let h := (ms.map s.hRange).sum
  let sum := win.sum
  let ok := s.deAllowed c
  let byAvg := decide (n ≤ win.length) && x.loop.deHold == 0
  let new (old : Bool) : Bool :=
    if !ok then false
    else if !byAvg then old
    else if old then !decide (3 * h * n < 100 * sum) else decide (1000 * sum < 15 * h * n)
  let s := s.onLoop c (fun l => { l with deWin := win, deHold := l.deHold - 1 })
  s.forChans ms (fun m s => s.onLoop m (fun l => { l with de := new l.de }))

/-! ### The current loop (R120, R114, R150, R151) -/

/-- The on-time limits of R114 and R151: on-time, DCLAMP, direction of the clamp, BURST, deficit (DESIGN CHOICE, log entry 11). -/
def tonLimit (ton : Int) (tonmin top : Nat) (de burst : Bool) (deficit : Nat) : Nat × Bool × Int × Bool × Nat :=
  if (top : Int) < ton then (top, true, 1, false, deficit)
  else if (tonmin : Int) ≤ ton then (ton.toNat, false, 0, false, deficit)
  else if de && burst then
    let d := deficit + ton.toNat
    if tonmin ≤ d then (tonmin, false, 0, true, d - tonmin) else (0, false, 0, true, d)
  else (tonmin, true, -1, false, deficit)

/-- The voltage loop's correction of R120 in 1.25 * 10^-10 µV: KPI e + si. -/
def State.corrOf (s : State) (prof : Nat) (m : ChanNo) (e si : Int) : Int := s.kpi m prof * e * 8000 + si

/-- The on-time that the loop of a channel asks for, from a correction and an injected voltage (R120), or the discontinuous on-time of the
controlled switch under DE (R149, R150). The spec gives none on a bus of 0 V, and under DE where the formula has no root: no value
(DESIGN CHOICE, log entry 11). -/
def State.askTon (s : State) (m : ChanNo) (corr inj : Int) : Option Int :=
  let l := (s.chan m).loop
  let t : Int := s.period (gOf m)
  let u : Int := 8000000000
  let vb : Int := l.vbus
  let vc := l.vloop
  if vb ≤ 0 then none
  else if !l.de then some (rdiv ((vc * u + corr + inj) * t) (vb * u))
  else
    let chg := decide (0 ≤ l.iref)
    let k : Int := 16 * (s.lind m) * t * l.iref.natAbs
    let num := if chg then k * vc else k * (vb - vc)
    let den := if chg then vb * (vb - vc) else vc * vb
    if den ≤ 0 ∨ num < 0 then none
    else
      let ff : Int := rsqrt num.toNat den.toNat
      let cr := rdiv (corr * t) (vb * u)
      some (if chg then ff + cr else ff - cr)

/-- The next period of a channel from the on-time asked for, limited under R114 and R151; an open one is a free value (log entry 2). -/
def State.setDuty (s : State) (m : ChanNo) (ask : Option Int) : State :=
  let (fr, s1) := s.draw
  let s := if ask.isNone then s1 else s
  let l := (s.chan m).loop
  let g := gOf m
  let burst := s.bit (gA g 0x14) 1 && !s.bit (chA m 0x00) 1
  let dead := s.reg (gA g 0x04)
  let tmin := s.reg (gA g 0x08)
  let top := s.period g - bitsOf dead 0 10 - bitsOf dead 16 10 - bitsOf tmin 16 10
  let (tn, clamp, dir, bu, deficit) := tonLimit (ask.getD ((fr % 262144 : Nat) : Int)) (bitsOf tmin 0 10) top l.de burst l.deficit
  let pwl := l.de && decide (l.iref < 0)
  s.onLoop m (fun l =>
    { l with next := { ton := tn, pwl, de := l.de, clamp, burst := bu }, clampDir := if pwl then -dir else dir, deficit, ff := false })

/-- One channel's on-time for period n + 2 (R118 to R120, R150). A Crack-off latch keeps both switches low (R167); a changeover of
converters holds the last good on-time (R238); a channel that begins to switch takes the feed-forward on-time, with no error yet (R120,
R131, R140) (DESIGN CHOICE, log entry 59). `late` computes the period once more for a step that begins when the cycle's samples have been
integrated already. -/
def State.currentLoop (s : State) (c : ChanNo) (m : ChanNo) (late : Bool) : State :=
  let x := s.chan m
  let l := x.loop
  if x.prot.ckLatch then s.onLoop m (fun l => { l with next := {} })
  else if 0 < l.hold then s.onLoop m (fun l => { l with hold := if late then l.hold else l.hold - 1 })
  else if l.ff then s.setDuty m (s.askTon m 0 0)
  else
    let t : Int := s.period (gOf m)
    let vb : Int := l.vbus
    let u : Int := 8000000000
    let prof := stepProf (s.chan c).cur
    let e := l.iref - l.iloop
    let si1 := clampI (-(vb * u)) (vb * u) (l.si + s.kii m prof * t * e)
    let si := if late ∨ (l.clampDir ≠ 0 ∧ sgn e = l.clampDir) then l.si else si1
    let ex := (s.chan c).eis
    let inj : Int := if 2 ≤ ex.phase ∧ ex.ffpath then x.eis.vamp * ex.sin9 * 8 else 0
    (s.onLoop m (fun l => { l with si })).setDuty m (s.askTon m (s.corrOf prof m e si) inj)

/-- Switching begins at a boundary between two control cycles: the period that begins there and the one after it take the feed-forward
on-time (R120, R140, R712). -/
def State.feedForward (s : State) (c : ChanNo) : State :=
  s.forChans (s.membersOf c) (fun m s =>
    (s.setDuty m (s.askTon m 0 0)).onLoop m (fun l => { l with mid := l.next }))

end Sys2Proof.Machine
end

