-- ==== Sys2Proof/Machine/Loop.lean ====
section
/-! DEFINITION. The loop engine's commands and events: the control cycle, the ends of settles, ramps and phases, GPIO edges. -/

namespace Sys2Proof.Machine

open Sys2Proof

abbrev Out := Host.Outcome State Fault Refusal

/-! ### The control cycle (R116 to R158) -/

/-- The tone of an EIS step advances by one control cycle (R310, R311). -/
def State.toneCycle (s : State) (c : ChanNo) : State :=
  let x := s.chan c
  let w := x.cur
  if x.eis.phase < 2 then s
  else
    let f := eisToneP (s.eisStagger c) (stepNper w) x.eis.code (gOf c).val
    let ph := (x.eis.ph + f * s.period (gOf c)) % phTurn
    let sn := sinPh ph
    s.onEis c (fun e => { e with ph, sin9 := sn, tone := tdiv (stepAmp w * sn) 1000000000 })

/-- The loops of a switching channel or gang, from this cycle's samples (R119 to R158) (DEDUCED, log entry 10). -/
def State.loopCycle (s : State) (c : ChanNo) (late : Bool) : State :=
  let s := ((s.toneCycle c).refCycle c).shareCycle c
  s.forChans (s.membersOf c) (fun m s => s.currentLoop c m late)

/-- A trip with a retry left (R168, R171): every member stops and waits, and the program is kept. -/
def State.retryStop (s : State) (c : ChanNo) (trips : List ChanNo) : State :=
  let l := s.leaderOf c
  let corr := (s.chan l).prog.corr
  let ref := s.stepRef l
  let n := (s.chan l).prot.retries + 1
  let t := match trips.head? with | some m => (s.chan m).prot.tripT | none => s.ptp
  let s := s.forChans (s.membersOf c) (fun m s =>
    let own := trips.contains m
    let s := s.faultOne m [if own then 1 else 0x0B] corr ref (own || m == l)
    s.onProt m (fun p => { p with retryWait := true, retries := n, tripT := t, noTripT := 0 }))
  s.onProg l (fun p => { p with deferT := none })

/-- The stop of a Crack-off latch in the control cycle after the trip (R162, R167 to R171): a retry when one is left on every tripped
member, no other cause is met in the gang, no stop is under way and no termination ends the step (DESIGN CHOICE, log entry 61). -/
def State.ckStop (s : State) (c : ChanNo) : State :=
  let ms := s.membersOf c
  let trips := ms.filter (fun m => (s.chan m).prot.ckLatch)
  let s := s.forChans ms (fun m s => s.onProt m (fun p => { p with noTripT := 0 }))
  let go := (s.chan c).prog.inStep && (s.chan c).loop.st != .stopping && (s.endingSlot c).isNone
  if go && (ms.flatMap s.metCauses).all (· == 1) then s.retryStop c trips
  else s.faultStop (trips.headD c) []

/-- Before the loops of a cycle: the first loop sample of a soft-start (R188). -/
def State.ssSample (s : State) (c : ChanNo) : State :=
  s.onLoop c (fun l => if l.st = .softstart ∧ l.ss.isNone then { l with ss := some (l.vloop, l.ihist.getD 0 0) } else l)

/-- The loops of a channel or gang after its stops and terminations: `moved` tells that a termination was met in this cycle. A step entered
with a refetch governs one control cycle later (R289); a step entered without one computes its first control cycle here (R125, R288), `late`
when it is entered at the boundary after the cycle's work. -/
def State.driveCycle (s : State) (c : ChanNo) (moved late : Bool) : State :=
  let x := s.chan c
  let t := s.period (gOf c)
  if moved && x.prog.refetch then s
  else if !stSwitch x.loop.st then
    let s := s.forChans (s.membersOf c) (fun m s => s.onLoop m (fun l => { l with next := {} }))
    if stExec x.loop.st && x.prog.inStep && !x.prog.newStep && !wantCon x.cur then s.openIdle c else s
  else
    let s := if moved then s.onProg c (fun p => { p with phaseT := t }) else s
    if (s.gat (gOf c)).slot.isSome then
      -- a self-test slot holds every output of the Gather low (R93)
      s.forChans (s.membersOf c) (fun m s => s.onLoop m (fun l => { l with next := {} }))
    else s.loopCycle c late

/-- One leader, or single channel: stops, terminations, DE, then the loops (DEDUCED, log entry 10). -/
def State.leaderCycle (s : State) (c : ChanNo) : State :=
  let ms := s.membersOf c
  let s := s.ssSample c
  if ms.any (fun m => (s.chan m).prot.ckLatch) then s.ckStop c
  else
    match ms.find? (fun m => !(s.shortCauses m ++ (if m = c then s.leaseCauses c else [])).isEmpty) with
    | some m => s.faultStop m []
    | none =>
      let s := if stExec (s.chan c).loop.st then s.deCycle c else s
      match s.endingSlot c with
      | some (i, d) => (s.takeSlot c i d).driveCycle c true false
      | none => s.driveCycle c false false

/-- Ticks from the epoch to the start of a channel's periods (R111, R112, R157). -/
def State.phase (s : State) (c : ChanNo) : Nat :=
  let t := s.period (gOf c)
  kOf c * t / 8 + (if s.bit (gA (gOf c) 0) 24 then (gOf c).val * t / 64 else 0)

/-- The next period of a Gather begins: each channel's at its own phase (R111, R116). -/
def State.nextPeriod (s : State) (g : GatherNo) : State :=
  let s := s.onGat g (fun y => { y with cycle := (y.cycle + 1) % 2 ^ 32, perN := y.perN + 1 })
  let y := s.gat g
  s.forChans (chansOf g) (fun c s => s.onLoop c (fun l => { l with start := y.epoch + y.perN * s.period g + s.phase c }))

/-- The demodulators of a sweep take the samples of one control cycle while its window is open: the leader's voltage and the gang's total
current, calibrated (R313, R314). `s0` is the state over which they were taken. -/
def State.demodCycle (s : State) (s0 : State) (x : CycleIn) (c : ChanNo) : State :=
  let e := (s.chan c).eis
  if e.phase ≠ 3 then s
  else
    let g := gOf c
    let w := (s.chan c).cur
    let n := eisW (eisQ (s.eisStagger c) (stepNper w)) e.code
    let f := eisToneP (s.eisStagger c) (stepNper w) e.code g.val
    let raw (m : ChanNo) : List (Int × Int) := (x.ch.getD (kOf m) {}).dem
    let smp := (List.range (raw c).length).map (fun j =>
      (s0.nvOf c ((raw c).getD j (0, 0)).1, ((s.membersOf c).map (fun m => s0.naOf m ((raw m).getD j (0, 0)).2)).sum))
    s.onEis c (fun e => smp.foldl (fun e p => if e.window.n < n then e.demod f n p.1 p.2 else e) e)

/-- One control cycle of the eight channels of a Gather, each over its own period (DESIGN CHOICE, log entry 5; DEDUCED, log entry 10). -/
def State.controlCycle (s : State) (g : GatherNo) (x : CycleIn) : State :=
  if s.gatOff g then s
  else
    let s := (s.tickTo x.epoch).nextPeriod g
    let cs := chansOf g
    let s0 := s
    let cal := { x with ch := cs.map (fun c => s.calIn c (x.ch.getD (kOf c) {})) }
    let s := s.forChans cs (fun c s => s.sampleOne c (x.ch.getD (kOf c) {}))
    let s := if x.integ then s.integrate g cal else s
    let lead := cs.filter (fun c => !s.follower c)
    let s := s.forChans lead (fun c s =>
      let s := ((s.pushTotal c).countTicks c).demodCycle s0 x c
      if x.grid100 then s.onProg c ProgSt.point100 else s)
    ((s.forChans lead (fun c s => s.leaderCycle c)).takeInputs g).refreshMode

/-- CONTROL_CYCLE (R120): one PWM period of a Gather, from the samples of its eight channels. -/
def execControlCycle (g : GatherNo) (x : CycleIn) (s : State) : Out := .next (s.controlCycle g x)

/-! ### Settling, soft-start, stops -/

/-- The switches of a channel begin to run at the feed-forward duty (R120, R140). -/
def State.goSwitch (s : State) (c : ChanNo) : State := if stSwitch (s.chan c).loop.st then s.feedForward c else s

/-- The point of an interrupted sweep, put back after its step begins again (R321). -/
def State.keepPoint (s : State) (c : ChanNo) (old : EisSt) : State :=
  if (s.chan c).eis.phase = 1 ∧ old.done ≤ old.point then
    s.onEis c (fun e => { e with point := old.point, done := old.done, code := (eisCode (s.chan c).cur old.point).getD e.code })
  else s

/-- A channel that a takeover resumes begins to switch, at the feed-forward duty under the takeover ramp (R538), or goes on as it stood. -/
def State.takeoverGo (s : State) (c : ChanNo) (dst : ChState) : State :=
  let from_ := (s.chan c).loop.total
  let a := ((s.membersOf c).map (fun m => (s.chan m).loop.ihist.getD 0 0)).sum.natAbs
  let s := s.forChans (s.membersOf c) (fun m s =>
    (s.onLoop m (fun l => { l with si := 0, clampDir := 0, deficit := 0, tkramp := stSwitch dst, tkT := 0, tkFrom := if m = c then a else l.tkFrom })).setSt m dst .none 0)
  let s := s.onLoop c (fun l => { l with total := from_ })
  let s := if (s.chan c).eis.phase = 0 then s else s.onEis c (fun e => { phase := 1, point := e.point, code := e.code, done := e.done })
  s.goSwitch c

/-- The end of a settle (R138, R102, R168, R712). A cell below SHVMIN on any member stops the channel before it switches (R184). -/
def State.settleEnd (s : State) (c : ChanNo) (v : Int) : State :=
  let c := s.leaderOf c
  let tcon := s.fld (gA (gOf c) 0x0C) 0 16 * 800000
  let x := s.chan c
  if x.loop.st ≠ .settling ∨ x.loop.ramp < tcon then s
  else
    let ms := s.membersOf c
    let s := s.forChans ms (fun m s => s.onLoop m (fun l => { l with ramp := 0 }))
    let s := s.onLoop c (fun l => { l with vloop := v })
    let low (m : ChanNo) : Bool := s.bit (chA m 0xAC) 1 && decide ((s.chan m).loop.vloop < sx 32 (s.reg (chA m 0xA0)))
    match ms.find? low with
    | some m => s.faultStop m [6]
    | none =>
      let eis := x.eis
      let again := x.prog.newStep
      let s := match x.loop.settle with
        | .start => s.firstStep c x.prog.pc
        | .step => s.stepOn c true
        | .takeover dst => s.takeoverGo c dst
        | .resume | .retry => ((s.onProg c (fun p => { p with first := true })).stepOn c again).keepPoint c (if again then {} else eis)
      s.goSwitch c

/-- SETTLE_END (R138): TCON has passed; `v` is the loop sample of cell voltage at that boundary. -/
def execSettleEnd (c : ChanNo) (v : Int) (s : State) : Out := .next (s.settleEnd c v).refreshMode

/-- SOFTSTART_END (R140): the ramp has reached full scale; ACTIVE, then the crossover test. -/
def execSoftstartEnd (c : ChanNo) (s : State) : Out :=
  let c := s.leaderOf c
  let l := (s.chan c).loop
  if l.st ≠ .softstart ∨ l.ramp < s.fld (gA (gOf c) 0x0C) 16 16 * 800000 then .next s
  else
    let (s, bad) := s.xover c
    let s := s.forChans (s.membersOf c) (fun m s => s.setSt m .active .none 0)
    .next (if bad then s.faultStop c [9] else s).refreshMode

/-- RAMPED_STOP_END (R143): the ramp has reached zero. -/
def execRampedStopEnd (c : ChanNo) (s : State) : Out :=
  let c := s.leaderOf c
  let l := (s.chan c).loop
  if l.st ≠ .stopping ∨ l.ramp < s.fld (gA (gOf c) 0x10) 0 16 * 800000 then .next s
  else .next (s.finishStop c).refreshMode

/-- TCOFF_EXPIRY (R143): CON opens TCOFF after a fault stop. -/
def execTcoffExpiry (c : ChanNo) (s : State) : Out :=
  let l := (s.chan c).loop
  if !l.tcoff ∨ l.ramp < s.fld (gA (gOf c) 0x10) 16 16 * 800000 then .next s
  else .next (s.onLoop c (fun l => { l with tcoff := false, con := false, ramp := 0 }))

/-- TAKEOVER_RAMP_END (R538): the limit has reached full scale. -/
def execTakeoverRampEnd (c : ChanNo) (s : State) : Out :=
  let c := s.leaderOf c
  let l := (s.chan c).loop
  if !l.tkramp ∨ l.tkT < s.fld 0x330000 0 8 * 400000 then .next s
  else .next (s.forChans (s.membersOf c) (fun m s => s.onLoop m (fun l => { l with tkramp := false, tkT := 0, tkFrom := 0 })))

/-! ### Phases inside a step -/

/-- The whole number of control cycles nearest a duration in ticks, at least 4 (R125). -/
def pulseCycles (dur period : Nat) : Nat := Nat.max 4 ((2 * dur + period) / (2 * Nat.max 1 period))

/-- PULSE_LEVEL_CHANGE (R125, R261): the level has lasted its duration. -/
def execPulseLevelChange (c : ChanNo) (s : State) : Out :=
  let c := s.leaderOf c
  let x := s.chan c
  let w := x.cur
  let unit := if slotVref w 2 then 8000000 else 80000
  let n := if x.prog.pulseB then bitsOf (slotVal w 2) 16 16 else bitsOf (slotVal w 2) 0 16
  let dur := pulseCycles (n * unit) (s.period (gOf c)) * s.period (gOf c)
  if s.tests c && stepKind w == 7 && decide (dur ≤ x.prog.phaseT) then
    .next (s.onProg c (fun p => { p with pulseB := !p.pulseB, phaseT := 0 }))
  else .next s

/-- T1 and T2 of a DCIR step in ticks; 0 means 10,000 ms (Table 07-3). -/
def dcirT (w : StepWord) (second : Bool) : Nat :=
  let a := bitsOf (slotVal w 2) (if second then 16 else 0) 16
  (if a = 0 then 10000 else a) * 8000000

/-- DCIR_PHASE_CHANGE (R325): after T1 the reference moves from I1 to I2. -/
def execDcirPhaseChange (c : ChanNo) (s : State) : Out :=
  let c := s.leaderOf c
  let x := s.chan c
  if s.tests c && stepKind x.cur == 8 && !x.prog.dcirB && decide (dcirT x.cur false ≤ x.prog.phaseT) then
    .next (s.onProg c (fun p => { p with dcirB := true, phaseT := 0 }))
  else .next s

/-- DCIR_STEP_END (R325, R327): after T1 + T2 the step ends by its own end, unless a slot is met in the same cycle (R270). -/
def execDcirStepEnd (c : ChanNo) (s : State) : Out :=
  let c := s.leaderOf c
  let x := s.chan c
  if s.tests c && stepKind x.cur == 8 && x.prog.dcirB && decide (dcirT x.cur true ≤ x.prog.phaseT) then
    .next ((s.slotOrEnd c).driveCycle c true true).refreshMode
  else .next s

/-- SYNC_RELEASE (R283): TREL of a barrier has come; each waiting channel leaves its SYNC step by its own end, and the barrier is
empty. -/
def execSyncRelease (t b : Nat) (s : State) : Out :=
  match s.barriers.find? (fun x => x.tenant == t && x.num == b && x.trel.isSome) with
  | some x =>
    if s.ptp < x.trel.getD 0 then .next s
    else
      let s := { s with barriers := s.barriers.filter (fun y => y ≠ x) }
      let go := (x.arrived.filterMap chan?).filter (fun c => (s.chan c).prog.sync && s.tests c)
      .next (s.forChans go (fun c s => (s.slotOrEnd c).driveCycle c true true)).refreshMode
  | none => .next s

/-- GPIO_EDGE (R269, R672): a filtered edge reaches every Gather; the step in execution on each channel sees it. -/
def execGpioEdge (pin : Fin 12) (rising : Bool) (s : State) : Out :=
  let code := if rising then pin.val else 0x10 + pin.val
  .next (s.forChans allChans (fun c s =>
    if s.tests c then s.onProg c (fun p => { p with events := if p.events.contains code then p.events else code :: p.events }) else s))

end Sys2Proof.Machine
end

