-- ==== Sys2Proof/Machine/Eis.lean ====
section
/-! DEFINITION. The impedance engine's events: tone start, settle and window ends (R304 to R324). -/

namespace Sys2Proof.Machine

open Sys2Proof

/-- The settle of a point begins at PTP time `t` (R305, R307): its code, its path (R311) and EIS_CFG as it stands at this boundary (R346). -/
def State.eisPoint (s : State) (c : ChanNo) (t point code : Nat) : State :=
  let s := s.onEis c (fun e => { e with cfg := s.reg (eisA (gOf c) 0) })
  let ff := s.eisFF c code
  let w := (s.chan c).cur
  let one (m : ChanNo) : Nat := (s.shareOf m (stepAmp w)).natAbs
  let s := s.onEis c (fun e => { e.cleared with phase := 2, settleT := t, point, code, rep := false, ffpath := ff })
  if ff then
    s.forChans (s.membersOf c) (fun m s => s.onEis m (fun e => { e with vamp := s.eisVamp m (one m) code, ffpath := ff }))
  else s.forChans (s.membersOf c) (fun m s => s.onEis m (fun e => { e with vamp := 0, ffpath := ff }))

/-- An EIS step executes on a channel that leads. -/
def State.inEis (s : State) (c : ChanNo) : Bool :=
  let x := s.chan c
  x.prog.inStep && !x.prog.newStep && stepKind x.cur == 9 && stSwitch x.loop.st

/-- EIS_TONE_START (R305): on the first 1 ms boundary of the PTP grid after the reference has reached IBIAS (DEDUCED, log entry 67). -/
def execEisToneStart (c : ChanNo) (stamp : Nat) (s : State) : Out :=
  let c := s.leaderOf c
  let x := s.chan c
  if s.inEis c ∧ x.eis.phase = 1 ∧ stamp % 1000000 = 0 ∧ s.ptp < stamp + 1000000 ∧ stamp < s.ptp + 1000000 ∧ x.loop.st = .active ∧ x.loop.iref = s.shareOf c (s.limTotal c x.prog.seta) then
    let s := (s.tickTo stamp).onEis c (fun e => { e with ph := 0, sin9 := 0, tone := 0 })
    .next (s.eisPoint c stamp x.eis.point ((eisCode x.cur x.eis.point).getD x.eis.code))
  else .next s

/-- EIS_SETTLE_END (R307, R312, R313): the settle has lasted its length, and the window opens at `stamp`; `amps` gives the current amplitude of each channel of the Gather over the last
whole tone period in µA, by which each member scales its own VAMP within 0.5 to 2. -/
def execEisSettleEnd (c : ChanNo) (stamp : Nat) (amps : List Nat) (s : State) : Out :=
  let c := s.leaderOf c
  let x := s.chan c
  if s.inEis c ∧ x.eis.phase = 2 ∧ stamp = x.eis.settleT + eisSettle x.eis.code * 3125 then
    let s := s.tickTo stamp
    let scale (m : ChanNo) (v : Nat) : Nat :=
      let want := (s.shareOf m (stepAmp x.cur)).natAbs
      let amp := amps.getD (kOf m) 0
      if amp * 2 ≤ want then v * 2
      else if want * 2 ≤ amp then v / 2
      else v * want / amp
    let s := if x.eis.ffpath then
      s.forChans (s.membersOf c) (fun m s => s.onEis m (fun e => { e with vamp := scale m e.vamp }))
      else s
    .next (s.onEis c (fun e => { e.cleared with phase := 3, wstart := stamp }))
  else .next s

/-- |a + bi| / d rounded to the nearest integer. -/
def cAbs (a b : Int) (d : Nat) : Nat := rsqrt (a.natAbs * a.natAbs + b.natAbs * b.natAbs) (d * d)

/-- The parts of V̂ / Î in µΩ (R315), in which the length of the window cancels. -/
def zOf (x : Tone) : Option (Int × Int) :=
  let d := x.ire * x.ire + x.iim * x.iim
  if d ≤ 0 then none
  else some (rdiv ((x.vre * x.ire + x.vim * x.iim) * 1000000) d, rdiv ((x.vim * x.ire - x.vre * x.iim) * 1000000) d)

/-- The coherence of R315 in 0.0001, from the amplitudes V_b and I_b of the eighths; none where its denominator is zero. -/
def cohOf (l : List Tone) : Option Nat :=
  let l := l.map Tone.amplitude
  let re := (l.map (fun e => e.vre * e.ire + e.vim * e.iim)).sum
  let im := (l.map (fun e => e.vim * e.ire - e.vre * e.iim)).sum
  let vv := (l.map (fun e => e.vre * e.vre + e.vim * e.vim)).sum
  let ii := (l.map (fun e => e.ire * e.ire + e.iim * e.iim)).sum
  if vv * ii ≤ 0 then none else some ((10000 * (re * re + im * im) / (vv * ii)).toNat)

/-- The length W of a channel's window, in samples of 3.125 µs (R307). -/
def State.eisLen (s : State) (c : ChanNo) : Nat :=
  eisW (eisQ (s.eisStagger c) (stepNper (s.chan c).cur)) (s.chan c).eis.code

/-- EIS_WINDOW_END (R270, R314 to R319): the window holds all its samples and ends at `stamp`; the point's result; an invalid point is repeated once; the sweep
moves on or the step ends by its own end, unless a slot is met in the same cycle. A zero Î leaves Z without a stated value, and a zero
denominator leaves the coherence without one: free values. -/
def execEisWindowEnd (c : ChanNo) (stamp : Nat) (s : State) : Out :=
  let c := s.leaderOf c
  let ch := s.chan c
  let e := ch.eis
  let w := ch.cur
  let g := gOf c
  let n := s.eisLen c
  let x := e.window
  if !(s.inEis c && e.phase == 3 && decide (n ≤ x.n) && decide (stamp = e.wstart + n * 3125)) then .next s
  else
    let stag := s.eisStagger c
    let nper := stepNper w
    let s := s.tickTo stamp
    let (f1, s) := s.draw
    let (f2, s) := s.draw
    let (f3, s) := s.draw
    let (zre, zim) := (zOf x).getD (sx 32 f1, sx 32 f2)
    let coh := (cohOf e.eighths).getD (f3 % 10001)
    let vamp := cAbs (2 * x.vre) (2 * x.vim) (n * 1000000000000)
    let iamp := cAbs (2 * x.ire) (2 * x.iim) (n * 1000000000000)
    let amp := stepAmp w
    let low := decide (coh < bitsOf e.cfg 16 16)
    let out := decide (iamp * 2 < amp) || decide (amp * 2 < iamp)
    let bad := e.bad
    let invalid := low || out || bad != 0
    let s := if invalid then s.setBit (eisA g 0x30) 0 else s
    if invalid && !e.rep && e.cfg.testBit 1 then
      .next ((s.setBit (eisA g 0x30) 1).onEis c (fun e => { e.cleared with rep := true, wstart := stamp }))
    else
      let pstat := b2n e.ffpath + 2 * b2n e.rep + 4 * b2n invalid + 8 * b2n low + 16 * b2n out + bad + 256 * b2n e.swap
      let s := s.chanRec 0x64 c ch.prog.pc stamp false
        [payload [fN 0 2 e.point, fN 2 2 e.code, fN 4 8 (eisToneU stag nper e.code g.val), fN 12 8 e.wstart, fI 20 4 zre, fI 24 4 zim,
          fN 28 2 coh, fN 30 4 vamp, fN 34 4 iamp, fI 38 4 (rdiv e.vsum (1000 * n)), fI 42 2 ch.meas.tcell, fN 44 2 pstat, fN 46 2 ch.meas.mstat]]
      let s := s.bumpWrap (eisA g 0x34) 0 16
      let s := if invalid then s.bump (eisA g 0x34) 16 16 else s
      let s := s.onEis c (fun e => { e with done := e.point + 1 })
      match eisCode w (e.point + 1) with
      | some code => .next (s.eisPoint c stamp (e.point + 1) code)
      | none => .next ((s.slotOrEnd c).driveCycle c true true).refreshMode

end Sys2Proof.Machine
end

