-- ==== Sys2Proof/Machine/Protect.lean ====
section
/-! DEFINITION. Protection events of a channel and a Gather: Crack-off, retries, slow overload, cell faults, temperature, bus
conditions (chapters 05 and 09). -/

namespace Sys2Proof.Machine

open Sys2Proof

/-- The Crack-off threshold is reached (R164): a shunt voltage in nV against VCK = 16 mV * (1 + 7 CKTH / 255). -/
def State.ckReached (s : State) (c : ChanNo) (vsh : Int) : Bool :=
  decide (16000000 * (255 + 7 * s.fld (chA c 0x84) 0 8) ≤ vsh.natAbs * 255)

/-- CRACK_OFF (R164 to R167, R170, R190): the comparator sees a shunt voltage, in nV. At VCK it trips: the latch holds both switches low from
here, TCOFF counts from here, and the fault stop follows in the next control cycle. A part in TWIN only counts the crossing. -/
def execCrackOff (x : Shunt) (s : State) : Out :=
  let c := x.c
  let l := (s.chan c).loop
  if !s.ckReached c x.v ∨ (s.chan c).prot.ckLatch then .next s
  else if l.st = .released then
    .next (if s.mode.mode = .twin then s.onProt c (fun p => { p with twinck := Nat.min 15 (p.twinck + 1) }) else s)
  else
    let off := !stSwitch l.st && decide (l.mid.ton = 0)
    let s := s.onProt c (fun p => { p with ckLatch := true, ckOff := off, noTripT := 0, tripT := s.ptp })
    let s := s.onChan c (fun x => { x with cntNew := { x.cntNew with ckoff := x.cntNew.ckoff + 1 } })
    .next (s.onLoop c (fun l => { l with mid := {}, next := {}, tcoff := l.con, ramp := if l.tcoff then l.ramp else 0 }))

/-- CRACK_OFF_RETRY (R168, R171): 100 ms after the trip, every member closes CON and settles; soft-start and the interrupted step
follow the settle. -/
def execCrackOffRetry (c : ChanNo) (s : State) : Out :=
  let c := s.leaderOf c
  let x := s.chan c
  if x.loop.st ≠ .faulted ∨ !x.prot.retryWait ∨ s.ptp < x.prot.tripT + 100000000 then .next s
  else
    let s := s.forChans (s.membersOf c) (fun m s => s.onProt m (fun p => { p with retryWait := false }))
    .next (s.beginSettle c .retry).1.refreshMode

/-- RETRY_COUNT_RESET (R169): 10 s without a trip while ACTIVE or RESTING. -/
def execRetryCountReset (c : ChanNo) (s : State) : Out :=
  if (s.chan c).prot.noTripT < 80000000000 then .next s
  else .next (s.onProt c (fun p => { p with retries := 0 }))

/-- SLOW_OVL (R174): the slow-overload counter has reached SLOWT. -/
def execSlowOvl (c : ChanNo) (s : State) : Out :=
  if s.slowMet c then .next (s.faultStop c [0x0A]).refreshMode else .next s

/-- REVERSE_CELL (R184, R186, R190): the cell voltage has lain below REVV for 1 ms: a fault stop with CON high, one event with CON low. -/
def execReverseCell (c : ChanNo) (s : State) : Out :=
  let x := s.chan c
  if !s.reversed c ∨ s.mode.mode = .twin then .next s
  else
    let seen (s : State) : State := s.onProt c (fun p => { p with revSeen := true })
    if x.loop.con then .next (if x.stoppable then seen (s.faultStop c [7]) else s).refreshMode
    else .next (if x.prot.revSeen then s else seen (s.faultEvent c 7)).refreshMode

/-- CONTACT_LOSS (R187, R190, R340): the Kelvin pair has been open for more than 5 ms: the fault, and a cell change. -/
def execContactLoss (c : ChanNo) (s : State) : Out :=
  let x := s.chan c
  if s.mode.mode = .twin then .next s
  else
    let s :=
      if !s.bit (chA c 0xAC) 3 then s
      else if x.loop.con ∧ x.stoppable then s.faultStop c [8]
      else if x.loop.con then s
      else s.faultEvent c 8
    .next (s.cellChange c 0).refreshMode

/-! ### Temperature (R176 to R179, R210 to R214) -/

/-- ln 2 in 10^-12. -/
def ln2 : Int := 693147180560

/-- Halve or double a fraction until it lies in [2/3, 4/3); the count of halvings (R212). -/
def lnScale : Nat → Nat → Nat → Int → Nat × Nat × Int
  | 0, n, d, k => (n, d, k)
  | f + 1, n, d, k =>
    if 4 * d ≤ 3 * n then lnScale f n (2 * d) (k + 1)
    else if 3 * n < 2 * d then lnScale f (2 * n) d (k - 1)
    else (n, d, k)

/-- ln(n / d) in 10^-12, by the series of atanh (R212). -/
def lnFrac (n d : Nat) : Int :=
  let (a, b, k) := lnScale 64 n d 0
  let u : Int := 1000000000000
  let z : Int := ((a : Int) - b) * u / ((a : Int) + b)
  let y := z * z / u
  let t (c : Int) (r : Int) : Int := u / c + y * r / u
  2 * (z * t 1 (t 3 (t 5 (t 7 (t 9 (t 11 (t 13 (t 15 0))))))) / u) + k * ln2

/-- Thermistor resistance to 0.01 °C (R212): 1 / (1 / 298.15 + ln(RT / RNOM) / BETA) − 273.15, rounded to the nearest 0.01 °C (DESIGN CHOICE, log
entry 14). -/
def thermTemp (r rnom beta : Nat) : Int :=
  let inv : Int := 3354016434681 + lnFrac r rnom * 1000 / (Nat.max 1 beta)
  rdiv 100000000000000000 inv - 27315

/-- One raw sample (R210, R211): the resistance in mΩ it gives, or none at an end code. `code` spans 0 to 2.5 V in 65,536 steps, and
the resistance is rounded down to whole mΩ (DESIGN CHOICE, log entry 14). -/
def rawRes (code : Nat) (cold : Bool) : Option Int :=
  if code = 0 ∨ 65535 ≤ code then none
  else some ((code * 2500000 * 1000 / 65536 / (if cold then 2 else 20) : Nat) : Int)

/-- The next excitation range (R211): 2.40 V lowers it, 0.20 V in the 2 µA range raises it. -/
def nextCold (code : Nat) (cold : Bool) : Bool :=
  if cold then !decide (code * 2500000 < 200000 * 65536) else decide (2400000 * 65536 < code * 2500000)

/-- The mean of the valid resistances among the last 10 raw windows, rounded down to whole mΩ (DESIGN CHOICE, log entry 14); none without one
(R210). -/
def meanRes (l : List (Option Int)) : Option Nat :=
  let v := l.filterMap (fun x => x)
  if v.isEmpty then none else some ((v.sum / v.length).toNat)

/-- One 1 ms window of a thermistor input: history, range, discards. -/
structure ThermIn where
  hist : List (Option Int)
  cold : Bool
  skip : Nat
  deriving DecidableEq, Repr

/-- The part that excites a thermistor switches its range; its partner takes the range from the mirror stream (R211, R213). -/
def ThermIn.next (t : ThermIn) (code : Nat) (own : Bool) : ThermIn :=
  let r := if t.skip = 0 then rawRes code t.cold else none
  let c := if own && t.skip == 0 then nextCold code t.cold else t.cold
  { hist := (r :: t.hist).take 10, cold := c, skip := if c ≠ t.cold then 1 else t.skip - 1 }

/-- In range for a reported temperature: −40 °C to 150 °C (R179, R214). -/
def tempOk (t : Int) : Bool := decide (-4000 ≤ t ∧ t ≤ 15000)

/-- The cell temperature of one channel after a raw window (R210, R214). -/
def State.cellTemp (s : State) (c : ChanNo) (code : Nat) : State :=
  let m := (s.chan c).meas
  let t := ({ hist := m.traw, cold := m.tcold, skip := m.tdiscard } : ThermIn).next code (s.mayDrive c)
  let model := s.reg (chA c 0xDC)
  let en := s.bit (chA c 0xC0) 8
  let (v, ok) : Int × Bool := match meanRes t.hist with
    | some r => let x := thermTemp r (bitsOf model 0 16 * 10000) (bitsOf model 16 16); (x, en && tempOk x)
    | none => (m.tcell, false)
  s.onMeas c (fun m => { m with traw := t.hist, tcold := t.cold, tdiscard := t.skip, tcell := v, tvalid := ok })

/-- The stage temperature of a Gather after a raw window (R176, R179). -/
def State.stageTemp (s : State) (g : GatherNo) (code : Nat) : State :=
  let y := s.gat g
  let t := ({ hist := y.straw, cold := y.scold, skip := y.sdiscard } : ThermIn).next code (s.mayDrive (chOf g 0))
  let model := s.reg (gA g 0x21C)
  let v : Option Int := match meanRes t.hist with
    | some r => let x := thermTemp r (bitsOf model 0 16 * 10000) (bitsOf model 16 16); if tempOk x then some x else none
    | none => none
  let counts := y.sdiscard = 0
  s.onGat g (fun y => { y with
    straw := t.hist, scold := t.cold, sdiscard := t.skip
    tstg := v.getD y.tstg
    stgValid := v.isSome
    stgSeen := y.stgSeen || v.isSome
    stgBadMs := if v.isSome then 0 else if counts then y.stgBadMs + 1 else y.stgBadMs })

/-- Warning and shutdown of one channel from TSTG (R177, R178): every channel that is driven and not latched in FAULTED (DEDUCED, log entry
15). -/
def State.thermal (s : State) (c : ChanNo) : State :=
  let t := (s.gat (gOf c)).tstg
  let warn := s.fldS (chA c 0x94) 0 16
  let hyst := s.fld (chA c 0x98) 0 12
  let s := s.onProt c (fun p => { p with twarn := if warn ≤ t then true else if t < warn - hyst then false else p.twarn })
  if s.shutMet c then s.faultStop c [4] else s

/-- TEMPERATURE_UPDATE (R210): one raw window of the eight cell inputs and of the stage input, as converter codes. Warning and
shutdown act on the last valid TSTG (R179). -/
def execTemperatureUpdate (g : GatherNo) (cells : List Nat) (stage : Nat) (s : State) : Out :=
  if s.gatOff g then .next s else
  let s := s.forChans (chansOf g) (fun c s => s.cellTemp c (cells.getD (kOf c) 0))
  let s := s.stageTemp g stage
  .next (if (s.gat g).stgSeen then s.forChans (chansOf g) (fun c s => s.thermal c) else s).refreshMode

/-- STGT_SENSOR (R179): TSTG has been invalid for 10 ms; the fault fences the Gather. -/
def execStgtSensor (g : GatherNo) (s : State) : Out :=
  if (s.gat g).stgBadMs < 10 ∨ s.fenced (uGat g) then .next s else .next (s.fault (uGat g) 1)

/-! ### Bus conditions (R347 to R351) -/

/-- The next state of a warning: beyond its threshold, or back inside by HYST. -/
def hystFlag (old beyond back : Bool) : Bool := if beyond then true else if back then false else old

/-- BUS_WINDOW (R347, R348, R350): one bus window: the ball voltage in µV and the shunt voltage in nV. -/
def execBusWindow (g : GatherNo) (v : Nat) (i : Int) (s : State) : Out :=
  if s.gatOff g then .next s else
  let vb := v * s.fld (bgA g 0) 0 16 / 1000
  let ib := tdiv (i * 1000000) (s.fld (bgA g 4) 0 24)
  let uvw := s.fld (bgA g 8) 0 16 * 1000
  let uvs := s.fld (bgA g 8) 16 16 * 1000
  let ovw := s.fld (bgA g 0xC) 0 16 * 1000
  let ovs := s.fld (bgA g 0xC) 16 16 * 1000
  let h := s.fld (bgA g 0x10) 0 10 * 1000
  let db := s.fld (bgA g 0x10) 16 8
  let bad := decide (2450000 < v) || decide (64000000 < i.natAbs)
  let t := s.period g
  .next (s.onGat g (fun y =>
    let un := if vb < uvs then Nat.min db (y.uvCnt + 1) else 0
    let on := if ovs < vb then Nat.min db (y.ovCnt + 1) else 0
    { y with
      vbus := vb, ibus := ib
      uvw := hystFlag y.uvw (decide (vb < uvw)) (decide (uvw + h ≤ vb))
      ovw := hystFlag y.ovw (decide (ovw < vb)) (decide (vb + h ≤ ovw))
      uvCnt := un, ovCnt := on
      uvs := hystFlag y.uvs (decide (db ≤ un)) (decide (uvs + h ≤ vb))
      ovs := hystFlag y.ovs (decide (db ≤ on)) (decide (vb + h ≤ ovs))
      sensok := !bad
      senBad := if bad then y.senBad + t else 0 }))

/-- BUS_STOP (R350): while a stop condition holds, every channel whose Iref has its sign takes a fault stop. -/
def execBusStop (g : GatherNo) (ovr : Bool) (s : State) : Out :=
  if s.gatOff g then .next s else
  let code := if ovr then 0x16 else 0x15
  .next (s.forChans (chansOf g) (fun c s => if (s.busCauses c).contains code then s.faultStop c [code] else s)).refreshMode

/-- BUS_SENSOR (R351): the bus sense has been out of range for 10 ms; the fault fences the Gather. -/
def execBusSensor (g : GatherNo) (s : State) : Out :=
  if (s.gat g).senBad < 80000000 ∨ s.fenced (uGat g) then .next s else .next (s.fault (uGat g) 0x08)

end Sys2Proof.Machine
end

