-- ==== Sys2Proof/Machine/Measure.lean ====
section
/-! DEFINITION. Measurement: output samples, rates, twin samples, Punty rotation, converter failures, calibration generations
(chapter 06). -/

namespace Sys2Proof.Machine

open Sys2Proof

/-! ### Output samples (R203 to R207, R244) -/

/-- The reported SoC as a 16-bit field: 0xFFFF while invalid (Table 12-20). -/
def EstSt.rep16 (e : EstSt) : Nat := match e.rep with | some r => (tdiv r 100000).toNat | none => 0xFFFF

/-- The SAMPLE payload (Table 12-20); DECIM is set at placement (DEDUCED, log entry 19). -/
def State.samplePayload (s : State) (c : ChanNo) (stamp : Nat) (v i : Int) (mstat : Nat) : List Byte :=
  let x := s.chan c
  let p := x.prog
  payload [fN 0 8 stamp, fI 8 4 v, fI 12 4 i, fI 16 2 x.meas.tcell, fN 18 2 mstat,
    fN 21 1 (stCode x.loop.st + 16 * loopCode x.loop.kind), fN 22 2 (s.pflags c), fN 24 4 (tMs p.stepT),
    fI 28 4 (qUah p.stepQ), fI 32 4 (eMj p.stepE), fN 36 2 x.est.rep16, fI 40 4 x.loop.total]

/-- The time to which a record that carries the output sample of a stamp is held for the twin: 60 µs beyond the 8 µs of R206 (R244). -/
def State.twinHold (s : State) (c : ChanNo) (stamp : Nat) : Option Nat :=
  if (s.chan c).meas.held.any (fun h => h.stamp == stamp) then some (stamp + 68000) else none

/-- Bits of the measurement status that the comparison gives (R246). -/
def MeasSt.twinBits (m : MeasSt) : Nat := 256 * b2n m.twindiff + 512 * b2n m.notwin

/-- A record that carries an output sample of a channel (R244): held while the sample is, and after that marked as the sample was. -/
def State.sampleRec (s : State) (kind : Nat) (c : ChanNo) (stamp : Nat) (pl : List Byte) : State :=
  let x := s.chan c
  let holdT := s.twinHold c stamp
  s.pushRec { kind, tenant := s.ownerOf c.val, channel := c.val, corr := x.prog.corr, stepref := s.stepRef c,
              calgen := x.meas.calgen, stale := x.est.stale, time := stamp, periodic := kind == 0x60, payloads := [pl],
              twin := holdT.isNone && x.meas.twinok && x.meas.stamp == stamp, holdT }

/-- The 32-bit signed number of a word. -/
def wordInt (w : Nat) : Int := sx 32 (w % 2 ^ 32)

/-- The value of an output window, or a free value where the whole window is left out (R238) (DESIGN CHOICE, log entry 2). -/
def State.winValue (s : State) (v : Option Int) : Int × State :=
  match v with
  | some v => (v, s)
  | none => let (w, s) := s.draw; (wordInt w, s)

/-- In configuration B the owner holds an output sample for its twin (R244). -/
def State.holdSmp (s : State) (c : ChanNo) : State :=
  if s.board.formed && s.board.owner then
    s.onMeas c (fun m => { m with held := m.held ++ [{ stamp := m.stamp, v := m.vout, i := m.iout, rng := m.irng, calgen := m.calgen, rate := s.fld (chA c 0xC0) 0 4 }] })
  else s

/-- The calibrated output sample of a window and its status; the next window begins (R203, R218, R249) (DEDUCED, log entry 19). -/
def State.takeSample (s : State) (c : ChanNo) (stamp : Nat) (raw : List RawPart) : State :=
  let (v, s1) := s.winValue (s.winV c raw)
  let (i, s1) := s1.winValue (s.winI c raw)
  let st := (s.chan c).meas.winFlags ||| s.statusNow c
  let l := (s.chan c).loop
  let s := s1.onMeas c (fun m => { m with vout := v, iout := i, stamp, mstat := st, winFlags := 0, winParts := [], winEnd := some stamp
                                          smpTcell := m.tcell, smpIref := l.iref, smpState := stCode l.st })
  let s := s.holdSmp c
  let x := s.chan c
  let s := s.onEst c (fun e => { e with stamped := true, savedOcv := if x.resume then none else e.savedOcv })
  -- the first OCV sample of a channel with state in the resume area (R342)
  match x.est.savedOcv with
  | some o => if x.resume && !x.est.stamped && decide (100000 < (v - o).natAbs) then s.cellChange c 2 else s
  | none => s

/-- What a part in TWIN does with its output sample (R97, R243, R531, R533): in sync, it is sent to the owner with its range, CALGEN and
rate, and for a channel that executes on the owner a SAMPLE record with NOTWIN is staged. -/
def State.twinSample (s : State) (c : ChanNo) (stamp : Nat) : State :=
  let b := s.board
  let x := s.chan c
  if !(b.formed && b.linkUp && b.pair.sync == 2) || s.fenced (uGat (gOf c)) then s
  else
    let smp : TwinIn := { stamp, v := x.meas.vout, i := x.meas.iout, rng := x.meas.irng, calgen := x.meas.calgen, rate := s.fld (chA c 0xC0) 0 4 }
    let s := s.sendZl (.twinSample c smp)
    if stExec x.loop.before && !s.follower c then
      let m := x.meas.mstat ||| 512
      let t := s.onLoop c (fun l => { l with st := l.before })
      let pl := t.samplePayload c stamp x.meas.vout (s.recI c) m
      s.pushRec { kind := 0x60, tenant := s.ownerOf c.val, channel := c.val, corr := x.prog.corr, stepref := s.stepRef c, calgen := x.meas.calgen,
                  stale := x.est.stale, time := stamp, periodic := true, payloads := [pl] }
    else s

/-- A window may end at a PTP time: a whole multiple of the output period, one period after the window began (R203, R204). -/
def State.windowEnds (s : State) (c : ChanNo) (stamp : Nat) : Bool :=
  let t := outPeriod (s.fld (chA c 0xC0) 0 4)
  stamp % t == 0 && (match (s.chan c).meas.winEnd with | some e => stamp == e + t | none => true)

/-- OUTPUT_SAMPLE (R203, R204, R206): an output window of a channel ended at PTP time `stamp`; `clocks` gives the modulator clocks
of its parts and `raw` their raw means of voltage and current in nV. A record follows for each executing channel that is not a follower. A stamp off the grid, or one that would leave a gap
or an overlap, ends no window. -/
def execOutputSample (c : ChanNo) (stamp : Nat) (clocks : List Nat) (raw : List (Int × Int)) (s : State) : Out :=
  if s.gatOff (gOf c) || !s.windowEnds c stamp then .next s
  else
    let s := s.takeSample c stamp (rawParts clocks raw)
    let x := s.chan c
    if s.mode.mode = .twin then .next (s.twinSample c stamp)
    else if stExec x.loop.st && !s.follower c then
      .next (s.sampleRec 0x60 c stamp (s.samplePayload c stamp x.meas.vout (s.recI c) x.meas.mstat))
    else .next s

/-- OUTRATE_CHANGE (R207): the pending rate takes effect at the first timestamp on both grids after its write. -/
def execOutrateChange (c : ChanNo) (stamp : Nat) (s : State) : Out :=
  match (s.chan c).meas.newRate with
  | some (r, due) =>
    if stamp = due then .next ((s.setFld (chA c 0xC0) 0 4 r).onMeas c (fun m => { m with newRate := none })) else .next s
  | none => .next s

/-! ### Twin sensing (R243 to R248) -/

/-- TWINSAMPLE (R243): a sample of the non-owner has arrived. -/
def execTwinsample (c : ChanNo) (stamp : Nat) (v i : Int) (rng calgen rate : Nat) (s : State) : Out :=
  .next (s.onMeas c (fun m => { m with twin := some { stamp, v, i, rng, calgen, rate } }))

/-- Mark the held records that carry a channel's output sample of a stamp, and let them go. -/
def releaseHeld (c stamp : Nat) (twin : Bool) (bits : Nat) : List RecIn → List RecIn :=
  List.map (fun r =>
    if r.channel == c && r.holdT.isSome && r.time == stamp then
      let off := if r.kind = 0x63 then 14 else 18
      { r with
        holdT := none, twin
        payloads := r.payloads.map (fun p => putAt p off (leBytes 2 (numAt p off 2 ||| bits))) }
    else r)

/-- The comparison of a held sample with the twin sample that has arrived; none where no comparable one has (R245, R246, R248). -/
def State.twinResult (s : State) (c : ChanNo) (h : HeldSmp) : Option Bool :=
  match (s.chan c).meas.twin with
  | some t =>
    if t.stamp = h.stamp ∧ t.calgen = h.calgen ∧ t.rate = h.rate ∧ s.board.linkUp then some (s.twinAgrees c h.v h.i h.rng h.rate t) else none
  | none => none

/-- The run of comparisons after one more result (R247): four disagreements in a row count, and so do 256 agreements in a row. -/
def MeasSt.twinRun (m : MeasSt) (r : Option Bool) : MeasSt :=
  match r with
  | none => { m with notwin := true, twinok := false, twindiff := false, diffRun := 0, agreeRun := 0, nocmp := Nat.min 0xFFFF (m.nocmp + 1) }
  | some true =>
    let n := Nat.min 256 (m.agreeRun + 1)
    { m with notwin := false, twinok := true, twindiff := false, diffRun := 0, agreeRun := n, diffArmed := m.diffArmed || decide (256 ≤ n) }
  | some false =>
    { m with notwin := false, twinok := false, twindiff := true, diffRun := m.diffRun + 1, agreeRun := 0, diffcnt := Nat.min 0xFFFF (m.diffcnt + 1) }

/-- TWIN_HOLD_EXPIRY (R244 to R248): the hold of the oldest held sample of a channel ends. -/
def execTwinHoldExpiry (c : ChanNo) (s : State) : Out :=
  match (s.chan c).meas.held with
  | [] => .next s
  | h :: rest =>
    let r := s.twinResult c h
    let s := s.onMeas c (fun m => { m.twinRun r with held := rest })
    let m := (s.chan c).meas
    let s := { s with recFifo := releaseHeld c.val h.stamp (r == some true) m.twinBits s.recFifo }
    .next (if r == some false && decide (4 ≤ m.diffRun) && m.diffArmed then (s.onMeas c (fun m => { m with diffArmed := false })).faultEvent c 0x0E else s)

/-! ### Punty rotation (R228 to R242) -/

/-- PUNTY_SWAP_START (R230, R231, R234): the rotation timer has run out. A shadow of step 4 that could not complete is tried again, then the
next swap of the round begins. -/
def execPuntySwapStart (g : GatherNo) (s : State) : Out :=
  let y := s.gat g
  if s.gatOff g ∨ !y.calibrated ∨ !s.bit (gA g 0x200) 0 ∨ y.refHold ∨ s.now < y.rotT + s.fld (gA g 0x200) 4 12 * 1000000000 then .next s
  else
    let s := s.onGat g (fun y => { y with rotT := s.now })
    if !y.canFree false ∧ !y.canFree true then .next (s.syncHold g)
    else
      let retry (p : Punty) : Punty := if p.stuck then { p with stuck := false, back := true, begun := s.now, since := s.now } else p
      .next ((s.onGat g (fun y => { y with waiting := true, pa := retry y.pa, pb := retry y.pb })).trySwap g)

/-- The accuracy of Table 06-4 at the present reading and range of an input, in fV (R232). -/
def State.matchAcc (s : State) (g : GatherNo) (input : Nat) : Nat :=
  let c := chanOfInput g input
  let x := s.chan c
  if input % 2 = 0 then accV x.loop.vloop (s.heldFor g) else s.accI c x.loop.iloop x.meas.irng

/-- A shadow of 256 match samples, of 62.5 µs each (R232), has run since it began or was restarted. -/
def Punty.shadowed (p : Punty) (now : Nat) : Bool := decide (p.since + 16000000 ≤ now)

/-- SHADOW_DONE (R232, R236): 256 match samples of the shadow are done; `dAbs` is |D| in nV. The Punty takes the input at the next
control-cycle boundary, or repeats the swap once. -/
def execShadowDone (g : GatherNo) (b : Bool) (dAbs : Nat) (s : State) : Out :=
  let y := s.gat g
  let p := y.punty b
  if s.gatOff g ∨ p.st ≠ .shadow ∨ !p.shadowed s.now ∨ y.planned b then .next s
  else
    let ok := decide (dAbs * 1000000 * 8 ≤ s.fld (gA g 0x200) 16 8 * s.matchAcc g p.input)
    if !ok && !p.again then .next (s.onGat g (fun y => y.onPunty b (fun p => { p with st := .selfcal, again := true, since := s.now })))
    else
      let s := s.onGat g (fun y => y.plan p.input (puntyConv b) (some (b, .standin)))
      .next (if ok then s else (s.merr g 0).fault (uGat g) 4)

/-- CONVERTER_CAL_DONE (R232 step 3, R237): the points of the released converter are taken. -/
def execConverterCalDone (g : GatherNo) (b : Bool) (pts : CalPoints) (refPpm : Nat) (s : State) : Out :=
  let p := (s.gat g).punty b
  match p.rel with
  | none => .next s
  | some conv =>
    if s.gatOff g ∨ p.st ≠ .standin ∨ p.back ∨ p.stuck ∨ s.now < p.since + calNs conv then .next s
    else if s.calOk g conv pts.d pts.noise then
      .next (s.onGat g (fun y =>
        (({ y with prev := (conv, y.drift.getD conv {}) :: y.prev.filter (fun x => x.1 != conv) }).renew conv (driftOf conv pts.d)).onPunty b (fun p =>
          { p with back := true, begun := s.now, since := s.now })))
    else
      let n := (s.gat g).spares
      let s := s.onGat g (fun y =>
        let y := (y.retire conv).onPunty b (fun p => p.enter .seated p.input s.now)
        -- a Punty seated for good that served here as a working converter
        let y := if conv = 16 ∨ conv = 17 then y.losePunty (conv == 17) s.now else y
        if p.swap then y.swapDone p.num else y)
      .next ((((s.merr g 1).fault (uGat g) 2).noSpare g n).rotate g refPpm)

/-- RETURN_SHADOW_DONE (R232 step 4): the recalibrated converter takes its input back at the next boundary; the Punty then calibrates
itself. -/
def execReturnShadowDone (g : GatherNo) (b : Bool) (s : State) : Out :=
  let p := (s.gat g).punty b
  match p.rel with
  | some k =>
    if s.gatOff g ∨ p.st ≠ .standin ∨ !p.back ∨ !p.shadowed s.now then .next s
    else .next ((s.onGat g (fun y => (y.onPunty b (fun p => { p with back := false })).plan p.input k (some (b, .selfcal)))).trySwap g)
  | none => .next s

/-- SELFCAL_DONE (R232 step 5, R236, R237, R229): a Punty ends its self-calibration with five pairs; a swap that is repeated begins again with
its shadow; `refPpm` is the error of the 2.500 V reference against 4.096 V, for the check at the end of a round. -/
def execSelfcalDone (g : GatherNo) (b : Bool) (d : List (Int × Int)) (noise : List Nat) (refPpm : Nat) (s : State) : Out :=
  let p := (s.gat g).punty b
  let conv := puntyConv b
  if s.gatOff g ∨ p.st ≠ .selfcal ∨ !(s.gat g).calibrated ∨ s.now < p.since + calNs conv then .next s
  else if !s.calOk g conv d noise then
    let n := (s.gat g).spares
    let s := s.onGat g (fun y =>
      let y := (y.retire conv).losePunty b s.now
      if p.swap then y.swapDone p.num else y)
    .next ((((s.merr g 1).fault (uGat g) 3).noSpare g n).rotate g refPpm)
  else if p.swap && p.again then
    .next (s.onGat g (fun y => (y.renew conv (driftOf conv d)).onPunty b (fun p => { p with st := .shadow, begun := s.now, since := s.now })))
  else
    let s := s.onGat g (fun y =>
      let y := (y.renew conv (driftOf conv d)).onPunty b (fun p => p.enter .free 0 s.now)
      if p.swap then y.swapDone p.num else y)
    .next (s.rotate g refPpm)

/-- SWAP_ABANDON (R234): a shadow has not completed within ROTINT. In step 1 the swap is abandoned; in step 4 the Punty stays as a stand-in,
and the shadow is tried again at the next ROTINT. -/
def execSwapAbandon (r : RefAt) (s : State) : Out :=
  let g := r.g
  let y := s.gat g
  let late (p : Punty) : Bool := decide (p.begun + s.fld (gA g 0x200) 4 12 * 1000000000 ≤ s.now)
  let gone (b : Bool) : Bool := (y.punty b).st == .shadow && late (y.punty b) && !y.planned b
  let stuck (b : Bool) : Bool := (y.punty b).st == .standin && (y.punty b).back && late (y.punty b)
  if s.gatOff g then .next s
  else
    let s := [false, true].foldl (fun s b =>
      if gone b then ((s.onGat g (fun y => (y.onPunty b (fun p => p.enter .free 0 s.now)).swapAbandoned (y.punty b).num)).merr g 3)
      else if stuck b then s.onGat g (fun y => y.onPunty b (fun p => { p with back := false, stuck := true }))
      else s) s
    .next (s.rotate g r.ppm)

/-- CONVERTER_HEALTH_FAIL (R238 to R240): the health monitor of a seated converter has declared it failed. Its samples no longer count, the
loop holds its on-time for at most two control cycles, and a replacement seats at the next boundary. -/
def execConverterHealthFail (r : RefAt) (conv : Fin 18) (s : State) : Out :=
  let g := r.g
  let y := s.gat g
  match (List.range 16).find? (fun i => y.seatSoon i == conv.val) with
  | none => .next s
  | some input =>
    if s.gatOff g ∨ y.retired.testBit conv.val then .next s
    else
      let n := y.spares
      let c := chanOfInput g input
      let s := (s.onGat g (fun y =>
        let y := y.retire conv.val
        if 16 ≤ conv.val then y.losePunty (conv.val == 17) s.now else y)).merr g 4
      let s := s.cutWin c (s.winNow c)
      let s := s.onChan c (fun x =>
        { x with
          meas := { x.meas with winFlags := x.meas.winFlags ||| 64, lostV := x.meas.lostV || input % 2 == 0, lostI := x.meas.lostI || input % 2 == 1 }
          loop := { x.loop with hold := 2 } })
      let l := s.leaderOf c
      let s := if (s.chan l).eis.phase = 3 then s.onEis l (fun e => { e with bad := e.bad ||| 128 }) else s
      .next (((s.replaceConv g input conv.val).noSpare g n).rotate g r.ppm).refreshMode

/-- One converter of a Gather at its calibration at once: its drift layer, or its failure (R242, R237). -/
def State.calAtOnce (s : State) (g : GatherNo) (d : List (List (Int × Int))) (noise : List (List Nat)) (k : Nat) : State :=
  let y := s.gat g
  if y.retired.testBit k then s
  else if s.calOk g k (d.getD k []) (noise.getD k []) then
    s.onGat g (fun y =>
      let y := y.setDrift k (driftOf k (d.getD k []))
      if 16 ≤ k ∧ (y.punty (k == 17)).st = .selfcal then y.onPunty (k == 17) (fun p => p.enter .free 0 s.now) else y)
  else
    let s := (s.onGat g (fun y =>
      let y := y.retire k
      if 16 ≤ k then y.losePunty (k == 17) s.now else y)).merr g 1
    match (List.range 16).find? (fun i => y.seatSoon i == k) with
    | some input => s.replaceConv g input k
    | none => if 16 ≤ k then s.fault (uGat g) 3 else s

/-- GATHER_CALIBRATION_DONE (R242): the 2.5 s calibration of all eighteen converters ends, the Puntys first; `d` holds five pairs for a Punty,
one or four for the others, and `noise` the noise of their points. Rotation starts to count its interval. -/
def execGatherCalibrationDone (g : GatherNo) (d : List (List (Int × Int))) (noise : List (List Nat)) (s : State) : Out :=
  let y := s.gat g
  if s.gatOff g ∨ y.calibrated ∨ s.now < y.rotT + 2500000000 then .next s
  else
    let n := y.spares
    let s := (16 :: 17 :: List.range 16).foldl (fun s k => s.calAtOnce g d noise k) s
    let s := (s.takeInputs g).onGat g (fun y => { y with calibrated := true, rotT := s.now })
    -- a Gather that recovers goes on probation (R678)
    let s := { s with col := { s.col with fences := s.col.fences.map (fun (f : Fence) => if f.unit == uGat g && f.recov then { f with probation := true } else f) } }
    .next (((s.noSpare g n).syncHold g).settle)

/-! ### Calibration generations (R223 to R227) -/

/-- The completion of a CAL_WRITE (Table 12-17). -/
def calReply (s : State) (h : CmdHead) (gen : Nat) : Reply :=
  { head := h, opcode := 0x3D, status := .ok, applied := s.ptp, results := [putAt (zeros 32) 0 (leBytes 1 gen)] }

/-- A channel has switched: the CAL_WRITEs that waited for it last complete (R225, R30). -/
def State.calAck (s : State) (c : ChanNo) : State :=
  let l := s.nvm.calBy.map (fun x => (x.1, x.2.1, x.2.2.filter (fun n => n != c.val)))
  { s with nvm := { s.nvm with calBy := l.filter (fun x => !x.2.2.isEmpty) }
           inflight := s.inflight ++ (l.filter (fun x => x.2.2.isEmpty)).map (fun x => calReply s x.1 x.2.1) }

/-- A channel switches to the generation that waits: its coefficients, CALGEN, the record to the house and the event to a client lessee
(R225, R226). -/
def State.calSwitch (s : State) (c : ChanNo) : State :=
  let m := (s.chan c).meas
  match m.calNext with
  | none => s
  | some (gen, corr, pairs) =>
    let old := m.calgen
    let entry (p : CalPair) : List Byte :=
      payload [fN 0 1 p.qty, fN 1 1 c.val, fN 2 1 old, fN 3 1 gen, fI 4 4 (m.offu.getD p.qty 0), fI 8 4 (m.gainu.getD p.qty 0),
        fI 12 4 (m.qu.getD p.qty 0), fI 16 4 p.offu, fI 20 4 p.gainu, fI 24 4 p.qu, fN 28 8 s.ptp]
    let s := s.onMeas c MeasSt.calSwitched
    let s := s.pushRec { kind := 0x65, tenant := 255, channel := c.val, corr, stepref := s.stepRef c, calgen := gen, stale := (s.chan c).est.stale, time := s.ptp,
                         payloads := pairs.map entry }
    let t := s.ownerOf c.val
    (if t = 0 then s else s.byCorr c corr (State.chanEvt · 0xA6 c [payload [fN 0 1 gen, fN 1 1 old, fN 8 8 s.ptp]])).calAck c

/-- CALGEN_SWITCH (R225, R226): at the boundary of its output window the channel switches. -/
def execCalgenSwitch (c : ChanNo) (s : State) : Out := if s.gatOff (gOf c) then .next s else .next (s.calSwitch c)

/-- CH_CALSEL_SNAP (R227): writing SNAP loads the selected layer and quantity in one control cycle. -/
def execChCalselSnap (c : ChanNo) (s : State) : Out :=
  let r := s.reg (chA c 0xE4)
  let (o, g, q) := s.coefs c (bitsOf r 0 2) (bitsOf r 2 3)
  .next (s.onMeas c (fun m => { m with snapOff := o, snapGain := g, snapQ := q, snapGen := m.calgen, snapOk := true }))

end Sys2Proof.Machine
end

