-- ==== Sys2Proof/Machine/TimeOps.lean ====
section
/-! DEFINITION. Calendar arithmetic, tariffs, demand intervals and meters (chapters 09 and 15). -/

namespace Sys2Proof.Machine

open Sys2Proof

/-! ### The calendar (R554 to R558) -/

/-- CALTIME as 8 bytes (Table 12-14). -/
def calBytes (c : CalTime) : List Byte :=
  leBytes 2 c.year ++ leBytes 1 c.month ++ leBytes 1 c.day ++ leBytes 1 c.hour ++ leBytes 1 c.minute ++ leBytes 1 c.second
    ++ leBytes 1 (c.wday % 8 + 8 * b2n c.summer)

/-- February has 29 days in years divisible by 4, except in 2100 (R554). -/
def monthDays (y m : Nat) : Nat :=
  if m = 2 then (if y % 4 = 0 ∧ y ≠ 2100 then 29 else 28)
  else if m = 4 ∨ m = 6 ∨ m = 9 ∨ m = 11 then 30 else 31

/-- The next day; the flag says that the calendar passed 2199 (R556). -/
def CalTime.nextDay (c : CalTime) : CalTime × Bool :=
  let c := { c with wday := (c.wday + 1) % 7 }
  if c.day < monthDays c.year c.month then ({ c with day := c.day + 1 }, false)
  else if c.month < 12 then ({ c with day := 1, month := c.month + 1 }, false)
  else if c.year < 2199 then ({ c with day := 1, month := 1, year := c.year + 1 }, false)
  else ({ c with day := 1, month := 1, year := 2000 }, true)

/-- The day before. -/
def CalTime.prevDay (c : CalTime) : CalTime :=
  let c := { c with wday := (c.wday + 6) % 7 }
  if 1 < c.day then { c with day := c.day - 1 }
  else if 1 < c.month then { c with month := c.month - 1, day := monthDays c.year (c.month - 1) }
  else { c with year := if c.year ≤ 2000 then 2199 else c.year - 1, month := 12, day := 31 }

/-- One second later (R554: 59 is always followed by 0). -/
def CalTime.nextSecond (c : CalTime) : CalTime × Bool :=
  if c.second < 59 then ({ c with second := c.second + 1 }, false)
  else
    let c := { c with second := 0 }
    if c.minute < 59 then ({ c with minute := c.minute + 1 }, false)
    else
      let c := { c with minute := 0 }
      if c.hour < 23 then ({ c with hour := c.hour + 1 }, false)
      else ({ c with hour := 0 } : CalTime).nextDay

/-- A summer-time step of one hour (R558). -/
def CalTime.addHour (c : CalTime) : CalTime × Bool :=
  let c := { c with summer := true }
  if c.hour < 23 then ({ c with hour := c.hour + 1 }, false) else ({ c with hour := 0 } : CalTime).nextDay

def CalTime.subHour (c : CalTime) : CalTime :=
  let c := { c with summer := false }
  if 0 < c.hour then { c with hour := c.hour - 1 } else { c.prevDay with hour := 23 }

/-- The fields of a CALTIME lie in their ranges (Table 12-14). -/
def CalTime.ok (c : CalTime) : Bool :=
  decide (2000 ≤ c.year ∧ c.year ≤ 2199 ∧ 1 ≤ c.month ∧ c.month ≤ 12 ∧ 1 ≤ c.day ∧ c.day ≤ monthDays c.year c.month
    ∧ c.hour ≤ 23 ∧ c.minute ≤ 59 ∧ c.second ≤ 59)

/-- The minute of the local day. -/
def CalTime.mins (c : CalTime) : Nat := c.hour * 60 + c.minute

/-! ### Who may act -/

/-- The part holds the Pipe, or is no member of a pair (R66). -/
def State.holdsPipe (s : State) : Bool := s.board.owner || !s.optT

/-- The modes in which the Steward serves tenants. -/
def modeWorks : Mode → Bool
  | .ready | .run | .degraded | .service => true
  | _ => false

/-! ### Meters (R360 to R372) -/

/-- One mJ in raw energy (µV * µA * 62.5 µs). -/
def rawMj : Nat := 16000000000000

/-- Saturating counters of Table 09-5 in raw units. -/
def Counters.add (a b : Counters) : Counters :=
  let top := 0xFFFFFFFFFFFFFFFF
  { imp := satAdd (top * rawMj) a.imp b.imp, exp := satAdd (top * rawMj) a.exp b.exp
    qin := satAdd (top * 57600000) a.qin b.qin, qout := satAdd (top * 57600000) a.qout b.qout
    periods := satAdd top a.periods b.periods, ckoff := satAdd top a.ckoff b.ckoff
    bands := List.zipWith (satAdd (top * 8000000000)) a.bands b.bands }

def addNth (l : List Nat) (i v : Nat) : List Nat := l.set i (l.getD i 0 + v)

/-- Credit energy in mJ to a tenant under a tariff and to the running interval (R363, R367). -/
def MeterSt.credit (m : MeterSt) (t imp exp : Nat) : MeterSt :=
  let add (x : Meter) : Meter :=
    { x with imp := addNth x.imp m.tariff imp, exp := addNth x.exp m.tariff exp, runImp := x.runImp + imp, runExp := x.runExp + exp }
  if imp = 0 ∧ exp = 0 then m
  else if m.meters.any (fun x => x.tenant == t) then { m with meters := updFirst (fun x => x.tenant == t) add m.meters, dirty := true }
  else { m with meters := m.meters ++ [add { tenant := t }], dirty := true }

def State.credit (s : State) (t imp exp : Nat) : State := if s.optM then { s with met := s.met.credit t imp exp } else s

/-- Collect one channel's counters (R362). -/
def State.collectCnt (s : State) (c : ChanNo) : State := s.onChan c (fun x => { x with cnt := x.cnt.add x.cntNew, cntNew := {} })

/-- The energy that a channel holds, in whole mJ, goes to its tenant (R363); what is below 1 mJ stays. -/
def State.collectMet (s : State) (c : ChanNo) : State :=
  let x := s.chan c
  (s.credit (s.ownerOf c.val) (x.meterImp / rawMj) (x.meterExp / rawMj)).onChan c (fun x =>
    { x with meterImp := x.meterImp % rawMj, meterExp := x.meterExp % rawMj })

/-- A Gather splits a channel's accumulators at a predicted stamp (R367). -/
def State.split (s : State) (c : ChanNo) : State :=
  let t := s.ownerOf c.val
  s.onChan c (fun x => { x with pieces := x.pieces ++ [(t, x.meterImp / rawMj, x.meterExp / rawMj)]
                                meterImp := x.meterImp % rawMj, meterExp := x.meterExp % rawMj })

/-- Collect one channel's counters and meters (R362, R363), what a split has set apart included. -/
def State.collect (s : State) (c : ChanNo) : State :=
  let ps := (s.chan c).pieces
  let s := ps.foldl (fun s p => s.credit p.1 p.2.1 p.2.2) s
  let s := if ps.isEmpty then s else s.onChan c (fun x => { x with pieces := x.pieces.map (fun p => (p.1, 0, 0)) })
  (s.collectCnt c).collectMet c

/-- The collection of every 100 ms: energy after a split waits until its boundary is handled (R367). -/
def State.collectOpen (s : State) (c : ChanNo) : State :=
  if (s.chan c).pieces.isEmpty then (s.collectCnt c).collectMet c else s.collectCnt c

/-- At a boundary, the energy of windows up to its stamp goes to the interval that ends (R367); without a split, all that is held when `whole`
is set. -/
def State.takePiece (s : State) (whole : Bool) (c : ChanNo) : State :=
  match (s.chan c).pieces with
  | p :: l => (s.credit p.1 p.2.1 p.2.2).onChan c (fun x => { x with pieces := l })
  | [] => if whole then s.collectMet c else s

/-- DEMINT of METER_CFG in min (Table 09-20). -/
def State.demint (s : State) : Nat := Nat.max 1 (s.fld 0x200800 0 6)

/-- A record that carries CHANNEL 0xFF for one tenant (Table 12-23). -/
def State.tenantRec (s : State) (kind t : Nat) (payloads : List (List Byte)) : State :=
  s.pushRec { kind, tenant := t, channel := 255, time := s.ptp, payloads }

/-- The tenants with nonzero running energy or a lease (R368). -/
def State.meteredTenants (s : State) : List Nat :=
  (s.tenants.map Tenant.num).filter (fun t =>
    s.met.meters.any (fun m => m.tenant == t && (m.runImp != 0 || m.runExp != 0)) || s.leases.any (fun l => l.2.f.tenant == t))

/-- A demand interval closes at a PTP time: its records, its demand and the peak (R366, R368). -/
def State.closeInterval (s : State) (stop : Nat) : State :=
  let m := s.met
  let len := s.demint
  let flags := b2n m.partial_ + 2 * b2n m.late + 4 * b2n m.nocal + 8 * b2n m.gap
  let s := s.meteredTenants.foldl (fun s t =>
    let x := (m.meters.find? (fun x => x.tenant == t)).getD { tenant := t }
    s.tenantRec 0x67 t [payload [fN 0 1 m.tariff, fN 1 1 flags, fN 2 2 len, (4, calBytes m.startCal), fN 12 8 m.startPtp, fN 20 8 stop,
      fN 28 8 x.runImp, fN 36 8 x.runExp, fN 44 4 (x.runImp / (len * 60))]]) s
  let close (x : Meter) : Meter :=
    let d := x.runImp / (len * 60)
    let x := { x with runImp := 0, runExp := 0 }
    if x.peak.getD m.tariff 0 < d then { x with peak := x.peak.set m.tariff d, peakT := x.peakT.set m.tariff m.startPtp } else x
  { s with met := { s.met with meters := s.met.meters.map close, gap := false, late := false, dirty := true } }

/-- A new interval opens. -/
def State.openInterval (s : State) (start : Nat) (part : Bool) : State :=
  { s with met := { s.met with startPtp := start, startCal := s.board.time.cal, partial_ := part, nocal := !s.board.time.valid } }

/-- A schedule entry (Table 09-22). -/
def State.sched (s : State) (e : Nat) : Nat := s.reg (0x200900 + 4 * e)

/-- The highest-numbered enabled entry that fires at a minute of a weekday (R364). -/
def State.fires (s : State) (wday minute : Nat) : Option Nat :=
  (List.range 32).reverse.find? (fun e =>
    let w := s.sched e
    w.testBit 22 && (bitsOf w 15 7).testBit wday && decide (bitsOf w 0 11 = minute))

/-- The latest firing within the past seven days (R364): its entry. -/
def State.lastFiring (s : State) (wday now : Nat) : Option Nat :=
  (List.range 8).findSome? (fun d =>
    let wd := (wday + 7 * 8 - d) % 7
    let cand := (List.range 32).filter (fun e =>
      let w := s.sched e
      let m := bitsOf w 0 11
      w.testBit 22 && (bitsOf w 15 7).testBit wd && (decide (d ≠ 0) || decide (m ≤ now)) && (decide (d ≠ 7) || decide (now < m)))
    cand.foldl (fun b e =>
      match b with
      | none => some e
      | some f => if bitsOf (s.sched f) 0 11 ≤ bitsOf (s.sched e) 0 11 then some e else b) none)

/-- A tariff record to each metered tenant (Table 12-23). -/
def State.tariffRec (s : State) (new old why entry stamp : Nat) : State :=
  s.meteredTenants.foldl (fun s t =>
    s.tenantRec 0x68 t [payload [fN 0 1 new, fN 1 1 old, fN 2 1 why, fN 3 1 entry, (4, calBytes s.board.time.cal), fN 12 8 stamp]]) s

/-- A tariff comes into force (R366): the running interval closes, and the rest of the aligned span opens PARTIAL. -/
def State.setTariff (s : State) (new why entry stamp : Nat) (aligned closed : Bool) : State :=
  let old := s.met.tariff
  if new = old then s
  else
    let s := s.tariffRec new old why entry stamp
    let s := if closed then s else s.closeInterval stamp
    let s := { s with met := { s.met with tariff := new } }
    s.openInterval stamp (!aligned)

/-- The tariff is found again under R364 after a BOOT, a schedule write or a load of the calendar. -/
def State.findTariff (s : State) (why stamp : Nat) (closed : Bool) : State :=
  let cal := s.board.time.cal
  if !s.optM then s
  else if !s.board.time.valid then s.setTariff 0 why 255 stamp false closed
  else
    match s.lastFiring cal.wday cal.mins with
    | some e => s.setTariff (bitsOf (s.sched e) 11 3) why e stamp false closed
    | none => s.setTariff 0 why 255 stamp false closed

/-- A billing period closes (R369): one record of eight entries for each metered tenant, then zero totals and peaks. -/
def State.closeBilling (s : State) : State :=
  let cal := s.board.time.cal
  let s := s.met.meters.foldl (fun s x =>
    s.tenantRec 0x69 x.tenant ((List.range 8).map (fun t =>
      payload [fN 0 1 t, (4, calBytes cal), fN 12 8 s.ptp, fN 20 8 (x.imp.getD t 0), fN 28 8 (x.exp.getD t 0), fN 36 4 (x.peak.getD t 0),
        fN 40 8 (x.peakT.getD t 0)]))) s
  let z := List.replicate 8 0
  { s with met := { s.met with meters := s.met.meters.map (fun x => { x with imp := z, exp := z, peak := z, peakT := z }), dirty := true } }

/-- The meters of a tenant. -/
def State.meterOf (s : State) (t : Nat) : Meter := (s.met.meters.find? (fun m => m.tenant == t)).getD { tenant := t }

/-- The schedule at a minute boundary (R364); an entry never fires a second time within a repeated hour (R365). -/
def State.fireSchedule (s : State) (stamp : Nat) (aligned : Bool) : State :=
  match s.fires s.board.time.cal.wday s.board.time.cal.mins with
  | some e => if s.board.time.repeat_ == 0 then s.setTariff (bitsOf (s.sched e) 11 3) 0 e stamp aligned aligned else s
  | none => s

/-- Local midnight of the first day of a month with AUTOCLOSE set (R369). -/
def State.autoClose (s : State) : Bool :=
  s.board.time.cal.day == 1 && s.board.time.cal.hour == 0 && s.board.time.cal.minute == 0 && s.bit 0x200800 6

/-- Schedule writes take effect at a minute boundary (R374) (DEDUCED, log entry 53). -/
def State.applySched (s : State) : State :=
  let s := s.met.sched.foldl (fun s x => s.setReg (0x200900 + 4 * x.1) x.2) s
  { s with met := { s.met with sched := [] } }

/-- A minute boundary of the calendar with its stamp (R364 to R370): the interval closes first, then the tariff changes; after a
schedule write the tariff is found again. -/
def State.minuteBoundary (s : State) (stamp : Nat) : State :=
  let wrote := !s.met.sched.isEmpty
  let s := s.applySched
  if !(s.optM && s.board.time.valid) then s
  else
    let aligned : Bool := s.board.time.cal.mins % s.demint == 0
    let s := if aligned then (s.closeInterval stamp).openInterval stamp false else s
    let s := if wrote then s.findTariff 3 stamp aligned else s.fireSchedule stamp aligned
    if s.autoClose then s.closeBilling else s

/-- The pieces that the Gathers have split off go to the interval that ends. -/
def State.takePieces (s : State) (whole : Bool) : State :=
  let s := s.forChans allChans (fun c s => s.takePiece whole c)
  { s with gathers := s.gathers.map (fun (g : Gather) => { g with pieces := g.pieces - 1 }) }

/-- The PTP time that n seconds of the calendar take: KEEP_RATE and TRIM in force make the calendar run fast or slow, in 0.001 ppm
(R560, R567) (DEDUCED, log entry 53). -/
def State.calSpan (s : State) (n : Nat) : Nat :=
  let e : Int := s.fldS 0x050014 0 32 + s.board.time.trim * 4768 / 10
  n * 1000000000000000000 / (1000000000 + e).toNat

/-- The predicted stamps of the next two boundaries after a time, `rest` seconds of its minute being left (R367, R567). -/
def State.predict (s : State) (stamp rest : Nat) : State :=
  { s with met := { s.met with stamps := if s.optM && s.board.time.valid then [stamp + s.calSpan rest, stamp + s.calSpan (rest + 60)] else [] } }

def State.onCal (s : State) (c : CalTime) : State := s.onBoard (fun b => { b with time := { b.time with cal := c } })

/-- The Steward catches up after a stall (R367): each boundary that came meanwhile, with what the Gathers split off at it. When the stall outlasted
both predicted stamps, the energy after the second goes to the interval then in force, which carries LATE (DEDUCED, log entry 67). -/
def State.catchUp (s : State) : State :=
  if s.met.missed.isEmpty then s
  else
    let now := s.board.time.cal
    let l := s.met.missed
    let s := l.foldl (fun s b => ((s.takePieces false).onCal b.2).minuteBoundary b.1) s
    let s := (s.onCal now).predict s.board.time.stamp (60 - now.second)
    { s with met := { s.met with missed := [], late := s.met.late || decide (2 ≤ l.length) } }

/-- A minute boundary that is due (R367): handled, or kept while the Steward cores are stalled. -/
def State.handleMinute (s : State) : State :=
  let t := s.board.time
  if !s.met.due then s
  else
    let s := { s with met := { s.met with due := false } }
    if s.stewardOn then (((s.catchUp.takePieces true).minuteBoundary t.stamp).predict t.stamp 60)
    else { s with met := { s.met with missed := s.met.missed ++ [(t.stamp, t.cal)] } }

/-- All that the Gathers hold is collected: at a close of the interval between two boundaries. -/
def State.collectAll (s : State) : State :=
  let s := s.forChans allChans (fun c s => (s.collect c).onChan c (fun x => { x with pieces := [] }))
  { s with gathers := s.gathers.map (fun (g : Gather) => { g with pieces := 0 }), met := { s.met with stamps := [] } }

/-- A summer-time step (R365, R366): the running interval closes; the entries of a skipped hour fire in order of MINUTE. -/
def State.summerMeters (s : State) (forward : Bool) (before : CalTime) : State :=
  if !s.optM then s
  else
    let s := (s.collectAll.closeInterval s.ptp).openInterval s.ptp true
    if forward then
      (List.range 60).foldl (fun s k =>
        let m := (before.mins + 1 + k) % 1440
        let wd := if before.mins + 1 + k < 1440 then before.wday else (before.wday + 1) % 7
        match s.fires wd m with
        | some e => s.setTariff (bitsOf (s.sched e) 11 3) 1 e s.ptp false true
        | none => s) s
    else s

end Sys2Proof.Machine
end

