-- ==== Sys2Proof/Machine/Estimate.lean ====
section
/-! DEFINITION. The cell estimator's events (R263, R329 to R342). -/

namespace Sys2Proof.Machine

open Sys2Proof

/-- OCV_RECORD (R41, R263, R337): an OCVWATCH step writes an OCV record at each multiple of its interval after step entry; the estimator fits it
while the Steward's work goes on. -/
def execOcvRecord (c : ChanNo) (s : State) : Out :=
  if s.gatOff (gOf c) then .next s else
  let x := s.chan c
  let p := x.prog
  let ms := tMs p.stepT
  let int := p.seta.toNat
  if s.mode.mode != .twin && p.inStep && !p.newStep && stepKind x.cur == 10 && decide (x.loop.st = .resting) && decide (0 < int ∧ int ≤ ms ∧ ms % int = 0) then
    let had := x.est.k
    let s := if s.stewardOn then s.onEst c (fun e => ({ e with ocvs := e.ocvs ++ [(ms, x.meas.vout)] }).fit) else s
    let e := (s.chan c).est
    let s := s.sampleRec 0x63 c x.meas.stamp
      (payload [fN 0 8 x.meas.stamp, fI 8 4 x.meas.vout, fI 12 2 x.meas.tcell, fN 14 2 x.meas.mstat, fN 16 4 ms, fI 20 4 (e.k.getD invalid32)])
    .next (match had, e.k with
      | none, some k => s.estEvt c 4 k
      | _, _ => s)
  else .next s

/-- ESTIMATOR_UPDATE (R41, R331, R336, R338, R339): the event of every 100 ms. In hibernation the estimator updates at every 10 s only, unless |I|
has risen above the threshold: then it wakes. A part in TWIN runs no estimator (R343) (DESIGN CHOICE, log entry 17). -/
def execEstimatorUpdate (c : ChanNo) (s : State) : Out :=
  if s.mode.mode = .twin ∨ !s.stewardOn then .next s
  else
    let e := (s.chan c).est
    let dt := e.hibMs + 100
    if e.hib ∧ dt < 10000 ∧ s.lowI c then .next (s.onEst c (fun e => { e with hibMs := dt }))
    else .next (s.updateEst c dt)

/-- HIBERNATION_ENTRY (R338): |I| has stayed below the threshold for 60 s. -/
def execHibernationEntry (c : ChanNo) (s : State) : Out :=
  if s.stewardOn ∧ s.mode.mode ≠ .twin ∧ 60000 ≤ (s.chan c).est.lowT then .next (s.onEst c (fun e => { e with hib := true })) else .next s

/-- OCV_CORRECTION (R335): at the update that ends a rest of OCVREST, and at every hibernation sample after it, the estimate becomes the table's
SoC, where its slope allows. A part in TWIN runs no estimator (R343) (DESIGN CHOICE, log entry 17). -/
def execOcvCorrection (c : ChanNo) (s : State) : Out :=
  let e := (s.chan c).est
  let due := decide (e.ocvrest * 1000 ≤ e.restMs) && (if e.hib then e.hibMs == 0 else decide (e.restMs < e.ocvrest * 1000 + 100))
  if s.stewardOn ∧ s.mode.mode ≠ .twin ∧ due ∧ e.cap ≠ 0 then
    match ocvSeg e.table (s.chan c).meas.vout with
    | some (q, sl) => if (e.slopemin : Int) ≤ sl then .next (s.onEst c (fun e => { e with soc := some q, corrd := true })) else .next s
    | none => .next s
  else .next s

/-- ESTIMATOR_RECORD (R329, Table 12-22). -/
def execEstimatorRecord (c : ChanNo) (s : State) : Out :=
  if s.mode.mode = .twin ∨ !s.stewardOn then .next s
  else
    let s := s.chanRec 0x66 c 65535 s.ptp false [estPayload (s.chan c).est]
    .next (s.onEst c (fun e => { e with corrd := false }))

end Sys2Proof.Machine
end

