-- ==== Sys2Proof/Machine/Meters.lean ====
section
/-! DEFINITION. Bus balance, counters and meters (chapter 09). -/

namespace Sys2Proof.Machine

open Sys2Proof

/-! ### Bus balance (R352 to R359) -/

/-- Demand of one channel or gang: its signed current in µA and its voltage in µV. -/
structure Demand where
  c    : ChanNo
  i    : Int
  p    : Nat        -- demand power in 10^-12 W
  flex : Bool
  ftol : Nat        -- per mille

def State.demandOf (s : State) (c : ChanNo) (fresh : Bool) : Demand :=
  let i := s.demandI c fresh
  let w := (s.chan c).cur
  { c, i, p := i.natAbs * (s.chan c).vMean.natAbs, flex := stepFlex w, ftol := stepFtol w }

/-- A channel or gang whose step counts in the demand. -/
def State.demands (s : State) (c : ChanNo) : Bool :=
  let x := s.chan c
  !s.follower c && x.prog.inStep && !x.prog.newStep && (x.loop.st == .active || x.loop.st == .softstart)

/-- Powers at the bus are counted in 10^-12 W / (1000 * STAGEEFF), in which R354 is whole (DESIGN CHOICE, log entry 56). -/
def busPow (eff : Nat) (d : Demand) : Int := if 0 ≤ d.i then (d.p * 1000000 : Nat) else -((d.p * eff * eff : Nat) : Int)

/-- The bus-balance limits in those units: none is no limit (DESIGN CHOICE, log entry 56). -/
def State.busLimit (s : State) (eff : Nat) (import_ : Bool) : Option Nat :=
  let l := s.reg (if import_ then 0x200004 else 0x200008)
  if l = 0 then none else some (l * 1000000000 * 1000 * eff)

/-- The release test of R355 at a net demand. -/
def State.mayRelease (s : State) (eff : Nat) (net : Int) : Bool :=
  if net = 0 then true
  else
    match s.busLimit eff (decide (0 < net)) with
    | none => true
    | some l => decide (net.natAbs * 100 ≤ s.fld 0x200000 1 7 * l)

/-- A deferral ends and the step begins as if it had just been entered (R356). -/
def State.release (s : State) (c : ChanNo) : State :=
  let x := s.chan c
  match x.prog.deferT with
  | some _ =>
    let s := s.onProg c (fun p => { p with deferMs := s.deferredMs c })
    (s.stepOn c false).driveCycle c true true
  | none => s

/-- The deferred channels, oldest deferral first. -/
def State.deferredChans (s : State) : List ChanNo :=
  let l := allChans.filter (fun c => (s.chan c).prog.deferT.isSome && !s.follower c)
  let key (c : ChanNo) : Nat := (s.chan c).prog.deferT.getD 0
  l.foldl (fun acc c => (acc.filter (fun d => decide (key d ≤ key c))) ++ [c] ++ acc.filter (fun d => decide (key c < key d))) []

/-- Releases of one cycle (R355) (DESIGN CHOICE, log entry 56). -/
def State.releases (s : State) (eff : Nat) : List ChanNo → Int → State
  | [], _ => s
  | c :: l, net =>
    let net' := net + busPow eff (s.demandOf c true)
    if s.mayRelease eff net' then State.releases (s.release c) eff l net' else State.releases s eff l net

/-- Caps, factors and flags of one cycle from the demands (R355) (DESIGN CHOICE, log entry 56). -/
def State.balance (s : State) (eff : Nat) (ds : List Demand) : State :=
  let pw := ds.map (busPow eff)
  let net := pw.sum
  let side (d : Demand) : Bool := (0 < net && 0 < d.i) || (net < 0 && d.i < 0)
  let lim := s.busLimit eff (decide (0 < net))
  let e : Nat := match lim with | some l => net.natAbs - l | none => 0
  let mine := ds.filter side
  let bp (d : Demand) : Nat := (busPow eff d).natAbs
  -- flexible trim: k = kn / kd
  let f : Nat := ((mine.filter Demand.flex).map (fun d => d.ftol * bp d)).sum     -- per mille
  let (kn, kd) : Nat × Nat := if e = 0 ∨ f = 0 then (0, 1) else if f ≤ 1000 * e then (1, 1) else (1000 * e, f)
  -- powers after trim, times 1000 * kd
  let after (d : Demand) : Nat := if d.flex then bp d * (1000 * kd - kn * d.ftol) else bp d * 1000 * kd
  let sAll := (mine.map after).sum
  let eLeft : Nat := e * 1000 * kd - kn * f                                   -- E − k F, times 1000 * kd
  let (mn, md) : Nat × Nat := if e = 0 ∨ eLeft = 0 ∨ sAll = 0 then (1, 1) else (sAll - eLeft, sAll)
  let m16 := mn * 65536 / md
  let netAfter : Nat := net.natAbs - (e - 0)
  let s := s.forChans allChans (fun c s => s.onChan c (fun x => { x with cap := none, flextrim := false, proptrim := false }))
  let s := if e = 0 then s else
    mine.foldl (fun s d =>
      let num := d.i.natAbs * (if d.flex then 1000 * kd - kn * d.ftol else 1000 * kd) * mn
      s.onChan d.c (fun x => { x with cap := some (num / (1000 * kd * md)), flextrim := d.flex && decide (0 < kn), proptrim := decide (mn < md) })) s
  let hold := match lim with | some l => decide (s.fld 0x200000 1 7 * l ≤ netAfter * 100) | none => false
  let netMw : Int := tdiv (sgn net * netAfter) (1000000000 * 1000 * eff)
  { s with bal := { s.bal with
      holdChg := hold && decide (0 < net), holdDis := hold && decide (net < 0)
      stage := if mn < md then 3 else if 0 < kn then 2 else if s.deferredChans.isEmpty then 0 else 1
      net := netMw, mchg := if 0 < net then m16 else 65536, mdis := if net < 0 then m16 else 65536 } }

/-- BUS_BALANCE_CYCLE (R39, R352, R355): a 1 ms boundary of the PTP grid; a cycle that is `late`, one that cannot finish before the next
boundary, is skipped and raises BAL_OVERRUN. -/
def execBusBalanceCycle (late : Bool) (s : State) : Out :=
  if !(s.holdsPipe && modeWorks s.mode.mode && s.stewardOn) then .next s
  else if late then .next (({ s with bal := { s.bal with overruns := satAdd 0xFFFF s.bal.overruns 1 } }).fault 0x0C 0x01)
  else if !s.bit 0x200000 0 then
    let s := s.deferredChans.foldl (fun s c => s.release c) s
    let s := s.forChans allChans (fun c s => s.onChan c (fun x => { x with cap := none, flextrim := false, proptrim := false }))
    .next ({ s with bal := { s.bal with holdChg := false, holdDis := false, stage := 0, mchg := 65536, mdis := 65536 } }).refreshMode
  else
    let eff := Nat.max 500 (s.fld 0x200000 16 10)
    let live (s : State) : List Demand := (allChans.filter s.demands).map (fun c => s.demandOf c false)
    let s := s.releases eff s.deferredChans (((live s).map (busPow eff)).sum)
    .next (s.balance eff (live s)).refreshMode

/-- DEFMAX_EXPIRY (R356): a deferred step begins after DEFMAX; 0 is no limit. -/
def execDefmaxExpiry (c : ChanNo) (s : State) : Out :=
  let d := s.fld 0x20000C 0 16
  match (s.chan c).prog.deferT with
  | some t => if d ≠ 0 ∧ t + d * 1000000000 ≤ s.now ∧ !s.gatOff (gOf c) then .next (s.release c).refreshMode else .next s
  | none => .next s

/-! ### Counters and meters -/

/-- COUNTER_COLLECT (R41, R362, R363, R367): the Steward collects counters and meters of every channel; after a stall it first catches up with the
boundaries that came meanwhile. -/
def execCounterCollect (s : State) : Out :=
  .next (if s.stewardOn then s.catchUp.forChans allChans (fun c s => s.collectOpen c) else s)

/-- A copy of the counters and meters finds its place (R362, R684, R687): region 4, or while it is read only label segment 0 of a mounted
ledger, blocks 4 to 19 and 20 to 35 in turn. -/
def State.placeCounters (s : State) : State × Bool :=
  if s.worn 4 then
    let mounted := s.board.led.st == .mounted || s.board.led.st == .degraded || s.board.led.st == .full
    let n := s.board.led.cntSeq + 1
    (if mounted then s.onBoard (fun b => { b with led := { b.led with cntSeq := n, cntBlock := if n % 2 = 1 then 4 else 20 } }) else s, mounted)
  else s.nvmWrite 4

/-- The counters and meters as they stand find their place in NVM (R362). -/
def State.commitCounters (s : State) : State :=
  let r := s.placeCounters
  if r.2 then
    let s := r.1.forChans allChans (fun c s => s.onChan c (fun x => { x with cntNvm := x.cnt }))
    { s with met := { s.met with nvm := s.met.meters, dirty := false } }
  else r.1

/-- The write interval of counters and meters in ns: COMMIT, or 300 s on a part without M (R362). -/
def State.commitInt (s : State) : Nat := (if s.optM then s.fld 0x200800 8 12 else 300) * 1000000000

/-- METER_NVM_COMMIT (R362): every COMMIT seconds, counters and meters are written to NVM. While region 4 is read only they go to label segment 0 of a
mounted ledger instead, and without one they live in Steward memory alone (R687). -/
def execMeterNvmCommit (s : State) : Out :=
  .next (if s.stewardOn ∧ s.met.commitT + s.commitInt ≤ s.now then
      let s := s.commitCounters
      { s with met := { s.met with commitT := s.now } }
    else s)

/-- METER_STAMP_SPLIT (R367): a Gather splits its accumulators at a predicted stamp, whether or not the Steward cores run; what it held belongs to
the interval before. -/
def execMeterStampSplit (g : GatherNo) (s : State) : Out :=
  match s.met.stamps[(s.gat g).pieces]? with
  | some t =>
    if t ≤ s.ptp ∧ !s.gatOff g then
      .next (s.forChans (chansOf g) (fun c s => s.split c) |>.onGat g (fun y => { y with pieces := y.pieces + 1 }))
    else .next s
  | none => .next s

/-- MINUTE_BOUNDARY (R364 to R369): a calendar minute has begun, with the stamp of its second tick; one that comes while the Steward cores are
stalled waits (R41, R367). -/
def execMinuteBoundary (s : State) : Out := .next s.handleMinute

end Sys2Proof.Machine
end

