-- ==== Sys2Proof/Machine/Time.lean ====
section
/-! DEFINITION. Calendar, alarms, KEEP loads and freezes, PTP time and its states, MAINS, PPS (chapter 15). -/

namespace Sys2Proof.Machine

open Sys2Proof

def State.onTime (s : State) (f : TimeSt → TimeSt) : State := s.onBoard (fun b => { b with time := f b.time })

/-- A TIME event (Table 12-24): codes 0 and 1 reach every tenant, the others the house alone (R477) (DEDUCED, log entry 54). -/
def State.timeEvt (s : State) (code : Nat) : State :=
  let pl := [payload [fN 0 1 code, fN 8 8 s.ptp, (16, calBytes s.board.time.cal)]]
  if !modeUp s.mode.mode then s
  else
    let s := s.houseEvt 0xAC pl
    if code ≤ 1 then
      (s.tenants.filter (fun t => t.num != 0)).foldl (fun s t => s.pushEvt { kind := 0xAC, tenant := t.num, dest := t.num, time := s.ptp, payloads := pl }) s
    else s

/-- The calendar becomes invalid (R556, R368). -/
def State.calInvalid (s : State) : State :=
  if s.board.time.valid then
    let s := s.onTime (fun t => { t with valid := false })
    if s.optM then (s.collectAll.setTariff 0 4 255 s.ptp false false).closeInterval s.ptp |>.openInterval s.ptp true else s
  else s

/-! ### Alarms (R563, R565) -/

/-- Does alarm a match a calendar time? (DEDUCED, log entry 29) -/
def State.alarmHits (s : State) (a : Nat) (c : CalTime) : Bool :=
  let t := s.reg (0x050020 + 8 * a)
  let d := s.reg (0x050024 + 8 * a)
  let m (any : Bool) (want have_ : Nat) : Bool := any || want == have_
  t.testBit 31 && m (t.testBit 6) (bitsOf t 0 6) c.second && m (t.testBit 14) (bitsOf t 8 6) c.minute && m (t.testBit 21) (bitsOf t 16 5) c.hour
    && m (d.testBit 5) (bitsOf d 0 5) c.day && m (d.testBit 12) (bitsOf d 8 4) c.month && m (d.testBit 24) (bitsOf d 16 8) (c.year - 2000)

/-- An alarm without an ANY field clears its EN when it fires (R565). -/
def State.alarmAny (s : State) (a : Nat) : Bool :=
  let t := s.reg (0x050020 + 8 * a)
  let d := s.reg (0x050024 + 8 * a)
  t.testBit 6 || t.testBit 14 || t.testBit 21 || d.testBit 5 || d.testBit 12 || d.testBit 24

/-- A wake source latches its bit in KEEP_WAKESRC (R563); in KEEP it is a wake. -/
def State.latchWake (s : State) (bit : Nat) : State :=
  let s := s.setBit 0x050038 bit
  if s.mode.mode = .keep then s.onTime (fun t => { t with wake := true }) else s

/-- Alarm a fires (R565): a wake event in KEEP, a TIME event from WAKE on. -/
def State.fireAlarm (s : State) (a : Nat) : State :=
  let cal := s.board.time.cal
  let s := if s.alarmAny a then s else s.setFld (0x050020 + 8 * a) 31 1 0
  let s := if s.board.time.repeat_ = 0 then
      s.onTime (fun t => if a = 0 then { t with fired0 := some cal } else { t with fired1 := some cal })
    else s
  if s.mode.mode = .keep then s.latchWake a else s.timeEvt 5

/-- Alarm a at a second tick; it never fires a second time within a repeated hour (R558). -/
def State.alarmTick (s : State) (a : Nat) : State :=
  let t := s.board.time
  let done := t.repeat_ != 0 && (if a = 0 then t.fired0 else t.fired1).isSome
  if t.valid && s.alarmHits a t.cal && !done then s.fireAlarm a else s

/-- A time on one scale, to order two calendar times. -/
def CalTime.key (c : CalTime) : Nat := ((((c.year * 13 + c.month) * 32 + c.day) * 24 + c.hour) * 60 + c.minute) * 60 + c.second

/-- Does alarm a match within the next n seconds? (DEDUCED, log entry 29) -/
def State.alarmSoon (s : State) (a : Nat) : Nat → CalTime → Bool
  | 0, _ => false
  | n + 1, c => s.alarmHits a c || s.alarmSoon a n c.nextSecond.1

/-- The calendar passed 2199 (R556). -/
def State.rollover (s : State) : State :=
  let s := (s.setBit 0x050018 2).calInvalid
  if modeUp s.mode.mode then s.fault 0x01 0x02 else s.onTime (fun t => { t with rolled := true })

/-- The summer-time step that waited for this tick (R558). -/
def State.summerStep (s : State) : State :=
  match s.board.time.sumReq with
  | some (fwd, h) =>
    let old := s.board.time.cal
    let (new, ro) := if fwd then old.addHour else (old.subHour, false)
    let skip0 := fwd && s.board.time.valid && s.alarmSoon 0 3600 old
    let skip1 := fwd && s.board.time.valid && s.alarmSoon 1 3600 old
    let inHour (f : Option CalTime) : Option CalTime :=
      match f with
      | some c => if new.key ≤ c.key ∧ c.key < old.key then f else none
      | none => none
    let s := s.onTime (fun t => { t with cal := new, sumReq := none, repeat_ := if fwd then 0 else 3600,
                                         fired0 := if fwd then t.fired0 else inHour t.fired0, fired1 := if fwd then t.fired1 else inHour t.fired1 })
    let s := if ro then s.rollover else s
    let s := if skip0 then s.fireAlarm 0 else s
    let s := if skip1 then s.fireAlarm 1 else s
    let n := s.evtFifo.length
    let s := (s.summerMeters fwd old).timeEvt 3
    let s := s.corrFrom n h.corr
    { s with inflight := s.inflight ++ [{ head := h, opcode := 0x36, status := .ok, applied := s.ptp }] }
  | none => s

/-- The calendar stands still (R562): in OFF and SHIP, and in KEEP with a failed crystal. -/
def State.calStopped (s : State) : Bool :=
  (s.board.time.xtalBad && s.mode.mode == .keep) || s.mode.mode == .off || s.mode.mode == .ship

/-- SECOND_TICK (R567, R554 to R558, R562, R565): the calendar advances, stamped with PTP time; a waiting summer-time step applies; alarms. In
KEEP a failed crystal stops the calendar; elsewhere the tick itself shows that edges arrive (DEDUCED, log entry 53). A load in the same KEEP
tick wins (R557). -/
def execSecondTick (stamp : Nat) (s : State) : Out :=
  let loaded : Bool := match s.board.time.loadT with | some t => decide (s.now * 32768 / 1000000000 = t * 32768 / 1000000000) | none => false
  if s.calStopped ∨ loaded then .next s
  else
    let (cal, ro) := s.board.time.cal.nextSecond
    let s := s.onTime (fun t => { t with cal, xtalOk := true, xtalBad := false, tickT := s.now, stamp, repeat_ := t.repeat_ - 1 })
    let s := if ro then s.rollover else s
    let s := s.summerStep
    let s := { s with met := { s.met with due := cal.second == 0 } }
    let s := if s.stewardOn && s.met.stamps.isEmpty then s.predict stamp (60 - cal.second) else s
    .next ((s.alarmTick 0).alarmTick 1)

/-- PERIODIC_WAKE_EXPIRY (R566): PERIOD ticks of 1/64 s have passed; a wake event only in KEEP. -/
def execPeriodicWakeExpiry (s : State) : Out :=
  let per := s.fld 0x050030 0 23 * 15625000
  if s.bit 0x050030 31 ∧ s.board.time.pwakeT + per ≤ s.now ∧ !s.calStopped then
    let s := s.onTime (fun t => { t with pwakeT := t.pwakeT + per })
    .next (if s.mode.mode = .keep then s.latchWake 2 else s)
  else .next s

/-- TRIM_WINDOW (R560): a new TRIM takes effect at the window boundary. -/
def execTrimWindow (s : State) : Out := .next (s.onTime (fun t => { t with trim := s.fldS 0x050010 0 10 }))

/-- A change of TRIM sends a TIME event with code 4 (R561). -/
def State.setTrim (s : State) (v : Int) : State :=
  if s.fldS 0x050010 0 10 = v then s else (s.setFld 0x050010 0 10 (tc 10 v)).timeEvt 4

/-- AUTOTRIM (R561): after each hour in which the state stayed LOCKED, KEEP_RATE holds the crystal's error in 0.001 ppm; with AUTOTRIM set TRIM follows. -/
def execAutotrim (rate : Int) (s : State) : Out :=
  if s.board.time.ptp = .locked ∧ s.board.time.lockT + 3600000000000 ≤ s.now then
    let s := (s.setReg 0x050014 (w32 rate)).onTime (fun t => { t with lockT := s.now })
    .next (if s.bit 0x050010 16 then s.setTrim (clampI (-511) 511 (rdiv (-rate * 10) 4768)) else s)
  else .next s

/-- XTAL_FAIL (R562): no crystal edge for 1 ms; while the warden runs, the fault is raised and VALID cleared. -/
def execXtalFail (s : State) : Out :=
  let s := s.onTime (fun t => { t with xtalOk := false, xtalBad := true, rcond := false })
  let s := s.setFld 0x050018 0 1 0
  if modeUp s.mode.mode then .next (s.calInvalid.fault 0x01 0x01)
  else if s.mode.mode = .wake then .next s.calInvalid
  else .next s

/-- A load of date and time (R557): it restarts the sub-second divider and sets VALID; the running interval closes PARTIAL and the
tariff is found again (Table 12-15). -/
def State.loadTime (s : State) (c : CalTime) : State :=
  let old := s.board.time.cal
  let meters := s.optM && modeUp s.mode.mode
  let s := if meters then s.collectAll.closeInterval s.ptp else s
  let s := s.onTime (fun t => { t with cal := { c with wday := old.wday, summer := old.summer }, valid := true, tickT := s.now, loadT := some s.now, repeat_ := 0 })
  let s := if meters then (s.openInterval s.ptp true).findTariff 4 s.ptp true else s
  s.timeEvt 2

/-- A load of the weekday counter (R555, R557). -/
def State.loadWday (s : State) (w : Nat) : State :=
  let s := s.onTime (fun t => { t with cal := { t.cal with wday := w % 7 } })
  if s.optM && modeUp s.mode.mode then s.collectAll.findTariff 4 s.ptp false else s

/-- The write shadow of KEEP_TIME, KEEP_DAY and KEEP_YEAR (R557). -/
def State.calShadow (s : State) : CalTime :=
  { second := s.fld 0x050000 0 6, minute := s.fld 0x050000 8 6, hour := s.fld 0x050000 16 5,
    day := s.fld 0x050004 0 5, month := s.fld 0x050004 8 4, wday := s.fld 0x050004 16 3, year := 2000 + s.fld 0x050008 0 8 }

/-- KEEP_LOAD_TIME (R557): a keyed write of LDTIME; a day past its month's length is out of range (R580). -/
def execKeepLoadTime (s : State) : Out :=
  if s.calShadow.ok then .next (s.loadTime s.calShadow) else .next (s.setBit 0x050018 3)

/-- KEEP_LOAD_WDAY (R557). -/
def execKeepLoadWday (s : State) : Out := .next (s.loadWday s.calShadow.wday)

/-- CALENDAR_READ_FREEZE (R559): the first read freezes the read shadows of the three registers. -/
def execCalendarReadFreeze (s : State) : Out :=
  .next (s.onTime (fun t => if t.frozen.isSome then t else { t with frozen := some (t.cal, t.valid), frozenT := s.now }))

/-- KEEP_YEAR_READ (R559): a read of KEEP_YEAR ends the freeze. -/
def execKeepYearRead (s : State) : Out := .next (s.onTime (fun t => { t with frozen := none }))

/-- FREEZE_TIMEOUT (R559): the freeze ends 1 s after it began. -/
def execFreezeTimeout (s : State) : Out :=
  if s.board.time.frozenT + 1000000000 ≤ s.now then .next (s.onTime (fun t => { t with frozen := none })) else .next s

/-! ### PTP time (R568 to R577) -/

/-- A port runs PTP: it is enabled and its link is up. -/
def State.ptpPort (s : State) (port : Nat) : Bool :=
  modeUp s.mode.mode && decide (port < 2) && s.bit 0x320040 (8 + port) && s.links.testBit port

/-- After a step of PTP time the running output window ends at a point of the new grid, and an OUTRATE that waits has a new common point
(R204, R207) (DESIGN CHOICE, log entry 5). -/
def State.regrid (c : ChanNo) (s : State) : State :=
  let old := s.fld (chA c 0xC0) 0 4
  s.onMeas c (fun m => { m with winEnd := none, newRate := m.newRate.map (fun r => (r.1, s.rateTime old r.1)) })

/-- A step of PTP time by `d` ns (R572): reported, counted, and a PTP_STEP fault (DESIGN CHOICE, log entry 5). -/
def State.ptpStep (s : State) (d : Int) : State :=
  let s := { s with ptp := ((s.ptp : Int) + d).toNat }
  let s := s.forChans allChans State.regrid
  let s := s.onTime (fun t => { t with stepPend := none, tunsync := true, pairLive := false })
  let s := s.setReg 0x320068 (w32 (tdiv d 1000))
  (s.bump 0x32006C 0 16).fault 0x09 0x06

/-- A frequency correction, within SLEWMAX (R572). -/
def State.ptpFreq (s : State) (f : Int) : State :=
  let m : Int := s.fld 0x320044 16 8 * 1000
  let f := clampI (-m) m f
  (s.onTime (fun t => { t with freq := f })).setReg 0x320050 (w32 f)

/-- The registers whose writes wait for the next Sync take effect (R580). -/
def State.netTake (s : State) : State :=
  let s := s.board.time.netNext.foldl (fun s x => s.setReg x.1 x.2) s
  s.onTime (fun t => { t with netNext := [] })

/-- The offset from the master (R569): the raw receive stamp of a Sync less INGLAT, the master's time and the path delay of the port
(DEDUCED, log entry 54). -/
def State.syncOffset (s : State) (port t1 t2 : Nat) : Int :=
  (t2 : Int) - s.fld (0x320054 + 4 * port) 0 16 - t1 - (if port = 0 then s.board.time.delay0 else s.board.time.delay1)

/-- PTP_SYNC (R569, R571, R572): `t` gives the master's time and the raw receive stamp, `freq` the servo's correction in 0.001 ppm
(DEDUCED, log entry 54). -/
def execPtpSync (port : Nat) (t : Nat × Nat) (freq : Int) (s : State) : Out :=
  let s := if modeUp s.mode.mode && s.links.testBit port then s.netTake else s
  let offset := s.syncOffset port t.1 t.2
  let t := s.board.time
  if !(s.ptpPort port && t.slave == port && (t.ptp == .locking || t.ptp == .locked)) then .next s
  else
    let s := s.setReg 0x32004C (w32 offset)
    let a := offset.natAbs
    let inN := if a ≤ 50 then t.inN + 1 else 0
    let outN := if 500 < a then t.outN + 1 else 0
    let s := s.onTime (fun t => { t with inN, outN })
    if t.ptp = .locked then
      let s := s.ptpFreq freq
      if 4 ≤ outN then .next (s.onTime (fun t => { t with ptp := .locking, inN := 0, outN := 0 })) else .next s
    else if s.fld 0x320040 16 16 * 1000 < a then
      if offset < 0 then .next (s.ptpStep (-offset))
      else if s.execMask = 0 then .next (s.ptpStep (-offset))
      else
        let m : Int := s.fld 0x320044 16 8 * 1000
        .next ((s.ptpFreq (-m)).onTime (fun t => { t with stepPend := some offset }))
    else
      let s := (s.ptpFreq freq).onTime (fun t => { t with stepPend := none })
      if 16 ≤ inN then .next ((s.onTime (fun t => { t with ptp := .locked, lockT := s.now, inN := 0, outN := 0 })).timeEvt 0) else .next s

/-- The slave port after the dataset comparison across both ports (Table 15-2): `rank` orders the masters, the better one lower
(DEDUCED, log entry 54). -/
def TimeSt.choose (t : TimeSt) : Nat :=
  match t.rank0, t.rank1 with
  | some a, some b => if a ≤ b then 0 else 1
  | some _, none => 0
  | none, some _ => 1
  | none, none => 3

/-- PTP_ANNOUNCE (R568, R571): a master heard on a port; from any state without one, LOCKING starts. -/
def execPtpAnnounce (port rank : Nat) (s : State) : Out :=
  if !s.ptpPort port then .next s
  else .next (s.onTime (fun t =>
    let t := if port = 0 then { t with rank0 := some rank } else { t with rank1 := some rank }
    let t := { t with slave := t.choose }
    if t.ptp = .locking ∨ t.ptp = .locked then t else { t with ptp := .locking, inN := 0, outN := 0 }))

/-- The path delay of a port (R568, R569): half of the two differences between a receive and a transmit stamp, the raw receive stamp less
INGLAT and the raw transmit stamp plus EGRLAT (PRESUMED, log entry 54: the delay mechanisms of IEEE 1588). -/
def State.pathDelay (s : State) (port : Nat) (there back : Int) : Nat :=
  let a := 0x320054 + 4 * port
  (((back - s.fld a 0 16) + (there - s.fld a 16 16)) / 2).toNat

/-- PTP_DELAY_RESP (R568): a path-delay measurement of a port completes: `d` gives the peer's receive stamp less the part's raw transmit stamp,
and the part's raw receive stamp less the peer's transmit stamp. -/
def execPtpDelayResp (port : Nat) (d : Int × Int) (s : State) : Out :=
  if s.ptpPort port then
    let d := s.pathDelay port d.1 d.2
    .next (s.onTime (fun t => if port = 0 then { t with delay0 := d } else { t with delay1 := d }))
  else .next s

/-- PTP_PDELAY_REQ (R568): answered with a two-step Pdelay_Resp and Pdelay_Resp_Follow_Up. -/
def execPtpPdelayReq (port : Nat) (s : State) : Out :=
  if s.ptpPort port ∧ s.bit 0x320040 7 then .next { s with sent := .ptp port 3 :: .ptp port 2 :: s.sent } else .next s

/-- PTP_DELAY_REQ_SEND (R568): a Delay_Req on the slave port, or a Pdelay_Req on a peer-to-peer port. -/
def execPtpDelayReqSend (port : Nat) (s : State) : Out :=
  if !s.ptpPort port then .next s
  else if s.bit 0x320040 7 then .next { s with sent := .ptp port 1 :: s.sent }
  else if s.board.time.slave = port then .next { s with sent := .ptp port 0 :: s.sent }
  else .next s

/-- ANNOUNCE_TIMEOUT (R571): on every port; HOLDOVER, the event and PTP_LOST (DEDUCED, log entry 54). -/
def execAnnounceTimeout (s : State) : Out :=
  let t := s.board.time
  if !(modeUp s.mode.mode && (t.ptp == .locking || t.ptp == .locked)) then .next s
  else
    let s := s.onTime (fun t => { t with ptp := .holdover, slave := 3, rank0 := none, rank1 := none, holdT := s.now, inN := 0, outN := 0 })
    .next (((s.bump 0x32006C 16 16).timeEvt 1).fault 0x09 0x05)

/-- HOLDMAX_EXPIRY (R571): MAINS where it is enabled and MAINS_REF is valid, FREERUN otherwise. -/
def execHoldmaxExpiry (mainsOk : Bool) (s : State) : Out :=
  let t := s.board.time
  if t.ptp = .holdover ∧ t.holdT + s.fld 0x320044 0 16 * 1000000000 ≤ s.now then
    if s.bit 0x320040 11 && mainsOk then .next ((s.onTime (fun t => { t with ptp := .mains, mainsT := s.now })).timeEvt 6)
    else .next (s.onTime (fun t => { t with ptp := .freerun }))
  else .next s

/-- BACKWARD_STEP (R572): applied once no channel executes. -/
def execBackwardStep (s : State) : Out :=
  match s.board.time.stepPend with
  | some d => if s.execMask = 0 ∧ s.board.time.ptp = .locking then .next (s.ptpStep (-d)) else .next s
  | none => .next s

/-- The next stored pair (R575): its ratio is that of the counts and the time since the pair before it, where both belong to one run of PTP
time. -/
def State.nextPair (s : State) : ElapsedPair :=
  match s.board.time.pair with
  | some p =>
    let n := (s.elapsed + 2 ^ 48 - p.count) % 2 ^ 48
    if s.board.time.pairLive then { count := s.elapsed, ptp := s.ptp, dc := n, dp := s.ptp - p.ptp } else { p with count := s.elapsed, ptp := s.ptp }
  | none => { count := s.elapsed, ptp := s.ptp }

/-- A second of the elapsed counter has gone since the last stored pair. -/
def State.pairDue (s : State) : Bool :=
  match s.board.time.pair with | some p => decide (32768 ≤ (s.elapsed + 2 ^ 48 - p.count) % 2 ^ 48) | none => true

/-- ELAPSED_PAIR_STORE (R575): once per second, while PTP time is valid. -/
def execElapsedPairStore (s : State) : Out :=
  if s.board.ptpValid && modeUp s.mode.mode && s.pairDue then
    .next (s.onTime (fun t => { t with pair := some s.nextPair, pairLive := true, rcond := !t.xtalBad }))
  else .next s

/-- MAINS_WINDOW_END (R576): after MAINSWIN, 600 s, the frequency is corrected so that the count matches the nominal one. -/
def execMainsWindowEnd (count : Nat) (s : State) : Out :=
  let t := s.board.time
  if t.ptp = .mains ∧ t.mainsT + 600000000000 ≤ s.now then
    let nom : Int := if s.bit 0x320040 12 then 36000 else 30000
    let s := s.onTime (fun t => { t with mainsT := s.now })
    .next (s.ptpFreq (t.freq + rdiv (((count : Int) - nom) * 1000000000) nom))
  else .next s

/-- MAINS_REF_INVALID (R576): the state becomes FREERUN, and MAINS_LOST is raised. -/
def execMainsRefInvalid (s : State) : Out :=
  if s.board.time.ptp = .mains then .next ((s.onTime (fun t => { t with ptp := .freerun })).fault 0x09 0x07) else .next s

/-- PPS_OUT (R577): it rises once at each whole second of PTP time while OUTEN is set and PTP time is valid. -/
def execPpsOut (s : State) : Out :=
  let sec := s.ptp / 1000000000 * 1000000000
  if modeUp s.mode.mode && s.bit 0x32005C 0 && s.board.ptpValid && s.board.time.ppsHigh != some sec then
    .next (s.onTime (fun t => { t with ppsHigh := some sec }))
  else .next s

/-- PPS_IN (R577): a rising edge is stamped with PTP time while INEN is set. -/
def execPpsIn (s : State) : Out :=
  if modeUp s.mode.mode && s.bit 0x32005C 1 then .next ((s.setReg 0x320060 s.ptp).setReg 0x320064 (s.ptp / 4294967296)) else .next s

end Sys2Proof.Machine
end

