-- ==== Sys2Proof/Machine/ResetOps.lean ====
section
/-! DEFINITION. What resets keep and clear, the entry to BOOT, LEHR, LOCKOUT and KEEP, the snapshot (chapters 03, 16 and 18). -/

namespace Sys2Proof.Machine

open Sys2Proof

/-! ### Leases in the registers (R153, R298, R444) -/

/-- The lowest gang slot of a Gather that is not enabled (DEDUCED, log entry 34). -/
def State.freeSlot (s : State) (g : GatherNo) : Option Nat := (List.range 4).find? (fun i => !s.bit (gA g (0x40 + 4 * i)) 15)

/-- The members of a lease. -/
def leaseChans (l : Nat) (f : LeaseFields) : List ChanNo := allChans.filter (fun c => leaseHolds l f c.val)

/-- The HL registers of every member and, for a gang, its slot and shares. -/
def State.leaseRegs (s : State) (l : Nat) (f : LeaseFields) : State :=
  let s := s.forChans (leaseChans l f) (fun c s =>
    ((((s.setReg (pgA c 0x10) f.ichg).setReg (pgA c 0x14) f.idis).setReg (pgA c 0x18) (w32 f.vmax)).setReg (pgA c 0x1C) (w32 f.vmin)).setReg
      (pgA c 0x20) f.emax)
  match gather? (l / 8), leaseChans l f with
  | some g, _ :: _ :: _ =>
    match s.freeSlot g with
    | some i =>
      let s := s.setReg (gA g (0x40 + 4 * i)) (f.members + 256 * (l % 8) + 4096 * f.track + 32768)
      s.forChans (leaseChans l f) (fun c s => s.setFld (chA c 0x0C) 0 16 (f.shares.getD (kOf c) 0))
    | none => s
  | _, _ => s

/-! ### What resets keep (Tables 10-10, 13-8, 15-4, 18-7, 18-12) -/

/-- Registers in KEEP memory or in internal NVM. -/
def regKept (a : Nat) : Bool :=
  (decide (0x050000 ≤ a ∧ a < 0x050100))
    || (decide (0x060000 ≤ a ∧ a < 0x060100) && a != 0x0600A4 && !(decide (a < 0x060080) && decide (12 ≤ a % 0x20)))
    || (decide (0x070000 ≤ a ∧ a < 0x070020))
    || (decide (0x080000 ≤ a ∧ a < 0x080400) && decide (a % 0x100 = 0)) || (decide (0x080400 ≤ a ∧ a < 0x080500))
    || a == 0x200004 || a == 0x200008 || (decide (0x200900 ≤ a ∧ a < 0x200980)) || a == 0x310000 || a == 0x330000
    || (decide (0x090040 ≤ a ∧ a < 0x090080))

/-- KNOWN and IDERR of TRAY_FIXn are lost at a warm reset (R635). -/
def keptWord (x : Nat × Word32) : Nat × Word32 :=
  if decide (0x080400 ≤ x.1 ∧ x.1 < 0x080500) then (x.1, x.2 &&& 0x00FFFFFF#32) else x

def keptRegs (l : List (Nat × Word32)) : List (Nat × Word32) :=
  ((l.filter (fun x => regKept x.1)).map keptWord).filter (fun x => x.2 ≠ BitVec.ofNat 32 (regReset x.1))

/-- What NVM holds of the estimator: parameters, table, learned values and, for a channel in the resume area, its state (R334, R342). -/
def EstSt.kept (e : EstSt) (resume : Bool) : EstSt :=
  { cnom := e.cnom, table := e.table, slopemin := e.slopemin, ocvrest := e.ocvrest, rate := e.rate, kskip := e.kskip, kmin := e.kmin,
    estrec := e.estrec, cmeas := e.cmeas, k := e.k, isd := e.isd, dcir := e.dcir, stale := e.stale, fixId := e.fixId, savedOcv := e.savedOcv,
    soc := if resume then e.soc else none, rep := if resume then e.rep else none, full := if resume then e.full else none,
    emptyMk := resume && e.emptyMk, netQ := if resume then e.netQ else 0, netE := if resume then e.netE else 0 }

/-- A channel through a reset that holds its Gather; `cold` falls back on what NVM holds of the counters (R362). -/
def Chan.kept (x : Chan) (cold : Bool) : Chan :=
  { prog := if x.resume then { x.prog with shadow := [], shLen := 0, commit := none, commitBy := none, deferT := none, newStep := false, sync := false } else {}
    meas := { calgen := x.meas.calSwitched.calgen, offu := x.meas.calSwitched.offu, gainu := x.meas.calSwitched.gainu, qu := x.meas.calSwitched.qu }
    est := x.est.kept (x.resume && cold), cnt := if cold then x.cntNvm else x.cnt.add x.cntNew, cntNvm := if cold then x.cntNvm else x.cnt.add x.cntNew
    eusedE := x.eusedE, resume := x.resume }

/-- A Gather through a reset: its retirement map, the Punty seats made for good and the fused layers (R241). -/
def Gather.kept (g : Gather) : Gather :=
  let p (x : Punty) : Punty := if x.st = .seated ∨ x.st = .retired then { st := x.st, input := x.input } else {}
  { pa := p g.pa, pb := p g.pb, factory := g.factory, retired := g.retired
    seats := (List.range 16).map (fun i =>
      if g.pa.st = .seated ∧ g.pa.input = i then 16 else if g.pb.st = .seated ∧ g.pb.input = i then 17 else i) }

/-- A Gather at a HOUSE_CLEAR: held for its calibration, with no swap under way (R242). -/
def Gather.idled (g : Gather) : Gather :=
  { g with inReset := true, calibrated := false, pa := g.kept.pa, pb := g.kept.pb, seats := g.kept.seats, due := [], prev := [], waiting := false }

/-- A tenant through a reset that holds the Steward island (R447, R462). -/
def Tenant.kept (t : Tenant) : Tenant :=
  { num := t.num, suspended := t.suspended, key0 := t.key0, key1 := t.key1, enrolled := t.enrolled, dataKey := t.dataKey, qSess := t.qSess,
    qQueues := t.qQueues, qRingKib := t.qRingKib, qRecRate := t.qRecRate, qEvRate := t.qEvRate,
    bucket0 := { level := bucketCap 0 t.qEvRate }, bucket1 := { level := bucketCap 1 t.qEvRate }, bucket2 := { level := bucketCap 2 t.qEvRate } }

/-- The ledger through a reset: what the drives and NVM hold; staging is lost, and a batch whose Write had no Flush may be on the drives or
not (Table 13-8, R508). -/
def Ledger.kept (l : Ledger) : Ledger :=
  { labelSns := l.labelSns, nseg := l.nseg, initPtp := l.initPtp, kd255 := l.kd255, retain := l.retain, bootNvm := l.bootNvm, cntSeq := l.cntSeq, cntBlock := l.cntBlock
    shut := l.shut, shutBoot := l.shutBoot, shutT := l.shutT, segs := l.segs, stored := l.stored, flight := l.flight ++ l.sealed_.filter Batch.written, io := l.io
    streams := l.streams.map (fun x => { num := x.num, keygen := x.keygen, bseq := x.durable, durable := x.durable, needKey := x.needKey, seg := x.seg,
                                         chain := ((l.stored.reverse.find? (fun b => b.stream == x.num)).map Batch.chain).getD (List.replicate 32 0)
                                         lastSeal := x.lastSeal, lastAddr := x.lastAddr, tailLast := x.tailLast }) }

/-- The pair island through a reset: NVM and KEEP memory (Table 14-17, R528). -/
def Pair.kept (p : Pair) : Pair :=
  { epoch := p.epoch, rcKnown := p.rcKnown, rcPrimary := p.rcPrimary, rcMisses := p.rcMisses, rcSearch := p.rcSearch, rcAbsent := p.rcAbsent,
    rcCalls := p.rcCalls, rcPulse := p.rcPulse, rcSkips := p.rcSkips, lehrOwner := p.lehrOwner }

/-- The timebases through a reset: KEEP runs on; PTP time is seeded again at BOOT (Table 15-4). -/
def TimeSt.kept (t : TimeSt) : TimeSt :=
  { cal := t.cal, valid := t.valid, rcond := t.rcond, tickT := t.tickT, fired0 := t.fired0, fired1 := t.fired1, repeat_ := t.repeat_, trim := t.trim,
    pwakeT := t.pwakeT, xtalOk := t.xtalOk, xtalBad := t.xtalBad, pair := t.pair, loadT := t.loadT, rolled := t.rolled, vkeepLost := t.vkeepLost, pwron := t.pwron, pwroffT := t.pwroffT,
    wake := t.wake, wakecause := t.wakecause }

/-- AUX, sequencer, path and pack after a cold reset: outputs released, the pack and the snapshot kept (R602). -/
def PowerSt.kept (p : PowerSt) : PowerSt :=
  { path := p.path, present := p.present, input := p.input, rd := p.rd, aux := Vector.replicate 4 {}, slot := p.slot, ran := [], onMask := 0,
    inputT := p.inputT, packT := p.packT, ntcBad := p.ntcBad, snap := p.snap, snaps := p.snaps, ship := p.ship, longT := p.longT, pack := p.pack, next := p.next }

/-- The root port is enabled (R478): option L, strap bit 3, EN. -/
def State.ledgerOn (s : State) : Bool := s.optL && s.strap.testBit 3 && s.bit 0x310000 0

/-- The ledger island starts (R478, R517): the root port leaves reset and discovers its drives, or PERST_N is held low. -/
def State.startLedger (s : State) : State :=
  s.onBoard (fun b => { b with led :=
    if s.ledgerOn then { b.led with st := .discovering, perst := false, sealint := s.fld 0x310000 8 8, lowpct := s.fld 0x310000 16 6, drives := b.led.drives.map (fun d => { errs := d.errs }) }
    else { b.led with st := .off, perst := true, running := false, drives := b.led.drives.map (fun d => { errs := d.errs }) } })

/-- Every island but KEEP is held and cleared (R638); `cold` releases the warden's power hardware too (DEDUCED, log entry 55). -/
def State.cleared (s : State) (cold : Bool) : State :=
  let b := s.board
  { now := s.now, ptp := s.ptp, draws := s.draws, opt := s.opt, serial := s.serial, strapRaw := s.strapRaw, mode := s.mode
    regs := keptRegs s.regs, gathers := s.gathers.map Gather.kept, chans := s.chans.map (fun x => x.kept cold)
    tenants := s.tenants.map Tenant.kept, links := s.links
    col := { recovs := s.col.recovs, kept := s.col.kept }
    rst := { kind := s.rst.kind, source := s.rst.source, warms := s.rst.warms, fcode := if cold then 0 else s.rst.fcode,
             latched := if cold then false else s.rst.latched, wdnT := s.rst.wdnT }
    nvm := { s.nvm with busy := false, calBy := [], copies := s.nvm.copies.filter s.nvm.committed }, flash := s.flash, leases := s.leases.map (fun l => (l.1, { l.2 with route := none }))
    met := { meters := if cold then s.met.nvm else s.met.meters, nvm := if cold then s.met.nvm else s.met.meters, tariff := s.met.tariff,
             startCal := s.met.startCal, startPtp := s.met.startPtp, partial_ := s.met.partial_, nocal := s.met.nocal, snapshot := s.met.snapshot, snapT := s.met.snapT, lost := s.met.lost || (cold && s.met.dirty), commitT := s.met.commitT }
    sessidle := s.sessidle, stormquiet := s.stormquiet, calgenCtr := s.calgenCtr
    board := { pipeIn := b.pipeIn, fenceIn := b.fenceIn, pair := b.pair.kept, time := b.time.kept, led := b.led.kept
               pwr := if cold then b.pwr.kept else b.pwr }
    pending := s.pending }

/-! ### Tray ports through a reset (R635) -/

/-- Fabric address of a port register (chapter 17, "Registers"). -/
def trA (p : Fin 4) (off : Nat) : Nat := 0x080000 + 0x100 * p.val + off

def State.port (s : State) (p : Fin 4) : TrayPort := s.board.tray[p]

def State.onPort (s : State) (p : Fin 4) (f : TrayPort → TrayPort) : State :=
  s.onBoard (fun b => { b with tray := b.tray.set p (f b.tray[p]) })

def allPorts : List (Fin 4) := [0, 1, 2, 3]

/-- TRAY_CFG as written takes effect (R637). -/
def State.takeCfg (s : State) (p : Fin 4) : State :=
  match (s.port p).cfg with
  | some v => (s.setReg (trA p 0) v).onPort p (fun t => { t with cfg := none })
  | none => s

/-- A transfer through TRAY_XCTL waits or runs. -/
def State.xferring (s : State) (p : Fin 4) : Bool := s.fld (trA p 8) 0 2 = 1 || s.fld (trA p 8) 0 2 = 2

/-- Done, with result ABORTED, and no other field (Table 17-5). -/
def State.xferAborted (s : State) (l : List (Fin 4)) : State := l.foldl (fun s p => s.setReg (trA p 8) (3 + 16 * 7)) s

/-- The ports of the tray bus through a warm reset: what was written to TRAY_CFG counts from here, a transfer through TRAY_XCTL ends
ABORTED, and the bus is free after 50 µs of idle. -/
def State.clearedWarm (s : State) : State :=
  let l := allPorts.filter s.xferring
  (((allPorts.foldl State.takeCfg s).cleared false).xferAborted l).onBoard
    (fun b => { b with tray := b.tray.map (fun t => { t with freeT := s.now + 50000 }) })

/-! ### Snapshot (R594, Table 16-2) -/

def pathCode : PathSt → Nat
  | .input => 0 | .holdup => 1 | .returning => 2 | .test => 3 | .parked => 4 | .open_ => 5

def chgCode : ChgSt → Nat
  | .off => 0 | .qual => 1 | .pre => 2 | .fast => 3 | .full => 4 | .suspend => 5 | .safe => 6 | .fault => 7 | .test => 8

def State.onPwr (s : State) (f : PowerSt → PowerSt) : State := s.onBoard (fun b => { b with pwr := f b.pwr })

/-- The snapshot's 256 bytes. -/
def State.snapBytes (s : State) (cause : Nat) : List Byte :=
  let p := s.board.pwr
  let r := p.rd
  let body := leBytes 4 0x50535653 ++ leBytes 1 cause ++ leBytes 1 (modeCode s.mode.mode)
    ++ leBytes 1 (if p.phase = 0 then 0xFF else p.slot) ++ leBytes 1 (pathCode p.path + 16 * chgCode p.chg) ++ leBytes 8 s.stampNow
    ++ calBytes s.board.time.cal ++ leBytes 4 r.vin ++ leBytes 4 r.packv
    ++ ((List.range 4).map (fun k => leBytes 4 (r.vout.getD k 0) ++ leBytes 4 (r.iout.getD k 0))).flatten
    ++ (r.mon.map (leBytes 4)).flatten ++ (r.tdrv.map (leBytesI 2)).flatten ++ leBytesI 2 (r.tpack.getD 0)
    ++ leBytes 2 (s.col.kept.getD 0 0) ++ leBytes 4 (p.snaps + 1)
  let body := body ++ zeros (252 - body.length)
  body ++ leBytes 4 (crc32c body).toNat

def State.snapshot (s : State) (cause : Nat) : State :=
  let b := s.snapBytes cause
  s.onPwr (fun p => { p with snap := b, snaps := p.snaps + 1 })

/-- A fault that arises while the Steward island is down or in LEHR is raised at the next BOOT (R616, R82) (DEDUCED, log entry 46). -/
def State.keepFault (s : State) (code : Nat) : State := { s with col := { s.col with kept := s.col.kept ++ [code] } }

/-! ### Deferred self-tests (R94) -/

def State.selftestEvt (s : State) (g : GatherNo) (h : CmdHead) (kind : Nat) (st : Nat) (pass fail : Nat) : State :=
  s.pushEvt { kind := 0xA9, tenant := 255, dest := 0, corr := h.corr, time := s.ptp,
              payloads := [payload [fN 0 1 g.val, fN 1 1 kind, fN 2 1 st, fN 3 1 pass, fN 4 1 fail, fN 8 8 s.ptp]] }

/-- A claimed command ends ABORTED (R468). -/
def State.abort (s : State) (h : CmdHead) (opcode : Nat) : State :=
  { s with inflight := s.inflight ++ [{ head := h, opcode, status := .aborted }] }

/-- COMMITs whose swap the Gather has not acknowledged end ABORTED and change nothing (R301). -/
def State.abortCommits (s : State) (cs : List ChanNo) : State :=
  s.forChans cs (fun c s =>
    match (s.chan c).prog.commitBy with
    | some h => (s.onProg c (fun p => { p with commit := none, commitBy := none })).abort h 0x14
    | none => s)

/-- A self-test that runs in a Gather ends ABORTED, in its completion or, for a deferred one, in its event (R92, R468) (DEDUCED, log entry 47). -/
def State.abortSlot (s : State) (g : GatherNo) : State :=
  let y := s.gat g
  match y.slot, y.slotBy with
  | some k, some h => if y.slotDef then s.selftestEvt g h k 0x50 0 0 else s.abort h 0x3C
  | _, _ => s

/-- Deferred tests still pending when the part leaves READY, RUN, DEGRADED or SERVICE are cancelled: status ABORTED, code 0x50 of Table 12-2 (R94). -/
def State.cancelDeferred (s : State) : State :=
  allGathers.foldl (fun s g =>
    let l := (s.gat g).deferred
    let s := l.foldl (fun s x => s.selftestEvt g x.1 x.2 0x50 0 0) s
    s.onGat g (fun y => { y with deferred := [] })) s

/-! ### Entries to modes -/

/-- The channels that lead or stand alone. -/
def State.leaders (s : State) : List ChanNo := allChans.filter (fun c => !s.follower c)

/-- A part that never takes the Pipe from here leaves any contention, deadlock and arbitration (R84). -/
def Pair.noTake (p : Pair) : Pair := { p with contend := false, won := false, deadlock := false, rounds := 0, arb := .none, roll := true }

/-- LEHR (R84, R99, R104): every executing channel and gang ramps to rest; the part notes whether it holds the Pipe. -/
def State.enterLehr (s : State) (cause : Nat) : State :=
  let s := s.cancelDeferred
  let s := s.leaders.foldl (fun s c => s.rampStop c .lehr none) s
  let s := s.onBoard (fun b => { b with
    pwr := { b.pwr with lehrRest := false, ship := cause == 0x13 }
    pair := { b.pair.noTake with lehrOwner := b.owner || (!s.optT) || b.pair.contend && b.pair.wasOwner } })
  (s.enterMode .lehr cause 0).syncViews

/-- LOCKOUT (R83, R84): every channel stops within one control cycle; an owner lowers PIPE_OUT. -/
def State.enterLockout (s : State) (cause code : Nat) : State :=
  let s := s.cancelDeferred
  let s := s.forChans allChans (fun c s => s.hardStop c)
  let s := s.onBoard (fun b => { b with pipeOut := false, owner := b.owner && !s.optT, pair := b.pair.noTake })
  (s.enterMode .lockout cause code).syncDrive

/-- The sequencer's assertion of a target (R589). -/
def State.driveTarget (s : State) (slot : Nat) (on : Bool) : State :=
  let t := s.fld (0x0600C0 + 4 * slot) 0 4
  let s := s.onPwr (fun p => { p with onMask := setBits p.onMask t 1 (b2n on) })
  if h : 8 ≤ t ∧ t < 12 then
    s.onPwr (fun p => { p with aux := p.aux.set (t - 8) (if on then { on := true, onT := s.now, fb0 := p.rd.fb.getD (t - 8) 0 } else {}) (by omega) })
  else s

/-- MON m is good (R589). -/
def State.monGood (s : State) (m : Nat) : Bool :=
  let v := s.board.pwr.rd.mon.getD m 0
  let w := s.reg (0x060080 + 4 * m)
  decide (bitsOf w 0 11 ≤ v ∧ v ≤ bitsOf w 16 11)

/-- The condition of a slot holds (R589, Table 16-18): none, MON m good, or AUX k PGOOD. -/
def State.slotHolds (s : State) (k : Nat) : Bool :=
  let m := s.fld (0x0600C0 + 4 * k) 7 2
  match s.fld (0x0600C0 + 4 * k) 5 2 with
  | 1 => s.monGood m
  | 2 => (s.board.pwr.aux.toList.getD m {}).pgood
  | _ => true

/-- Every monitored rail is in range (R590): the condition of every enabled slot holds (DEDUCED, log entry 55). -/
def State.railsOk (s : State) : Bool :=
  (List.range 16).all (fun k => !s.bit (0x0600C0 + 4 * k) 4 || s.slotHolds k)

/-- The condition of the slot in progress is watched from now on (R590). -/
def State.watchSlot (s : State) : State :=
  let p := s.board.pwr
  if p.phase ≠ 1 then s
  else s.onPwr (fun p => { p with condT := if s.slotHolds p.slot then some (p.condT.getD s.now) else none })

/-- The target of a slot is asserted (R590). -/
def State.runSlot (s : State) (k : Nat) : State :=
  (s.driveTarget k true).onPwr (fun p => { p with slot := k, ran := k :: p.ran, slotT := s.now, condT := none }) |>.watchSlot

/-- Wake causes by KEEP_WAKESRC (R563): the highest present. -/
def State.wakeCause (s : State) : Nat :=
  if s.bit 0x050038 6 then 1 else if s.bit 0x050038 4 then 2 else 3

/-- The next enabled slot at or above an index. -/
def State.nextSlot (s : State) (i : Nat) : Option Nat :=
  (List.range 16).find? (fun k => decide (i ≤ k) && s.bit (0x0600C0 + 4 * k) 4)

/-- WAKE begins (R563, R564, R590) once a wake is latched, PWROFF has passed and the input is present (R601) (DEDUCED, log entry 53). -/
def State.tryWake (s : State) : State :=
  let t := s.board.time
  let p := s.board.pwr
  if s.mode.mode = .keep && t.wake && t.pwroffT.isNone && p.input && p.phase != 2 && p.path != .open_ then
    let cause := s.wakeCause
    let s := s.onTime (fun t => { t with wake := false, pwron := true, wakecause := cause })
    let s := (p.next.foldl (fun (s : State) x => s.setReg x.1 x.2) s).onPwr (fun p => { p with next := [] })
    let s := { s with mode := { s.mode with mode := .wake, prev := s.mode.mode, wakecause := cause, history := .wake :: s.mode.history },
                      rst := { s.rst with wdnT := s.now } }
    match s.nextSlot 0 with
    | some k => (s.onPwr (fun p => { p with phase := 1, ran := [] })).runSlot k
    | none => s.onPwr (fun p => { p with phase := 1, slot := 0, ran := [] })
  else s

/-- PWRON_N is released on entry to KEEP, and PWROFF begins (R564). -/
def State.releasePwron (s : State) : State := s.onTime (fun t => { t with pwron := false, pwroffT := some s.now })

/-- The part enters KEEP or SHIP, a cold reset (Table 18-1). With `down` the power-down of R592 runs first; otherwise every output is
released at once (R593). -/
def State.toKeep (s : State) (m : Mode) (cause src : Nat) (down : Bool) : State :=
  let s := s.forChans allChans (fun c s => s.releaseChan c)
  let md : ModeSt := { s.mode with mode := m, prev := s.mode.mode, cause := cause, history := m :: s.mode.history }
  let ran := s.board.pwr.ran
  let s := s.cleared true
  let s := { s with mode := md, rst := { s.rst with kind := 1, source := src, warms := 0 }, strapValid := false }
  let s := if s.bit 0x070010 26 && s.board.pwr.input && m == .keep then (s.setBit 0x050038 5).onTime (fun t => { t with wake := true }) else s
  let s := s.onPwr (fun p => { p with chg := .off, lehrRest := false })
  if down && !ran.isEmpty then s.onPwr (fun p => { p with phase := 2, ran, condT := none })
  else
    let s := (s.onPwr (fun p => { p with phase := 0, ship := false, path := if m = .ship then .open_ else p.path })).releasePwron
    s.tryWake

/-- PTP time at the start of BOOT (R575): seeded from the stored pair, or counted from 0 (DEDUCED, log entry 54). -/
def State.seedPtp (s : State) : State :=
  match s.board.time.pair with
  | some p =>
    let n := (s.elapsed + 2 ^ 48 - p.count) % 2 ^ 48
    if s.board.time.rcond then { s.onTime (fun t => { t with ptp := .seeded }) with ptp := p.ptp + n * p.dp / Nat.max 1 p.dc }
    else { s.onTime (fun t => { t with ptp := .unset }) with ptp := 0 }
  | none => { s.onTime (fun t => { t with ptp := .unset }) with ptp := 0 }

/-- Faults kept for the next BOOT are raised (R82, R616, Table 15-5). -/
def State.raiseKept (s : State) : State :=
  let l := s.col.kept
  let s := { s with col := { s.col with kept := [] } }
  let s := l.foldl (fun s c => s.pushFault { uu := c / 256, cc := c % 256, reportOnly := true }) s
  let s := if s.board.time.rolled then (s.onTime (fun t => { t with rolled := false })).fault 0x01 0x02 else s
  let s := if s.board.time.vkeepLost then (s.onTime (fun t => { t with vkeepLost := false })).fault 0x01 0x03 else s
  if s.met.lost then ({ s with met := { s.met with lost := false, gap := true } }).fault 0x0C 0x02 else s

/-- The roll-call state is loaded into PAIR_KEEP (R549, Table 14-17); a part with ABSENT set tells the house. -/
def State.rollLoad (s : State) : State :=
  if !s.optT then s
  else
    let p := s.board.pair
    let w := b2n p.rcKnown + 2 * b2n p.rcPrimary + 4 * p.rcMisses + 16 * b2n p.rcSearch + 32 * b2n p.rcAbsent + 65536 * p.rcCalls
    let s := (s.setReg 0x330024 w).onBoard (fun b => { b with pair := { b.pair with rcCalls := 0 } })
    if p.rcAbsent then s.houseEvt 0xAB [payload [fN 0 1 3, fN 4 4 p.epoch, fN 8 8 s.ptp]] else s

/-- BOOT begins (R645, R522, R581): `strap` is RAW where a reset is released and CFG_STRAP read (R75); INC is drawn, PTP is seeded, leases come
back from NVM, WDGs run. -/
def State.enterBoot (s : State) (strap : Option Nat) (cause : Nat) : State :=
  let (inc, s) := s.draw
  let s := { s with strapRaw := strap.getD s.strapRaw }
  let s := s.seedPtp
  let s := { s with strapValid := true, fw := none, wdg := Vector.replicate 5 { base := s.now } }
  let s := s.onBoard (fun b => { b with pair := { b.pair with inc := inc % 2 ^ 32 } })
  let s := s.leases.foldl (fun s l => s.leaseRegs l.1 l.2.f) s
  let s := s.startLedger.rollLoad.enterMode .boot cause 0
  s.raiseKept

end Sys2Proof.Machine
end

