-- ==== Sys2Proof/Machine/PowerOps.lean ====
section
/-! DEFINITION. The power path, the charger and the loss of power as shared operations (chapter 16). -/

namespace Sys2Proof.Machine

open Sys2Proof

/-! ### Register fields of HLD and PWR -/

def State.ncell (s : State) : Nat := s.fld 0x070000 0 4
def State.packCap (s : State) : Nat := s.fld 0x070000 8 15
def State.vinloss (s : State) : Nat := s.fld 0x070010 0 16
def State.holdmin (s : State) : Nat := s.fld 0x070014 0 11
def State.packmin (s : State) : Nat := s.fld 0x070014 16 11
def State.chgen (s : State) : Bool := s.bit 0x07001C 0

/-- Modes in which the warden runs (Table 03-3). -/
def modeWarden : Mode → Bool
  | .off | .ship | .keep => false
  | _ => true

/-- VIN_SNS at or above VINLOSS + INHYST: the input is present (R596). -/
def State.vinThere (s : State) (vin : Nat) : Bool := decide (s.vinloss + s.fld 0x070010 16 10 ≤ vin)

/-! ### AUX references (R583, R584, R587) -/

/-- The target of a controller's FB in µV. -/
def State.auxTarget (s : State) (k : Nat) : Nat := (600 * (1000 + s.fldS (0x060008 + 0x20 * k) 0 8)).toNat

/-- The soft-start ramp: from the voltage found on FB to the target over SSTIME. -/
def State.auxRamp (s : State) (k : Fin 4) : Nat :=
  let a := s.board.pwr.aux[k]
  let t := s.auxTarget k.val
  let d := Nat.max 1 (s.fld (0x060000 + 0x20 * k.val) 16 8 * 100000)
  let g := Nat.min d (s.now - a.onT)
  if a.fb0 ≤ t then a.fb0 + (t - a.fb0) * g / d else t

/-- The reference of a controller: its own ramp, or under TRACK the leader's FB, scaled to its own divider, up to its target, or the fraction of
the target that the leader's FB has reached. -/
def State.auxRef (s : State) (k : Fin 4) : Nat :=
  let r := s.board.pwr.rd
  let t := s.auxTarget k.val
  let j := s.fld (0x060000 + 0x20 * k.val) 11 2
  if !s.board.pwr.aux[k].on then 0
  else
    match s.fld (0x060000 + 0x20 * k.val) 9 2 with
    | 1 => Nat.min t (if r.vout.getD k.val 0 = 0 then r.fb.getD j 0 else r.vout.getD j 0 * r.fb.getD k.val 0 / r.vout.getD k.val 0)
    | 2 => t * r.fb.getD j 0 / Nat.max 1 (s.auxTarget j)
    | _ => s.auxRamp k

/-- The switching frequency of a controller in 10 kHz: half of FREQ during a temperature warning. -/
def State.auxFreq (s : State) (k : Fin 4) : Nat :=
  s.fld (0x060000 + 0x20 * k.val) 0 8 / (if s.board.pwr.aux[k].twarn then 2 else 1)

/-! ### HOLDOK and charger states (R597, R604) -/

/-- The pack is able (R597). -/
def State.ableNow (s : State) : Bool :=
  let p := s.board.pwr
  let tOk := match p.rd.tpack with | some t => decide (-2000 ≤ t ∧ t ≤ 6000) | none => false
  p.present && decide (s.ncell * s.holdmin ≤ p.rd.packv) && tOk && p.chg != .fault

/-- HOLDOK follows R597; each change sends POWER event 8. -/
def State.syncHoldok (s : State) : State :=
  let v := s.ableNow
  if s.board.pwr.holdok = v then s
  else
    let s := s.onPwr (fun p => { p with holdok := v })
    if modeUp s.mode.mode then s.powerEvt 8 (b2n v) else s

/-- The charger's state changes: POWER event 5, and event 6 at the end of FAST or PRE (Table 16-6). -/
def State.chgTo (s : State) (c : ChgSt) (cause : Nat) : State :=
  let old := s.board.pwr.chg
  if old = c then s
  else
    let ended := (old == .fast || old == .pre) && !(old == .pre && c == .fast)
    let s := s.onPwr (fun p => { p with chg := c, chgT := s.now, endcause := if ended then cause else p.endcause, searchT := none,
                                        means := if c = .fast then [] else p.means, vMax := if c = .fast then 0 else p.vMax })
    let s := if modeUp s.mode.mode then s.powerEvt 5 (chgCode c) else s
    let s := if ended && modeUp s.mode.mode then s.powerEvt 6 cause else s
    s.syncHoldok

/-- The search limit changes (POWER event 11). -/
def State.setSearch (s : State) (ma : Nat) : State :=
  if s.board.pwr.search = ma then s
  else
    let s := s.onPwr (fun p => { p with search := ma })
    if modeUp s.mode.mode then s.powerEvt 11 ma else s

/-- The charge current of the present state in mA (R604, R608). -/
def State.chgCurrent (s : State) : Nat :=
  let p := s.board.pwr
  let cap := s.packCap
  let f (pct : Nat) : Nat := cap * (if p.fallback then Nat.min 5 pct else pct) / 100
  match p.chg with
  | .pre => Nat.min p.search (f (s.fld 0x070004 8 7))
  | .fast => Nat.min p.search (f (s.fld 0x070004 0 7))
  | .safe => cap * 5 / 100
  | _ => 0

/-- The charger may leave OFF (R602, R604). -/
def State.chgStart (s : State) : State :=
  let p := s.board.pwr
  if modeWarden s.mode.mode && p.chg == .off && s.chgen && p.present && p.path == .input then s.chgTo .qual 0
  else if p.chg != .off && p.chg != .fault && p.chg != .test && !s.chgen then s.chgTo .off 7
  else s

/-- PRE or FAST is entered from QUAL with a search that starts at 0.05C (R605). -/
def State.startSearch (s : State) : State := s.setSearch (s.packCap * 5 / 100)

/-- A pack test ends (R610): the path returns to INPUT at once and the charger enters QUAL; POWER event 12. -/
def State.endTest (s : State) (mark toInput : Bool) : State :=
  if s.board.pwr.path = .test ∨ s.board.pwr.chg = .test then
    let e := s.board.pwr.pack
    let net := e.netQ + e.accQ
    let meas := mark && e.full.isSome && decide (e.chgSince ≤ (e.cap : Int) * 57600000 / 100)
    let cm := match e.full with | some q0 => (qUah (q0 - net)).natAbs | none => 0
    let e := if mark then { e with soc := some 0, emptyMk := true, full := none, cmeas := if meas then some cm else e.cmeas,
                                   stale := e.stale && !meas } else e
    let s := s.onPwr (fun p => { p with pack := e, path := if toInput then .input else p.path })
    let s := s.chgTo (if toInput then .qual else .suspend) 0
    s.powerEvt 12 (if meas then cm else 0)
  else s

/-! ### Loss of power (R593, R597) -/

/-- Collapse actions (R593): every output released at once; KEEP with RAIL_FAIL from WAKE, POWER_LOST from a later mode. -/
def State.collapse (s : State) (snap src : Nat) : State :=
  let m := s.mode.mode
  if m = .off ∨ m = .ship ∨ m = .keep then s
  else
    let s := s.snapshot snap
    s.toKeep .keep (if m = .wake then 5 else 0x18) src false

/-- A Lehr that hardware ends (R82, R661): every channel stopped with CON low, PERST_N low, power-down, KEEP with LEHR_ABORT. -/
def State.lehrAbort (s : State) : State :=
  let s := s.forChans allChans (fun c s => s.hardStop c)
  let s := s.onBoard (fun b => { b with led := { b.led with perst := true } })
  s.toKeep .keep 0x1A 0x0A true

/-- The path may return to INPUT (R599, R601). -/
def State.tryReturn (s : State) : State :=
  let p := s.board.pwr
  if p.input && decide (p.inputT + 500000000 ≤ s.now) && (p.path == .returning || p.path == .parked) && s.mode.mode != .lehr && s.mode.mode != .wake then
    let ms := (s.now - p.packT) / 1000000
    let s := s.onPwr (fun p => { p with path := .input })
    let s := if modeUp s.mode.mode ∧ p.path = .returning then s.powerEvt 2 ms else s
    let s := if s.board.pwr.chg = .suspend then
        match s.board.pwr.rd.tpack with
        | some t => if 0 ≤ t ∧ t ≤ 4000 then s.chgTo .qual 0 else s
        | none => s
      else s
    s.chgStart
  else s

/-- The next asserted slot is released, or the power-down ends (R592, R614). While it runs, condT holds the time of the last release. -/
def State.powerDownStep (s : State) : State :=
  match s.board.pwr.ran with
  | k :: l => (s.driveTarget k false).onPwr (fun p => { p with ran := l, slot := k, condT := some s.now })
  | [] =>
    let ship := s.mode.mode == .ship
    let s := s.onPwr (fun p => { p with phase := if p.failed then 3 else 0, failed := false, ship := false, onMask := 0,
                                        path := if ship then .open_ else if p.path = .holdup ∨ p.path = .returning then .parked else p.path })
    (s.releasePwron).tryWake

end Sys2Proof.Machine
end

