-- ==== Sys2Proof/Machine/QueueOps.lean ====
section
/-! DEFINITION. Tags, rings, holds, credits, token buckets, coalescing and storms as shared operations (chapters 10 and 11). -/

namespace Sys2Proof.Machine

open Sys2Proof

/-! ### The tag (R384 to R387) -/

/-- Bytes 0 to 14 of a tag with a given FLAGS byte (Table 10-4). -/
def tagBody (t : Tag) (flags : Nat) : List Byte :=
  leBytes 1 t.kind ++ leBytes 1 flags ++ leBytes 1 t.tidx ++ leBytes 1 t.tcnt ++ leBytes 1 t.tenant ++ leBytes 1 t.channel
    ++ leBytes 2 t.seq ++ leBytes 4 t.corr ++ leBytes 2 t.stepref ++ leBytes 1 t.calgen

/-- FLAGS without OWN (Table 10-4, R387). -/
def tagFlags (t : Tag) : Nat :=
  2 * b2n (t.tidx == 0) + 4 * b2n (t.tidx + 1 == t.tcnt) + 8 * b2n t.urgent + 16 * b2n t.stale + 32 * b2n t.twin + 64 * b2n t.loss

/-- The 16 bytes of a tag: HCHK makes their sum 0xA5 modulo 256 with OWN taken as 0 (R385). -/
def tagBytes (t : Tag) (own : Bool) : List Byte :=
  tagBody t (tagFlags t + b2n own) ++ leBytes 1 (0xA5 + 256 - byteSum (tagBody t (tagFlags t)))

/-- The 64 bytes of an entry in a ring, a datagram or a batch, OWN set (R386, R501). -/
def entryBytes (e : Entry) : List Byte := tagBytes e.tag true ++ e.payload

/-- OWN of a raw entry. -/
def rawOwn (b : RawEntry) : Bool := (numAt b 1 1).testBit 0

/-- HCHK of a raw entry holds (R385). -/
def rawChk (b : RawEntry) : Bool := (byteSum (sliceB b 0 16) + 256 - b2n (rawOwn b)) % 256 == 0xA5

/-- FIRST and LAST of a raw entry agree with TIDX and TCNT (R387). -/
def rawEnds (b : RawEntry) : Bool :=
  (numAt b 1 1).testBit 1 == (numAt b 2 1 == 0) && (numAt b 1 1).testBit 2 == (numAt b 2 1 + 1 == numAt b 3 1)

/-- An entry read from its 64 bytes. The part ignores STALE and TWIN in commands (R389). -/
def parseEntry (b : RawEntry) : Entry :=
  { tag := { kind := numAt b 0 1, urgent := (numAt b 1 1).testBit 3, loss := (numAt b 1 1).testBit 6, tidx := numAt b 2 1, tcnt := numAt b 3 1,
             tenant := numAt b 4 1, channel := numAt b 5 1, seq := numAt b 6 2, corr := numAt b 8 4, stepref := numAt b 12 2, calgen := numAt b 14 1 }
    payload := sliceB b 16 48 }

/-- Number the entries of a train from TIDX i on (R391). -/
def trainGo (t : Tag) (n : Nat) : Nat → List (List Byte) → List Entry
  | _, [] => []
  | i, p :: ps => { tag := { t with tidx := i, tcnt := n }, payload := p } :: trainGo t n (i + 1) ps

/-- A train of payloads under one tag. -/
def mkTrain (t : Tag) (ps : List (List Byte)) : List Entry := trainGo t ps.length 0 ps

/-! ### Rings and holds (R378, R399, R400) -/

/-- SIZEN (R376). -/
def Queue.cap (q : Queue) : Nat := 16 * 2 ^ q.size

/-- Free slots: one stays empty (R378), and a reserved slot counts as used (R395). -/
def Queue.free (q : Queue) : Nat := q.cap - 1 - q.ring.length - q.reserved

/-- HEAD (R378). -/
def Queue.head (q : Queue) : Nat := (q.tail + q.ring.length) % q.cap

/-- Ring and hold memory in KiB (R376, R399: entries of 64 bytes). -/
def Queue.kib (q : Queue) : Nat := 2 ^ q.size + (q.holdCap + 15) / 16

/-- Number entries with consecutive SEQ values (R391). -/
def seqFrom : Nat → List Entry → List Entry
  | _, [] => []
  | n, e :: l => { e with tag := { e.tag with seq := n } } :: seqFrom ((n + 1) % 65536) l

/-- Append entries to the ring. -/
def Queue.push (q : Queue) (es : List Entry) : Queue :=
  { q with ring := q.ring ++ seqFrom q.nseq es, nseq := (q.nseq + es.length) % 65536 }

/-- LOSS on the first entry (R390) (DEDUCED, log entry 21). -/
def markLoss : List Entry → List Entry
  | [] => []
  | e :: l => { e with tag := { e.tag with loss := true } } :: l

/-- Place a train; it takes LOSSPEND (R390) (DEDUCED, log entry 21). -/
def Queue.put (q : Queue) (es : List Entry) : Queue :=
  { q.push (if q.losspend then markLoss es else es) with losspend := false }

/-- The hold drains into the ring in order as slots are freed (R399). -/
def Queue.drainGo : Nat → Queue → Queue
  | 0, q => q
  | n + 1, q =>
    match q.hold with
    | t :: l => if t.length ≤ q.free then Queue.drainGo n { q.push t with hold := l } else q
    | [] => q

def Queue.drain (q : Queue) : Queue := Queue.drainGo q.hold.length q

/-- OVERFLOW ends once every entry of the ring is acknowledged (R400). -/
def Queue.endOverflow (q : Queue) : Queue :=
  if q.overflow && q.ring.isEmpty && q.hold.isEmpty then { q with overflow := false, noticeDue := some 0 } else q

/-- A LOSS notice (R400, Table 12-23). -/
def lossNotice (tenant reason n t0 t1 : Nat) : Entry :=
  { tag := { kind := 0xC0, loss := true, tenant }, payload := payload [fN 0 4 n, fN 4 8 t0, fN 12 8 t1, fN 20 1 reason] }

/-- The LOSS notice that is due is placed before any later entry, once a slot is free (R400, R422) (DEDUCED, log entry 21). -/
def Queue.notice (q : Queue) : Queue :=
  match q.noticeDue with
  | some r =>
    if 1 ≤ q.free then
      { q.push [lossNotice q.tenant r q.missN q.missT0 q.missT1] with noticeDue := none, missN := 0, missT0 := 0, missT1 := 0, losspend := false }
    else q
  | none => q

/-- What follows any freed slot (DEDUCED, log entry 21). -/
def Queue.settle (q : Queue) : Queue := q.drain.endOverflow.notice

/-- DROPS saturates (Table 10-3) (DEDUCED, log entry 21). -/
def Queue.drop (q : Queue) (n : Nat) : Queue := { q with drops := satAdd 0xFFFFFFFF q.drops n }

/-- Place a record train of PTP time t (R399, R400); the flag says that the queue entered OVERFLOW. -/
def Queue.placeRec (q : Queue) (es : List Entry) (periodic : Bool) (t : Nat) : Queue × Bool :=
  let q := q.settle
  if q.closing then (q, false)
  else if q.overflow then ({ q.drop es.length with missN := satAdd 0xFFFFFFFF q.missN es.length, missT1 := t }, false)
  else if q.hold.isEmpty && q.noticeDue.isNone && decide (es.length ≤ q.free) then (q.put es, false)
  else if periodic then ({ q.drop es.length with losspend := true }, false)
  else if (q.hold.map List.length).sum + es.length ≤ q.holdCap then
    ({ q with hold := q.hold ++ [if q.losspend then markLoss es else es], losspend := false }, false)
  else ({ q.drop es.length with overflow := true, losspend := true, missN := es.length, missT0 := t, missT1 := t }, true)

/-- Acknowledge every entry before SEQ a (R407); an a outside the entries of the ring acknowledges nothing (DEDUCED, log entry 22). -/
def Queue.ack (q : Queue) (a now : Nat) : Queue :=
  let n := (a + 65536 - q.cack) % 65536
  if 0 < n ∧ n ≤ q.ring.length then
    { q with ring := q.ring.drop n, tail := (q.tail + n) % q.cap, cack := a % 65536, ackT := now,
             sent := if seqBefore q.sent a then a % 65536 else q.sent }.settle
  else q

/-- LOSSPEND as QSTATE shows it: it holds until the entry that carries LOSS is placed (R390). -/
def Queue.lossShown (q : Queue) : Bool := q.losspend || q.hold.any (fun t => t.any (fun e => e.tag.loss))

/-! ### Token buckets (R455) -/

/-- Event classes (R455). -/
def evtClass (kind : Nat) : Nat :=
  if kind = 0xA0 ∨ kind = 0xA1 ∨ kind = 0xA5 ∨ kind = 0xA9 ∨ kind = 0xAA then 0
  else if kind = 0xA2 ∨ kind = 0xA3 ∨ kind = 0xA6 ∨ kind = 0xA7 ∨ kind = 0xA8 then 1 else 2

/-- Refill per ns, in 1 / (4 * 10^9) of a token. -/
def bucketRate (cls evrate : Nat) : Nat := if cls = 0 then 2 * evrate else evrate

/-- One token. -/
def tokenUnit : Nat := 4000000000

/-- The level of a bucket at a time. -/
def Bucket.levelAt (b : Bucket) (cls evrate now : Nat) : Nat :=
  Nat.min (bucketCap cls evrate) (b.level + bucketRate cls evrate * (now - b.since))

def Tenant.bucket (t : Tenant) (cls : Nat) : Bucket := if cls = 0 then t.bucket0 else if cls = 1 then t.bucket1 else t.bucket2

def Tenant.hasToken (t : Tenant) (cls now : Nat) : Bool := decide (tokenUnit ≤ (t.bucket cls).levelAt cls t.qEvRate now)

/-- Take a token. -/
def Tenant.takeToken (t : Tenant) (cls now : Nat) : Tenant :=
  let b : Bucket := { level := (t.bucket cls).levelAt cls t.qEvRate now - tokenUnit, since := now }
  if cls = 0 then { t with bucket0 := b } else if cls = 1 then { t with bucket1 := b } else { t with bucket2 := b }

/-- The first time at which a bucket holds at least half of its capacity (R461). -/
def Bucket.halfT (b : Bucket) (cls evrate now : Nat) : Nat :=
  let half := (bucketCap cls evrate + 1) / 2
  if half ≤ b.levelAt cls evrate now then now
  else now + (half - b.levelAt cls evrate now + bucketRate cls evrate - 1) / Nat.max 1 (bucketRate cls evrate)

/-! ### Storms (R457, R458, R461) -/

/-- A storm of a tenant begins, and the part-wide one with it. -/
def State.stormBegin (s : State) (t : Nat) : State :=
  let s := s.onTenant t (fun x => { x with storm := some (x.storm.getD { start := s.ptp }) })
  { s with storm := some (s.storm.getD { start := s.ptp }) }

def Storm.count (w : Storm) (cls : Nat) (f : StormCnt → StormCnt) : Storm :=
  if cls = 0 then { w with c0 := f w.c0 } else if cls = 1 then { w with c1 := f w.c1 } else { w with c2 := f w.c2 }

/-- Count in a storm that runs. -/
def State.stormCount (s : State) (t cls : Nat) (f : StormCnt → StormCnt) : State :=
  match (s.tenant? t).bind Tenant.storm with
  | some _ =>
    let s := s.onTenant t (fun x => { x with storm := x.storm.map (fun w => w.count cls f) })
    { s with storm := s.storm.map (fun w => w.count cls f) }
  | none => s

/-- Something disturbed the calm of a storm: it must last STORMQUIET from here, and from when every bucket is back at half. -/
def State.stormStir (s : State) (t : Nat) : State :=
  s.onTenant t (fun x =>
    let c := [0, 1, 2].foldl (fun m k => Nat.max m ((x.bucket k).halfT k x.qEvRate s.now)) s.now
    { x with storm := x.storm.map (fun w => { w with calmT := c }) })

/-- An entry of the coalescing table is evicted, or a key finds none to evict: it counts as dropped (R458). -/
def State.stormDrop (s : State) (t q cls : Nat) : State :=
  ((s.onQueue q (fun q => { q with losspend := true })).stormCount t cls (fun c => { c with dropped := c.dropped + 1 })).fault 0x09 0x04

/-- The oldest entry of a class, the first in the table. -/
def oldestOf (l : List Coal) (cls : Nat) : Option Coal := l.find? (fun c => c.cls == cls)

/-- Make room for a new key in a full table: the oldest class 2 entry goes, or else the oldest class 1 entry (R458) (DEDUCED, log entry 21). -/
def State.coalRoom (s : State) (t : Nat) : State :=
  match s.tenant? t with
  | some x =>
    if x.coal.length < 512 then s
    else
      match (oldestOf x.coal 2).orElse (fun _ => oldestOf x.coal 1) with
      | some c => (s.onTenant t (fun x => { x with coal := x.coal.erase c })).stormDrop t c.queue c.cls
      | none => s
  | none => s

/-- A coalesced event goes into the entry of its key (R457). -/
def State.coalesce (s : State) (t q : Nat) (es : List Entry) (kind channel : Nat) : State :=
  let cls := evtClass kind
  let s := s.stormBegin t
  let s := s.stormCount t cls (fun c => { c with arrived := c.arrived + 1, coal := c.coal + 1 })
  let key (c : Coal) : Bool := c.queue == q && c.kind == kind && c.channel == channel
  let s :=
    match s.tenant? t with
    | some x =>
      if x.coal.any key then
        s.onTenant t (fun x => { x with coal := updFirst key (fun c => { c with entries := es, count := c.count + 1, last := s.ptp }) x.coal })
      else
        let s := s.coalRoom t
        let full := match s.tenant? t with | some x => decide (512 ≤ x.coal.length) | none => true
        if full then s.stormDrop t q cls
        else s.onTenant t (fun x => { x with coal := x.coal ++ [(⟨q, kind, channel, cls, es, 1, s.ptp, s.ptp⟩ : Coal)] })
    | none => s
  s.stormStir t

/-- An event that finds a token and free slots is placed, and is otherwise coalesced (R456, R402). -/
def State.placeEvt (s : State) (t q : Nat) (es : List Entry) (kind channel : Nat) : State :=
  let cls := evtClass kind
  match s.tenant? t, s.queue? q with
  | some x, some qq =>
    if qq.closing then s
    else
      let s := s.onQueue q Queue.settle
      let room := match s.queue? q with | some y => y.noticeDue.isNone && decide (es.length ≤ y.free) | none => false
      if x.hasToken cls s.now && room then
        let s := (s.onTenant t (fun x => x.takeToken cls s.now)).onQueue q (fun y => y.put es)
        let s := s.stormCount t cls (fun c => { c with arrived := c.arrived + 1, single := c.single + 1 })
        match s.tenant? t with
        | some x => if s.now < (x.bucket cls).halfT cls x.qEvRate s.now then s.stormStir t else s
        | none => s
      else
        let s := if room then s else s.onQueue q (fun y => { y with losspend := true })
        s.coalesce t q es kind channel
  | _, _ => s

/-! ### The house and the local port (R411, R415, R472) -/

/-- The local port is enabled: its strap bit, and from BOOT until KEEP (R89, R411, Table 18-5). -/
def State.localOn (s : State) : Bool := s.strapValid && s.strap.testBit 2 && modeUp s.mode.mode

/-- The tenant whose queues take an entry with this TENANT (R37, R472). -/
def destOf (t : Nat) : Nat := if t = 255 then 0 else t

/-- The network record queue of a record: its channel's route, or the default of its tenant (R398, R472). -/
def State.recQueue (s : State) (r : RecIn) : Option Nat :=
  match r.queue with
  | some q => some q
  | none =>
    let d := ((s.tenant? (destOf r.tenant)).bind Tenant.defRec)
    match s.leaseOf r.channel with
    | some l => if l.2.f.tenant = r.tenant ∧ l.2.route.isSome then l.2.route else d
    | none => d

/-- Every queue that takes a record: its network queue and, for the house, local queue 2. -/
def State.recQueues (s : State) (r : RecIn) : List Nat :=
  (s.recQueue r).toList ++ (if destOf r.tenant = 0 && s.localOn && r.queue.isNone then [2] else [])

/-- Every queue that takes an event. -/
def State.evtQueues (s : State) (e : EvtIn) : List Nat :=
  ((s.tenant? e.dest).bind Tenant.defEvt).toList ++ (if e.dest = 0 && s.localOn then [3] else [])

/-- The entries of a record. -/
def RecIn.train (r : RecIn) : List Entry :=
  mkTrain { kind := r.kind, stale := r.stale, twin := r.twin, tenant := r.tenant, channel := r.channel, corr := r.corr, stepref := r.stepref,
            calgen := r.calgen } r.payloads

/-- The entries of an event. -/
def EvtIn.train (e : EvtIn) : List Entry :=
  mkTrain { kind := e.kind, urgent := e.urgent, tenant := e.tenant, channel := e.channel, corr := e.corr, stepref := e.stepref, calgen := e.calgen }
    e.payloads

/-- The entries of a completion (Table 12-1). -/
def Reply.train (r : Reply) : List Entry :=
  let head := leBytes 1 (statusCode r.status) ++ leBytes 1 r.opcode ++ leBytes 2 r.index ++ leBytes 4 r.detail ++ leBytes 8 r.applied
  let res := if r.results.isEmpty then [zeros 32] else r.results
  mkTrain { kind := 0x40, urgent := r.head.urgent, tenant := r.head.tenant, channel := r.head.channel, corr := r.head.corr, stepref := r.stepref,
            calgen := r.calgen } (res.map (fun b => head ++ sliceB b 0 32))

/-! ### Credits and sessions (R407 to R409, R437 to R439) -/

/-- A session closes (R439): its queues are unbound (R382). -/
def State.closeSession (s : State) (n : Nat) : State :=
  { s with sessions := s.sessions.filter (fun x => x.num != n), queues := s.queues.map (fun q => if q.bind = some n then { q with bind := none } else q) }

/-- The part sends a datagram in a session, whose send DSEQ advances (R437, R438). -/
def State.sendIn (s : State) (n : Nat) (d : Sent) : State :=
  let s := { s with sent := d :: s.sent }
  let s := s.onSession n (fun x => { x with txDseq := x.txDseq + 1 })
  match s.session? n with
  | some x => if 2 ^ 48 ≤ x.txDseq then s.closeSession n else s
  | none => s

/-- The session through which a queue is delivered, while its port has a link (R382, R404). -/
def State.via (s : State) (q : Queue) : Option Nat :=
  match q.bind.bind s.session? with
  | some x => if s.links.testBit x.port && modeUp s.mode.mode && s.mode.mode != .boot then some x.num else none
  | none => none

/-- The credit of a command queue: CACK and CACK plus the free slots (R407). -/
def Queue.credit (q : Queue) : Nat × Nat × Nat := (q.num, q.cack, (q.cack + q.free) % 65536)

/-- A credit for a command queue goes out at once (R406, R408). -/
def State.sendCredit (s : State) (qn : Nat) : State :=
  match s.queue? qn with
  | some q =>
    match s.via q with
    | some n =>
      let c := q.credit
      (s.onQueue qn (fun q => { q with creditDue := false, creditT := s.now, climit := c.2.2 })).sendIn n (.credit n qn c.2.1 c.2.2)
    | none => s
  | none => s

/-- Whole trains from the front, at most n entries (R392). -/
def takeTrains : Nat → Nat → List Entry → List Entry
  | 0, _, _ => []
  | _ + 1, _, [] => []
  | k + 1, n, e :: l =>
    let m := Nat.max 1 (e.tag.tcnt - e.tag.tidx)
    if m ≤ n then (e :: l).take m ++ takeTrains k (n - m) ((e :: l).drop m) else []

/-- The entries of the ring from a SEQ on that may be sent: those before CLIMIT (R409). -/
def Queue.sendable (q : Queue) (from_ : Nat) : List Entry :=
  let k := (from_ + 65536 - q.cack) % 65536
  let room := (q.climit + 65536 - from_) % 65536
  if 0 < room ∧ room ≤ 32767 then (q.ring.drop k).take room else []

/-- Send entries of a part-produced queue in SEQ order up to CLIMIT, with the credit of the command queue it is paired to if due (R408, R409). -/
def State.sendEntries (s : State) (qn n : Nat) : State :=
  match s.queue? qn with
  | some q =>
    match s.via q with
    | some k =>
      let l := q.sendable q.sent
      let es := takeTrains l.length (Nat.min n 15) l
      if es.isEmpty ∨ q.kind = .command then s
      else
        let cq := if q.kind = .completion then
            s.queues.find? (fun c => c.pair == some qn && c.creditDue && decide (c.creditT + 100000 ≤ s.now)) else none
        let s := match cq with
          | some c => s.onQueue c.num (fun c => { c with creditDue := false, creditT := s.now, climit := c.credit.2.2 })
          | none => s
        let s := s.onQueue qn (fun q => { q with sent := (q.sent + es.length) % 65536, ackT := if q.sent = q.cack then s.now else q.ackT })
        s.sendIn k (.entries k qn false (cq.map Queue.credit) es)
    | none => s
  | none => s

/-- Datagrams of whole trains, at most 15 entries each (R392). -/
def datagrams : Nat → List Entry → List (List Entry)
  | 0, _ => []
  | k + 1, l =>
    let d := takeTrains l.length 15 l
    if d.isEmpty then [] else d :: datagrams k (l.drop d.length)

/-- A credit from the tenant (R407); `t` is the session's tenant (DEDUCED, log entry 22). -/
def State.takeCredit (s : State) (t : Nat) (d : Datagram) : State :=
  match s.queue? d.cqueue with
  | some q =>
    if q.tenant ≠ t ∨ q.local_ then s.bump 0x32001C 0 32
    else if q.kind = .command then s
    else s.onQueue d.cqueue (fun q => { q.ack d.cack s.now with climit := d.climit })
  | none => s.bump 0x32001C 0 32

end Sys2Proof.Machine
end

