-- ==== Sys2Proof/Machine/DriveOps.lean ====
section
/-! DEFINITION. The drives of the ledger: geometry, the blocks of label, shutdown record and segment table, NVMe commands (R482 to R488). -/

namespace Sys2Proof.Machine

open Sys2Proof

def State.led (s : State) : Ledger := s.board.led

def State.onLed (s : State) (f : Ledger → Ledger) : State := s.onBoard (fun b => { b with led := f b.led })

/-! ### Geometry (R484 to R486) -/

/-- Segments of 1 MiB that a drive contributes. -/
def Drive.segs (d : Drive) : Nat := d.blocks / 256

def Ledger.drive (l : Ledger) (d : Nat) : Drive := l.drives.getD d {}

/-- A drive that reads and writes: online, or being resilvered. -/
def Drive.alive (d : Drive) : Bool := d.state == 1 || d.state == 2

/-- Segments of a mirrored pair: the smaller drive's; those of the one present while the other is missing. -/
def pairSegs (a b : Drive) : Nat := if a.blocks = 0 then b.segs else if b.blocks = 0 then a.segs else Nat.min a.segs b.segs

/-- The runs of segments in drive order: first segment, number, drives that hold them (Table 13-4). -/
def Ledger.groups (l : Ledger) : List (Nat × Nat × List Nat) :=
  let d := l.drive
  if l.arrange = 1 then [(0, pairSegs (d 0) (d 1), [0, 1])]
  else if l.arrange = 2 then
    [(0, pairSegs (d 0) (d 1), [0, 1]), (pairSegs (d 0) (d 1), pairSegs (d 2) (d 3), [2, 3])]
  else
    [(0, (d 0).segs, [0]), ((d 0).segs, (d 1).segs, [1]), ((d 0).segs + (d 1).segs, (d 2).segs, [2]),
     ((d 0).segs + (d 1).segs + (d 2).segs, (d 3).segs, [3])]

/-- NSEG of a drive set, at most 2^28 (R484). -/
def Ledger.countSegs (l : Ledger) : Nat := Nat.min (2 ^ 28) ((l.groups.map (fun g => g.2.1)).sum)

/-- NTAB (R486). -/
def ntab (nseg : Nat) : Nat := (nseg * 32 + 1048575) / 1048576

/-- The drives that hold a segment. -/
def Ledger.drivesOf (l : Ledger) (seg : Nat) : List Nat :=
  match l.groups.find? (fun g => decide (g.1 ≤ seg ∧ seg < g.1 + g.2.1)) with
  | some g => g.2.2
  | none => []

/-- A segment can be read while one of its drives is alive. -/
def Ledger.readable (l : Ledger) (seg : Nat) : Bool := (l.drivesOf seg).any (fun d => (l.drive d).alive)

/-- All data segments (R486). -/
def Ledger.dataSegs (l : Ledger) : Nat := l.nseg - 1 - ntab l.nseg

/-- Free data segments. -/
def Ledger.freeSegs (l : Ledger) : Nat := l.dataSegs - l.segs.length

/-- The lowest-numbered free data segment on drives that are alive (R488, R512). -/
def Ledger.nextFree (l : Ledger) : Option Nat :=
  l.groups.findSome? (fun g =>
    if g.2.2.any (fun d => (l.drive d).alive) then
      let lo := Nat.max g.1 (1 + ntab l.nseg)
      ((List.range (l.segs.length + 1)).map (fun k => lo + k)).find? (fun n =>
        decide (n < g.1 + g.2.1 ∧ n < l.nseg) && !l.segs.any (fun x => x.num == n))
    else none)

/-! ### Blocks (Tables 13-5 and 13-6) -/

/-- A block whose last four bytes are the CRC-32C of those before them. -/
def sealBlock (l : List Byte) : List Byte :=
  let body := sliceB l 0 4092
  body ++ leBytes 4 (crc32c body).toNat

/-- The label (Table 13-5) (DESIGN CHOICE, log entry 66). -/
def State.labelBlock (s : State) : List Byte :=
  let l := s.led
  sealBlock (leBytes 4 0x4C4C5653 ++ leBytes 1 1 ++ leBytes 1 l.arrange ++ leBytes 1 (l.labelSns.filter (fun n => n != 0)).length ++ zeros 1
    ++ leBytes 8 s.serial ++ ((List.range 4).map (fun d => leBytes 20 (l.labelSns.getD d 0))).flatten
    ++ leBytes 4 l.nseg ++ leBytes 4 (ntab l.nseg) ++ leBytes 8 l.initPtp)

/-- The shutdown record (R486). -/
def Ledger.shutBlock (l : Ledger) : List Byte :=
  sealBlock (leBytes 4 0x52535653 ++ leBytes 1 l.shut ++ zeros 3 ++ leBytes 4 l.shutBoot ++ zeros 4 ++ leBytes 8 l.shutT)

/-- The segment table entry of a segment (Table 13-6, R487). -/
def Ledger.entry (l : Ledger) (n : Nat) : List Byte :=
  if n ≤ ntab l.nseg then leBytes 1 0xFF ++ leBytes 1 3 ++ zeros 30
  else
    match l.segs.find? (fun g => g.num == n) with
    | some g => leBytes 1 g.stream ++ leBytes 1 (if g.full then 2 else 1) ++ zeros 6 ++ leBytes 8 g.firstB ++ leBytes 8 g.lastB ++ leBytes 8 g.newest
    | none => zeros 32

/-- Block k of the segment table: 128 entries. -/
def Ledger.tableBlock (l : Ledger) (k : Nat) : List Byte := ((List.range 128).map (fun i => l.entry (128 * k + i))).flatten

/-! ### NVMe commands (R482, R485) -/

/-- The LBA of a block of a segment on each drive that holds it (R485). -/
def Ledger.lba (l : Ledger) (seg blk : Nat) : Nat :=
  match l.groups.find? (fun g => decide (g.1 ≤ seg ∧ seg < g.1 + g.2.1)) with
  | some g => (seg - g.1) * 256 + blk
  | none => 0

/-- The drives of a segment that read and write. -/
def Ledger.aliveOf (l : Ledger) (seg : Nat) : List Nat := (l.drivesOf seg).filter (fun d => (l.drive d).alive)

/-- A command to one drive. -/
def Ledger.sendTo (l : Ledger) (d : Nat) (op : NvmeOp) : Ledger := { l with io := { drive := d, op } :: l.io }

/-- A command at a block of a segment, to every drive that holds it. -/
def Ledger.issue (l : Ledger) (seg blk : Nat) (f : Nat → NvmeOp) : Ledger :=
  (l.aliveOf seg).foldl (fun l d => l.sendTo d (f (l.lba seg blk))) l

/-- A read goes to one drive that holds the segment. -/
def Ledger.fetchFrom (l : Ledger) (seg blk n : Nat) : Ledger :=
  match l.aliveOf seg with
  | d :: _ => l.sendTo d (.read (l.lba seg blk) n)
  | [] => l

/-- A Flush to every drive that holds a segment. -/
def Ledger.flush (l : Ledger) (seg : Nat) : Ledger := l.issue seg 0 (fun _ => .flush)

/-- A Write among the commands. -/
def NvmeOp.isWrite : NvmeOp → Bool
  | .write _ _ => true
  | _ => false

/-- A Flush to each drive that was written since there were n commands (R498). -/
def Ledger.flushRound (l : Ledger) (n : Nat) : Ledger :=
  let new := l.io.take (l.io.length - n)
  ((List.range 4).filter (fun d => new.any (fun c => c.drive == d && c.op.isWrite))).foldl (fun l d => l.sendTo d .flush) l

/-- The block of the segment table that holds a segment's entry: its segment and block. -/
def entryAt (n : Nat) : Nat × Nat := (1 + n / 32768, n % 32768 / 128)

/-- The entry of a segment is written (R488, R505). -/
def Ledger.putEntry (l : Ledger) (n : Nat) : Ledger := l.issue (entryAt n).1 (entryAt n).2 (fun a => .write a (l.tableBlock (n / 128)))

/-- An entry is written and flushed. -/
def Ledger.putEntryFlush (l : Ledger) (n : Nat) : Ledger := (l.putEntry n).flush (entryAt n).1

/-- The shutdown record is written and flushed (R486, R497, R507). -/
def Ledger.writeShut (l : Ledger) (v t : Nat) : Ledger :=
  let l := { l with shut := v, shutBoot := l.bootcnt, shutT := t }
  (l.issue 0 2 (fun a => .write a l.shutBlock)).flush 0

/-- The queues of the drives are taken down (Table 13-3). -/
def Ledger.endQueues (l : Ledger) : Ledger :=
  ((List.range 4).filter (fun d => (l.drive d).alive)).foldl (fun l d => (l.sendTo d .deleteSq).sendTo d .deleteCq) l

/-- Discovery of a drive: identification, features, queue pairs, the label and its copy (Table 13-3, R483, R489). -/
def Ledger.probe (l : Ledger) (d : Nat) : Ledger :=
  let l := if (l.drive d).present then (l.sendTo d .identifyController).sendTo d .identifyNamespace else l
  if (l.drive d).alive then
    [NvmeOp.setWriteCache, .setQueues, .createCq, .createSq, .read 0 2].foldl (fun l op => l.sendTo d op) l
  else l

/-- The bytes of a batch in its whole blocks (R495). -/
def Batch.blocks (b : Batch) : List Byte := b.bytes ++ zeros (4096 * b.nblk - b.bytes.length)

/-- The Write of a batch (R498). -/
def Ledger.writeBatch (l : Ledger) (b : Batch) : Ledger :=
  l.issue (b.laddr / 1048576) (b.laddr / 4096 % 256) (fun a => .write a b.blocks)

end Sys2Proof.Machine
end

