-- ==== Sys2Proof/Machine/LedgerOps.lean ====
section
/-! DEFINITION. The ledger: streams, staging, sealing, writing, GAP records, drives (chapter 13). -/

namespace Sys2Proof.Machine

open Sys2Proof

/-! ### Streams (R490, R491) -/

/-- The stream of a tenant or 255; the first KEYGEN is 1. -/
def State.streamOf (s : State) (t : Nat) : Stream := (s.led.streams.find? (fun x => x.num == t)).getD { num := t, keygen := 1 }

def State.onStream (s : State) (t : Nat) (f : Stream → Stream) : State :=
  s.onLed (fun l =>
    if l.streams.any (fun x => x.num == t) then { l with streams := updFirst (fun x => x.num == t) f l.streams }
    else { l with streams := l.streams ++ [f { num := t, keygen := 1 }] })

/-- KD of a stream (R491); that of a removed tenant while its last batch is not durable. -/
def State.dataKey (s : State) (t : Nat) : List Byte :=
  if t = 255 then s.led.kd255
  else
    match s.tenant? t with
    | some x => x.dataKey
    | none => ((s.led.lastKeys.find? (fun x => x.1 == t)).map Prod.snd).getD []

/-- A stream has batches that are not durable. -/
def Ledger.hasPending (l : Ledger) (t : Nat) : Bool :=
  l.sealed_.any (fun b => b.stream == t) || l.streams.any (fun x => x.num == t && !x.open_.isEmpty)

/-- Retention in days; stream 255 follows stream 0 (R505). -/
def Ledger.retention (l : Ledger) (t : Nat) : Nat :=
  match l.retain.find? (fun x => x.1 == destOf t) with | some x => x.2 | none => 0

/-! ### Staging (R493 to R495, R503) -/

/-- Blocks of a batch with n entries: header, entries and tag in whole blocks (R495). -/
def blocksOf (n : Nat) : Nat := (144 + 64 * n + 4095) / 4096

/-- Staging blocks in use. -/
def Ledger.used (l : Ledger) : Nat :=
  (l.streams.map (fun x => if x.open_.isEmpty then 0 else blocksOf x.open_.length)).sum + (l.sealed_.map Batch.nblk).sum

/-- The open batch of a stream is sealed with a cause (R496). -/
def State.sealStream (s : State) (t cause : Nat) : State :=
  let x := s.streamOf t
  match x.open_.head?, x.open_.getLast? with
  | some a, some z =>
    let b : Batch :=
      { stream := t, btype := 0, cause, nblk := blocksOf x.open_.length, entries := x.open_.map Prod.fst, first := a.2, last := z.2, sealt := s.ptp }
    (s.onStream t (fun x => { x with open_ := [] })).onLed (fun l => { l with sealed_ := l.sealed_ ++ [b] })
  | _, _ => s

/-- A train enters the open batch of its stream, sealed before it where it does not fit (R494, R495, R496). -/
def State.stageTrain (s : State) (t : Nat) (es : List Entry) : State :=
  let s := if 1021 < (s.streamOf t).open_.length + es.length then s.sealStream t 0 else s
  s.onStream t (fun x => { x with open_ := x.open_ ++ es.map (fun e => (e, s.ptp)) })

/-- A record is not staged (R503): counted for its stream; STAGING_FULL once until the reserve has emptied. -/
def State.stageMiss (s : State) (t : Nat) : State :=
  let s := s.onStream t (fun x => { x with missed := x.missed + 1, missT0 := if x.missed = 0 then s.ptp else x.missT0, missT1 := s.ptp })
  let s := (s.bump 0x31000C 8 24).setBit 0x31001C 4
  if s.led.raised then s else (s.onLed (fun l => { l with raised := true })).fault 0x08 0x04

/-- A record is copied to ledger staging while the root port runs (R398, R478, R503) (DEDUCED, log entry 25). -/
def State.stage (s : State) (t : Nat) (es : List Entry) (periodic : Bool) : State :=
  if !s.led.running then s
  else if s.led.used < (if periodic then 960 else 1024) then s.stageTrain t es
  else s.stageMiss t

/-! ### Batches (R492, R500 to R502) -/

/-- The 128-byte header (Table 13-7). -/
def State.header (s : State) (b : Batch) (prev : List Byte) : List Byte :=
  let n := if b.btype = 1 then b.raw.length else b.entries.length
  let h := leBytes 4 0x424C5653 ++ leBytes 1 1 ++ leBytes 1 b.stream ++ leBytes 1 b.btype ++ leBytes 1 b.cause ++ leBytes 8 b.bseq ++ leBytes 8 b.laddr
    ++ leBytes 2 b.nblk ++ leBytes 2 n ++ leBytes 4 b.bootcnt ++ leBytes 8 s.serial ++ leBytes 4 b.epoch ++ leBytes 4 b.keygen
    ++ leBytes 8 b.first ++ leBytes 8 b.last ++ leBytes 8 b.sealt ++ sliceB prev 0 32 ++ zeros 20
  h ++ leBytes 4 (crc32c h).toNat

/-- The entries of a key batch: KD wrapped under each slot that is not empty (R492) (DEDUCED, log entry 42). -/
def State.keyEntries (s : State) (t bseq keygen : Nat) : List (List Byte) :=
  match s.tenant? (destOf t) with
  | some x =>
    let kd := s.dataKey t
    let one (slot : Nat) (k : Option (List Byte)) : List (List Byte) :=
      match k with
      | some key =>
        let info : List Byte := [0x53, 0x56, 0x37, 0x32, 0x36, 0x34, 0x20, 0x4C] ++ leBytes 1 t ++ leBytes 4 keygen
        let kw := (Config.hkdfSession key (leBytes 8 s.serial ++ leBytes 8 bseq) info).take 32
        let w := Config.sealBatch kw (zeros 12) [] kd
        [leBytes 1 slot ++ leBytes 1 1 ++ zeros 6 ++ sliceB w 0 32 ++ sliceB w 32 16 ++ zeros 8]
      | none => []
    one 0 x.key0 ++ one 1 x.key1
  | none => []

/-- Give a batch its sequence, address, bytes and chain value, and issue its Write (R498, R500 to R502) (DEDUCED, log entry 42). -/
def State.finishBatch (s : State) (b : Batch) (laddr : Nat) : State × Batch :=
  let x := s.streamOf b.stream
  let b := { b with bseq := x.bseq + 1, laddr, bootcnt := s.led.bootcnt, epoch := if s.board.formed then s.board.pair.epoch else 0, keygen := x.keygen }
  let b := if b.btype = 1 then { b with raw := s.keyEntries b.stream b.bseq b.keygen } else b
  let h := s.header b x.chain
  let body := if b.btype = 1 then b.raw.flatten else (b.entries.map entryBytes).flatten
  let nonce := leBytes 4 b.bootcnt ++ leBytes 8 b.bseq
  let kd := s.dataKey b.stream
  let bytes := if b.btype = 1 then h ++ body ++ Config.sealBatch kd nonce (h ++ body) [] else h ++ Config.sealBatch kd nonce h body
  let chain := Config.sha256 bytes
  let b : Batch := { b with bytes, chain, written := true }
  ((s.onStream b.stream (fun x => { x with bseq := b.bseq, chain })).onLed (fun l => l.writeBatch b), b)

/-- The open segment of a stream becomes full, and its full entry is written (R488). -/
def State.closeSeg (s : State) (t lastB newest : Nat) : State :=
  match (s.streamOf t).seg with
  | some (n, _) =>
    (s.onStream t (fun x => { x with seg := none })).onLed (fun l =>
      let l : Ledger := { l with segs := l.segs.map (fun g => if g.num = n then { g with full := true, lastB, newest } else g) }
      l.putEntry n)
  | none => s

/-- The state MOUNTED or DEGRADED of a mounted ledger (R489, R512). -/
def Ledger.mountSt (l : Ledger) : LedgerSt :=
  if (List.range 4).all (fun d => l.labelSns.getD d 0 == 0 || (l.drive d).state == 1) then .mounted else .degraded

/-- The ledger is mounted. -/
def Ledger.isMounted (l : Ledger) : Bool := l.st == .mounted || l.st == .degraded || l.st == .full

/-- A LEDGER event to the house (Table 12-24). -/
def State.ledgerEvt (s : State) (code : Nat) : State := s.houseEvt 0xAE [payload [fN 0 1 code, fN 8 8 s.ptp]]

/-- Space low (R506): the event once while the free data segments stay below LOWPCT %. -/
def State.spaceLow (s : State) : State :=
  let low := decide (s.led.freeSegs * 100 < s.led.lowpct * s.led.dataSegs)
  let s' := s.onLed (fun l => { l with lowSent := low })
  if low && !s.led.lowSent then s'.ledgerEvt 2 else s'

/-- Room for a batch in its stream (R488): its address, opening a segment where needed, whose open entry is written and flushed before any
batch; none without a free data segment. -/
def State.roomFor (s : State) (t nblk sealt : Nat) : State × Option Nat :=
  let fits := match (s.streamOf t).seg with | some (_, k) => decide (k + nblk ≤ 256) | none => false
  let s := if fits then s else s.closeSeg t (s.streamOf t).bseq sealt
  match (s.streamOf t).seg with
  | some (n, k) => (s.onStream t (fun x => { x with seg := some (n, k + nblk) }), some (n * 1048576 + k * 4096))
  | none =>
    match s.led.nextFree with
    | some n =>
      let b := (s.streamOf t).bseq + 1
      let s := s.onLed (fun l =>
        let l : Ledger := { l with segs := l.segs ++ [{ num := n, stream := t, firstB := b }], st := if l.st = .full then l.mountSt else l.st }
        l.putEntryFlush n)
      ((s.onStream t (fun x => { x with seg := some (n, nblk) })).spaceLow, some (n * 1048576))
    | none =>
      if s.led.st = .full then (s, none)
      else (((s.setBit 0x31001C 5).onLed (fun l => { l with st := .full })).fault 0x08 0x03, none)

/-- Write one sealed batch, its key batch first (R492, R498): the batches that take its place in the list. A key batch waits for Eloawen
(R507). -/
def State.writeOne (s : State) (b : Batch) : State × List Batch :=
  if b.written ∨ !s.led.isMounted ∨ ((s.streamOf b.stream).needKey ∧ !s.stewardOn) then (s, [b])
  else
    let x := s.streamOf b.stream
    let (s, ks) :=
      if x.needKey then
        match s.roomFor b.stream 1 b.sealt with
        | (s, some a) =>
          let kb : Batch := { stream := b.stream, btype := 1, cause := b.cause, nblk := 1, entries := [], first := b.sealt, last := b.sealt, sealt := b.sealt }
          let (s, kb) := s.finishBatch kb a
          (s.onStream b.stream (fun x => { x with needKey := false }), [kb])
        | (s, none) => (s, [])
      else (s, [])
    if (s.streamOf b.stream).needKey then (s, ks ++ [b])
    else
      match s.roomFor b.stream b.nblk b.sealt with
      | (s, some a) => let (s, b) := s.finishBatch b a; (s, ks ++ [b])
      | (s, none) => (s, ks ++ [b])

/-- Write every sealed batch that is not written yet, in BSEQ order within each stream, then flush each drive written (R498, R504). -/
def State.writeOut (s : State) : State :=
  let l := s.led.sealed_
  let n := s.led.io.length
  let r := l.foldl (fun (a : State × List Batch) b => let (s, bs) := a.1.writeOne b; (s, a.2 ++ bs)) (s, [])
  r.1.onLed (fun x => Ledger.flushRound { x with sealed_ := r.2 } n)

/-- A seal round (R496, R517): SEALINT and LOWPCT take effect, every open batch is sealed with a cause, and all is written. -/
def State.sealAll (s : State) (cause : Nat) : State :=
  let s := s.onLed (fun l => { l with sealint := s.fld 0x310000 8 8, lowpct := s.fld 0x310000 16 6 })
  ((s.led.streams.map Stream.num).foldl (fun s t => s.sealStream t cause) s).writeOut

/-- The newest durable batch of a stream. -/
def Stream.endsAt (x : Stream) (b : Batch) : Stream := { x with durable := b.bseq, lastSeal := b.sealt, lastAddr := b.laddr, tailLast := b.last }

/-- Written batches are durable (R498): their blocks are freed, waiting LEDGER_SEALs complete, and the data key of a removed tenant goes
with its last batch (R491). -/
def State.durable (s : State) : State :=
  let done := s.led.sealed_.filter Batch.written
  let s := done.foldl (fun s b => s.onStream b.stream (fun x => x.endsAt b)) s
  let left (w : CmdHead × Nat × Nat) : Nat := w.2.2 - (done.filter (fun b => b.stream == w.2.1 && b.btype == 0)).length
  let out := s.led.seals.filter (fun w => left w == 0)
  let s := s.onLed (fun l => { l with
    sealed_ := l.sealed_.filter (fun b => !b.written), stored := l.stored ++ done
    seals := (l.seals.filter (fun w => left w != 0)).map (fun w => (w.1, w.2.1, left w)) })
  let s := out.foldl (fun s w =>
    let x := s.streamOf w.2.1
    { s with inflight := s.inflight ++ [{ head := w.1, opcode := 0x2F, status := .ok, applied := s.ptp, results := [leBytes 8 x.lastSeal ++ leBytes 8 x.lastAddr] }] }) s
  s.onLed (fun l => { l with raised := l.raised && decide (960 < l.used), lastKeys := l.lastKeys.filter (fun x => l.hasPending x.1) })

/-- A GAP record in a stream, ahead of any later record, and in the tenant's record queue (R503, R509, Table 12-23) (DEDUCED, log entry 43). -/
def State.gap (s : State) (t cause count t0 t1 : Nat) : State :=
  let r : RecIn := { kind := 0x6B, tenant := t, channel := 255, time := s.ptp, staged := false,
                     payloads := [payload [fN 0 8 t0, fN 8 8 t1, fN 16 4 count, fN 20 1 cause]] }
  ((s.stageTrain t r.train).pushRec r).bump 0x310020 0 16

/-- GAP records for what each stream missed (R503, Table 13-9) (DEDUCED, log entry 43). -/
def State.missGaps (s : State) (cause : Nat) : State :=
  s.led.streams.foldl (fun s x =>
    if x.missed = 0 then s
    else (s.gap x.num cause (Nat.min x.missed 0xFFFFFFFF) x.missT0 x.missT1).onStream x.num (fun x => { x with missed := 0, missT0 := 0, missT1 := 0 })) s

/-! ### Drive errors (R510 to R512) -/

/-- A stream's batches from a BSEQ on are to be written again (R511): the chain continues from the first one's PREVHASH. -/
def State.rewriteFrom (s : State) (t bseq : Nat) : State :=
  match s.led.sealed_.find? (fun b => b.stream == t && b.written && b.bseq == bseq) with
  | some b =>
    let s := s.closeSeg t (bseq - 1) ((s.streamOf t).lastSeal)
    let s := s.onStream t (fun x => { x with bseq := bseq - 1, chain := sliceB b.bytes 72 32 })
    let again (c : Batch) : Batch := if c.stream = t ∧ c.written ∧ bseq ≤ c.bseq ∧ c.btype = 0 then { c with written := false, bseq := 0 } else c
    let rekey := s.led.sealed_.any (fun c => c.stream == t && c.written && decide (bseq ≤ c.bseq) && c.btype == 1)
    let s := if rekey then s.onStream t (fun x => { x with needKey := true }) else s
    s.onLed (fun l => { l with sealed_ := (l.sealed_.filter (fun c => !(c.stream == t && c.written && decide (bseq ≤ c.bseq) && c.btype == 1))).map again })
  | none => s

/-- Change a drive. -/
def State.onDrive (s : State) (d : Nat) (f : Drive → Drive) : State := s.onLed (fun l => { l with drives := l.drives.set d (f (l.drive d)) })

/-- A drive is lost (R512): its segments move or its mirror carries on. -/
def State.loseDrive (s : State) (d : Nat) : State :=
  if !(s.led.drive d).alive then s
  else
    let s := ((s.onDrive d (fun x => { x with state := 3, linkUp := false, speed := 0 })).pushFault { uu := 0x08, cc := 0x02, fenceUnit := some (0x110 + d) }).ledgerEvt 1
    let s :=
      s.led.streams.foldl (fun s x =>
        match x.seg with
        | some (n, _) =>
          if s.led.readable n then s
          else
            match s.led.sealed_.find? (fun b => b.stream == x.num && b.written) with
            | some b => s.rewriteFrom x.num b.bseq
            | none => s.closeSeg x.num x.bseq x.lastSeal
        | none => s) s
    if !s.led.isMounted then s
    else if (List.range 4).any (fun k => (s.led.drive k).alive) then
      (s.onLed (fun l => { l with st := if l.st = .full then .full else if l.arrange = 0 then l.st else .degraded })).writeOut
    else s.onLed (fun l => { l with st := .failed })

/-- A command of a drive failed (R512: eight within 60 s lose the drive): its error and health logs are read (DEDUCED, log entries 42 and
66). -/
def State.driveFail (s : State) (d : Nat) : State :=
  let x := s.led.drive d
  let l := s.now :: x.errT.filter (fun t => decide (s.now < t + 60000000000))
  let s := s.onDrive d (fun x => { x with errs := satAdd 0xFFFF x.errs 1, errT := l })
  let s := s.onLed (fun l => (l.sendTo d .errorLog).sendTo d .smartLog)
  if 8 ≤ l.length then s.loseDrive d else s

/-! ### Mounting (R489, R497, R509, R518) -/

/-- The ledger mounts: what was missed meanwhile is told (Table 13-9), and staged batches are written (DEDUCED, log entry 42). -/
def State.mount (s : State) : State :=
  let s := s.onLed (fun l => { l with st := l.mountSt })
  (s.missGaps 5).writeOut

/-- What initialisation writes (R486, R487, R518): zeros over segments 0 to NTAB, the system entries, the shutdown record, the label and its
copy. -/
def State.initBlocks (s : State) : State :=
  let t := ntab s.led.nseg
  let s := s.onLed (fun l => (List.range (t + 1)).foldl (fun l n => l.issue n 0 (fun a => .writeZeroes a 256)) l)
  let s := s.onLed (fun l => ((List.range (t / 128 + 1)).foldl (fun l k => l.putEntry (128 * k)) l).writeShut 0 s.ptp)
  let b := s.labelBlock
  s.onLed (fun l => ((l.issue 0 0 (fun a => .write a b)).issue 0 1 (fun a => .write a b)).flush 0)

/-- LEDGER_INIT of a drive set (R518): segments zeroed, label written, keys of streams 0 and 255 made (R491), mounted. -/
def State.initLedger (s : State) : State :=
  let (k0, s) := s.draw
  let (k255, s) := s.draw
  let s := s.onTenant 0 (fun x => if x.dataKey.isEmpty then { x with dataKey := leBytes 32 k0 } else x)
  let s := s.onLed (fun l =>
    { l with
      kd255 := if l.kd255.isEmpty then leBytes 32 k255 else l.kd255
      labelSns := l.drives.map (fun d => if d.alive then d.sn else 0), nseg := l.countSegs, segs := [], stored := [], lowSent := false, initPtp := s.ptp
      drives := l.drives.map (fun d => { d with labelOk := d.alive })
      streams := l.streams.map (fun x =>
        { x with bseq := 0, durable := 0, chain := List.replicate 32 0, needKey := true, seg := none, lastSeal := 0, lastAddr := 0, tailLast := 0 }) })
  s.initBlocks.mount

end Sys2Proof.Machine
end

