-- ==== Sys2Proof/Machine/Queues.lean ====
section
/-! DEFINITION. Datagrams, credits, sessions, placement of records and events, decimation, storms, links (chapters 10 and 11). -/

namespace Sys2Proof.Machine

open Sys2Proof

/-! ### Datagrams (R405 to R409, R438) -/

/-- A port carries datagrams: the part is up and the link of the port is (R404, R423). -/
def State.portUp (s : State) (port : Nat) : Bool := s.pllOn && decide (port < 2) && s.links.testBit port

/-- DSEQ lies in the receive window (R438). -/
def Session.fresh (x : Session) (dseq : Nat) : Bool :=
  decide (x.rxHigh < dseq) || (decide (0 < dseq ∧ x.rxHigh ≤ dseq + 127) && !x.rxSeen.contains dseq)

/-- Step 1 of R406: form, authentication, replay. -/
def State.authentic (s : State) (d : Datagram) : Option Session :=
  match s.session? d.session with
  | some x => if d.formOk && d.authOk && x.fresh d.dseq then some x else none
  | none => none

/-- An authenticated datagram (R404, R438, R439): window, idle time, reply address; a DSEQ of 2^48 closes the session. -/
def State.accepted (s : State) (d : Datagram) : State :=
  let s := s.onSession d.session (fun x =>
    let high := Nat.max x.rxHigh d.dseq
    { x with rxHigh := high, rxSeen := (d.dseq :: x.rxSeen).filter (fun n => decide (high ≤ n + 127)), lastRx := s.now,
             port := d.port, addr := d.addr, udp := d.udp })
  if 2 ^ 48 ≤ d.dseq then s.closeSession d.session else s

/-- CHECK and ORDER of NET_DGDROP (Table 10-26). -/
def State.dropCheck (s : State) : State := s.bump 0x320014 0 16
def State.dropOrder (s : State) : State := s.bump 0x320014 16 16

/-- The checks of Table 10-7 on one train, but for free slots. -/
def trainCheck (t : List RawEntry) (tenant : Nat) : Status :=
  let es := t.map parseEntry
  match es.head? with
  | some a =>
    let same (e : Entry) : Bool := e.tag.kind == a.tag.kind && e.tag.tenant == a.tag.tenant && e.tag.channel == a.tag.channel
      && e.tag.corr == a.tag.corr && e.tag.tcnt == a.tag.tcnt
    if !t.all (fun b => rawChk b && rawOwn b) then .malformed
    else if !(t.all rawEnds && es.all same && a.tag.tcnt == es.length && es.map (fun e => e.tag.tidx) == List.range es.length
        && es.map (fun e => e.tag.seq) == (List.range es.length).map (fun i => (a.tag.seq + i) % 65536)) then .badTrain
    else if a.tag.kind = 0 ∨ 0x3F < a.tag.kind then .unknownKind
    else if a.tag.tenant ≠ tenant then .notPermitted
    else .ok
  | none => .badTrain

/-- A refusal written by the network island or the local port into the paired completion ring (R35, R406, R466) (DEDUCED, log entry 22). -/
def State.refusal (s : State) (e : Entry) (st : Status) : Entry :=
  { tag := { kind := 0x40, urgent := e.tag.urgent, tenant := e.tag.tenant, channel := e.tag.channel, corr := e.tag.corr,
             stepref := (s.refOf e.tag.channel).1, calgen := (s.refOf e.tag.channel).2 }
    payload := payload [fN 0 1 (statusCode st), fN 1 1 e.tag.kind, fN 2 2 0xFFFF] }

/-- A train is refused: one SEQ value for each entry, and its completion (R406 step 4). None where the completion ring is full. -/
def State.refuseTrain (s : State) (qn : Nat) (e : Entry) (n : Nat) (st : Status) : Option State :=
  match (s.queue? qn).bind (fun q => q.pair.bind s.queue?) with
  | some c =>
    if 1 ≤ c.free then
      let s := s.onQueue c.num (fun c => c.put [s.refusal e st])
      some (s.onQueue qn (fun q => { q with cack := (q.cack + n) % 65536, nseq := (q.nseq + n) % 65536, creditDue := true }))
    else none
  | none => none

/-- A train is placed in a command ring. -/
def State.placeTrain (s : State) (qn : Nat) (es : List Entry) : State :=
  s.onQueue qn (fun q => { q with ring := q.ring ++ es, cack := (q.cack + es.length) % 65536, nseq := (q.nseq + es.length) % 65536 })

/-- Step 4 of R406: trains in order (DEDUCED, log entry 22). -/
def State.takeTrains4 : Nat → Nat → Nat → List RawEntry → State → State
  | 0, _, _, _, s => s
  | _ + 1, _, _, [], s => s
  | k + 1, qn, tenant, b :: l, s =>
    match s.queue? qn with
    | some q =>
      let e := parseEntry b
      if e.tag.seq ≠ q.cack then (s.dropOrder).sendCredit qn
      else if e.tag.tcnt = 0 ∨ 15 < e.tag.tcnt ∨ l.length + 1 < e.tag.tcnt then
        (s.refuseTrain qn e (l.length + 1) .badTrain).getD s
      else
        let t := (b :: l).take e.tag.tcnt
        let st := trainCheck t tenant
        let st := if st = .ok ∧ q.free < t.length then .quota else st
        if st = .ok then State.takeTrains4 k qn tenant ((b :: l).drop e.tag.tcnt) (s.placeTrain qn (t.map parseEntry))
        else
          match s.refuseTrain qn e t.length st with
          | some s => State.takeTrains4 k qn tenant ((b :: l).drop e.tag.tcnt) s
          | none => s
    | none => s

/-- Step 2 of R406: an enabled command queue of the session's tenant, bound to the session, not local. -/
def State.cmdQueueOf (s : State) (x : Session) (qn : Nat) : Option Queue :=
  match s.queue? qn with
  | some q => if q.kind = .command ∧ q.tenant = x.tenant ∧ q.bind = some x.num ∧ !q.local_ ∧ !q.closing then some q else none
  | none => none

/-- TENANT_DATAGRAM (R406, R407, R438): an ENTRIES datagram (DEDUCED, log entry 22). -/
def execTenantDatagram (d : Datagram) (entries : List RawEntry) (s : State) : Out :=
  if !s.portUp d.port then .next s
  else if s.mode.mode = .boot then .next (s.bump 0x320018 0 32)
  else
    match s.authentic d with
    | some x =>
      if entries.isEmpty ∨ 15 < entries.length then .next s.dropCheck
      else
        let s := s.accepted d
        let s := if d.cvalid then s.takeCredit x.tenant d else s
        match s.cmdQueueOf x d.queue, entries.head? with
        | some q, some b =>
          if (parseEntry b).tag.seq ≠ q.cack then .next ((s.dropOrder).sendCredit d.queue)
          else .next (State.takeTrains4 15 d.queue x.tenant entries (s.bump 0x32000C 0 32))
        | _, _ => .next s.dropCheck
    | none => .next s.dropCheck

/-- TENANT_CREDIT (R407, R439): a CREDIT datagram. -/
def execTenantCredit (d : Datagram) (s : State) : Out :=
  if !s.portUp d.port then .next s
  else if s.mode.mode = .boot then .next (s.bump 0x320018 0 32)
  else
    match s.authentic d with
    | some x =>
      let s := (s.accepted d).bump 0x32000C 0 32
      .next (if d.cvalid then s.takeCredit x.tenant d else s)
    | none => .next s.dropCheck

/-! ### Establishment (R429 to R436, R440) -/

/-- The pair-role preference that holds (R440, R532): this part takes the lower numbers. -/
def State.preferred (s : State) : Bool :=
  let me := s.strap.testBit 0
  if me = s.board.pair.pPref then decide (s.serial < s.board.pair.pSerial) else me

/-- Session numbers this part may allocate (R440). -/
def State.sessRange (s : State) : List Nat :=
  if !s.board.pair.known then List.range 1024
  else if s.preferred then List.range 512 else (List.range 512).map (fun n => 512 + n)

/-- The free session numbers. -/
def State.freeSess (s : State) : List Nat :=
  s.sessRange.filter (fun n => !s.sessions.any (fun x => x.num == n) && !s.establish.any (fun e => e.num == n))

/-- A HELLO body is well formed (Table 11-2). -/
def helloOk (keyid : Nat) (nonceT share : List Byte) : Bool :=
  nonceT.length == 16 && (keyid == 0 || keyid == 1 || keyid == 15) && (if keyid = 15 then share.length == 97 else share.isEmpty)

/-- HELLO (R434): a CHALLENGE and a reserved session number, at most 16 at once; none to a throttled address (R435). -/
def execHello (addr t keyid : Nat) (nonceT share : List Byte) (s : State) : Out :=
  if !s.pllOn then .next s
  else if s.mode.mode = .boot then .next (s.bump 0x320018 0 32)
  else if s.throttles.any (fun x => x.addr == addr && x.till.isSome) then .next s
  else if !helloOk keyid nonceT share ∨ 16 ≤ s.establish.length then .next s.dropCheck
  else
    match s.pick s.freeSess with
    | (some n, s) =>
      let (np, s) := s.draw
      let body := leBytes 1 t ++ leBytes 1 keyid ++ zeros 2 ++ nonceT ++ share
      let signed := if keyid = 15 then Config.signedShare np (body ++ leBytes 16 np) else []
      .next { s with establish := s.establish ++ [{ num := n, tenant := t, keyid, nonceT, nonceP := np, share, addr, since := s.now }],
                     sent := .challenge n np signed :: s.sent }
    | (none, _) => .next s.dropCheck

/-- The input keying material and the salt of a session (R436); none where the part uses a random secret (R434). -/
def State.secretOf (s : State) (e : Establish) : Option (List Byte × List Byte) :=
  match s.tenant? e.tenant with
  | some x =>
    let salt := e.nonceT ++ leBytes 16 e.nonceP
    if x.suspended then none
    else if e.keyid = 0 then x.key0.map (fun k => (k, salt))
    else if e.keyid = 1 then x.key1.map (fun k => (k, salt))
    else
      let code := match x.code with
        | some c => if s.now < c.expiry then some c.code else none
        | none => if x.num = 0 ∧ !x.enrolled then some Config.houseCode else none
      code.map (fun c => (Config.ecdhP384 e.share e.nonceP, salt ++ c))
  | none => none

/-- The mode accepts a new session (Table 03-4). -/
def State.newSessOk (s : State) (t : Nat) : Bool :=
  match s.mode.mode with
  | .ready | .run | .degraded | .twin | .service => true
  | .lockout => t == 0
  | _ => false

/-- A REFUSE with AUTH_FAILED counts against its source address (R435). -/
def State.authFail (s : State) (addr : Nat) : State :=
  let old := (s.throttles.find? (fun x => x.addr == addr)).getD { addr }
  let l := s.now :: old.fails.filter (fun t => decide (s.now < t + 60000000000))
  let hit := decide (8 ≤ l.length)
  let new : Throttle := { addr, fails := if hit then [] else l, till := if hit then some (s.now + 60000000000) else none }
  let s := { s with throttles := new :: s.throttles.filter (fun x => x.addr != addr) }
  if hit then s.fault 0x09 0x03 else s

/-- CONFIRM (R435, R436, R89). `macOk` says that the MAC verifies under the keys of R436. -/
def execConfirm (addr session : Nat) (macOk : Bool) (s : State) : Out :=
  if !s.pllOn then .next s
  else if s.mode.mode = .boot then .next (s.bump 0x320018 0 32)
  else
  match s.establish.find? (fun e => e.num == session) with
  | some e =>
    let s := { s with establish := s.establish.filter (fun e => e.num != session) }
    let refuse (s : State) (st : Status) : State := { s with sent := .refuse session (statusCode st) :: s.sent }
    match s.secretOf e with
    | some (ikm, salt) =>
      if !macOk then .next ((refuse s .authFailed).authFail addr)
      else if !s.newSessOk e.tenant then .next (refuse s .wrongMode)
      else if (s.tenant? e.tenant).elim true (fun x => decide (x.qSess ≤ (s.sessions.filter (fun y => y.tenant == e.tenant)).length)) then
        .next (refuse s .quota)
      else
        let info : List Byte := [0x53, 0x56, 0x37, 0x32, 0x36, 0x34, 0x20, 0x53] ++ leBytes 1 e.tenant ++ leBytes 2 session ++ leBytes 8 s.serial
        let keys := Config.hkdfSession ikm salt info
        let hello := leBytes 1 e.tenant ++ leBytes 1 e.keyid ++ zeros 2 ++ e.nonceT ++ e.share
        let chal := leBytes 16 e.nonceP ++ (if e.keyid = 15 then Config.signedShare e.nonceP (hello ++ leBytes 16 e.nonceP) else [])
        let mac := Config.hmacSha256 (sliceB keys 64 32) ([0x50] ++ Config.sha256 (hello ++ chal))
        .next { s with sessions := s.sessions ++ [{ num := session, tenant := e.tenant, keyid := e.keyid, keys, lastRx := s.now, addr }],
                       sent := .accept session mac :: s.sent }
    | none => .next ((refuse s .authFailed).authFail addr)
  | none => .next s

/-- CLOSE (R439, R89): an authenticated CLOSE ends the session. -/
def execClose (d : Datagram) (s : State) : Out :=
  if s.portUp d.port && s.mode.mode == .boot then .next (s.bump 0x320018 0 32)
  else if s.portUp d.port && d.formOk && d.authOk && (s.session? d.session).isSome then .next (s.closeSession d.session)
  else if s.portUp d.port then .next s.dropCheck else .next s

/-- ESTABLISHMENT_EXPIRY (R434): 1,000 ms without CONFIRM. -/
def execEstablishmentExpiry (session : Nat) (s : State) : Out :=
  .next { s with establish := s.establish.filter (fun e => !(e.num == session && decide (e.since + 1000000000 ≤ s.now))) }

/-- SESSIDLE_EXPIRY (R439). -/
def execSessidleExpiry (session : Nat) (s : State) : Out :=
  match s.session? session with
  | some x => if x.lastRx + s.sessidle * 1000000000 ≤ s.now then .next (s.closeSession session) else .next s
  | none => .next s

/-- AUTH_THROTTLE_END (R435). -/
def execAuthThrottleEnd (addr : Nat) (s : State) : Out :=
  .next { s with throttles := s.throttles.filter (fun x => !(x.addr == addr && (match x.till with | some t => decide (t ≤ s.now) | none => false))) }

/-- ENROLMENT_CODE_EXPIRY (R429). -/
def execEnrolmentCodeExpiry (t : Nat) (s : State) : Out :=
  .next (s.onTenant t (fun x =>
    match x.code with | some c => if c.expiry ≤ s.now then { x with code := none } else x | none => x))

/-! ### Frames (R89, R403) -/

/-- UNSUPPORTED_FRAME (R403). -/
def execUnsupportedFrame (port : Nat) (s : State) : Out := if s.portUp port then .next (s.bump 0x320010 0 32) else .next s

/-- ICMP_ECHO (R403): answered after BOOT, in which the network answers PTP only (Table 03-3), at most 100 times within any second on a port, to the address that it came from
(DEDUCED, log entry 22). -/
def execIcmpEcho (port addr : Nat) (s : State) : Out :=
  let l := s.board.echoes.filter (fun e => decide (s.now < e.2 + 1000000000))
  if s.portUp port && s.mode.mode != .boot && decide ((l.filter (fun e => e.1 == port)).length < 100) then
    .next { s.onBoard (fun b => { b with echoes := (port, s.now) :: l }) with sent := .icmpReply port addr :: s.sent }
  else .next s

/-- ADDRESS_RESOLUTION (R403): a request for the part's own address is answered, but in BOOT (Table 03-3). -/
def execAddressResolution (port : Nat) (forUs : Bool) (s : State) : Out :=
  if s.portUp port && s.mode.mode != .boot && forUs then .next { s with sent := .addrReply port :: s.sent } else .next s

/-- BOOT_DATAGRAM_DROP (R89). -/
def execBootDatagramDrop (s : State) : Out := if s.mode.mode = .boot then .next (s.bump 0x320018 0 32) else .next s

/-- ETH_LINK_DOWN (R423). -/
def execEthLinkDown (port : Fin 2) (s : State) : Out :=
  if s.links.testBit port.val then
    let s := { s with links := setBits s.links port.val 1 0 }
    .next (if modeUp s.mode.mode then s.fault 0x09 0x01 else s)
  else .next s

/-- ETH_LINK_UP (R404). -/
def execEthLinkUp (port : Fin 2) (s : State) : Out := .next { s with links := setBits s.links port.val 1 1 }

/-! ### Sending (R408 to R410) -/

/-- COMMAND_CREDIT_SEND (R408): a CLIMIT has risen, and 100 µs have passed; the credit rides in a completion datagram when one is due. -/
def execCommandCreditSend (q : Nat) (s : State) : Out :=
  match s.queue? q with
  | some x =>
    if x.kind = .command ∧ x.creditDue ∧ x.creditT + 100000 ≤ s.now then
      match x.pair.bind s.queue? with
      | some c =>
        if (takeTrains 15 15 (c.sendable c.sent)).isEmpty ∨ (s.via c).isNone then .next (s.sendCredit q) else .next (s.sendEntries c.num 15)
      | none => .next (s.sendCredit q)
    else .next s
  | none => .next s

/-- ENTRY_SEND (R409): up to n entries of a part-produced queue. -/
def execEntrySend (q n : Nat) (s : State) : Out := .next (s.sendEntries q n)

/-- RETX_EXPIRY (R409): CACK has not advanced for RETX: entries go again from CACK. -/
def execRetxExpiry (q : Nat) (s : State) : Out :=
  match s.queue? q with
  | some x =>
    match s.via x with
    | some n =>
      let out := (x.sent + 65536 - x.cack) % 65536
      if x.kind ≠ .command ∧ 0 < out ∧ x.ackT + s.fld 0x320004 0 8 * 1000000 ≤ s.now then
        let ds := datagrams out ((x.sendable x.cack).take out)
        let s := s.onQueue q (fun x => { x with ackT := s.now })
        .next (ds.foldl (fun s es => s.sendIn n (.entries n q true none es)) s)
      else .next s
    | none => .next s
  | none => .next s

/-! ### Completions, records and events -/

/-- A completion is the next of its command queue, which is paired with completion queue q (R395, R396). -/
def State.dueIn (s : State) (q : Nat) (r : Reply) : Bool :=
  match s.queue? r.head.queue with
  | some c => c.kind == .command && c.pair == some q && r.head.ticket == c.written
  | none => false

/-- A completion leaves the list of those waiting and is counted for its command queue; a deleted command queue goes with its last
completion (R383) (DEDUCED, log entry 24). -/
def State.writeReply (s : State) (r : Reply) : State :=
  let s := { s with inflight := s.inflight.erase r }.onQueue r.head.queue (fun c => { c with written := c.written + 1 })
  { s with queues := s.queues.filter (fun q => !(q.closing && q.kind == .command && q.written == q.claims)) }

/-- The entries of a completion enter its ring in place of the slots reserved for it (R395). -/
def Queue.takeReply (y : Queue) (r : Reply) : Queue := { y with reserved := y.reserved - r.head.resv }.put r.train

/-- COMMAND_COMPLETION (R30, R41, R395, R396): the next completion of the command queue paired with this completion queue is written. -/
def execCommandCompletion (q : Nat) (s : State) : Out :=
  match s.inflight.find? (s.dueIn q), s.queue? q with
  | some r, some y =>
    if s.stewardOn ∧ r.train.length ≤ y.free + r.head.resv then .next ((s.writeReply r).onQueue q (fun y => y.takeReply r)) else .next s
  | _, _ => .next s

/-- A record may be taken now: it waits neither for its twin nor for ring space of its fetch, nor behind a held one of its channel. -/
def State.recReady (s : State) (held : List Nat) (r : RecIn) : Bool :=
  r.holdT.isNone && (match r.queue with
    | some q => (match s.queue? q with | some y => y.closing || decide (r.payloads.length ≤ y.settle.free ∧ y.settle.hold.isEmpty) | none => true)
    | none => !(decide (r.channel < 64) && held.contains r.channel))

/-- The first record that may be taken, and the others (DEDUCED, log entry 7). -/
def State.takeRec (s : State) : List Nat → List RecIn → Option (RecIn × List RecIn)
  | _, [] => none
  | held, r :: l =>
    if s.recReady held r then some (r, l)
    else
      match s.takeRec (if r.queue.isNone then r.channel :: held else held) l with
      | some (x, l') => some (x, r :: l')
      | none => none

/-- Place a record in one queue; entering OVERFLOW raises Q_OVERFLOW (R400, R423). -/
def State.recInto (s : State) (q : Nat) (es : List Entry) (periodic : Bool) (t : Nat) : State :=
  match s.queue? q with
  | some y =>
    let r := y.placeRec es periodic t
    let s := s.onQueue q (fun _ => r.1)
    if r.2 then s.fault 0x06 0x01 else s
  | none => s

/-- A periodic record at decimation level L: placed only on its grid, with DECIM, and with LOSS after a rise (R460) (DEDUCED, log entry 21). -/
def State.decimate (s : State) (r : RecIn) : State × Option (List Entry) :=
  match s.tenant? (destOf r.tenant) with
  | some t =>
    let per := match chan? r.channel with | some c => outPeriod (s.fld (chA c 0xC0) 0 4) | none => 1
    if r.time % (2 ^ t.decim * per) ≠ 0 then (s, none)
    else
      let es := ({ r with payloads := r.payloads.map (fun p => putAt p 20 (leBytes 1 t.decim)) } : RecIn).train
      if t.decimLoss.contains r.channel then
        (s.onTenant t.num (fun t => { t with decimLoss := dropAll r.channel t.decimLoss }), some (markLoss es))
      else (s, some es)
  | none => (s, some r.train)

/-- A non-periodic record counts in N of its tenant (R459). -/
def State.countOther (s : State) (t : Nat) : State :=
  s.onTenant t (fun x => { x with otherRecs := s.now :: x.otherRecs.filter (fun u => decide (s.now < u + 1000000000)) })

/-- A part in TWIN places no record in a tenant's ring (R531); a fetch from its own ledger goes to the queue that asked for it. -/
def State.twinMute (s : State) (r : RecIn) : Bool := s.mode.mode == .twin && r.queue.isNone

/-- What is staged (R398, R531): in TWIN, the part's own faults, and its own SAMPLE records while in sync (DEDUCED, log entry 25). -/
def State.stages (s : State) (r : RecIn) : Bool :=
  r.staged && (s.mode.mode != .twin || r.tenant == 255 || (r.kind == 0x60 && s.board.pair.sync == 2))

/-- The owner copies every staged record but a SAMPLE to a partner that is in sync (R531, R533) (DEDUCED, log entry 25). -/
def State.copyRec (s : State) (r : RecIn) : State :=
  if s.board.owner && s.board.formed && s.board.linkUp && s.board.pair.sync == 2 && r.staged && r.kind != 0x60 then
    s.sendZl (.recCopy r.train)
  else s

/-- RECORD_PLACE (R398 to R401, R454, R460): ledger staging, then the rings. -/
def execRecordPlace (s : State) : Out :=
  match s.takeRec [] s.recFifo with
  | some (r, l) =>
    let s := { s with recFifo := l }
    let s := (if s.stages r then s.stage r.tenant r.train r.periodic else s).copyRec r
    if s.twinMute r then .next s
    else
      let qs := s.recQueues r
      let (s, es) := if r.periodic then s.decimate r else (s.countOther (destOf r.tenant), some r.train)
      match es with
      | some es => .next (qs.foldl (fun s q => s.recInto q es r.periodic r.time) s)
      | none => .next s
  | none => .next s

/-- EVENT_PLACE (R456, R472): an event without a queue to take it is not received. -/
def execEventPlace (s : State) : Out :=
  match s.evtFifo with
  | e :: l =>
    let s := { s with evtFifo := l }
    .next ((s.evtQueues e).foldl (fun s q => s.placeEvt e.dest q e.train e.kind e.channel) s)
  | [] => .next s

/-- COALESCED_PLACE (R457): the oldest coalesced entry of a class, with LOSS (DEDUCED, log entry 26). -/
def execCoalescedPlace (t cls : Nat) (s : State) : Out :=
  match s.tenant? t with
  | some x =>
    match oldestOf x.coal cls with
    | some c =>
      let s := s.onQueue c.queue Queue.settle
      match s.queue? c.queue with
      | some q =>
        if x.hasToken cls s.now && decide (c.entries.length ≤ q.free) then
          let s := s.onTenant t (fun x => ({ x with coal := x.coal.erase c } : Tenant).takeToken cls s.now)
          let s := s.onQueue c.queue (fun q => { q.push (markLoss c.entries) with losspend := false })
          .next ((s.stormCount t cls (fun n => { n with placed := n.placed + 1 })).stormStir t)
        else .next s
      | none => .next (s.onTenant t (fun x => { x with coal := x.coal.erase c }))
    | none => .next s
  | none => .next s

/-! ### Decimation and storms (R459, R461) -/

/-- The rate of a tenant's periodic records at level 0 (R459): its executing channels and gangs at their OUTRATE (DEDUCED, log entry 25). -/
def State.periodicRate (s : State) (t : Nat) : Nat :=
  ((allChans.filter (fun c => s.ownerOf c.val == t && !s.follower c && stExec (s.chan c).loop.st)).map
    (fun c => rateOf (s.fld (chA c 0xC0) 0 4))).sum

/-- The smallest L from 0 to 15 with P / 2^L + N ≤ RECRATE (DEDUCED, log entry 25). -/
def decimLevel (p n rate : Nat) : Nat := ((List.range 16).find? (fun l => decide (p + n * 2 ^ l ≤ rate * 2 ^ l))).getD 15

/-- The level of one tenant is set. -/
def State.setDecim (s : State) (t : Tenant) : State :=
  let n := (t.otherRecs.filter (fun u => decide (s.now < u + 1000000000))).length
  let want := decimLevel (s.periodicRate t.num) n t.qRecRate
  let new := if t.decim < want then want
             else if want < t.decim ∧ t.decimT + 1000000000 ≤ s.now then t.decim - 1 else t.decim
  let chans := (allChans.filter (fun c => s.ownerOf c.val == t.num)).map Fin.val
  let s := s.onTenant t.num (fun x => { x with decim := new, decimT := if new = t.decim then x.decimT else s.now,
                                               decimLoss := if t.decim < new then chans else x.decimLoss })
  if new = 0 then s
  else
    let s := (s.stormBegin t.num).stormStir t.num
    let s := s.onTenant t.num (fun x => { x with storm := x.storm.map (fun w => { w with maxL := Nat.max w.maxL new }) })
    { s with storm := s.storm.map (fun w => { w with maxL := Nat.max w.maxL new }) }

/-- DECIMATION_UPDATE (R459). -/
def execDecimationUpdate (s : State) : Out := .next (s.tenants.foldl (fun s t => s.setDecim t) s)

/-- The five counts of a class. -/
def StormCnt.bytes (c : StormCnt) : List Byte :=
  leBytes 4 c.arrived ++ leBytes 4 c.single ++ leBytes 4 c.coal ++ leBytes 4 c.placed ++ leBytes 4 c.dropped

/-- A storm-summary event (R461, Table 12-24). -/
def State.stormEvt (s : State) (w : Storm) (tenant dest : Nat) : State :=
  s.pushEvt { kind := 0xAA, tenant, dest, time := s.ptp,
              payloads := [payload [fN 0 8 w.start, fN 8 8 s.ptp, fN 16 1 w.maxL, (20, w.c0.bytes)], payload [(0, w.c1.bytes), (20, w.c2.bytes)]] }

/-- STORM_END (R461): the coalescing table empty, every bucket at half or more and L at 0, all for STORMQUIET (DEDUCED, log entry 26). -/
def execStormEnd (t : Nat) (s : State) : Out :=
  match s.tenant? t with
  | some x =>
    match x.storm with
    | some w =>
      if x.coal.isEmpty ∧ x.decim = 0 ∧ w.calmT + s.stormquiet * 100000000 ≤ s.now then
        let s := (s.onTenant t (fun x => { x with storm := none })).stormEvt w t t
        if s.tenants.any (fun y => y.storm.isSome) then .next s
        else
          match s.storm with
          | some p => .next (({ s with storm := none }).stormEvt p 255 0)
          | none => .next s
      else .next s
    | none => .next s
  | none => .next s

end Sys2Proof.Machine
end

