-- ==== Sys2Proof/Machine/BootOps.lean ====
section
/-! DEFINITION. BOOT: the image check, what NVM gives back, the restored programs, the entry to READY, DEGRADED or TWIN; warm resets
and block resets as shared operations (chapters 03 and 18). -/

namespace Sys2Proof.Machine

open Sys2Proof

/-! ### Boot images (R646 to R650) -/

def Flash.slot (f : Flash) (n : Nat) : Slot := if n = 0 then f.slot0 else f.slot1

/-- SECVER of an image (Table 18-4). -/
def Slot.secver (x : Slot) : Nat := numAt x.image 12 4

/-- The fingerprint of NVM_HKEY as 48 bytes (Table 18-31). -/
def State.houseKey (s : State) : List Byte := ((List.range 12).map (fun i => leBytes 4 (s.reg (0x090040 + 4 * i)))).flatten

/-- R649: what the header and NVM decide. `sig` says that the body hash and the signatures verify (DESIGN CHOICE, log entry 48). -/
def State.imageOk (s : State) (x : Slot) (sig : Bool) : Bool :=
  numAt x.image 0 4 == 0x4D495653 && decide (1024 + numAt x.image 16 4 ≤ 7 * 1048576) && sig && decide (s.nvm.minSecver ≤ x.secver)
    && (!s.nvm.hken || ((numAt x.image 20 4).testBit 0 && Config.sha384 (sliceB x.image 168 97) == s.houseKey))

/-- The slot that is checked first (R649, Table 18-5). -/
def State.firstSlot (s : State) : Nat := if s.strap.testBit 1 then s.flash.primary else 1 - s.flash.primary

/-! ### What BOOT loads (R101, R342, R364, R371) -/

/-- The meters at a BOOT (R371): the snapshot interval continues while the calendar is inside it; otherwise it closes at the snapshot
time. Without a snapshot a new interval opens. The tariff is found again. -/
def State.bootMeters (s : State) : State :=
  if !s.optM then s
  else
    let c := s.board.time.cal
    let st := s.met.startCal
    let aligned : Bool := c.mins % s.demint == 0 && c.second == 0
    let inside : Bool := s.board.time.valid && decide (c.year = st.year ∧ c.month = st.month ∧ c.day = st.day)
      && c.mins / s.demint == st.mins / s.demint
    let s :=
      if s.met.snapshot then
        let s := { s with met := { s.met with partial_ := true } }
        if inside then s else (s.closeInterval s.met.snapT).openInterval s.ptp (!aligned)
      else s.openInterval s.ptp (!aligned)
    s.findTariff 2 s.ptp false

/-- Estimators at a BOOT (R342): after Lehr the channels in the resume area keep their state and wait for their checks; at any other
BOOT every channel with learned parameters is declared changed. -/
def State.bootEst (s : State) : State :=
  if s.met.snapshot then s
  else
    s.forChans allChans (fun c s =>
      let e := (s.chan c).est
      if e.cmeas.isSome || e.k.isSome || e.isd.isSome || e.dcir.isSome then s.cellChange c 2 else s)

/-- A program of the resume area is back, paused, under its lease (R101, R103); the channel leaves RELEASED as PAUSED. -/
def State.restoreChan (s : State) (c : ChanNo) : State :=
  let x := s.chan c
  if x.resume then
    let s := s.onLoop c (fun l => if l.st = .released then { l with before := .paused } else l)
    s.chanEvt 0xA3 c [payload [fN 0 1 x.prog.imggen, fN 1 1 1, fN 2 2 x.prog.live.length, fN 4 2 x.prog.pc, fN 8 8 s.ptp]]
  else s

/-- Eloawen writes the NVM copy back into every PWR and HLD register whose KEEP value differs (R581); PWR takes it at the next WAKE (R617). -/
def State.copyBack (s : State) : State :=
  s.nvm.regs.foldl (fun s x =>
    if x.1 / 65536 = 6 then
      if ((s.board.pwr.next.find? (fun y => y.1 == x.1)).map Prod.snd).getD (s.reg x.1) = x.2 then s
      else s.onPwr (fun p => { p with next := p.next.filter (fun y => y.1 != x.1) ++ [x] })
    else s.setReg x.1 x.2) s

/-- The image is accepted (Table 18-2): SYS_FWVER, the Gathers are released to calibrate, NVM is loaded. The check of each
impedance engine passes unless its fault is reported (R324). -/
def State.acceptImage (s : State) (n : Nat) : State :=
  let b := (s.flash.slot n).image
  let s := { s with fw := some (numAt b 6 1, numAt b 7 1, numAt b 8 4), flash := { s.flash with running := n } }
  let s := { s with gathers := s.gathers.map (fun (g : Gather) => { g with inReset := false, calibrated := false, rotT := s.now, eisOk := true }) }
  let s := allGathers.foldl (fun s g => s.alignGather g) s
  let t := s.copyBack.bootMeters.bootEst
  { t with met := { t.met with snapshot := false } }

/-- The minimum SECVER rises when an image first reaches READY or TWIN (R650). -/
def State.raiseSecver (s : State) : State :=
  let v := (s.flash.slot s.flash.running).secver
  if s.nvm.minSecver < v then s.keepNvm 0 (fun s => { s with nvm := { s.nvm with minSecver := v } }) else s

/-- BOOT ends in READY or DEGRADED (Table 03-2): the part is alone or has won arbitration and holds the Pipe. A FENCE_IN that is still high has
been answered by this taking: its fall alone lets the part drive (DESIGN CHOICE, log entry 62). -/
def State.bootOwner (s : State) : State :=
  let s := s.raiseSecver.onBoard (fun b =>
    { b with owner := true, barred := false, pipeOut := s.optT, pair := { b.pair with rcPrimary := true } })
  let s := s.forChans allChans (fun c s => s.restoreChan c)
  (s.enterMode (if s.anyFence then .degraded else .ready) 6 0).settle

/-- BOOT ends in TWIN (R16, R85, Table 03-2). -/
def State.bootTwin (s : State) : State :=
  let s := s.raiseSecver.onBoard (fun b => { b with owner := false, pipeOut := false, pair := { b.pair with rcPrimary := false } })
  (s.enterMode .twin 7 0).settle

/-- The part has ended its BOOT work: an image runs and every Gather that is not fenced has calibrated. -/
def State.bootDone (s : State) : Bool :=
  s.mode.mode == .boot && s.fw.isSome && allGathers.all (fun g => (s.gat g).calibrated || s.fenced (uGat g))

/-! ### Warm resets (R640, R656) -/

/-- The ledger's quiesce timeout in ns (Table 18-15). -/
def State.lqTo (s : State) : Nat := s.fld 0x010008 16 8 * 10000000

/-- A warm reset begins (R640): every island but KEEP and the ledger is held, balls go high impedance, no channel ramps. The ledger
quiesces first when it runs: its batches are sealed with cause QUIESCE (R507). -/
def State.warmReset (s : State) (src : Nat) : State :=
  if !modeUp s.mode.mode ∨ s.rst.warm then s
  else
    let s := s.cancelDeferred
    let s := s.forChans allChans (fun c s => (s.collect c).releaseChan c)
    let s := if s.led.running && s.led.isMounted then s.sealAll 3 else s
    let led := s.led
    let run := led.running && led.isMounted
    let mode := s.mode
    let limit := s.now + s.lqTo
    let s := s.clearedWarm
    let s := { s with mode, strapValid := false,
                      rst := { s.rst with kind := 2, source := src, warms := satAdd 0xFFFF s.rst.warms 1, warm := true, ledgerQuiesce := run, quiesceT := limit } }
    let s := s.onBoard (fun b => { b with owner := false, pipeOut := false, fenceOut := false })
    if run then s.onLed (fun _ => led) else s

/-- The ledger island is held (R507): SHUT CLEAN once every batch was durable, TIMEOUT otherwise; staging is lost. -/
def State.holdLedger (s : State) (timeout : Bool) : State :=
  let s := if timeout then s else s.durable
  let shut := if timeout || !s.led.sealed_.isEmpty then 2 else 1
  let s := { s with inflight := [] }
  let s := if s.led.isMounted then s.onLed (fun l => (l.writeShut shut s.ptp).endQueues) else s
  let s := s.onLed Ledger.kept
  { s with rst := { s.rst with ledgerQuiesce := false } }

/-! ### Block resets (R654, R655, Table 18-6) -/

/-- A block is in reset. -/
def State.inBlockReset (s : State) (u : Nat) : Bool := s.rst.blocks.any (fun b => b.block == u)

/-- The blocks that a block reset can name (Table 18-6). -/
def blockOk (u : Nat) : Bool := u == 4 || decide (7 ≤ u ∧ u ≤ 0x0B) || decide (0x10 ≤ u ∧ u ≤ 0x17)

/-- Sweeps of a Gather end with EIS_UNAVAIL (R324). -/
def State.endSweeps (s : State) (g : GatherNo) : State :=
  s.forChans (chansOf g) (fun c s =>
    if (s.chan c).eis.phase ≠ 0 ∨ (stExec (s.chan c).loop.st ∧ stepKind (s.chan c).cur = 9) then s.faultStop c [0x14] else s)

/-- The quiesce of a block is requested (Table 18-6). -/
def State.quiesce (s : State) (u : Nat) : State :=
  if u = 7 then { s with dma := s.dma.map (fun d => if d.state = .running then { d with state := .stopping } else d) }
  else if u = 8 then (if s.led.running && s.led.isMounted then s.sealAll 3 else s)
  else if u = 0x0B then allGathers.foldl (fun s g => s.endSweeps g) s
  else
    match gather? (u - 0x10) with
    | some g => if 0x10 ≤ u then s.forChans (chansOf g) (fun c s => s.collect c) else s
    | none => s

/-- The registers of an address range return to their reset values. -/
def State.clearRegs (s : State) (lo hi : Nat) : State := { s with regs := s.regs.filter (fun x => !decide (lo ≤ x.1 ∧ x.1 < hi)) }

/-- A Gather is held and released (R111, R183, R242, R103): it aligns to the common epoch and calibrates, and its channels come up RELEASED and then STOPPED, without a
program unless the resume area holds one; leases and their limits are written back. -/
def State.resetGather (s : State) (g : GatherNo) : State :=
  let s := (s.abortCommits (chansOf g)).abortSlot g
  let s := s.forChans (chansOf g) (fun c s => (s.withdraw c).releaseChan c)
  let s := s.clearRegs (gA g 0) (gA g 0x10000)
  let s := (s.onGat g (fun y => { y.kept with inReset := false, deferred := y.deferred, rotT := s.now, eisOk := !s.fenced (uEis g) })).alignGather g
  let s := s.forChans (chansOf g) (fun c s => (s.onChan c (fun x => let y := x.kept false; { y with est := x.est, prog := { y.prog with shadow := x.prog.shadow, shLen := x.prog.shLen } })).restoreChan c)
  s.leases.foldl (fun s l => if l.1 / 8 = g.val then s.leaseRegs l.1 l.2.f else s) s

/-- The ports of the tray bus through a TRAY block reset (R635): a transfer through TRAY_XCTL ends ABORTED, the mailbox is emptied,
identities and KNOWN stay. -/
def State.resetTray (s : State) : State :=
  let l := allPorts.filter s.xferring
  let s := allPorts.foldl (fun s p => (s.takeCfg p).clearRegs (trA p 4) (trA p 0x80)) s
  (s.xferAborted l).onBoard (fun b => { b with tray := b.tray.map (fun t =>
    { fails := t.fails, firstDone := t.firstDone, freeT := s.now + 50000, pollT := t.pollT, alertT := t.alertT, lockT := t.lockT }) })

/-- What a block's reset does (Table 18-6). -/
def State.resetBlock (s : State) (u : Nat) : State :=
  if u = 4 then s.resetTray
  else if u = 7 then
    { s.clearRegs 0x300000 0x300500 with dma := s.dma.map (fun d => { state := .stopped, cur := d.cur }) }
  else if u = 8 then
    s.startLedger
  else if u = 9 then
    let s := { s with queues := s.queues.map (fun (q : Queue) => if q.kind == QKind.command then q else { q with sent := q.cack }) }
    s.onTime (fun (t : TimeSt) => if t.ptp == PtpSt.unset || t.ptp == PtpSt.seeded then { t with slave := 3, rank0 := none, rank1 := none }
                       else { t with ptp := .holdover, holdT := s.now, slave := 3, rank0 := none, rank1 := none, inN := 0, outN := 0 })
  else if u = 0x0A then
    s.onBoard (fun b => { b with pair := { b.pair with lanes := 0, run0 := 0, run1 := 0, sync := 0, epochLock := false, resyncT := none,
                                                       fseqIn := [], fseqOut := [], lastItems := [], hbMissed := true } })
  else if u = 0x0B then s
  else
    match gather? (u - 0x10) with
    | some g => if 0x10 ≤ u then s.resetGather g else s
    | none => s

end Sys2Proof.Machine
end

