-- ==== Sys2Proof/Machine/FaultOps.lean ====
section
/-! DEFINITION. The fault collector (R673 to R680), the event router (R664 to R671) and the watchdogs (R657 to R663) as shared
operations. -/

namespace Sys2Proof.Machine

open Sys2Proof

/-! ### Event router -/

/-- The state of a shared source; its reset state when nothing has touched it. -/
def Evr.src (e : Evr) (i : Nat) : EvrSrc := (e.srcs.find? (fun x => x.id == i)).getD { id := i }

/-- Sources stand in rising order, and none equals its reset state. -/
def putSrc (x : EvrSrc) : List EvrSrc → List EvrSrc
  | [] => if x = { id := x.id } then [] else [x]
  | y :: l =>
    if x.id < y.id then (if x = { id := x.id } then y :: l else x :: y :: l)
    else if x.id = y.id then (if x = { id := x.id } then l else x :: l)
    else y :: putSrc x l

def State.onSrc (s : State) (i : Nat) (f : EvrSrc → EvrSrc) : State :=
  { s with evr := { s.evr with srcs := putSrc (f (s.evr.src i)) s.evr.srcs } }

/-- EVR_SRCi (Table 18-22). -/
def State.srcReg (s : State) (i : Nat) : Nat := s.reg (0x031000 + 4 * (i - 0x100))

/-- A source number of Table 18-8. -/
def srcOk (i : Nat) : Bool := decide (0x100 ≤ i ∧ i < 0x300)

/-- The router takes a change of a source's input (R665, R666, R669, R670) (DESIGN CHOICE, log entry 45). -/
def State.evrAccept (s : State) (i : Nat) (level : Bool) : State :=
  let x := s.evr.src i
  if !srcOk i ∨ x.line = level then s
  else
    let ty := bitsOf (s.srcReg i) 6 2
    if ty = 0 then
      if level then
        s.onSrc i (fun x => { x with line := true, count := satAdd 255 x.count 1, pend := true, pendT := s.now })
      else s.onSrc i (fun x => { x with line := false, pend := x.pend && s.evr.deliv.contains (some i) && x.claimed.isNone })
    else
      let hit := (ty = 1 ∧ level) ∨ (ty = 2 ∧ !level) ∨ ty = 3
      s.onSrc i (fun x =>
        if hit then { x with line := level, count := satAdd 255 x.count 1, pend := true, pendT := if x.pend then x.pendT else s.now }
        else { x with line := level })

/-- A short pulse of an internal source: it passes the router only with the filter off (R665) (DESIGN CHOICE, log entry 45). -/
def State.evrPulse (s : State) (i : Nat) : State :=
  if bitsOf (s.srcReg i) 8 12 = 0 then (s.evrAccept i true).evrAccept i false else s

/-- A source may be delivered to a core now (R666, R667); `grace` admits one whose EN was cleared within 3 router cycles (R668)
(DESIGN CHOICE, log entry 45). -/
def State.deliverable (s : State) (core : Nat) (grace : Bool) (x : EvrSrc) : Bool :=
  let w := s.srcReg x.id
  let g := bitsOf w 24 4
  let held := match s.evr.holdT.find? (fun h => h.1 == g) with
    | some h => decide (s.now < h.2 + s.fld (0x030100 + 4 * g) 0 16 * 64)
    | none => false
  let en := w.testBit 5 || (grace && (match x.offT with | some t => decide (x.pendT ≤ t ∧ t ≤ x.pendT + 12) | none => false))
  x.pend && x.claimed.isNone && bitsOf w 0 2 == core && en && !held

/-- The better of two candidates: the higher PRIO, and on a tie the lower number (R666). -/
def State.better (s : State) (a b : EvrSrc) : EvrSrc :=
  if bitsOf (s.srcReg a.id) 2 3 < bitsOf (s.srcReg b.id) 2 3 then b else a

/-- The router delivers to a core. Whether a source whose EN has just been cleared is still delivered is a free choice (R668)
(DESIGN CHOICE, log entry 45). -/
def State.evrDeliver (s : State) (core : Nat) : State :=
  if (s.evr.deliv.getD core none).isSome then s
  else
    let (n, s) := s.draw
    let grace := n % 2 == 1
    match s.evr.srcs.filter (s.deliverable core grace) with
    | a :: l =>
      let x := l.foldl s.better a
      let g := bitsOf (s.srcReg x.id) 24 4
      let s := { s with evr := { s.evr with deliv := s.evr.deliv.set core (some x.id),
                                            holdT := (g, s.now) :: s.evr.holdT.filter (fun h => h.1 != g) } }
      s.onSrc x.id (fun y => { y with offT := none })
    | [] => s

/-- A read of EVR_CLAIMc (R666, R669): the source, NONE or VANISHED. -/
def State.evrClaim (s : State) (core : Nat) : Nat × State :=
  match s.evr.deliv.getD core none with
  | some i =>
    let s := { s with evr := { s.evr with deliv := s.evr.deliv.set core none } }
    let level := bitsOf (s.srcReg i) 6 2 == 0
    if level && !(s.evr.src i).line then (0xFFE, s.onSrc i (fun x => { x with pend := false }))
    else (i, s.onSrc i (fun x => { x with claimed := some core, pend := x.pend && level }))
  | none => (0xFFF, s)

/-- A source is completed: a level that is still asserted, or an edge since the claim, is pending again (R666, R670, R671). -/
def State.evrDone (s : State) (i : Nat) : State :=
  let level := bitsOf (s.srcReg i) 6 2 == 0
  s.onSrc i (fun x => { x with claimed := none, pend := if level then x.line else x.pend, pendT := s.now })

/-- A write of EVR_COMPLETEc. -/
def State.evrComplete (s : State) (core i : Nat) : State :=
  if (s.evr.src i).claimed = some core then s.evrDone i else s

/-- After a core reset every source claimed by it is treated as completed, and its deliveries are made again (R671). -/
def State.evrCoreReset (s : State) (core : Nat) : State :=
  let mine := (s.evr.srcs.filter (fun x => x.claimed == some core)).map EvrSrc.id
  let s := { s with evr := { s.evr with deliv := s.evr.deliv.set core none } }
  mine.foldl (fun s i => s.evrDone i) s

/-! ### Fault codes (R680, Table 18-10) -/

/-- Class and acknowledgement mode of a fault code; mode H is true. None for a code that the table does not list. -/
def faultInfo (uu cc : Nat) : Option (FClass × Bool) :=
  let t (l : List (Nat × FClass × Bool)) : Option (FClass × Bool) := (l.find? (fun x => x.1 == cc)).map Prod.snd
  if 0x40 ≤ uu ∧ uu < 0x80 then
    if cc = 0x03 ∨ cc = 0x0C ∨ cc = 0x0D then some (.u, true) else if 1 ≤ cc ∧ cc ≤ 0x16 then some (.c, false) else none
  else if 0x10 ≤ uu ∧ uu < 0x18 then
    t [(1, .u, true), (2, .c, false), (3, .c, false), (4, .c, false), (5, .c, true), (6, .c, false), (7, .u, true), (8, .u, true), (9, .u, true)]
  else
    match uu with
    | 0x00 => t [(1, .f, true), (2, .c, true), (3, .f, true), (4, .c, false)]
    | 0x01 => t [(1, .u, true), (2, .c, true), (3, .c, true)]
    | 0x02 => t [(1, .c, true), (2, .f, true), (3, .c, false), (4, .f, true), (5, .f, true), (6, .c, true), (7, .c, true)]
    | 0x03 => t [(1, .c, false), (2, .u, true), (3, .c, true), (4, .u, true), (5, .c, true), (6, .u, true)]
    | 0x04 => t [(1, .c, false), (2, .c, false), (3, .c, false)]
    | 0x05 => t [(1, .c, false), (2, .c, false), (3, .c, true), (4, .u, true), (5, .u, true)]
    | 0x06 => t [(1, .c, false), (2, .c, false), (3, .u, true)]
    | 0x07 => t [(1, .c, false), (2, .c, false)]
    | 0x08 => t [(1, .c, false), (2, .u, true), (3, .c, true), (4, .c, false), (5, .c, false), (6, .u, true), (7, .u, true), (8, .c, false), (9, .c, false)]
    | 0x09 => if 1 ≤ cc ∧ cc ≤ 7 then some (.c, false) else none
    | 0x0A => if cc = 1 ∨ cc = 2 ∨ cc = 0x0B then some (.u, true) else if 3 ≤ cc ∧ cc ≤ 0x0D then some (.c, false) else none
    | 0x0C => t [(1, .c, false), (2, .c, true)]
    | 0x0D => t [(1, .c, true), (2, .c, true), (3, .u, true), (4, .c, true), (5, .c, false), (6, .u, true), (7, .c, true)]
    | 0x0E => t [(1, .f, true), (2, .c, true), (3, .u, true), (4, .f, true)]
    | _ => none

def classCode : FClass → Nat
  | .c => 0 | .u => 1 | .f => 2

/-- One class higher (R676) (DEDUCED, log entry 46). -/
def classUp : FClass → FClass
  | .c => .u | _ => .f

/-- A U fault of these units fences nothing (R674); HLD is fenced only in its charger. -/
def neverFenced (uu cc : Nat) : Bool :=
  uu == 0 || uu == 1 || uu == 2 || uu == 5 || uu == 6 || uu == 0x0C || uu == 0x0D || uu == 0x0E || (uu == 3 && cc != 2 && cc != 4)

/-- The unit that a U fault fences (R673): the EIS engine of a Gather, a drive, or unit UU. -/
def FaultIn.unit (f : FaultIn) : Nat :=
  match f.fenceUnit with
  | some u => u
  | none => if 0x10 ≤ f.uu ∧ f.uu < 0x18 ∧ f.cc = 7 then 0x100 + (f.uu - 0x10) else f.uu

/-- The quiet period waits for a FAULT_ACK (Table 18-9): CK_IDLE and MEAS_LOST. -/
def ackFirst (uu cc : Nat) : Bool := decide (0x40 ≤ uu) && (cc == 3 || cc == 0x0D)

/-- A fence whose recovery Table 18-9 gives (DEDUCED, log entry 43; DEDUCED, log entry 46). -/
def Fence.recovers (f : Fence) : Bool :=
  decide (0x40 ≤ f.unit ∧ f.unit < 0x80) || decide (0x10 ≤ f.unit ∧ f.unit < 0x18) || decide (0x100 ≤ f.unit ∧ f.unit < 0x108) || f.unit == 3

/-- The fence, if any, under which a fault is silent (R677): its unit's, or that of its channel's Gather. -/
def State.silencer (s : State) (f : FaultIn) : Option Nat :=
  if s.fenced f.unit then some f.unit
  else if 0x40 ≤ f.uu ∧ f.uu < 0x80 ∧ s.fenced (0x10 + (f.uu - 0x40) / 8) then some (0x10 + (f.uu - 0x40) / 8)
  else if 0x100 ≤ f.unit ∧ f.unit < 0x108 ∧ s.fenced f.uu then some f.uu
  else none

/-- FAULT_N is low (Table 02-10): DEGRADED, LOCKOUT, or a U or F fault not acknowledged. -/
def State.faultN (s : State) : Bool :=
  s.mode.mode == .degraded || s.mode.mode == .lockout || s.col.pend.any (fun p => p.cls != .c)

/-- Occurrences of a code since BOOT. -/
def Collector.count (c : Collector) (code : Nat) : Nat := ((c.counts.find? (fun x => x.1 == code)).map Prod.snd).getD 0

/-- The recovery counter of a unit. -/
def Collector.recov (c : Collector) (u : Nat) : Nat := ((c.recovs.find? (fun x => x.1 == u)).map Prod.snd).getD 0

/-- Change one fence. -/
def State.onFence (s : State) (u : Nat) (f : Fence → Fence) : State :=
  { s with col := { s.col with fences := updFirst (fun x => x.unit == u) f s.col.fences } }

/-- The FAULT record and event (R476, R477, Tables 12-23 and 12-24): a channel's to its lessee, its event to the house as well; any other
to the house alone (DEDUCED, log entry 7). -/
def State.reportFault (s : State) (f : FaultIn) (cls : FClass) (before : Option FClass) : State :=
  let code := 256 * f.uu + f.cc
  let c? := if 0x40 ≤ f.uu then chan? (f.uu - 0x40) else none
  let head : List (Nat × List Byte) :=
    [fN 0 2 code, fN 2 1 (classCode cls), fN 7 1 (match before with | some b => classCode b | none => 0xFF)]
      ++ (match c? with
          | some c => [fN 3 1 (stCode (s.chan c).loop.st), fN 4 2 (s.chan c).prot.causeMask, fN 6 1 (s.chan c).prot.retries]
          | none => [])
  let recp := payload (head ++ [fN 8 8 f.time, (16, sliceB f.detail 0 12)]
    ++ (match c? with
        | some c => [fI 28 2 (s.chan c).meas.tcell, fI 30 2 (s.gat (gOf c)).tstg, fN 32 4 (tMs (s.chan c).prog.stepT)]
        | none => []))
  let evp := payload (head ++ [fN 8 8 f.time, fN 16 4 (s.col.count code), fN 20 2 (s.col.recov f.uu)])
  match c? with
  | some c =>
    let x := s.chan c
    let t := s.ownerOf c.val
    let s := s.pushRec { kind := 0x6A, tenant := t, channel := c.val, corr := f.corr, stepref := f.stepref, calgen := x.meas.calgen,
                         stale := x.est.stale, time := f.time, payloads := [recp] }
    let e : EvtIn := { kind := 0xA1, tenant := t, dest := t, channel := c.val, corr := f.corr, stepref := f.stepref, calgen := x.meas.calgen,
                       urgent := true, time := f.time, payloads := [evp] }
    let s := s.pushEvt e
    if t = 0 then s else s.pushEvt { e with dest := 0 }
  | none =>
    let s := s.pushRec { kind := 0x6A, tenant := 255, channel := 255, time := f.time, payloads := [recp] }
    s.pushEvt { kind := 0xA1, tenant := 255, dest := 0, urgent := true, time := f.time, payloads := [evp] }

/-- What a fence does to its unit (R173, R240, R324, R673, R678) (DEDUCED, log entry 47). -/
def State.fenceActs (s : State) (unit uu cc : Nat) : State :=
  if 0x10 ≤ unit ∧ unit < 0x18 then
    match gather? (unit - 0x10) with
    | some g =>
      s.forChans (chansOf g) (fun c s =>
        if stExec (s.chan c).loop.st then
          let l := s.leaderOf c
          let s := (s.endStep l 5 0 (256 * uu + cc) false).endProg l
          s.forChans (s.membersOf c) (fun m s =>
            if (s.chan m).loop.st = .released then s
            else (s.onLoop m (fun l => { l.quiet with tcoff := l.con, kind := .rest, evCorr := none })).setSt m .faulted .fault (256 * uu + cc))
        else s.onLoop c (fun l => { l with con := false }))
    | none => s
  else if 0x100 ≤ unit ∧ unit < 0x108 then
    match gather? (unit - 0x100) with
    | some g => (s.onGat g (fun y => { y with eisOk := false })).endSweeps g
    | none => s
  else if 0x40 ≤ unit ∧ unit < 0x80 then
    match chan? (unit - 0x40) with
    | some c => if stExec (s.chan c).loop.st ∧ cc = 0x0C then s.faultStop c [cc] else s
    | none => s
  else s

/-- A unit is fenced (R673, R674, R678) (DEDUCED, log entry 47). -/
def State.fence (s : State) (f : FaultIn) : State :=
  let u := f.unit
  if neverFenced f.uu f.cc || s.fenced u then s
  else
    let need := ackFirst f.uu f.cc
    let s := { s with col := { s.col with fences := s.col.fences ++
      [({ unit := u, uu := f.uu, cc := f.cc, needAck := need, quietT := if need then none else some s.now } : Fence)] } }
    s.fenceActs u f.uu f.cc

/-- The F latch (R644): the first F fault stands. -/
def State.latchF (s : State) (code : Nat) : State :=
  if s.rst.latched then s else { s with rst := { s.rst with latched := true, fcode := code } }

/-- The collector takes one fault (R655, R673 to R677) (DEDUCED, log entry 46). -/
def State.takeFault (s : State) (f : FaultIn) : State :=
  match faultInfo f.uu f.cc with
  | none => s
  | some (cls0, h) =>
    if s.rst.blocks.any (fun b => b.block == f.uu && b.quieted) then s
    else
      match s.silencer f with
      | some u =>
        if 0x10 ≤ u ∧ u < 0x18 then s
        else s.onFence u (fun x => if x.recov then x else { x with quietT := x.quietT.map (fun _ => s.now) })
      | none =>
        let code := 256 * f.uu + f.cc
        if s.mode.mode = .lehr ∧ cls0 = .f then s.keepFault code
        else
          let esc := h && cls0 != .f && s.col.pend.any (fun p => p.uu == f.uu && p.cls == cls0)
          let cls := if esc then classUp cls0 else cls0
          let s : State := { s with col := { s.col with
            counts := (code, satAdd 0xFFFFFFFF (s.col.count code) 1) :: s.col.counts.filter (fun x => x.1 != code)
            pend := if h then s.col.pend ++ [{ uu := f.uu, cc := f.cc, cls }] else s.col.pend
            lastCode := code, lastCls := cls, lastEsc := esc } }
          let s : State := match cls with
            | .c => s
            | .u => s.fence f
            | .f => if f.reportOnly then s else if s.mode.mode == .lehr then s.keepFault code else s.latchF code
          let s := s.reportFault f cls (if esc then some cls0 else none)
          let s := (if esc then s.evrPulse 0x1D1 else s).evrPulse 0x1D0
          match cls with
          | .f =>
            if !f.reportOnly && modeUp s.mode.mode && s.mode.mode != .lehr && s.mode.mode != .lockout then (s.enterLockout 0x15 code).settle else s
          | _ => s.settle

/-- The next fault in the order F, U, C, and by arrival within a class (R677) (DEDUCED, log entry 7). -/
def nextFault (l : List FaultIn) : Option FaultIn :=
  let cls (f : FaultIn) (k : FClass) : Bool := (faultInfo f.uu f.cc).map Prod.fst == some k
  ((l.find? (cls · .f)).orElse (fun _ => l.find? (cls · .u))).orElse (fun _ => l.head?)

/-- F faults that have arrived are taken before another transition of the same moment (R81): their LOCKOUT comes first, and what still holds is then
tested against it. -/
def State.fatalFirst (s : State) : State :=
  (s.col.fifo.filter (fun f => (faultInfo f.uu f.cc).map Prod.fst == some .f)).foldl
    (fun s f => ({ s with col := { s.col with fifo := s.col.fifo.erase f } }).takeFault f) s

/-- FAULT_ACK of a code, or of all (R675, R678): a fence that waits for it starts its quiet period. -/
def State.ackFault (s : State) (code : Nat) : State :=
  let hit (uu cc : Nat) : Bool := code == 0xFFFF || code == 256 * uu + cc
  { s with col := { s.col with
      pend := s.col.pend.filter (fun p => !hit p.uu p.cc)
      fences := s.col.fences.map (fun f =>
        if hit f.uu f.cc && f.quietT.isNone && !f.recov then { f with quietT := some s.now, needAck := false, failed := false } else f) } }

/-- A fence lifts (R678): the recovery counter counts, and the mode follows (DEDUCED, log entry 46). -/
def State.liftFence (s : State) (u : Nat) : State :=
  match s.col.fences.find? (fun f => f.unit == u) with
  | some f =>
    let s : State := { s with col := { s.col with fences := s.col.fences.filter (fun x => x.unit != u), lifted := 256 * f.uu + f.cc } }
    s.keepNvm 0 (fun s => { s with col := { s.col with recovs := (u, satAdd 0xFFFF (s.col.recov u) 1) :: s.col.recovs.filter (fun x => x.1 != u) } })
  | none => s

/-! ### Watchdogs and core resets (R641, R643, R658 to R663) -/

def wdgA (w : Fin 5) (off : Nat) : Nat := 0x020000 + 0x20 * w.val + off

def State.onWdg (s : State) (w : Fin 5) (f : Wdg → Wdg) : State := { s with wdg := s.wdg.set w (f s.wdg[w]) }

/-- PERIOD in ns. -/
def State.wdgPeriod (s : State) (w : Fin 5) : Nat := s.fld (wdgA w 0) 16 14 * 100000

/-- The window is open (R658): from WSTART × PERIOD / 16 to the end of the period. -/
def State.wdgOpen (s : State) (w : Fin 5) : Bool :=
  let e := s.now - s.wdg[w].base
  decide (s.fld (wdgA w 0) 8 4 * s.wdgPeriod w ≤ 16 * e ∧ e ≤ s.wdgPeriod w)

/-- A Steward core does no further work until its core reset (R39, R642) (DESIGN CHOICE, log entry 63). -/
def State.stallCore (s : State) (core : Nat) : State :=
  { s with rst := { s.rst with stalled := setBits s.rst.stalled core 1 1 } }

/-- A watchdog expires (R660): trap, fault and hard timer, and a guarded Steward core stalls; no effect while the hard timer runs (DEDUCED, log
entry 39). -/
def State.wdgExpire (s : State) (w : Fin 5) : State :=
  if s.wdg[w].hard.isSome then s
  else
    let s := s.onWdg w (fun x => { x with trap := true, hard := some s.now, expiries := satAdd 0xFFFF x.expiries 1 })
    if w.val = 4 then s.fault 0x0E 0x02 else (s.stallCore w.val).fault 0x0D 0x02

/-- Commands that a core had claimed end ABORTED unless a Gather or NVM has acknowledged them (R468): those that wait, a COMMIT before
its swap (R301), a LEDGER_SEAL and a SUMMER step still to come (DEDUCED, log entry 47). -/
def State.abortClaimed (s : State) : State :=
  let s := s.waiting.foldl (fun s w => s.abort w.1 w.2.opcode) { s with waiting := [] }
  let s := s.abortCommits allChans
  let s := s.led.seals.foldl (fun s w => s.abort w.1 0x2F) (s.onLed (fun l => { l with seals := [] }))
  match s.board.time.sumReq with
  | some (_, h) => (s.onTime (fun t => { t with sumReq := none })).abort h 0x36
  | none => s

/-- The cell changes found while the Steward cores stalled are declared once one runs (R633). -/
def State.declareFound (s : State) : State :=
  if s.stewardOn then
    s.board.found.foldl (fun s x => match chan? x.1 with | some c => s.cellChange (s.leaderOf c) x.2 | none => s) (s.onBoard (fun b => { b with found := [] }))
  else s

/-- A core reset (R641, R643, Table 18-7): the core's watchdog restarts at its reset settings; a third within 60 s asks for a warm reset
(DEDUCED, log entry 47). -/
def State.coreReset (s : State) (w : Fin 5) : State :=
  let s := s.abortClaimed.evrCoreReset w.val
  let e := s.wdg[w].expiries
  let s := (s.clearRegs (wdgA w 0) (wdgA w 0x20)).onWdg w (fun _ => { base := s.now, expiries := e })
  let ts := s.now :: s.rst.coreTimes.filter (fun t => decide (s.now < t + 60000000000))
  let s := { s with rst := { s.rst with coreResets := satAdd 0xFFF s.rst.coreResets 1, coreTimes := ts, stalled := setBits s.rst.stalled w.val 1 0 } }
  if 3 ≤ ts.length then s.warmReset 6 else s.declareFound

end Sys2Proof.Machine
end

