-- ==== Sys2Proof/Machine/Dma.lean ====
section
/-! DEFINITION. The bytes of the Crucible (R377, Table 10-2) and the DMA engine (R417 to R421), whose descriptors stand in its first 64 KiB. -/

namespace Sys2Proof.Machine

open Sys2Proof

/-! ### Crucible bytes -/

/-- A byte that a write stored; one that nothing has written reads zero (DESIGN CHOICE, log entry 9). -/
def cruGet (l : List Host.Cell) (a : Nat) : Byte := ((l.find? (fun x => x.1 == a)).map Prod.snd).getD 0

/-- Store a byte: addresses strictly rising, no zero listed (DESIGN CHOICE, log entry 9). -/
def cruPut (a : Nat) (v : Byte) : List Host.Cell → List Host.Cell
  | [] => if v = 0 then [] else [(a, v)]
  | (b, w) :: l =>
    if a < b then (if v = 0 then (b, w) :: l else (a, v) :: (b, w) :: l)
    else if a = b then (if v = 0 then l else (a, v) :: l)
    else (b, w) :: cruPut a v l

/-- The canonical form of the stored bytes (DESIGN CHOICE, log entry 9). -/
def cruWf : List Host.Cell → Bool
  | [] => true
  | [(_, v)] => v != 0
  | (a, v) :: (b, w) :: l => v != 0 && decide (a < b) && cruWf ((b, w) :: l)

/-- The queue whose ring holds an entry at a Crucible offset, the entry's place in the ring, and the byte's place in the entry (R376, R378, R386). -/
def State.slotAt (s : State) (a : Nat) : Option (Nat × Nat × Nat) :=
  s.queues.findSome? (fun (q : Queue) =>
    let b := 1024 * q.base
    let j := ((a - b) / 64 + q.cap - q.tail) % q.cap
    if b ≤ a ∧ a < b + 64 * q.cap ∧ j < q.ring.length then some (q.num, j, (a - b) % 64) else none)

/-- A byte of the Crucible (Table 10-2): of the entry that stands in its ring slot, or as stored. A freed slot, a hold, the fetch buffer and
staging read what a write of the fabric stored there (DESIGN CHOICE, log entry 9). -/
def State.cruByte (s : State) (a : Nat) : Byte :=
  match s.slotAt a with
  | some (q, j, o) =>
    match (s.queue? q).bind (fun y => y.ring[j]?) with
    | some e => (entryBytes e).getD o 0
    | none => 0
  | none => cruGet s.cru a

/-- Store one byte: in the payload of the entry in its slot, whose tag the queue manager alone writes (R380, R384), or as it is
(DESIGN CHOICE, log entry 9). -/
def State.cruPoke (s : State) (a : Nat) (v : Byte) : State :=
  match s.slotAt a with
  | some (q, j, o) =>
    if o < 16 then s
    else s.onQueue q (fun y => { y with ring := y.ring.modify j (fun e => { e with payload := e.payload.set (o - 16) v }) })
  | none => if a < 0x1000000 then { s with cru := cruPut a v s.cru } else s

/-- A little-endian number of n bytes in the Crucible. -/
def State.cruNum (s : State) (a n : Nat) : Nat := leNat ((List.range n).map (fun i => s.cruByte (a + i)))

/-- Store bytes in the Crucible. -/
def State.cruWrite (s : State) (a : Nat) (bs : List Byte) : State :=
  (List.range bs.length).foldl (fun s i => s.cruPoke (a + i) (bs.getD i 0)) s

/-! ### Channels -/

def State.onDma (s : State) (c : Fin 32) (f : DmaChan → DmaChan) : State := { s with dma := s.dma.set c (f s.dma[c]) }

def State.dmaBuserr (s : State) : Bool := s.bit 0x300000 0

/-- A descriptor is fetched (R418, R423): reserved encodings stop the channel with DMA_DESC, OWN clear leaves it IDLE (DEDUCED, log entry 44). -/
def State.dmaFetch (s : State) (c : Fin 32) (o : Nat) : State :=
  let o := o / 32 * 32 % 65536
  let w := s.cruNum o 4
  let st := s.cruNum (o + 24) 4
  if !w.testBit 31 then s.onDma c (fun d => { d with cur := o, state := .idle })
  else if bitsOf w 0 24 = 0 ∨ bitsOf w 28 3 ≠ 0 ∨ bitsOf st 28 4 ≠ 0 then
    (s.onDma c (fun d => { d with cur := o, state := .stopped })).fault 0x07 0x02
  else s.onDma c (fun d => { d with cur := o, state := .running })

/-- DMA_HEAD of a channel (Table 10-19). -/
def State.dmaHead (s : State) (c : Fin 32) : Nat := s.fld (0x300104 + 0x20 * c.val) 0 16 / 32 * 32

/-- START (R418, R420, R421): ignored while BUSERR is set; a halted channel runs its current descriptor again from its start
(DEDUCED, log entry 44). -/
def State.dmaStart (s : State) (c : Fin 32) : State :=
  let d := s.dma[c]
  if s.dmaBuserr ∨ d.state = .running ∨ d.state = .stopping then s
  else if d.state = .halted then s.dmaFetch c d.cur
  else s.dmaFetch c (s.dmaHead c)

/-- STOP (R419, R421): at the next descriptor boundary; at once for a channel that is not in a descriptor. -/
def State.dmaStop (s : State) (c : Fin 32) : State :=
  s.onDma c (fun d => { d with state := if d.state = .running ∨ d.state = .stopping then .stopping else .stopped })

/-- POKE (R418, R421): an IDLE channel fetches its current descriptor again. -/
def State.dmaPoke (s : State) (c : Fin 32) : State :=
  if s.dmaBuserr ∨ s.dma[c].state ≠ .idle then s else s.dmaFetch c s.dma[c].cur

/-- BUSERR is cleared (R420). -/
def State.dmaClear (s : State) : State := s.setFld 0x300000 0 1 0

/-- DMA_START. -/
def execDmaStart (c : Fin 32) (s : State) : Out := .next (s.dmaStart c)

/-- DMA_STOP. -/
def execDmaStop (c : Fin 32) (s : State) : Out := .next (s.dmaStop c)

/-- DMA_POKE. -/
def execDmaPoke (c : Fin 32) (s : State) : Out := .next (s.dmaPoke c)

/-- The bytes that a descriptor moves into the Crucible: from the Crucible itself, or free bytes from elsewhere (DEDUCED, log entry 44). -/
def State.dmaMove (s : State) (o : Nat) : State :=
  let w := s.cruNum o 4
  let len := bitsOf w 0 24
  let src := s.cruNum (o + 8) 8
  let dst := s.cruNum (o + 16) 8
  let base := 0x01000000
  if w.testBit 27 then s
  else
    let lo := Nat.max dst base
    let hi := Nat.min (dst + len) (base + 0x1000000)
    let (n, s) := s.draw
    let old := s
    let byte (i : Nat) : Byte :=
      let a := src + i
      if !w.testBit 26 && decide (base ≤ a ∧ a < base + 0x1000000) then old.cruByte (a - base) else BitVec.ofNat 8 (n / 256 ^ i)
    s.cruWrite (lo - base) ((List.range (hi - lo)).map (fun k => byte (lo - dst + k)))

/-- A DSTAT write-back (Table 10-9). -/
def State.dmaStat (s : State) (o moved code : Nat) : State := s.cruWrite (o + 24) (leBytes 4 (moved % 2 ^ 24 + 2 ^ 24 * code))

/-- DMA_DESCRIPTOR_DONE (R418, R419): DSTAT, then OWN cleared, then the event; the channel continues at NEXT unless EOC (DEDUCED, log entry 44). -/
def execDmaDescriptorDone (c : Fin 32) (s : State) : Out :=
  let d := s.dma[c]
  if d.state ≠ .running ∧ d.state ≠ .stopping then .next s
  else
    let o := d.cur
    let w := s.cruNum o 4
    let nx := s.cruNum (o + 4) 4 % 65536 / 32 * 32
    let s := s.dmaMove o
    let s := (s.dmaStat o (bitsOf w 0 24) 0).cruWrite o (leBytes 4 (w % 2 ^ 31))
    let s := s.onDma c (fun d => { d with code := 0, done := (d.done + 1) % 65536 })
    let s := if w.testBit 25 then s.evrPulse (0x140 + c.val) else s
    if d.state = .stopping then .next (s.onDma c (fun d => { d with state := .stopped, cur := if w.testBit 24 then o else nx }))
    else if w.testBit 24 then .next (s.onDma c (fun d => { d with state := .idle }))
    else .next (s.dmaFetch c nx)

/-- DMA_BUS_ERROR (R420): every channel halts; the failing one writes BUSERR, every other in flight HALTED with the bytes moved so far
(DEDUCED, log entry 44). -/
def execDmaBusError (c : Fin 32) (addr moved : Nat) (s : State) : Out :=
  let s := (List.finRange 32).foldl (fun s k =>
    let d := s.dma[k]
    if d.state = .running ∨ d.state = .stopping then
      let (n, s) := s.draw
      let len := bitsOf (s.cruNum d.cur 4) 0 24
      let m := if k = c then moved else n % Nat.max 1 len
      let code := if k = c then 1 else 2
      (s.dmaStat d.cur m code).onDma k (fun d => { d with state := .halted, code })
    else s) s
  let s := (s.setBit 0x300000 0).setFld 0x300000 1 5 c.val
  let s := (s.bump 0x300000 16 16).setReg 0x300008 (addr % 2 ^ 32)
  .next (((s.setReg 0x30000C (addr / 2 ^ 32)).evrPulse 0x160).fault 0x07 0x01)

/-- DMA_BUSERR_CLEAR (R420). -/
def execDmaBuserrClear (s : State) : Out := .next s.dmaClear

end Sys2Proof.Machine
end

