-- ==== Sys2Proof/Machine/Faults.lean ====
section
/-! DEFINITION. Faults, fences, lockstep and clock losses, watchdogs, core exceptions, the event router and the house key lock
(chapter 18). -/

namespace Sys2Proof.Machine

open Sys2Proof

/-! ### Faults that no other command raises (R423, R471, R685 to R687, R324, R645) -/

/-- The codes that arrive from a unit without a command of its own: NVM and memory errors, Crucible errors, a receive overrun, a
firmware error, and the self-tests of a Gather and its impedance engine. -/
def extCode (code : Nat) : Bool :=
  let uu := code / 256
  let cc := code % 256
  (uu == 5 && decide (1 ≤ cc ∧ cc ≤ 5)) || code == 0x0602 || code == 0x0603 || code == 0x0902
    || (uu == 0x0D && decide (4 ≤ cc ∧ cc ≤ 6)) || (decide (0x10 ≤ uu ∧ uu < 0x18) && (cc == 7 || cc == 9))

/-- An uncorrectable Crucible error in a queue (R423): the entry is discarded. In a ring that the part produces its slot holds a LOSS
notice with reason 2, and LOSSPEND is set; which entry it was is free. A command train with it is discarded whole (DESIGN CHOICE, log entry 23). -/
def State.cruUe (s : State) (qn : Nat) : State :=
  let s := (s.setBit 0x440008 1).setFld 0x440008 16 13 qn
  match s.queue? qn with
  | some q =>
    if q.kind == .command then
      match q.ring.head? with
      | some e => s.onQueue qn (fun q => { q with ring := q.ring.drop e.tag.tcnt, tail := (q.tail + e.tag.tcnt) % q.cap, creditDue := true })
      | none => s
    else
      match s.pick (List.range q.ring.length) with
      | (some i, s) =>
        let put (e : Entry) : Entry :=
          let n := lossNotice q.tenant 2 1 s.ptp s.ptp
          { n with tag := { n.tag with seq := e.tag.seq } }
        s.onQueue qn (fun q => { q with losspend := true, ring := q.ring.modify i put })
      | (none, s) => s
  | none => s

/-- What such a fault does beside its report: a corrected row is marked for rewrite, a copy that cannot be read is out of force (R685). -/
def State.extActs (s : State) (code arg : Nat) : State :=
  if code = 0x0501 then { s with nvm := { s.nvm with marked := (arg % 4096) :: s.nvm.marked.filter (fun r => r != arg % 4096) } }
  else if code = 0x0505 then { s with nvm := { s.nvm with copies := s.nvm.copies.filter (fun c => c.row != s.nvm.rowOf (arg % 4096)) } }
  else if code = 0x0502 then
    s.useSpare
  else if code = 0x0504 then { s with nvm := { s.nvm with roMask := s.nvm.roMask ||| 2 ^ (arg % 6) } }
  else if code = 0x0602 then s.setBit 0x440008 0
  else if code = 0x0603 then s.cruUe arg
  else s

/-- FAULT_TAKEN (R673 to R677): the collector takes the next fault at its input; `ext` is a fault, with an argument, from a unit whose
fault no other command raises. -/
def execFaultTaken (ext : Option (Nat × Nat)) (s : State) : Out :=
  let s := match ext with
    | some (code, arg) =>
      if extCode code && modeUp s.mode.mode then (s.extActs code arg).fault (code / 256) (code % 256) else s
    | none => s
  match nextFault s.col.fifo with
  | some f => .next (({ s with col := { s.col with fifo := s.col.fifo.erase f } }).takeFault f)
  | none => .next s

/-- The warden is released again, and the lamps' time base starts (R107, R673). -/
def State.wdnRestart (s : State) : State := { s with rst := { s.rst with wdnT := s.now } }

/-- LOCKSTEP (R673, R82): every channel stops and the warden restarts; in LEHR the part goes to KEEP. -/
def execLockstep (s : State) : Out :=
  if !modeUp s.mode.mode then .next s
  else
    let s := (s.forChans allChans (fun c s => s.hardStop c)).wdnRestart
    .next (if s.mode.mode = .lehr then (s.keepFault 0x0E01).lehrAbort else s.fault 0x0E 0x01)

/-- REFCLK is lost: the pair and ledger islands go quiet with every other island on a PLL (R41). -/
def State.clockStop (s : State) : State :=
  let s : State := { s with rst := { s.rst with noClk := true } }
  s.onBoard (fun b => { b with pair := { b.pair with lanes := 0, run0 := 0, run1 := 0, sync := 0, resyncT := none },
                               led := { b.led with running := false } })

/-- REFCLK_LOST (R41, R673, R82): every channel ball is held low, and the islands on the PLLs stand still until a reset. -/
def execRefclkLost (s : State) : Out :=
  if !modeUp s.mode.mode then .next s
  else
    let s := (s.forChans allChans (fun c s => s.hardStop c)).clockStop
    .next (if s.mode.mode = .lehr then (s.keepFault 0x0003).lehrAbort else s.fault 0x00 0x03)

/-- WDN_OSC (R662): channel balls are held low, WDG4 moves to the other clock where it ran on this one, and its hard timer starts
(DEDUCED, log entry 39). -/
def execWdnOsc (s : State) : Out :=
  if !modeUp s.mode.mode then .next s
  else
    let s := s.forChans allChans (fun c s => s.hardStop c)
    let s := if s.bit 0x020080 1 then s else ((s.setBit 0x020080 1).setBit 0x02008C 2).fault 0x0D 0x07
    .next ((s.fault 0x0E 0x04).wdgExpire 4)

/-- QUIET_PERIOD_END (R678, Table 18-9): the recovery of a fenced unit starts; a Gather is reset and calibrates. -/
def execQuietPeriodEnd (unit : Nat) (s : State) : Out :=
  match s.col.fences.find? (fun f => f.unit == unit) with
  | some f =>
    match f.quietT with
    | some t =>
      if f.recovers ∧ !f.recov ∧ t + s.fld 0x04000C 0 10 * 1000000000 ≤ s.now then
        let s := s.onFence unit (fun f => { f with recov := true, quietT := none })
        match gather? (unit - 0x10) with
        | some g => if 0x10 ≤ unit then .next (s.resetGather g).settle else .next s
        | none => .next s
      else .next s
    | none => .next s
  | none => .next s

/-- A recovered Crack-off fence leaves its channel STOPPED, with its live image kept (Table 18-9). -/
def State.recoverChan (s : State) (c : ChanNo) (cc : Nat) : State :=
  if cc = 3 ∨ cc = 0x0C then
    let s := s.onLoop c (fun l => { l with con := false, tcoff := false, before := if l.st = .released then .stopped else l.before })
    if (s.chan c).loop.st = .faulted then s.setSt c .stopped .none 0 else s
  else s

/-- RECOVERY_END (R678): the recovery of a unit passes and its fence lifts, or fails and the unit waits for FAULT_ACK. -/
def execRecoveryEnd (unit : Nat) (pass : Bool) (s : State) : Out :=
  match s.col.fences.find? (fun f => f.unit == unit) with
  | some f =>
    if !f.recov ∨ (0x10 ≤ unit ∧ unit < 0x18 ∧ !f.probation) then .next s
    else if pass && (unit != 3 || (s.board.pwr.present && !s.board.pwr.ntcBad)) then
      let s := s.liftFence unit
      let s := match (if 0x40 ≤ unit ∧ unit < 0x80 then chan? (unit - 0x40) else none) with
        | some c => s.recoverChan c f.cc
        | none => s
      let s := if unit = 3 then (if s.board.pwr.chg == .fault then s.chgTo .off 0 else s).chgStart else s
      .next s.settle
    else .next (s.onFence unit (fun f => { f with recov := false, probation := false, failed := true, quietT := none })).settle
  | none => .next s

/-! ### Watchdogs (R657 to R663) -/

/-- WDG_KICK (R658, R659) (DEDUCED, log entry 39). -/
def execWdgKick (w : Fin 5) (v : BitVec 16) (s : State) : Out :=
  if !s.bit (wdgA w 0) 0 ∨ !modeUp s.mode.mode then .next s
  else if v = 0x4B43#16 ∧ s.wdgOpen w then
    let x := s.wdg[w]
    let s := match x.newPer with | some p => s.setFld (wdgA w 0) 16 14 p | none => s
    let s := match x.newWin with | some p => s.setFld (wdgA w 0) 8 4 p | none => s
    .next (s.onWdg w (fun x => { x with base := s.now, newPer := none, newWin := none }))
  else .next ((s.setBit (wdgA w 0xC) 4).wdgExpire w)

/-- WDG_KEY (R663): 0x4449 and then 0x5341 within 1 µs clear EN unless LOCK is set. -/
def execWdgKey (w : Fin 5) (v : BitVec 16) (s : State) : Out :=
  if s.bit (wdgA w 0) 2 then .next s
  else if v = 0x4449#16 then .next (s.onWdg w (fun x => { x with keyT := some s.now }))
  else
    let ok := v = 0x5341#16 ∧ (match s.wdg[w].keyT with | some t => decide (s.now ≤ t + 1000) | none => false) = true
    let s := s.onWdg w (fun x => { x with keyT := none })
    .next (if ok then s.setFld (wdgA w 0) 0 1 0 else s)

/-- WDG_LOCK (R663). -/
def execWdgLock (w : Fin 5) (s : State) : Out := .next (s.setBit (wdgA w 0) 2)

/-- WDG_EXPIRY (R658, R660): the period ended without a kick. -/
def execWdgExpiry (w : Fin 5) (s : State) : Out :=
  if modeUp s.mode.mode && s.bit (wdgA w 0) 0 && decide (s.wdg[w].base + s.wdgPeriod w ≤ s.now) then .next (s.wdgExpire w) else .next s

/-- WDG_HARD (R660, R661): the hard timer ends after 64 ms: a core reset, a warm reset, or in LEHR the hardware end. -/
def execWdgHard (w : Fin 5) (s : State) : Out :=
  match s.wdg[w].hard with
  | some t =>
    if t + 64000000 ≤ s.now ∧ modeUp s.mode.mode then
      let s := s.onWdg w (fun x => { x with hard := none, trap := false })
      if w.val = 4 then
        let s := s.keepFault 0x0E03
        .next (if s.mode.mode = .lehr then s.lehrAbort else s.warmReset 7)
      else .next ((s.fault 0x0D 0x03).coreReset w)
    else .next s
  | none => .next s

/-- WDG_CLOCK (R662): the selected clock stopped: the other clock, CLKFAIL, the fault, and an expiry. -/
def execWdgClock (w : Fin 5) (s : State) : Out :=
  if !modeUp s.mode.mode then .next s
  else
    let s := s.setFld (wdgA w 0) 1 1 (1 - s.fld (wdgA w 0) 1 1)
    .next (((s.setBit (wdgA w 0xC) 2).fault 0x0D 0x07).wdgExpire w)

/-- CORE_EXCEPTION (R642, R468): EXCEPTION is raised and the core's work restarts without a reset; inside the handler the core stalls until its
watchdog takes it to a core reset (DESIGN CHOICE, log entry 63). -/
def execCoreException (x : CoreTrap) (s : State) : Out :=
  if !modeUp s.mode.mode then .next s
  else
    let s := s.abortClaimed.faultD 0x0D 0x01 (leBytes 1 x.core.val)
    .next (if x.inHandler then s.stallCore x.core.val else s)

/-! ### Event router (R665 to R671) -/

/-- EVR_SOURCE_ACCEPT (R665): a change of a source's input has passed its filter. -/
def execEvrSourceAccept (src : Nat) (level : Bool) (s : State) : Out := .next (s.evrAccept src level)

/-- EVR_DELIVER (R666 to R668). -/
def execEvrDeliver (core : Fin 4) (s : State) : Out := .next (s.evrDeliver core.val)

/-- EVR_CLAIM (R666, R669): the value read stands in EVR_CLAIMc. -/
def execEvrClaim (core : Fin 4) (s : State) : Out :=
  let (v, s) := s.evrClaim core.val
  .next (s.setReg (0x030000 + 0x10 * core.val) v)

/-- EVR_COMPLETE (R666, R670). -/
def execEvrComplete (core : Fin 4) (src : Nat) (s : State) : Out := .next (s.evrComplete core.val src)

/-! ### House key -/

/-- NVM_HKCTL_HKEN (R651): in SERVICE the fingerprint is stored and locked for the life of the part, unless region 0 is read only (R687). -/
def execNvmHkctlHken (s : State) : Out :=
  if s.mode.mode = .service ∧ !s.nvm.roMask.testBit 0 then .next { s with nvm := { s.nvm with hken := true } } else .next s

end Sys2Proof.Machine
end

