-- ==== Sys2Proof/Machine/Ledger.lean ====
section
/-! DEFINITION. Ledger recovery, seal ticks, durability, gaps, reclaim, drive errors, fetches, initialisation, and the end of Lehr
(chapter 13, R99, R592). -/

namespace Sys2Proof.Machine

open Sys2Proof

/-! ### Recovery (R478, R483, R489, R497, R508, R509) -/

/-- Drive d has lanes under BIFUR (Table 13-1). -/
def laneOk (bifur d : Nat) : Bool := decide (bifur = 0 ∧ d = 0) || decide (bifur = 1 ∧ d < 2) || decide (bifur = 2 ∧ d < 4)

/-- A drive as discovery finds it. -/
def driveOf (f : DriveFound) : Drive :=
  { present := f.present, linkUp := f.present, width := f.width, speed := if f.present then f.speed else 0, labelOk := f.present && f.label == 1
    state := if f.present && f.lbaOk then 1 else 0, blocks := f.blocks, sn := f.sn }

/-- The drives that discovery can use. -/
def usable (found : List DriveFound) (d : Nat) : Bool := let f := found.getD d {}; f.present && f.lbaOk

/-- A drive that the label names is there with its label (R489). -/
def Ledger.named (l : Ledger) (found : List DriveFound) (d : Nat) : Bool :=
  l.labelSns.getD d 0 == 0 || (usable found d && (found.getD d {}).sn == l.labelSns.getD d 0 && (found.getD d {}).label == 1)

/-- The partner of a mirror member. -/
def mirrorOf (arrange d : Nat) : Option Nat :=
  if (arrange = 1 ∧ d < 2) ∨ arrange = 2 then some (if d % 2 = 0 then d + 1 else d - 1) else none

/-- Every drive that the label names is present, a mirror member excepted whose partner is (R489). -/
def Ledger.complete (l : Ledger) (found : List DriveFound) : Bool :=
  l.labelSns.any (fun n => n != 0) && (List.range 4).all (fun d =>
    l.named found d || (match mirrorOf l.arrange d with | some m => l.labelSns.getD m 0 != 0 && l.named found m | none => false))

/-- The state that discovery gives (R489); with no usable drive it is FAILED. -/
def Ledger.discover (l : Ledger) (found : List DriveFound) : LedgerSt :=
  let used := (List.range 4).filter (usable found)
  let lab (d : Nat) : Nat := (found.getD d {}).label
  if used.isEmpty then .failed
  else if used.any (fun d => lab d == 3) then .foreign
  else if used.all (fun d => lab d == 0) then .unlabelled
  else if l.complete found then .mounted
  else .incomplete

/-- A drive that the label does not name, or whose label is another's, is not used: a mirror member's partner carries on alone (R489). -/
def Ledger.useNamed (l : Ledger) (found : List DriveFound) : Ledger :=
  { l with drives := (List.range 4).map (fun d =>
      let x := l.drive d
      if x.alive && !((found.getD d {}).sn == l.labelSns.getD d 0 && (found.getD d {}).label == 1) then { x with state := 0, labelOk := false } else x) }

/-- A blank drive in the slot of a lost mirror member at a ledger block reset is labelled and resilvered (R513). -/
def State.startResilver (s : State) (found : List DriveFound) : State :=
  (List.range 4).foldl (fun s d =>
    let f := found.getD d {}
    match mirrorOf s.led.arrange d with
    | some m =>
      if usable found d && f.label == 0 && s.led.labelSns.getD d 0 != 0 && s.led.named found m && s.led.labelSns.getD m 0 != 0 then
        let s := s.onLed (fun l => { l with labelSns := l.labelSns.set d f.sn })
        let s := (s.onDrive d (fun x => { x with state := 2, labelOk := true })).setReg (0x31010C + 0x20 * d) s.led.segs.length
        let b := s.labelBlock
        if (s.led.drivesOf 0).contains d then s.onLed (fun l => ((l.sendTo d (.write 0 b)).sendTo d (.write 1 b)).sendTo d .flush) else s
      else s
    | none => s) s

/-- GAP records for the last BOOTCNT, when its shutdown record does not read CLEAN (R509). -/
def State.bootGaps (s : State) (shut : Nat) : State :=
  if shut = 1 then s
  else
    let cause := if shut = 0 then 0 else if shut = 2 then 1 else 3
    s.led.streams.foldl (fun s x =>
      if x.durable = 0 then s
      else (s.gap x.num cause 0xFFFFFFFF x.tailLast s.stampNow).sealStream x.num 5) s

/-- The first block of a segment after its last batch. -/
def Ledger.nextBlock (l : Ledger) (n : Nat) : Nat :=
  ((l.stored.filter (fun b => b.laddr / 1048576 == n)).map (fun b => b.laddr / 4096 % 256 + b.nblk)).foldl Nat.max 0

/-- The scan of the open segments (R508): the batches that were in flight are intact up to a number that the drives give for each stream, and
the tail of the stream is the last of them; a key batch that is not there is due again. -/
def Ledger.scan (l : Ledger) (intact : List (Nat × Nat)) : Ledger :=
  let k (t : Nat) : Nat := ((intact.find? (fun x => x.1 == t)).map Prod.snd).getD 0
  let mine (t : Nat) : List Batch := l.flight.filter (fun b => b.stream == t)
  let l : Ledger := { l with stored := l.stored ++ (l.streams.map (fun x => (mine x.num).take (k x.num))).flatten, flight := [] }
  { l with streams := l.streams.map (fun (x : Stream) =>
      let y := ((mine x.num).take (k x.num)).foldl (fun (x : Stream) b => { x.endsAt b with bseq := b.bseq, chain := b.chain }) x
      { y with needKey := y.needKey || ((mine x.num).drop (k x.num)).any (fun b => b.btype == 1)
               seg := (l.segs.find? (fun g => g.stream == x.num && !g.full)).map (fun g => (g.num, l.nextBlock g.num)) }) }

/-- What recovery reads and clears (R508): the shutdown record, the segment table, the open segments, and every block after a tail. -/
def Ledger.recoverIo (l : Ledger) : Ledger :=
  let l := l.fetchFrom 0 2 1
  let l := (List.range (ntab l.nseg)).foldl (fun l n => l.fetchFrom (1 + n) 0 256) l
  (l.segs.filter (fun g => !g.full)).foldl (fun l g =>
    let k := l.nextBlock g.num
    let l := l.fetchFrom g.num 0 256
    if k < 256 then l.issue g.num k (fun a => .writeZeroes a (256 - k)) else l) l

/-- BOOTCNT of this BOOT (R497): one more than the larger of NVM's and the highest on the drives; where NVM refuses it, it still applies. -/
def State.takeBootcnt (s : State) : State :=
  let high := if s.led.isMounted then ((s.led.stored ++ s.led.flight).map Batch.bootcnt).foldl Nat.max 0 else 0
  let n := (Nat.max s.led.bootNvm high + 1) % 2 ^ 32
  let r := s.nvmWrite 0
  r.1.onLed (fun l => { l with bootcnt := n, bootNvm := if r.2 then n else l.bootNvm })

/-- A ledger mounts at a BOOT (R497, R508, R509): recovery, GAP records, the shutdown record with SHUT RUNNING. -/
def State.recover (s : State) (intact : List (Nat × Nat)) (torn : Bool) : State :=
  let lost := s.led.flight.length - (intact.map Prod.snd).sum
  let s := s.onLed (fun l => (l.scan intact).recoverIo)
  let s := if torn ∧ lost ≠ 0 then (s.setBit 0x31001C 3).fault 0x08 0x05 else s
  let shut := s.led.shut
  (s.onLed (fun l => l.writeShut 0 s.ptp)).bootGaps shut

/-- A ledger mounts again after a ledger block reset (R507, R513): the batches that were not durable are written, and a blank mirror member
is resilvered. -/
def State.remount (s : State) (found : List DriveFound) : State :=
  let s := s.startResilver found
  s.onLed (fun l => ((l.sealed_.filter Batch.written).foldl (fun l b => l.writeBatch b) l).flushRound l.io.length)

/-- LEDGER_RECOVERY (R480 to R489, R497, R508, R509): what discovery found on each link, the streams with batches in flight at the loss
and how many are intact in each, and whether a torn block held a header. At BOOT, or after a ledger block reset (DEDUCED, log entry 42). -/
def execLedgerRecovery (found : List DriveFound) (streams intact : List Nat) (torn : Bool) (s : State) : Out :=
  if s.led.st ≠ .discovering then .next s
  else
    let boot := decide (s.mode.mode = .boot)
    let bf := s.fld 0x310000 1 2
    let found := (List.range 4).map (fun d => if laneOk bf d then found.getD d {} else {})
    let s := s.onLed (fun l =>
      let l : Ledger := { l with running := true, perst := false, bifur := bf, arrange := s.fld 0x310000 3 2
                                 drives := (List.range 4).map (fun d => { driveOf (found.getD d {}) with errs := (l.drive d).errs }) }
      (List.range 4).foldl Ledger.probe l)
    let s := if found.any (fun f => f.present && !f.lbaOk) then (s.setBit 0x31001C 7).pushFault
        { uu := 0x08, cc := 0x07, fenceUnit := some (0x110 + (found.findIdx (fun f => f.present && !f.lbaOk))) } else s
    let st := s.led.discover found
    let s := s.onLed (fun l => { l with st })
    let s := if boot ∨ s.led.bootcnt = 0 then s.takeBootcnt else s
    if st = .mounted then
      let s := s.onLed (fun l => l.useNamed found)
      .next (if boot then s.recover (streams.zip intact) torn else s.remount found).mount
    else if st = .foreign ∨ st = .incomplete then .next ((s.setBit 0x31001C 6).fault 0x08 0x06)
    else .next s

/-! ### Seals and durability (R496, R498, R503) -/

/-- SEAL_TICK (R496): a whole multiple of SEALINT of PTP time has been reached since the last tick (DEDUCED, log entry 42). -/
def execSealTick (s : State) : Out :=
  let int := Nat.max 1 s.led.sealint * 10000000
  if s.led.running && s.led.isMounted && decide (s.led.tickT / int ≠ s.ptp / int) then
    .next ((s.onLed (fun l => { l with tickT := s.ptp })).sealAll 1)
  else .next s

/-- BATCH_DURABLE (R498): the Flush after the Writes completed. -/
def execBatchDurable (s : State) : Out := .next (if s.led.running && s.led.isMounted then s.durable else s)

/-- STAGING_GAP (R503): staging blocks are free again. -/
def execStagingGap (s : State) : Out :=
  if s.led.running && s.led.isMounted && decide (s.led.used < 960) then .next (s.missGaps 2) else .next s

/-! ### Retention (R505, R506) -/

/-- A segment lies in the range of a running fetch of its stream. -/
def Ledger.fetched (l : Ledger) (g : Seg) : Bool :=
  l.fetches.any (fun f => f.head.tenant == g.stream &&
    l.stored.any (fun b => b.stream == g.stream && decide (b.laddr / 1048576 = g.num ∧ f.next ≤ b.bseq ∧ f.from_ ≤ b.last ∧ b.first ≤ f.to_)))

/-- A full segment has expired (R505). -/
def State.expired (s : State) (g : Seg) : Bool :=
  let d := s.led.retention g.stream
  g.full && decide (0 < d ∧ g.newest + d * 86400000000000 < s.ptp) && !s.led.fetched g

/-- A segment is reclaimed (R505): zeros over its blocks, a free entry, a Flush. -/
def Ledger.reclaim (l : Ledger) (n : Nat) : Ledger :=
  let l := l.issue n 0 (fun a => .writeZeroes a 256)
  let l : Ledger := { l with segs := l.segs.filter (fun g => g.num != n), stored := l.stored.filter (fun b => b.laddr / 1048576 != n) }
  (l.putEntry n).flush n

/-- LEDGER_RECLAIM (R505): every 60 s Eloawen has expired segments zeroed and freed (R507); writing resumes (R504). -/
def execLedgerReclaim (s : State) : Out :=
  if !(s.led.running && s.led.isMounted && s.board.ptpValid && s.stewardOn && decide (s.led.reclaimT + 60000000000 ≤ s.now)) then .next s
  else
    let gone := (s.led.segs.filter s.expired).map Seg.num
    let s := s.onLed (fun l => { gone.foldl Ledger.reclaim l with reclaimT := s.now })
    .next s.spaceLow.writeOut

/-! ### Drive errors (R510 to R513) -/

/-- The newest Write, Read or Flush of a drive is issued again (R510) (DEDUCED, log entry 66). -/
def Ledger.retry (l : Ledger) (d : Nat) : Ledger :=
  match l.io.find? (fun c => c.drive == d) with
  | some c => l.sendTo d c.op
  | none => l

/-- NVME_TIMEOUT (R510): no completion within 1 s; the command is retried. -/
def execNvmeTimeout (d : Fin 4) (s : State) : Out :=
  if (s.led.drive d.val).alive then .next ((((s.setBit 0x31001C 2).fault 0x08 0x08).onLed (fun l => l.retry d.val)).driveFail d.val) else .next s

/-- NVME_ERROR (R510, R511): a command of a drive failed; `again` says that the retry of a Write of the stream failed too. -/
def execNvmeError (d : Fin 4) (stream : Nat) (again : Bool) (s : State) : Out :=
  if !(s.led.drive d.val).alive then .next s
  else
    let s := s.setBit 0x31001C 0
    if !again then .next (((s.fault 0x08 0x01).onLed (fun l => l.retry d.val)).driveFail d.val)
    else
      let s := s.driveFail d.val
      match s.led.sealed_.find? (fun b => b.stream == stream && b.written) with
      | some b =>
        let s := s.rewriteFrom stream b.bseq
        if b.tries + 1 < 3 then
          let s := s.onLed (fun l => { l with sealed_ := updFirst (fun c => c.stream == stream && !c.written) (fun c => { c with tries := b.tries + 1 }) l.sealed_ })
          .next s.writeOut
        else
          let n := b.entries.length
          let first : Batch → Bool := fun c => c.stream == stream && !c.written
          let s := s.onLed (fun l =>
            { l with sealed_ := match l.sealed_.find? first with | some c => l.sealed_.erase c | none => l.sealed_
                     seals := l.seals.map (fun w => if w.2.1 = stream then (w.1, w.2.1, w.2.2 - 1) else w) })
          .next (s.gap stream 4 n b.first b.last).writeOut
      | none => .next s

/-- DRIVE_LOST (R512). -/
def execDriveLost (d : Fin 4) (s : State) : Out := .next (s.loseDrive d.val)

/-- What resilvering copies to a drive from its partner (R513): every segment that is not free. -/
def State.copyTo (s : State) (d : Nat) : State :=
  match mirrorOf s.led.arrange d with
  | none => s
  | some m =>
    let l := s.led
    let sys : List (Nat × Nat × List Byte) :=
      [(0, 0, s.labelBlock), (0, 1, s.labelBlock), (0, 2, l.shutBlock)]
        ++ (((List.range (ntab l.nseg / 128 + 1)) ++ (l.segs.map (fun (g : Seg) => g.num / 128))).eraseDups.map (fun k =>
             ((entryAt (128 * k)).1, (entryAt (128 * k)).2, l.tableBlock k)))
    let data := (l.stored ++ l.sealed_.filter Batch.written).map (fun b => (b.laddr / 1048576, b.laddr / 4096 % 256, b.blocks))
    s.onLed (fun l => ((sys ++ data).filter (fun x => (l.drivesOf x.1).contains d)).foldl (fun l x =>
      (l.sendTo m (.read (l.lba x.1 x.2.1) (x.2.2.length / 4096))).sendTo d (.write (l.lba x.1 x.2.1) x.2.2)) l)

/-- RESILVER_DONE (R513): the copy ends and the ledger leaves DEGRADED. -/
def execResilverDone (s : State) : Out :=
  if s.led.drives.any (fun d => d.state == 2) then
    let s := ((List.range 4).filter (fun d => (s.led.drive d).state == 2)).foldl (fun s d => s.copyTo d) s
    let s := s.onLed (fun l => { l with drives := l.drives.map (fun d => if d.state = 2 then { d with state := 1 } else d) })
    let s := [0, 1, 2, 3].foldl (fun s d => s.setReg (0x31010C + 0x20 * d) 0) s
    .next ((s.onLed (fun l => if l.st = .degraded then { l with st := l.mountSt } else l)).ledgerEvt 1)
  else .next s

/-! ### Fetch (R474, R515) -/

/-- The PTP time of a ledgered record: its STAMP, or the time its layout gives (Tables 08-1, 12-20 to 12-23). -/
def entryTime (e : Entry) : Nat :=
  let o := match e.tag.kind with
    | 0x64 => 12 | 0x65 => 28 | 0x67 => 12 | 0x68 => 12 | 0x69 => 12 | 0x6A => 8 | _ => 0
  numAt e.payload o 8

/-- Cut entries into trains by TCNT. -/
def trainsOf : Nat → List Entry → List (List Entry)
  | 0, _ => []
  | _ + 1, [] => []
  | k + 1, e :: l => let m := Nat.max 1 e.tag.tcnt; (e :: l).take m :: trainsOf k ((e :: l).drop m)

/-- Does a fetch take this train (Table 12-12)? (DEDUCED, log entry 43) -/
def Fetch.takes (f : Fetch) (t : List Entry) : Bool :=
  match t.head? with
  | some e => decide (e.tag.channel < 64) && f.mask.testBit e.tag.channel && decide (f.from_ ≤ entryTime e ∧ entryTime e ≤ f.to_)
      && (f.periodic || e.tag.kind != 0x60)
  | none => false

/-- A record read back, with its tag, for the fetch's queue. -/
def fetchedRec (q : Nat) (t : List Entry) : Option RecIn :=
  match t.head? with
  | some e => some { kind := e.tag.kind, tenant := e.tag.tenant, channel := e.tag.channel, corr := e.tag.corr, stepref := e.tag.stepref,
                     calgen := e.tag.calgen, stale := e.tag.stale, twin := e.tag.twin, payloads := t.map Entry.payload, queue := some q, staged := false }
  | none => none

/-- A fetch ends: its LEDGER event (R474, Table 12-24). -/
def State.endFetch (s : State) (f : Fetch) (st : Status) : State :=
  let s := s.onLed (fun l => { l with fetches := l.fetches.filter (fun g => g.head.tenant != f.head.tenant) })
  let s := s.onQueue f.queue (fun q => { q with fetching := false })
  s.pushEvt { kind := 0xAE, tenant := f.head.tenant, dest := f.head.tenant, corr := f.head.corr, time := s.ptp,
              payloads := [payload [fN 0 1 0, fN 1 1 (statusCode st), fN 8 8 s.ptp, fN 16 4 f.placed]] }

/-- The batches of a stream that overlap a time range, from a BSEQ on. -/
def Ledger.inRange (l : Ledger) (t from_ to_ next : Nat) : List Batch :=
  l.stored.filter (fun b => b.stream == t && b.btype == 0 && decide (next ≤ b.bseq ∧ from_ ≤ b.last ∧ b.first ≤ to_))

/-- LEDGER_FETCH_BATCH (R515, R474): the next batch of the fetch whose turn it is has arrived, or its drive failed; the next tenant's turn
follows (DEDUCED, log entry 43). -/
def execLedgerFetchBatch (t : Nat) (ans : DriveAns) (s : State) : Out :=
  match s.led.fetches.head?.filter (fun f => f.head.tenant == t) with
  | some f =>
    match s.led.inRange t f.from_ f.to_ f.next with
    | [] => .next (s.endFetch f .ok)
    | b :: rest =>
      match ans with
      | .ok =>
        if !s.led.readable (b.laddr / 1048576) then .next ((s.setBit 0x31001C 1).endFetch f .media)
        else
          let rs := ((trainsOf b.entries.length b.entries).filter f.takes).filterMap (fetchedRec f.queue)
          let f := { f with next := b.bseq + 1, placed := f.placed + rs.length }
          let s := { s with recFifo := s.recFifo ++ rs }
          let s := s.onLed (fun l =>
            let l : Ledger := { l with fetches := l.fetches.drop 1 ++ [f] }
            l.fetchFrom (b.laddr / 1048576) (b.laddr / 4096 % 256) b.nblk)
          .next (if rest.isEmpty then s.endFetch f .ok else s)
      | .timeout => .next ((s.setBit 0x31001C 2).endFetch f .timeout)
      | _ => .next ((s.setBit 0x31001C 1).endFetch f .media)
  | none => .next s

/-! ### Initialisation (R518) -/

/-- LEDGER_INIT: a drive set in state UNLABELLED, or one in state FOREIGN or INCOMPLETE whose labels are erased first. -/
def State.ledgerInit (s : State) (erase : Bool) : State :=
  let ok := if erase then s.led.st == .foreign || s.led.st == .incomplete else s.led.st == .unlabelled
  if !(s.led.running && ok) then s
  else
    let wipe (l : Ledger) (d : Nat) : Ledger := if (l.drive d).alive then l.sendTo d (.writeZeroes 0 2) else l
    (if erase then s.onLed (fun l => (List.range 4).foldl wipe l) else s).initLedger

/-- LEDGER_INIT_INIT (R518). -/
def execLedgerInitInit (s : State) : Out := .next (s.ledgerInit false)

/-- LEDGER_INIT_ERASE (R518). -/
def execLedgerInitErase (s : State) : Out := .next (s.ledgerInit true)

/-! ### The end of Lehr (R99, R507, R592) -/

/-- The fixture identity of a channel as TRAY_IDn holds it (R632). -/
def State.fixId (s : State) (c : ChanNo) : Nat := s.reg (0x080500 + 8 * c.val) + 4294967296 * s.reg (0x080504 + 8 * c.val)

/-- A paused channel's entry of the resume area, in region 5 (R99, R342, Table 18-12). -/
def State.resumeEntry (s : State) (c : ChanNo) : State :=
  let s := s.onChan c (fun x => { x with est := { x.est with fixId := s.fixId c, savedOcv := some x.meas.vout } })
  if s.isPaused c then s.keepNvm 5 (fun s => s.onChan c (fun x => { x with resume := true })) else s.onChan c (fun x => { x with resume := false })

/-- The resume area, the counters and the meter snapshot (R99, R342, R362, R370). -/
def State.writeResume (s : State) : State :=
  let s := s.forChans allChans (fun c s => (s.collect c).resumeEntry c)
  let s := s.commitCounters
  { s with met := { s.met with snapshot := true, snapT := s.ptp } }

/-- LEHR_RAMP_DONE (R99): every channel is at rest; the resume area and the meter snapshot, then every batch sealed with cause LEHR. -/
def execLehrRampDone (s : State) : Out :=
  if s.mode.mode = .lehr && !s.board.pwr.lehrRest && s.execMask == 0 then
    let s := s.writeResume
    let s := if s.led.running then s.sealAll 4 else s
    .next (s.onPwr (fun p => { p with lehrRest := true, lehrSealT := s.now }))
  else .next s

/-- LEHR_DONE (R99, R507, R592, R614): the flush ended, or 1 s passed without it; PERST_N low, the snapshot, power-down, KEEP or SHIP. -/
def execLehrDone (flushed : Bool) (s : State) : Out :=
  let p := s.board.pwr
  if s.mode.mode = .lehr && p.lehrRest && (flushed || decide (p.lehrSealT + 1000000000 ≤ s.now)) then
    let s := if flushed then s.durable else s
    let s := s.onLed (fun l => { (if l.isMounted then (l.writeShut (if flushed then 1 else 3) s.ptp).endQueues else l) with perst := true })
    let s := s.snapshot 4
    .next (s.toKeep (if p.ship then .ship else .keep) 0x14 0x0A true)
  else .next s

end Sys2Proof.Machine
end

