-- ==== Sys2Proof/Machine/Resets.lean ====
section
/-! DEFINITION. Resets, the image check, the end of BOOT, block resets (chapter 18). -/

namespace Sys2Proof.Machine

open Sys2Proof

/-- RESET_N (R638): low for 1 µs or more: a warm reset. -/
def execResetN (s : State) : Out := .next (s.warmReset 4)

/-- BROWNOUT (R638): a supply below its threshold for 2 µs: a warm reset. -/
def execBrownout (s : State) : Out := .next (s.warmReset 5)

/-- COMMANDED_WARM_RESET (R640): 10 ms after the completion. -/
def execCommandedWarmReset (s : State) : Out :=
  if s.rst.commanded ∧ s.rst.commandedT + 10000000 ≤ s.now then
    .next (({ s with rst := { s.rst with commanded := false } }).warmReset s.rst.commandedSrc)
  else .next s

/-- The quiesce timeout of a block in ns (Tables 18-6 and 18-15). -/
def State.quiesceTo (s : State) (block : Nat) : Nat := if block = 8 then s.lqTo else s.fld 0x010008 0 8 * 1000000

/-- WARM_RESET_LEDGER_QUIESCE (R507, R640): the quiesce ended, or LQTO passed. -/
def execWarmResetLedgerQuiesce (timeout : Bool) (s : State) : Out :=
  if s.rst.warm ∧ s.rst.ledgerQuiesce ∧ (timeout = false ∨ s.rst.quiesceT ≤ s.now) then .next (s.holdLedger timeout) else .next s

/-- WARM_RESET_RELEASE (R640): the source has ended: the islands are released, the strap is read, BOOT begins. -/
def execWarmResetRelease (strap : BitVec 6) (s : State) : Out :=
  if s.rst.warm ∧ !s.rst.ledgerQuiesce then
    .next (({ s with rst := { s.rst with warm := false } }).enterBoot (some strap.toNat) 0x17)
  else .next s

/-- IMAGE_CHECK (R644, R649, R650): `sig0` and `sig1` say that the body hash and every signature of the slot verify (DESIGN CHOICE, log entry 48). -/
def execImageCheck (sig0 sig1 : Bool) (s : State) : Out :=
  if s.mode.mode ≠ .boot ∨ s.fw.isSome then .next s
  else
    let ok (n : Nat) : Bool := s.imageOk (s.flash.slot n) (if n = 0 then sig0 else sig1)
    let a := s.firstSlot
    let b := 1 - a
    if !ok a ∧ !ok b then .next ((s.fault 0x00 0x01).enterLockout 0x08 0)
    else
      let s := if ok a then s.acceptImage a else (s.acceptImage b).fault 0x00 0x02
      if s.rst.latched then
        .next ((s.fault (s.rst.fcode / 256) (s.rst.fcode % 256)).enterLockout 0x15 s.rst.fcode)
      else .next s

/-- BOOT_END (R645, R16, R85, R526): after calibration the part is alone and takes the Pipe, enters TWIN, or begins to arbitrate. -/
def execBootEnd (s : State) : Out :=
  if !s.bootDone then .next s
  else if !s.optT then .next s.bootOwner
  else if s.board.pair.noForm ∨ s.board.pipeIn then .next s.bootTwin
  else if s.board.pair.arb = .none then .next (s.onBoard (fun b => { b with pair := { b.pair with arb := .idle } }))
  else .next s

/-- BLOCK_QUIESCE_DONE (R654, R655): the block is quiet, or its timeout expired; it is held for 10 µs and released. -/
def execBlockQuiesceDone (block : Nat) (timeout : Bool) (s : State) : Out :=
  match s.rst.blocks.find? (fun b => b.block == block) with
  | some b =>
    if b.quieted ∨ (timeout = true ∧ s.now < b.at_ + s.quiesceTo block) then .next s
    else
      let s := if timeout then (if block = 8 then s.fault 0x08 0x09 else s.faultD 0x00 0x04 (leBytes 1 block)) else s
      let s := if block = 8 && !timeout then s.durable else s
      let s := s.resetBlock block
      .next ({ s with rst := { s.rst with blocks := updFirst (fun b => b.block == block) (fun b => { b with quieted := true, at_ := s.now }) s.rst.blocks } }).settle
  | none => .next s

/-- BLOCK_RESET_RETURN (R654, R655): the block has returned after its 10 µs, a Gather with its calibration; every command that asked for it completes. -/
def execBlockResetReturn (block : Nat) (s : State) : Out :=
  match s.rst.blocks.find? (fun b => b.block == block) with
  | some b =>
    let back := match gather? (block - 0x10) with
      | some g => !decide (0x10 ≤ block) || (s.gat g).calibrated
      | none => true
    if b.quieted && back && decide (b.at_ + 10000 ≤ s.now) then
      let done : List Reply := (b.head.toList ++ b.more).map (fun h => { head := h, opcode := 0x3A, status := .ok, applied := s.ptp })
      .next { s with rst := { s.rst with blocks := s.rst.blocks.filter (fun x => x.block != block) }, inflight := s.inflight ++ done }
    else .next s
  | none => .next s

end Sys2Proof.Machine
end

