-- ==== Sys2Proof/Machine/Tray.lean ====
section
/-! DEFINITION. The tray bus (chapter 17): transfers and their order, arbitration and the target, stuck buses, alerts, fixture
identities. -/

namespace Sys2Proof.Machine

open Sys2Proof

/-! ### Shared operations -/

/-- The port is enabled and driven (R618, Table 02-11). -/
def State.portOn (s : State) (p : Fin 4) : Bool := s.bit (trA p 0) 3 && modeUp s.mode.mode

/-- BUSLOCK (Table 17-10). -/
def State.busLock (s : State) (p : Fin 4) : Bool := s.bit (trA p 0x84) 1

/-- tBUF in ns at the port's speed (R619). -/
def tBuf : Nat → Nat
  | 0 => 4700 | 1 => 1300 | _ => 500

/-- The bus is free (R619). -/
def State.busFree (s : State) (p : Fin 4) : Bool := (s.port p).active.isNone && decide ((s.port p).freeT ≤ s.now)

/-- At a bus-free point what was written to TRAY_CFG takes effect (R637). -/
def State.atFree (s : State) (p : Fin 4) : State := if s.busFree p then s.takeCfg p else s

/-- The bus was in use up to now: it is free `wait` ns later (R619). -/
def State.busUsed (s : State) (p : Fin 4) (wait : Nat) : State := s.onPort p (fun t => { t with freeT := s.now + wait })

/-- A STOP was seen now (R619). -/
def State.stopSeen (s : State) (p : Fin 4) : State := s.busUsed p (tBuf (s.fld (trA p 0) 0 2))

/-- Eight words from 32 bytes, at the data registers of a port. -/
def State.putWords (s : State) (a : Nat) (bs : List Byte) : State :=
  (List.range 8).foldl (fun s i => s.setReg (a + 4 * i) (numAt bs (4 * i) 4)) s

/-- The bytes that eight data registers hold. -/
def State.getWords (s : State) (a : Nat) : List Byte := ((List.range 8).map (fun i => leBytes 4 (s.reg (a + 4 * i)))).flatten

/-- A transfer started through TRAY_XCTL ends (Table 17-5). `data` are the bytes that went over the bus: those read, when RLEN is not 0,
else those written (DEDUCED, log entry 49). -/
def State.xferEnd (s : State) (p : Fin 4) (result : Nat) (data : List Byte) : State :=
  let s := if s.fld (trA p 4) 16 6 = 0 ∨ data.isEmpty then s else s.putWords (trA p 0x20) (putAt (s.getWords (trA p 0x20)) 0 (data.take 32))
  let s := s.setReg (trA p 8) (3 + 16 * result + 256 * Nat.min data.length 63 + 65536 * s.fld (trA p 8) 16 3)
  s.onPort p (fun t => { t with xferReq := false, abort := false })

/-- The alert read of R629 ended. What the other alerting targets then do to ALERT_N is free (DEDUCED, log entry 49). -/
def State.alertRead (s : State) (p : Fin 4) (ans : Option Nat) : State :=
  match ans with
  | some a =>
    let (n, s) := s.draw
    let w := trA p 0x80
    let s := ((s.setFld w 8 7 a).bump w 16 16).setFld w 0 1 (n % 2)
    s.onPort p (fun t => { t with round := true, alertT := some s.now })
  | none => (s.setBit (trA p 0x80) 1).onPort p (fun t => { t with round := false, alertT := some s.now })

/-- The channels mapped to an identity (R630). -/
def State.fixChans (s : State) (p : Fin 4) (addr ofs : Nat) : List ChanNo :=
  allChans.filter (fun c =>
    let w := s.reg (0x080400 + 4 * c.val)
    w.testBit 2 && bitsOf w 0 2 == p.val && bitsOf w 3 7 == addr && bitsOf w 16 8 == ofs)

/-- A cell change on a member of a gang is declared for the gang, through its leader, once the Steward cores run (R633), by the part that
holds the Pipe (R634). -/
def State.declareChange (s : State) (c : ChanNo) (why : Nat) : State :=
  if !s.holdsPipe then s
  else if s.stewardOn then s.cellChange (s.leaderOf c) why
  else s.onBoard (fun b => { b with found := b.found ++ [(c.val, why)] })

/-- One channel of an identity that was read (R632, R342). -/
def State.fixOne (s : State) (c : ChanNo) (v : Nat) (first : Bool) : State :=
  let a := 0x080400 + 4 * c.val
  let known := s.bit a 24
  let old := s.fixId c
  let s := (s.setReg (0x080500 + 8 * c.val) (v % 2 ^ 32)).setReg (0x080504 + 8 * c.val) (v / 2 ^ 32)
  let s := (s.setFld a 24 1 1).setFld a 25 1 0
  if known then (if old = v then s else s.declareChange c 1)
  else if first && (s.chan c).resume && (s.chan c).est.fixId != v then s.declareChange c 2
  else s

/-- A fixture identity read ended (R632). -/
def State.identityEnd (s : State) (p : Fin 4) (addr ofs : Nat) (val : Option Nat) : State :=
  let cs := s.fixChans p addr ofs
  let t := s.port p
  let rest := t.fails.filter (fun x => !(x.1 == addr && x.2.1 == ofs))
  match val with
  | some v =>
    let first := !t.firstDone.contains (addr, ofs)
    let s := s.forChans cs (fun c s => s.fixOne c v first)
    s.onPort p (fun t => { t with fails := rest, firstDone := if first then (addr, ofs) :: t.firstDone else t.firstDone })
  | none =>
    let n := ((t.fails.find? (fun x => x.1 == addr && x.2.1 == ofs)).map (fun x => x.2.2)).getD 0 + 1
    let s := s.onPort p (fun t => { t with fails := (addr, ofs, Nat.min n 3) :: rest })
    if n = 3 then
      let s := s.forChans cs (fun c s => s.setFld (0x080400 + 4 * c.val) 25 1 1)
      (s.setBit (trA p 0x84) 2).fault 0x04 0x03
    else s

/-- The job of a port ends with a result (R620, R621, R623, R637). -/
def State.jobEnd (s : State) (p : Fin 4) (j : TrayJob) (result : Nat) (data : List Byte) : State :=
  let s := (s.onPort p (fun t => { t with active := none, losses := 0 })).busUsed p
    (if result = 4 then 50000 else if result = 6 then 0 else tBuf (s.fld (trA p 0) 0 2))
  match j with
  | .xfer => s.xferEnd p (if (s.port p).abort then 7 else result) data
  | .alert =>
    if result = 0 then s.alertRead p (data.head?.map (fun b => b.toNat / 2))
    else if result = 1 then s.alertRead p none
    else s.onPort p (fun t => { t with round := false, alertT := some s.now })
  | .poll a o => s.identityEnd p a o (if result = 0 ∧ data.length = 8 then some (leNat data) else none)

/-- The highest-precedence transfer that waits (R620), taken out of the waiting ones (DEDUCED, log entry 49). -/
def State.nextJob (s : State) (p : Fin 4) : Option TrayJob × State :=
  let t := s.port p
  if t.alertReq then (some .alert, s.onPort p (fun t => { t with alertReq := false }))
  else if t.xferReq then (some .xfer, s.onPort p (fun t => { t with xferReq := false }))
  else
    match t.polls with
    | (a, o) :: l => (some (.poll a o), s.onPort p (fun t => { t with polls := l }))
    | [] => (none, s)

/-- A read of the alerting targets is due (R628, R629): at once on a free bus, with the answer it finds there, else before every other
transfer that waits (R620). A read under BUSLOCK ends the round. -/
def State.alertSeen (s : State) (p : Fin 4) (ans : Option Nat) : State :=
  let s := s.setBit (trA p 0x80) 0
  if !s.bit (trA p 0) 12 then s
  else if s.busLock p then s.onPort p (fun t => { t with round := false, alertT := some s.now })
  else if s.busFree p then (s.alertRead p ans).stopSeen p
  else s.onPort p (fun t => { t with alertReq := true })

/-- The target takes a write to OWNADDR (R625 to R627). -/
def State.mailbox (s : State) (p : Fin 4) (addr : Nat) (bytes : List Byte) (arb : Bool) : State :=
  if !s.bit (trA p 0) 11 ∨ s.fld (trA p 0) 4 7 ≠ addr ∨ bytes.isEmpty then s
  else if s.bit (trA p 0x40) 6 then s.setBit (trA p 0x40) 8
  else
    let b := bytes.take 32
    let s := s.putWords (trA p 0x60) b
    let s := (s.setFld (trA p 0x40) 0 6 b.length).setBit (trA p 0x40) 6
    if arb then s.setBit (trA p 0x40) 7 else s

/-! ### Rows -/

/-- GO (R620, R637): a write of GO while a transfer waits or runs is ignored and sets CFGERR. -/
def execGo (p : Fin 4) (s : State) : Out :=
  let st := s.fld (trA p 8) 0 2
  if st = 1 ∨ st = 2 then .next (s.setBit (trA p 0x84) 3)
  else .next ((s.setReg (trA p 8) 1).onPort p (fun t => { t with xferReq := true, abort := false }))

/-- ABORT (Table 17-4): a waiting transfer ends at once, a running one at its next byte boundary. -/
def execAbort (p : Fin 4) (s : State) : Out :=
  let t := s.port p
  if t.active = some .xfer then .next (s.onPort p (fun t => { t with abort := true }))
  else if t.xferReq then .next (s.xferEnd p 7 [])
  else .next s

/-- TRAY_TRANSFER_START (R619, R620): the bus is free and the waiting transfer of highest precedence starts; while BUSLOCK is set it
ends instead. -/
def execTrayTransferStart (p : Fin 4) (s : State) : Out :=
  let s := s.atFree p
  if !s.portOn p ∨ !(s.busLock p || s.busFree p) ∨ (s.port p).active.isSome then .next s
  else
    match s.nextJob p with
    | (some j, s) =>
      if s.busLock p then .next (s.jobEnd p j 6 [])
      else
        let s := s.onPort p (fun t => { t with active := some j })
        .next (if j = .xfer then s.setFld (trA p 8) 0 2 2 else s)
    | (none, s) => .next s

/-- TRAY_TRANSFER_END (R621, Table 17-5): the running transfer ends with its result. -/
def execTrayTransferEnd (p : Fin 4) (result : Fin 8) (data : List Byte) (s : State) : Out :=
  match (s.port p).active with
  | some j => .next (s.jobEnd p j result.val data)
  | none => .next s

/-- ARB_LOST (R624, R625): the loss is counted; the part may be the target of what goes on; the transfer starts again when the bus is
free, and ends after four losses. -/
def execArbLost (p : Fin 4) (addr : BitVec 7) (bytes : List Byte) (s : State) : Out :=
  match (s.port p).active with
  | some j =>
    let n := (s.port p).losses + 1
    let s := s.bump (trA p 0x84) 16 16
    let s := if j = .xfer then s.setFld (trA p 8) 16 3 n else s
    let s := (s.mailbox p addr.toNat bytes true).stopSeen p
    if 4 ≤ n then .next (s.jobEnd p j 3 [])
    else
      let s := s.onPort p (fun t => { t with active := none, losses := n })
      match j with
      | .xfer => .next ((s.setFld (trA p 8) 0 2 1).onPort p (fun t => { t with xferReq := true }))
      | .alert => .next (s.onPort p (fun t => { t with alertReq := true }))
      | .poll a o => .next (s.onPort p (fun t => { t with polls := (a, o) :: t.polls }))
  | none => .next s

/-- TRAY_TIMEOUT (R621, R622): SCL stayed low for 35 ms within a transfer; a target abandons its transfer. -/
def execTrayTimeout (p : Fin 4) (s : State) : Out :=
  match (s.port p).active with
  | some j => .next (((s.jobEnd p j 4 []).setBit (trA p 0x84) 0).fault 0x04 0x01)
  | none => .next s

/-- TRAY_STUCK (R623): the bus was stuck with no transfer running; `freed` says that nine pulses raised SDA. -/
def execTrayStuck (p : Fin 4) (freed : Bool) (s : State) : Out :=
  if !s.portOn p ∨ (s.port p).active.isSome ∨ s.busLock p then .next s
  else if freed then .next (s.stopSeen p)
  else .next (((s.setBit (trA p 0x84) 1).onPort p (fun t => { t with lockT := s.now })).fault 0x04 0x02)

/-- BUSLOCK_RETRY (R623): 1 s after the last recovery that failed (DEDUCED, log entry 49). -/
def execBuslockRetry (p : Fin 4) (freed : Bool) (s : State) : Out :=
  if !s.busLock p ∨ s.now < (s.port p).lockT + 1000000000 then .next s
  else if freed then .next ((s.setFld (trA p 0x84) 1 1 0).stopSeen p)
  else .next (s.onPort p (fun t => { t with lockT := s.now }))

/-- TARGET_WRITE (R626, R627): a write to a target address; a transfer of the part itself is never stored. -/
def execTargetWrite (p : Fin 4) (addr : BitVec 7) (bytes : List Byte) (s : State) : Out :=
  let s := s.atFree p
  if s.portOn p ∧ (s.port p).active.isNone then .next ((s.mailbox p addr.toNat bytes false).stopSeen p) else .next s

/-- RXNEW_CLEAR (R627): the mailbox takes the next write. -/
def execRxnewClear (p : Fin 4) (s : State) : Out := .next (s.setFld (trA p 0x40) 6 1 0)

/-- ALERT (R628, R629): ALERT_N was asserted for 10 µs; a new round begins with its first read. -/
def execAlert (p : Fin 4) (ans : Option (BitVec 7)) (s : State) : Out :=
  let s := s.atFree p
  if s.portOn p then .next (s.alertSeen p (ans.map BitVec.toNat)) else .next s

/-- ALERT_REREAD (R629): ALERT_N is still asserted 100 µs after an answer, or 1 s after the end of a round. -/
def execAlertReread (p : Fin 4) (ans : Option (BitVec 7)) (s : State) : Out :=
  let s := s.atFree p
  let t := s.port p
  match t.alertT with
  | some e =>
    if s.portOn p ∧ e + (if t.round then 100000 else 1000000000) ≤ s.now then .next (s.alertSeen p (ans.map BitVec.toNat)) else .next s
  | none => .next s

/-- IDPOLL (R632): after each interval, each distinct identity mapped to the port is due once. -/
def execIdpoll (p : Fin 4) (s : State) : Out :=
  let s := s.atFree p
  if !s.portOn p ∨ s.fld (trA p 0) 16 8 = 0 ∨ s.now < (s.port p).pollT + 100000000 * s.fld (trA p 0) 16 8 then .next s
  else
    let due := allChans.foldl (fun (l : List (Nat × Nat)) c =>
      let w := s.reg (0x080400 + 4 * c.val)
      let k := (bitsOf w 3 7, bitsOf w 16 8)
      if w.testBit 2 && bitsOf w 0 2 == p.val && !l.contains k then l ++ [k] else l) (s.port p).polls
    .next (s.onPort p (fun t => { t with polls := due, pollT := s.now }))

/-- IDENTITY_READ_DONE (R632): the running identity read ends; `val` is the value of a success. -/
def execIdentityReadDone (p : Fin 4) (addr ofs : Nat) (val : Option (BitVec 64)) (s : State) : Out :=
  if (s.port p).active = some (.poll addr ofs) then
    .next (((s.onPort p (fun t => { t with active := none, losses := 0 })).stopSeen p).identityEnd p addr ofs (val.map BitVec.toNat))
  else .next s

end Sys2Proof.Machine
end

