-- ==== Sys2Proof/Machine/PairOps.lean ====
section
/-! DEFINITION. The redundant pair (chapter 14): frames, the mirror stream, formation, takeover and contention as shared operations. -/

namespace Sys2Proof.Machine

open Sys2Proof

/-! ### Clock and pair state -/

def State.pr (s : State) : Pair := s.board.pair

def State.onPair (s : State) (f : Pair → Pair) : State := s.onBoard (fun b => { b with pair := f b.pair })

/-- A PAIR event to the house (Table 12-24, KIND 0xAB). -/
def State.pairEvt (s : State) (code : Nat) : State := s.houseEvt 0xAB [payload [fN 0 1 code, fN 4 4 s.pr.epoch, fN 8 8 s.ptp]]

/-- The body of the part's own IDENT (R522, Table 14-2). -/
def State.ownIdent (s : State) : Ident :=
  { serial := s.serial, opt := s.opt, mver := 3, epoch := s.pr.epoch, inc := s.pr.inc, pref := s.strap.testBit 0, certOk := true, fw := s.fw }

/-- ROLE of PAIR_STAT (Table 14-11). -/
def State.role (s : State) : Nat :=
  if s.pr.contend then 3 else if !s.board.formed then 0 else if s.board.owner then 1 else 2

/-- CONHOLD in ns (Table 14-10). -/
def State.conhold (s : State) : Nat := s.fld 0x330000 24 8 * 1000

/-! ### Frames (R521) -/

/-- The check of R521 on a frame other than IDENT: taken or discarded, and counted (DEDUCED, log entry 50). -/
def State.takeFrame (s : State) (f : FrameHead) : Bool × State :=
  if !f.crcOk then (false, (s.setBit 0x330028 0).bump 0x330028 16 16)
  else if s.board.linkUp && s.pr.known && !(f.epoch == s.pr.epoch && s.pr.pInc == some f.inc) then
    (false, (s.setBit 0x330028 1).bump 0x330028 16 16)
  else (true, s)

/-- Record the FSEQ of a frame; the flag says that it follows the last one of its type (R521, R529). -/
def State.inOrder (s : State) (ftype fseq : Nat) : Bool × State :=
  let ok := match s.pr.fseqIn.find? (fun x => x.1 == ftype) with | some x => (x.2 + 1) % 2 ^ 32 == fseq | none => true
  (ok, s.onPair (fun p => { p with fseqIn := (ftype, fseq) :: p.fseqIn.filter (fun x => x.1 != ftype) }))

/-- The non-owner falls out of sync (R533). -/
def State.outOfSync (s : State) : State :=
  if s.board.owner ∨ s.pr.sync = 0 then s
  else
    let was := s.pr.sync
    let s := s.onPair (fun p => { p with sync := 0, resyncT := none })
    if was = 2 then s.fault 0x0A 0x06 else s

/-! ### The mirror stream (R529, R530, Table 14-4) -/

/-- Registers written by the house that the mirror stream carries: Gather, BUS, EIS and LEDGER. -/
def regMirrored (a : Nat) : Bool :=
  (decide (0x100000 ≤ a ∧ a < 0x180000) && a % 0x10000 != 0x20 && a % 0x10000 != 0x220) || decide (0x200000 ≤ a ∧ a < 0x200010)
    || (decide (0x200100 ≤ a ∧ a < 0x200200) && decide (a % 0x20 < 0x14)) || a == 0x200800 || decide (0x200900 ≤ a ∧ a < 0x200980)
    || (decide (0x210000 ≤ a ∧ a < 0x210800) && a % 0x100 == 0) || a == 0x310000

/-- Every item as it stands on the owner. -/
def State.mirrorItems (s : State) : List MirrorItem :=
  allChans.map (fun c =>
    let x := s.chan c
    MirrorItem.chan c x.loop x.prot { x.prog with shadow := [], shLen := 0, commit := none, commitBy := none } x.eis x.cap x.flextrim x.proptrim x.baltrim)
  ++ allGathers.map (fun g => MirrorItem.excite g (s.gat g).scold (maskOf ((chansOf g).filter (fun c => (s.chan c).meas.tcold) |>.map kOf)))
  ++ allChans.map (fun c => MirrorItem.est c (s.chan c).est)
  ++ allChans.map (fun c => let x := s.chan c; MirrorItem.counters c (x.cnt.add x.cntNew) x.eusedE x.meterImp x.meterExp)
  ++ (s.regs.filter (fun x => regMirrored x.1)).map (fun x => MirrorItem.reg x.1 x.2.toNat)
  ++ [.tenants s.tenants, .leases s.leases, .sessions s.sessions, .queues (s.queues.filter (fun (q : Queue) => !q.local_)), .barriers s.barriers,
      .bal s.bal, .meters s.met, .resume (maskOf ((allChans.filter (fun c => (s.chan c).resume)).map Fin.val)), .ownerMode s.mode.mode]

/-- Registers sent before that hold their reset value again. -/
def State.mirrorBack (s : State) : List MirrorItem :=
  s.pr.lastItems.filterMap (fun i => match i with
    | .reg a _ => if s.regs.any (fun x => x.1 == a) then none else some (.reg a (regReset a))
    | _ => none)

/-- A mirrored tenant on the non-owner: its own data key and its own storm state stay (R514, R530). -/
def State.mirrorTenant (s : State) (t : Tenant) : State × Tenant :=
  match s.tenant? t.num with
  | some o => (s, { o with suspended := t.suspended, key0 := t.key0, key1 := t.key1, code := t.code, enrolled := t.enrolled, qSess := t.qSess,
                           qQueues := t.qQueues, qRingKib := t.qRingKib, qRecRate := t.qRecRate, qEvRate := t.qEvRate })
  | none =>
    let (n, s) := s.draw
    (s, { t.kept with code := t.code, dataKey := leBytes 32 n })

/-- One item is applied on the non-owner; a change of an excitation range discards the thermistor samples of 1 ms (R213). -/
def State.applyItem (s : State) (i : MirrorItem) : State :=
  match i with
  | .chan c l p g e cap ft pt bt =>
    let o := (s.chan c).loop
    s.onChan c (fun x => { x with
      loop := { l with st := .released, before := if l.st = .released then l.before else l.st, vhist := o.vhist, ihist := o.ihist, vloop := o.vloop, iloop := o.iloop }
      prot := { p with twinck := x.prot.twinck, ckLatch := false }
      prog := { g with shadow := [], shLen := 0, commit := none, commitBy := none }
      eis := e, cap, flextrim := ft, proptrim := pt, baltrim := bt })
  | .excite g sc tc =>
    let s := s.onGat g (fun y => { y with scold := sc, sdiscard := if y.scold = sc then y.sdiscard else 1 })
    s.forChans (chansOf g) (fun c s =>
      let n := tc.testBit (kOf c)
      s.onMeas c (fun m => { m with tcold := n, tdiscard := if m.tcold = n then m.tdiscard else 1 }))
  | .est c e => s.onEst c (fun _ => e)
  | .counters c n eu mi me => s.onChan c (fun x => { x with cnt := n, cntNew := {}, eusedE := eu, meterImp := mi, meterExp := me })
  | .reg a v => if regMirrored a then s.setReg a v else s
  | .tenants l =>
    let (s, l) := l.foldl (fun (a : State × List Tenant) t => let r := a.1.mirrorTenant t; (r.1, a.2 ++ [r.2])) (s, [])
    { s with tenants := l }
  | .leases l => { s with leases := l }
  | .sessions l => s.onPair (fun p => { p with mSessions := l })
  | .queues l => s.onPair (fun p => { p with mQueues := l })
  | .barriers l => { s with barriers := l }
  | .bal b => { s with bal := b }
  | .meters m => { s with met := m }
  | .resume mask => s.forChans allChans (fun c s => s.onChan c (fun x => { x with resume := mask.testBit c.val }))
  | .ownerMode m => s.onPair (fun p => { p with ownerMode := m })

def State.applyItems (s : State) (l : List MirrorItem) : State := l.foldl State.applyItem s

/-- The resume area as the part that held the Pipe at LEHR entry gives it to its partner (R104) (DEDUCED, log entry 51). -/
def MirrorItem.ofResume : MirrorItem → Bool
  | .chan .. => true
  | .est .. => true
  | .resume _ => true
  | _ => false

/-- The owner begins a resync (R533): a SNAPSHOT of every item. -/
def State.startResync (s : State) : State :=
  if s.board.owner && s.board.formed && s.board.linkUp && !s.pr.unmirrored then
    let items := s.mirrorItems
    let s := s.sendZl (.snapshot items)
    (s.onPair (fun p => { p with sync := 1, resyncT := some s.now, lastItems := items })).bump 0x330018 16 16
  else s

/-! ### Drive after a takeover, a handover or a contention (Table 14-5, R537, R538, R542) -/

/-- One leader resumes under Table 14-5; `long` says that the outputs have been undriven for longer than CONHOLD (DEDUCED, log entry 51). -/
def State.resumeOne (s : State) (c : ChanNo) (long : Bool) : State :=
  let l := (s.chan c).loop
  if l.st ≠ .released ∨ !s.mayDrive c then s
  else
    let ms := s.membersOf c
    let put (s : State) (st : ChState) (con : Bool) (f : LoopSt → LoopSt) : State :=
      s.forChans ms (fun m s => (s.onLoop m (fun l => f { l with con, before := .stopped })).setSt m st .none 0)
    let sett (s : State) (dst : ChState) : State := put s .settling true (fun l => { l with settle := .takeover dst, ramp := if dst = .stopping then l.ramp else 0 })
    match l.before with
    | .softstart | .active => if long ∨ !l.con then sett s .active else (put s .active true id).takeoverGo c .active
    | .stopping => if long ∨ !l.con then sett s .stopping else (put s .stopping true id).takeoverGo c .stopping
    | .settling => put s .settling true (fun l => if long then { l with ramp := 0 } else l)
    | .resting =>
      let want := wantCon (s.chan c).cur
      if want && (long || !l.con) then sett s .resting else put s .resting want id
    | .faulted => put s .faulted false id
    | .paused => put s .paused false id
    | .stopped => put s .stopped (l.con && !long) id
    | .released => s.forChans ms (fun m s => s.driveChan m)

/-- Every channel of the part resumes. -/
def State.resumeAll (s : State) (long : Bool) : State := s.leaders.foldl (fun s c => s.resumeOne c long) s

/-- Outputs last driven at a time have been undriven for longer than CONHOLD when CON goes high 1 µs after the decision (R519, R537)
(DEDUCED, log entry 51). -/
def State.undrivenLong (s : State) : Bool :=
  match s.pr.pipeFallT with | some t => decide (s.conhold < s.now + 1000 - t) | none => true

/-- The PROGRAM events after a takeover or a handover (R296, R539): one for each leader under lease. -/
def State.programEvts (s : State) (why : Nat) : State :=
  s.leaders.foldl (fun s c =>
    if (s.lessee c.val).isSome then
      let p := (s.chan c).prog
      s.chanEvt 0xA3 c [payload [fN 0 1 p.imggen, fN 1 1 why, fN 2 2 p.live.length, fN 4 2 p.pc, fN 8 8 s.ptp]]
    else s) s

/-- The mirrored sessions and queues are served here from now on (R441, R422, Table 10-10); `loss` places the LOSS notices
(DEDUCED, log entry 51). -/
def State.adopt (s : State) (loss : Bool) : State :=
  let p := s.pr
  let qs := p.mQueues.map (fun (q : Queue) =>
    let q := if q.kind == QKind.command then q else { q with sent := q.cack, ackT := s.now }
    if loss && (q.kind == QKind.record || q.kind == QKind.event) then ({ q with noticeDue := some 1, missT0 := s.ptp, missT1 := s.ptp } : Queue).settle else q)
  let ss := p.mSessions.map (fun (x : Session) => { x with txDseq := x.txDseq + 2 ^ 20 })
  let s := { s with queues := s.queues ++ qs, sessions := s.sessions ++ ss }
  s.onPair (fun p => { p with mQueues := [], mSessions := [] })

/-- Buckets full, tables empty, levels 0 (R462). -/
def State.freshStorms (s : State) : State :=
  { s with storm := none
           tenants := s.tenants.map (fun t => { t with
             bucket0 := { level := bucketCap 0 t.qEvRate, since := s.now }, bucket1 := { level := bucketCap 1 t.qEvRate, since := s.now }
             bucket2 := { level := bucketCap 2 t.qEvRate, since := s.now }, coal := [], decim := 0, decimT := s.now, decimLoss := [], storm := none }) }

/-- PAIR_TKTIME (Table 14-16). -/
def State.tkStamp (s : State) : State := (s.setReg 0x33001C (s.ptp % 2 ^ 32)).setReg 0x330020 (s.ptp / 2 ^ 32)

/-- A takeover (R98, R537 to R540): warm or cold; one that is cold, or from SERVICE, stops every channel and ends every retry wait (DEDUCED, log
entry 51). It counts as taking the Pipe also while FENCE_IN is still high: the fall of FENCE_IN then lets the part drive (DESIGN CHOICE, log
entry 62). -/
def State.takeover (s : State) (warm : Bool) : State :=
  let long := s.undrivenLong
  let svc := decide (s.pr.ownerMode = .service)
  let s := s.onBoard (fun b => { b with
    owner := true, barred := false, fenceOut := true, pipeOut := true
    pair := { b.pair with cold := !warm, rcPrimary := true, contend := false, won := false, deadlock := false, ho := .none, arb := .none } })
  let s := s.tkStamp
  let s := if warm && !svc then s
    else s.forChans allChans (fun c s =>
      let x := s.chan c
      let waits := x.prot.retryWait
      let s := if waits then s.onProt c (fun p => { p with retryWait := false }) else s
      if x.loop.st ≠ .released then s
      else if svc then
        if stExec x.loop.before ∨ x.loop.before = .paused then (s.endProg c).onLoop c (fun l => { l with before := .stopped, con := false })
        else if waits then s.endProg c else s
      else s.onLoop c (fun l => if stExec l.before ∨ waits then { l with before := .paused } else l))
  let s := s.enterMode s.workMode 0x11 0
  let s := if warm && !svc then s.resumeAll long else s
  let s := s.settle
  let s := (s.adopt true).freshStorms
  (s.pairEvt 0).programEvts 0

/-- R535 and R536: heartbeats are missed and PIPE_IN is low on a part in TWIN, or on a part that DEADLOCK left undriven (R545); never in LEHR or
LOCKOUT (R84). -/
def State.tryTakeover (s : State) : State :=
  let p := s.pr
  if !s.optT || !s.pllOn || !p.hbMissed || s.board.pipeIn || p.noForm || s.mode.mode == .lehr || s.mode.mode == .lockout then s
  else if p.deadlock then (if s.board.fenceIn then s else s.takeover false)
  else if s.mode.mode == .twin && !p.contend then
    let fresh : Bool := match p.hbLast, p.pipeFallT with
      | some h, some f => decide (f ≤ h + 100000)
      | _, _ => false
    s.takeover (p.linkAtHb && p.syncAtHb && fresh)
  else s

/-! ### Contention (R544, R545) -/

/-- The winner of a contention holds the Pipe once PIPE_IN and FENCE_IN are low (R544). -/
def State.tryWin (s : State) : State :=
  let p := s.pr
  if !(p.contend && p.won) || !s.pllOn || s.board.pipeIn || s.board.fenceIn || s.mode.mode == .lehr || s.mode.mode == .lockout then s
  else if p.wasOwner then
    let s := s.onBoard (fun b => { b with owner := true, barred := false, pipeOut := true, pair := { b.pair with contend := false, won := false, rounds := 0 } })
    (s.resumeAll true).settle
  else
    let fresh : Bool := match p.hbLast, p.pipeFallT with
      | some h, some f => decide (f ≤ h + 100000)
      | _, _ => false
    s.takeover (p.linkAtHb && p.syncAtHb && fresh)

/-- The loser of a contention lowers its outputs and enters TWIN (R544). -/
def State.loseContention (s : State) : State :=
  let was := s.pr.wasOwner
  let s := s.cancelDeferred
  let s := s.onBoard (fun b => { b with owner := false, pipeOut := false, fenceOut := false
                                        pair := { b.pair with contend := false, won := false, rounds := 0, arb := .none, rcPrimary := false } })
  (if s.mode.mode = .twin ∨ s.mode.mode = .lehr ∨ s.mode.mode = .lockout then s else s.enterMode .twin (if was then 0x0F else 0x07) 0).settle

/-- The part wins a contention and waits for its partner's outputs to fall (DEDUCED, log entry 51). -/
def State.winContention (s : State) : State := (s.onPair (fun p => { p with won := true, arb := .none })).tryWin

/-- This part's bits of an arbitration round (Table 14-3): a part whose preference is set sends 0, then the serial number from the top. -/
def State.arbBits (s : State) : List Bool :=
  (!s.strap.testBit 0) :: (List.range 64).map (fun i => s.serial.testBit (63 - i))

/-- A part that sent 1 and sampled 0 has lost (R526). -/
def arbWon (own line : List Bool) : Bool := (own.zip line).all (fun x => !x.1 || x.2)

/-! ### Handover (R541 to R543) -/

/-- Complete the HANDOVER command. -/
def State.endHandover (s : State) (h : CmdHead) (st : Status) (applied : Nat) : State :=
  let s := s.onPair (fun p => { p with ho := .none })
  { s with inflight := s.inflight ++ [{ head := h, opcode := 0x31, status := st, applied := applied }] }

/-- The heads of the commands that still complete here. -/
def State.openHeads (s : State) : List CmdHead :=
  s.inflight.map Reply.head ++ s.waiting.map Prod.fst ++ s.chans.toList.filterMap (fun (x : Chan) => x.prog.commitBy)
    ++ s.gathers.toList.filterMap (fun (y : Gather) => y.slotBy) ++ s.led.seals.map Prod.fst
    ++ (s.rst.blocks.map (fun (b : BlockReset) => b.head.toList ++ b.more)).flatten
    ++ (s.board.time.sumReq.map Prod.snd).toList ++ s.nvm.calBy.map Prod.fst

/-- After a handover the new TWIN part drops the sessions and queues it served as owner (R542); those of commands that still complete here
stay until then (R475) (DEDUCED, log entry 52). -/
def State.dropServed (s : State) : State :=
  let hs := s.openHeads
  let cq := hs.map CmdHead.queue
  let keepQ (q : Queue) : Bool := q.local_ || cq.contains q.num || s.queues.any (fun x => cq.contains x.num && x.pair == some q.num)
  let keepS (x : Session) : Bool := hs.any (fun h => h.session == some x.num)
  { s with queues := s.queues.filter keepQ, sessions := s.sessions.filter keepS, establish := [] }

end Sys2Proof.Machine
end

