-- ==== Sys2Proof/Machine/Power.lean ====
section
/-! DEFINITION. Wake, button, power path, Lehr, sequencer, AUX controllers, pack and charger events (chapters 15 and 16). -/

namespace Sys2Proof.Machine

open Sys2Proof

/-! ### Wake (R563 to R566, R601) -/

/-- WAKE_EVENT (R563): a source of Table 15-1, numbered as its bit of KEEP_WAKESRC; only an enabled source in KEEP. -/
def execWakeEvent (src : Fin 7) (s : State) : Out :=
  let en := match src.val with
    | 2 => s.bit 0x050030 31
    | 3 => s.bit 0x050034 0
    | 5 => s.bit 0x070010 26
    | _ => true
  if s.mode.mode = .keep && en then .next (s.latchWake src.val).tryWake else .next s

/-- WAKE_IN (R563): WAKE_IN_N low after its filter, while WAKEINEN is set. -/
def execWakeIn (s : State) : Out :=
  if s.mode.mode = .keep && s.bit 0x050034 0 then .next (s.latchWake 3).tryWake else .next s

/-- PWROFF_END (R564). -/
def execPwroffEnd (s : State) : Out :=
  match s.board.time.pwroffT with
  | some t => if t + s.fld 0x050034 8 8 * 10000000 ≤ s.now then .next (s.onTime (fun t => { t with pwroffT := none })).tryWake else .next s
  | none => .next s

/-- VKEEP_RISE (R80): OFF to KEEP; with VIN present the first entry is itself a wake (Table 15-1). -/
def execVkeepRise (vin : Bool) (s : State) : Out :=
  if s.mode.mode ≠ .off then .next s
  else
    let s := { s with mode := { s.mode with mode := .keep, prev := .off, cause := 1, history := .keep :: s.mode.history } }
    let s := s.onPwr (fun p => { p with input := vin, path := if vin then .input else .parked })
    .next (if vin then (s.latchWake 6).tryWake else s)

/-- VKEEP_LOSS (R556): KEEP memory is lost and the calendar restarts invalid; with VIN absent the part goes OFF (DEDUCED, log entry 53). -/
def execVkeepLoss (vin : Bool) (s : State) : Out :=
  let s := s.calInvalid
  let s := s.onTime (fun t => { t with cal := {}, valid := false, rcond := false, pair := none, vkeepLost := true, wake := false, fired0 := none, fired1 := none })
  let s := { s with regs := s.regs.filter (fun x => !(decide (0x050000 ≤ x.1 ∧ x.1 < 0x080000))) }
  let s := s.onPwr (fun p => { p with snap := [], snaps := 0 })
  let s := s.onBoard (fun b => { b with pair := { b.pair with rcKnown := false, rcPrimary := false, rcMisses := 0, rcSearch := false, rcAbsent := false, rcCalls := 0 } })
  if s.mode.mode = .keep ∧ !vin then
    .next { s with mode := { s.mode with mode := .off, prev := .keep, history := .off :: s.mode.history }, rst := { s.rst with latched := false, fcode := 0 } }
  else .next s

/-! ### Button and SHIP (R612 to R614) -/

/-- BUTTON (R612): a press is a wake in KEEP; in later modes its event follows at its release. -/
def execButton (s : State) : Out := if s.mode.mode = .keep then .next (s.latchWake 4).tryWake else .next s

/-- BUTTON_RELEASE (R612): a press that ends before 8 s in a mode from WAKE to LOCKOUT (DEDUCED, log entry 55). -/
def execButtonRelease (ms : Nat) (s : State) : Out :=
  if 50 ≤ ms ∧ ms < 8000 ∧ modeWarden s.mode.mode then .next (s.powerEvt 9 ms) else .next s

/-- SHIP_EXIT (R614): a press of 1 s in SHIP. -/
def execShipExit (s : State) : Out :=
  if s.mode.mode ≠ .ship then .next s
  else
    let s := { s with mode := { s.mode with mode := .keep, prev := .ship, wakecause := 2, history := .keep :: s.mode.history } }
    let s := s.onPwr (fun p => { p with path := if p.input then .input else .parked })
    .next (s.latchWake 4).tryWake

/-- LONG_PRESS (R613): the snapshot, then the path opens and VIN collapses; a cold reset with source 0x03. -/
def execLongPress (s : State) : Out :=
  if s.mode.mode = .off then .next s
  else
    let s := if modeWarden s.mode.mode then s.collapse 5 3 else s
    let s := s.onPwr (fun p => { p with path := .open_, longT := some s.now })
    .next (s.latchWake 4)

/-- LONG_PRESS_PATH_END (R613): after 500 ms normal path control resumes. -/
def execLongPressPathEnd (s : State) : Out :=
  match s.board.pwr.longT with
  | some t =>
    if t + 500000000 ≤ s.now then
      .next (s.onPwr (fun p => { p with longT := none, path := if p.input then .input else .parked })).tryWake
    else .next s
  | none => .next s

/-- PACK_SHIP_LOW (R80): SHIP to OFF. -/
def execPackShipLow (s : State) : Out :=
  if s.mode.mode = .ship then .next { s with mode := { s.mode with mode := .off, prev := .ship, history := .off :: s.mode.history } } else .next s

/-! ### Power path (R596 to R601) -/

/-- The input is lost (R596 to R598): VIN_SNS fell below VINLOSS; `pathOk` says that the path reached its state within 20 µs (DEDUCED, log entry 55). -/
def State.inputLoss (s : State) (vin : Nat) (pathOk : Bool) : State :=
  let p := s.board.pwr
  let m := s.mode.mode
  let s := s.onPwr (fun p => { p with input := false, rd := { p.rd with vin } })
  if p.path = .returning then s.onPwr (fun p => { p with path := .holdup })
  else if p.path ≠ .input ∧ p.path ≠ .test then s
  else if !modeWarden m then s.onPwr (fun p => { p with path := .parked, packT := s.now })
  else
    let able := p.holdok
    let s := s.endTest false false
    let s := s.onPwr (fun p => { p with path := .holdup, packT := s.now })
    let s := if s.board.pwr.chg = .pre ∨ s.board.pwr.chg = .fast ∨ s.board.pwr.chg = .safe then s.chgTo .suspend 6 else s
    let s := if modeUp m then s.powerEvt 0 vin else s
    let s := if pathOk then s else if modeUp m then s.fault 0x03 0x06 else s
    if m = .wake then
      if able then (s.onPwr (fun p => { p with failed := true })).toKeep .keep 5 0x0A true else s.collapse 3 2
    else if able then
      if m = .lehr then s else s.enterLehr 0x12
    else (s.keepFault 0x0305).collapse 3 2

/-- An interval end or a tariff change has come in this 62.5 µs window (R370) (DEDUCED, log entry 67). -/
def State.boundaryNow (s : State) : Bool :=
  let t := s.board.time
  s.optM && t.valid && t.cal.second == 0 && t.stamp / 62500 == s.ptp / 62500
    && (t.cal.mins % s.demint == 0 || (s.fires t.cal.wday t.cal.mins).isSome)

/-- A fall of VIN_SNS (R596, R599): above VINLOSS + INHYST the input stays present; on INPUT and TEST it is lost below VINLOSS. -/
def State.vinFall (s : State) (vin : Nat) (pathOk : Bool) : State :=
  let p := s.board.pwr
  if s.vinThere vin then s
  else if (p.path = .input ∨ p.path = .test) ∧ s.vinloss ≤ vin then s.onPwr (fun p => { p with input := false, rd := { p.rd with vin } })
  else s.inputLoss vin pathOk

/-- INPUT_LOSS (R81, R370, R596 to R598): an interval end and a tariff change of the same 62.5 µs window come first, and the loss then carries
their stamp (DEDUCED, log entry 55). -/
def execInputLoss (vin : Nat) (pathOk : Bool) (s : State) : Out :=
  let s := s.fatalFirst
  if s.boundaryNow then
    let stamp := s.board.time.stamp
    let t := ({ s.handleMinute with ptp := stamp }).vinFall vin pathOk
    .next (if t.ptp = stamp then { t with ptp := s.ptp } else t)
  else .next (s.vinFall vin pathOk)

/-- INPUT_PRESENT (R599, R601): VIN_SNS is at or above VINLOSS + INHYST. -/
def execInputPresent (vin : Nat) (s : State) : Out :=
  if s.board.pwr.input ∨ !s.vinThere vin then .next s
  else
    let s := s.onPwr (fun p => { p with input := true, inputT := s.now, rd := { p.rd with vin }, path := if p.path = .holdup then .returning else p.path })
    let s := if modeUp s.mode.mode then s.powerEvt 1 vin else s
    let s := if s.mode.mode = .keep && s.bit 0x070010 26 then s.latchWake 5 else s
    .next s.tryWake

/-- PATH_RETURN (R599, R601): the input has been present for 500 ms. -/
def execPathReturn (s : State) : Out :=
  let s := s.tryReturn
  if s.board.pwr.wdDue ∧ s.board.pwr.path = .input then
    let s := (s.onPwr (fun p => { p with wdDue := false, fallback := true, contact := false })).setBit 0x070024 15
    .next ((s.powerEvt 7 0).fault 0x03 0x03)
  else .next s

/-- PACK_EXHAUSTED (R600): PACK_V below NCELL × PACKMIN in holdup. -/
def execPackExhausted (s : State) : Out :=
  let p := s.board.pwr
  if (p.path = .holdup ∨ p.path = .returning) ∧ p.rd.packv < s.ncell * s.packmin then .next (s.collapse 3 2) else .next s

/-- VIN_COLLAPSE (R593): VIN below 6.8 V for 10 µs. -/
def execVinCollapse (s : State) : Out :=
  if modeWarden s.mode.mode then .next ((s.setBit 0x0600A4 7).keepFault 0x0207 |>.collapse 1 2) else .next s

/-- VINT_POWER_ON (R638): VINT rising is a cold reset: KEEP, then WAKE. -/
def execVintPowerOn (s : State) : Out :=
  if s.mode.mode = .off then
    let s := { s with mode := { s.mode with mode := .keep, prev := .off, cause := 1, history := .keep :: s.mode.history },
                      rst := { s.rst with kind := 1, source := 1, warms := 0, fcode := 0, latched := false } }
    let s := s.onPwr (fun p => { p with input := true, inputT := s.now, path := .input })
    .next (s.latchWake 6).tryWake
  else if s.mode.mode = .keep ∨ s.mode.mode = .ship then .next { s with rst := { s.rst with kind := 1, source := 1 } }
  else
    let s := s.toKeep .keep 0x18 1 false
    .next (s.latchWake 5).tryWake

/-! ### Sequencer (R589 to R592) -/

/-- The slot in progress is done (R590): its condition has held for DELAY, or without a condition DELAY has passed. -/
def State.slotDone (s : State) : Bool :=
  let p := s.board.pwr
  let a := 0x0600C0 + 4 * p.slot
  let from_ : Option Nat := if s.fld a 5 2 = 0 then some p.slotT else p.condT
  !s.bit a 4 || (s.slotHolds p.slot && (match from_ with | some t => decide (t + s.fld a 16 8 * 100000 ≤ s.now) | none => false))

/-- SEQ_SLOT_DONE (R590, R75): a slot's condition holds and its DELAY has ended; after the last one, with every monitored rail in range, the cold
reset is released, CFG_STRAP is read, and BOOT begins; what RAW reads is a free value of 6 bits (DESIGN CHOICE, log entry 2). -/
def execSeqSlotDone (s : State) : Out :=
  let s := s.watchSlot
  let p := s.board.pwr
  if s.mode.mode ≠ .wake ∨ p.phase ≠ 1 ∨ !s.slotDone then .next s
  else
    match s.nextSlot (p.slot + 1) with
    | some k => .next (s.runSlot k)
    | none =>
      if !s.railsOk then .next s
      else
        let s := s.onPwr (fun p => { p with phase := 0, kickT := s.now, fallback := false, wdDue := false, tshutT := none })
        let (raw, s) := s.draw
        let s := s.enterBoot (some (raw % 64)) 4
        .next s.tryReturn.chgStart

/-- SEQ_TIMEOUT (R591): the condition of the slot has not held within TIMEOUT. -/
def execSeqTimeout (s : State) : Out :=
  let p := s.board.pwr
  let a := 0x0600C0 + 4 * p.slot
  if s.mode.mode = .wake ∧ p.phase = 1 ∧ s.fld a 5 2 ≠ 0 ∧ p.condT.isNone ∧ !s.slotHolds p.slot ∧ p.slotT + s.fld a 24 8 * 1000000 ≤ s.now then
    let s := ((s.setBit 0x0600A4 6).snapshot 2).keepFault 0x0206
    let s := s.toKeep .keep 5 0x0A true
    .next ((s.onPwr (fun p => { p with failed := true })).setBit 0x0600A4 6)
  else .next s

/-- POWER_DOWN_STEP (R592): OFFDLY has passed. -/
def execPowerDownStep (s : State) : Out :=
  let due : Bool := match s.board.pwr.condT with | some t => decide (t + s.fld 0x0600A0 0 8 * 100000 ≤ s.now) | none => true
  if s.board.pwr.phase = 2 ∧ due then .next s.powerDownStep else .next s

/-! ### AUX controllers and rails (R583 to R595) -/

def State.onAux (s : State) (k : Fin 4) (f : Aux → Aux) : State := s.onPwr (fun p => { p with aux := p.aux.set k (f p.aux[k]) })

def State.aux (s : State) (k : Fin 4) : Aux := s.board.pwr.aux[k]

/-- AUX_PGOOD (R583). -/
def execAuxPgood (k : Fin 4) (s : State) : Out :=
  if (s.aux k).on && !(s.aux k).stopped && !(s.aux k).latched then .next (s.onAux k (fun a => { a with pgood := true })).watchSlot
  else .next s

/-- A controller latches off until the next WAKE (R586): an F fault (DEDUCED, log entry 55). -/
def State.auxLatch (s : State) (k : Fin 4) : State :=
  (s.onAux k (fun a => { a with latched := true, stopped := false, pgood := false })).fault 0x02 0x02

/-- AUX_HICCUP (R586): eight cycles in a row at the fast limit; three hiccups within 1 s latch. -/
def execAuxHiccup (k : Fin 4) (s : State) : Out :=
  let a := s.aux k
  if !a.on || a.stopped || a.latched then .next s
  else
    let l := s.now :: a.hicT.filter (fun t => decide (s.now < t + 1000000000))
    let s := (s.onAux k (fun a => { a with stopped := true, pgood := false, hicT := l })).setBit (0x06000C + 0x20 * k.val) 4
    let s := s.fault 0x02 0x01
    .next (if 3 ≤ l.length then s.auxLatch k else s)

/-- AUX_HICCUP_RESTART (R583, R586): after 10 ms, with soft-start. -/
def execAuxHiccupRestart (k : Fin 4) (s : State) : Out :=
  match (s.aux k).stopped, (s.aux k).hicT with
  | true, t :: _ => if t + 10000000 ≤ s.now then .next (s.onAux k (fun a => { a with stopped := false, onT := s.now, fb0 := s.board.pwr.rd.fb.getD k.val 0 }))
    else .next s
  | _, _ => .next s

/-- AUX_SLOW_LIMIT (R586): the 1 ms mean has exceeded ISLOW for SLOWT. -/
def execAuxSlowLimit (k : Fin 4) (s : State) : Out :=
  let due : Bool := match (s.aux k).overT with | some t => decide (t + s.fld (0x060004 + 0x20 * k.val) 16 7 * 1000000 ≤ s.now) | none => false
  if (s.aux k).on && !(s.aux k).latched && due then .next (s.auxLatch k) else .next s

/-- AUX_TWARN (R587): `t` is the driver temperature in 0.01 °C. -/
def execAuxTwarn (k : Fin 4) (t : Int) (s : State) : Out :=
  if (s.aux k).twarn ∨ t < s.fld 0x0600A8 0 8 * 100 ∨ !modeWarden s.mode.mode then .next s
  else
    let s := (s.onAux k (fun a => { a with twarn := true })).powerEvt 10 k.val
    .next (s.fault 0x02 0x03)

/-- AUX_TSHUT (R587): an F fault. -/
def execAuxTshut (k : Fin 4) (t : Int) (s : State) : Out :=
  if t < s.fld 0x0600A8 8 8 * 100 ∨ !modeWarden s.mode.mode then .next s
  else
    let s := s.onPwr (fun p => { p with tshutT := some (p.tshutT.getD s.now), rd := { p.rd with tdrv := p.rd.tdrv.set k.val t } })
    .next (s.fault 0x02 0x04)

/-- THERMAL_POWER_DOWN (R587): a sensor still at TSHUT 1 s later. -/
def execThermalPowerDown (s : State) : Out :=
  let hot := s.board.pwr.rd.tdrv.any (fun t => decide ((s.fld 0x0600A8 8 8 * 100 : Int) ≤ t))
  match s.board.pwr.tshutT with
  | some t => if hot ∧ t + 1000000000 ≤ s.now ∧ s.mode.mode = .lockout then .next ((s.snapshot 6).toKeep .keep 0x19 0x0A true) else .next s
  | none => .next s

/-- RAIL_RANGE (R595): MON0 to MON3 as 0 to 3, the PGOOD of AUX0 to AUX3 as 4 to 7; an F fault from BOOT on. -/
def execRailRange (src : Fin 8) (s : State) : Out :=
  if !modeUp s.mode.mode then .next s
  else
    let s := if h : 4 ≤ src.val then s.onAux ⟨src.val - 4, by omega⟩ (fun a => { a with pgood := false }) else s
    .next (s.fault 0x02 0x05)

/-- The part's input power in µW (R588): the AUX outputs over AUXEFF, plus EXTLOAD. -/
def State.inputPower (s : State) : Nat :=
  let r := s.board.pwr.rd
  let out := ((List.range 4).map (fun k => r.vout.getD k 0 * r.iout.getD k 0)).sum
  out * 1000 / Nat.max 1 (s.fld 0x070018 0 10) + s.fld 0x070018 16 16 * 1000

/-- The pack estimator over 1 ms (R344, R607): charge current while charging, input power over PACK_V in holdup (DEDUCED, log entry 55). -/
def State.packTick (s : State) : State :=
  let p := s.board.pwr
  let i : Int :=
    match p.chg with
    | .pre | .fast | .safe => (p.rd.ibat : Int)
    | _ => match p.path with
      | .holdup | .returning | .test => -((s.inputPower * 1000 / Nat.max 1 p.rd.packv : Nat) : Int)
      | _ => 0
  s.onPwr (fun p =>
    let e := { p.pack with accQ := p.pack.accQ + i * 16, cnom := if p.pack.cnom = 0 then s.packCap * 1000 else p.pack.cnom, stamped := true }
    { p with pack := { e.update 1 (decide (i = 0)) with upT := s.ptp } })

/-- WARDEN_READING_REFRESH (R594): every 1 ms, the readings of the last 1 ms; HOLDOK, diode emulation, the end of a warning and of a pack test
(DEDUCED, log entry 55). -/
def execWardenReadingRefresh (r : Readings) (s : State) : Out :=
  if !modeWarden s.mode.mode ∨ s.now < s.board.pwr.rdT + 1000000 then .next s
  else
    let s := (s.onPwr (fun p => { p with rd := r, rdT := s.now })).watchSlot
    let s := (List.finRange 4).foldl (fun s k =>
      let w := 0x20 * k.val
      let mv := r.iout.getD k.val 0 * s.fld (0x060008 + w) 16 16          -- 0.1 µV
      let lim := s.fld (0x060004 + w) 8 7 * 10000
      let de := s.bit (0x060000 + w) 8
      s.onAux k (fun a => { a with
        overT := if a.on && decide (lim < mv) then some (a.overT.getD s.now) else none
        de := de && a.on && (if a.de then decide (mv * 10 ≤ lim * 2) else decide (mv * 10 < lim))
        twarn := a.twarn && !decide (r.tdrv.getD k.val 0 < ((s.fld 0x0600A8 0 8 : Int) - s.fld 0x0600A8 16 8) * 100) })) s
    let s := s.syncHoldok.packTick
    if s.board.pwr.path = .test then
      if r.packv ≤ s.ncell * s.holdmin then .next (s.endTest true true)
      else if s.mode.mode ≠ .ready ∨ !s.board.pwr.holdok then .next (s.endTest false true)
      else .next s
    else .next s

/-! ### Pack and charger (R603 to R610) -/

/-- PACK_PRESENT (R603): PACK_V at or above 4.0 V for 5 ms. -/
def execPackPresent (v : Nat) (s : State) : Out :=
  if s.board.pwr.present ∨ v < 4000 then .next s
  else
    let s := s.onPwr (fun p => { p with present := true, rd := { p.rd with packv := v } })
    let s := if modeUp s.mode.mode then s.powerEvt 3 v else s
    .next s.syncHoldok.chgStart

/-- PACK_REMOVED (R603): a pack change is declared and any charge ends. -/
def execPackRemoved (s : State) : Out :=
  if !s.board.pwr.present then .next s
  else
    let s := s.onPwr (fun p => { p with present := false, ntcBad := false, pack := { p.pack with full := none, emptyMk := false, stale := true } })
    let s := if modeUp s.mode.mode then s.powerEvt 4 0 else s
    .next ((s.chgTo .off 0).syncHoldok)

/-- PACK_NTC (R603): an open or shorted thermistor stops the charge. -/
def execPackNtc (s : State) : Out :=
  if s.board.pwr.ntcBad ∨ !modeWarden s.mode.mode then .next s
  else
    let s := s.onPwr (fun p => { p with ntcBad := true, rd := { p.rd with tpack := none } })
    .next ((s.chgTo .fault 5).syncHoldok.fault 0x03 0x04)

/-- QUAL_END (R604): after 2 s in QUAL. -/
def execQualEnd (s : State) : Out :=
  let p := s.board.pwr
  if p.chg ≠ .qual ∨ s.now < p.chgT + 2000000000 then .next s
  else
    match p.rd.tpack with
    | some t =>
      if t < 0 ∨ 4500 < t then .next (s.chgTo .suspend 4)
      else .next ((s.chgTo (if p.rd.packv < s.ncell * 1000 then .pre else .fast) 0).startSearch)
    | none => .next (s.chgTo .suspend 4)

/-- CHG_FAULT (R604): the charger is in FAULT. -/
def State.chgFault (s : State) : State := (s.chgTo .fault 5).fault 0x03 0x02

/-- PRE_TIMEOUT (R604): PRE for 30 min. -/
def execPreTimeout (s : State) : Out :=
  if s.board.pwr.chg = .pre ∧ s.board.pwr.chgT + 1800000000000 ≤ s.now then .next s.chgFault else .next s

/-- SEARCH_STEP (R605): every 100 ms, or at a dip of VIN_SNS below VSRCMIN. -/
def execSearchStep (vin : Nat) (s : State) : Out :=
  let p := s.board.pwr
  if p.chg ≠ .pre ∧ p.chg ≠ .fast then .next s
  else
    let step := s.packCap * 2 / 100
    if vin < s.fld 0x070004 16 16 then
      .next ((s.setSearch (p.search - 2 * step)).onPwr (fun p => { p with searchT := some s.now, stepT := s.now }))
    else if p.searchT.isSome ∨ s.now < p.stepT + 100000000 then .next s
    else
      let pct := if p.chg = .pre then s.fld 0x070004 8 7 else s.fld 0x070004 0 7
      let top := s.packCap * (if p.fallback then Nat.min 5 pct else pct) / 100
      .next ((s.setSearch (Nat.min top (p.search + step))).onPwr (fun p => { p with stepT := s.now }))

/-- SEARCH_HOLD_END (R605). -/
def execSearchHoldEnd (s : State) : Out :=
  match s.board.pwr.searchT with
  | some t => if t + 60000000000 ≤ s.now then .next (s.onPwr (fun p => { p with searchT := none })) else .next s
  | none => .next s

/-- A full mark of the pack when FAST ends by −ΔV or dT/dt (R607). -/
def State.packFull (s : State) : State :=
  s.onPwr (fun p => { p with pack := { p.pack with soc := some 1000000000, full := some (p.pack.netQ + p.pack.accQ), emptyMk := false, chgSince := 0 } })

/-- CHARGE_MEAN_UPDATE (R604, R606): a 1 s mean of PACK_V in mV and of the pack temperature in 0.01 °C. -/
def execChargeMeanUpdate (v : Nat) (t : Int) (s : State) : Out :=
  if !modeWarden s.mode.mode ∨ s.now < s.board.pwr.meanT + 1000000000 then .next s
  else
    let p := s.board.pwr
    let s := s.onPwr (fun p => { p with meanT := s.now, rd := { p.rd with packv := v, tpack := if p.ntcBad then none else some t },
                                        means := ((v, t) :: p.means).take 61, vMax := Nat.max p.vMax v })
    let s := s.syncHoldok.chgStart
    let p' := s.board.pwr
    let run := p.chg == .pre || p.chg == .fast || p.chg == .safe
    if p'.chg ≠ .off ∧ p'.chg ≠ .fault ∧ p'.chg ≠ .test ∧ (6000 < t ∨ s.ncell * 1800 < v) then .next s.chgFault
    else if run && decide (4500 < t) then .next (s.chgTo .suspend 4)
    else
      match p'.chg with
      | .pre => if s.ncell * 1000 ≤ v then .next (s.chgTo .fast 0) else .next s
      | .fast | .safe =>
        let held := decide (p'.chgT + s.fld 0x070008 8 8 * 60000000000 ≤ s.now)
        let old := p'.means[60]?
        if held && decide (v + s.ncell * s.fld 0x070008 0 5 ≤ p'.vMax) then .next ((s.chgTo .full 1).packFull)
        else
          match old with
          | some m => if (s.fld 0x070008 16 9 : Int) ≤ t - m.2 then .next ((s.chgTo .full 2).packFull) else .next s
          | none => .next s
      | .suspend => if 0 ≤ t ∧ t ≤ 4000 ∧ p'.input ∧ p'.path = .input then .next (s.chgTo .qual 0) else .next s
      | .full =>
        match p'.pack.rep with
        | some r => if r < (s.fld 0x07000C 16 7 : Int) * 10000000 then .next (s.chgTo .qual 0) else .next s
        | none => .next s
      | _ => .next s

/-- FASTMAX_EXPIRY (R606, R608): FULL with TIMER. -/
def execFastmaxExpiry (s : State) : Out :=
  if (s.board.pwr.chg = .fast ∨ s.board.pwr.chg = .safe) ∧ s.board.pwr.chgT + s.fld 0x07000C 0 10 * 60000000000 ≤ s.now then
    .next ((s.chgTo .full 3).fault 0x03 0x01)
  else .next s

/-- CHARGER_WATCHDOG (R608, R609): 40 s without a contact; in holdup it takes effect at the return to INPUT. -/
def execChargerWatchdog (s : State) : Out :=
  let p := s.board.pwr
  if !modeWarden s.mode.mode ∨ p.fallback ∨ s.now < p.kickT + 40000000000 then .next s
  else if p.path = .holdup ∨ p.path = .returning then .next (s.onPwr (fun p => { p with wdDue := true }))
  else
    let s := (s.onPwr (fun p => { p with fallback := true, contact := false })).setBit 0x070024 15
    let s := if p.chg = .pre ∨ p.chg = .fast then s.chgTo .safe 0 else s
    .next ((s.powerEvt 7 0).fault 0x03 0x03)

/-- HLD_KICK (R608): a write of 0x4B49 is a contact. -/
def execHldKick (key : BitVec 16) (s : State) : Out :=
  if key = 0x4B49#16 then .next (s.onPwr (fun p => { p with kickT := s.now, contact := true })) else .next s

/-- PACK_TEST (R610): accepted in READY with HOLDOK and a FULL charger. -/
def execPackTest (s : State) : Out :=
  let p := s.board.pwr
  if s.mode.mode = .ready ∧ p.holdok ∧ p.chg = .full ∧ p.path = .input then
    .next ((s.chgTo .test 0).onPwr (fun p => { p with path := .test }))
  else .next s

/-- STOPTEST (R610). -/
def execStoptest (s : State) : Out := if s.board.pwr.path = .test then .next (s.endTest false true) else .next s

end Sys2Proof.Machine
end

