-- ==== Sys2Proof/Machine/Pair.lean ====
section
/-! DEFINITION. The pair's events: interlock balls, heartbeats, frames, handover, arbitration, roll call (chapter 14). -/

namespace Sys2Proof.Machine

open Sys2Proof

/-! ### PIPE_IN and FENCE_IN (R44, R68, R69, R535, R547) -/

/-- PIPE_IN_RISE (R68, R85, R527): every channel ball goes high impedance; a part that arbitrates enters TWIN. -/
def execPipeInRise (s : State) : Out :=
  let s := s.onBoard (fun b => { b with pipeIn := true, barred := true, pair := { b.pair with pipeFallT := none } })
  let s := s.settle
  if s.mode.mode = .boot ∧ s.pr.arb ≠ .none then .next (s.onPair (fun p => { p with arb := .none, roll := true })).bootTwin
  else .next s

/-- FENCE_IN_RISE (R68, R546): every channel ball is released; on the owner, FENCE_RX and PAIR event 6. -/
def execFenceInRise (s : State) : Out :=
  let own := s.board.owner
  let s := (s.onBoard (fun b => { b with fenceIn := true, barred := true })).settle
  if own ∧ s.optT then .next ((s.fault 0x0A 0x09).pairEvt 6) else .next s

/-- PIPE_IN_FALL (R69, R81, R535, R544): it restores no drive; it may start a takeover, or let the winner of a contention take the Pipe. -/
def execPipeInFall (s : State) : Out :=
  if !s.board.pipeIn then .next s
  else .next (s.fatalFirst.onBoard (fun b => { b with pipeIn := false, pair := { b.pair with pipeFallT := some s.now } })).tryWin.tryTakeover

/-- FENCE_IN_FALL (R69, R544). -/
def execFenceInFall (s : State) : Out :=
  if !s.board.fenceIn then .next s
  else .next (s.fatalFirst.onBoard (fun b => { b with fenceIn := false })).tryWin.tryTakeover

/-- PIPE_SENSE (R547): on a part in TWIN, PIPE_IN has been low for 10 µs while heartbeats count, outside a handover. -/
def execPipeSense (s : State) : Out :=
  match s.pr.pipeFallT with
  | some t =>
    if s.mode.mode ≠ .twin ∨ s.board.pipeIn ∨ s.pr.hbMissed then .next s
    else
      let s := s.passTo (t + 10000)
      let expected : Bool := match s.pr.ho with | .due sAt => decide (s.ptp ≤ sAt + 10000) | _ => false
      if expected then .next s else .next (s.fault 0x0A 0x08)
  | none => .next s

/-- CONTENTION (R544, R545): an own output is high against the partner's for 1 µs. After three rounds the link decides, or DEADLOCK. -/
def execContention (s : State) : Out :=
  let b := s.board
  if !s.optT ∨ !((b.pipeOut && b.pipeIn) || (b.fenceOut && b.fenceIn)) ∨ s.pr.deadlock then .next s
  else if !s.pr.contend then
    let own := b.owner
    let s := s.onBoard (fun b => { b with owner := false, pair := { b.pair with contend := true, wasOwner := own, won := false, rounds := 0, arb := .idle, ho := .none } })
    .next ((s.setBit 0x330028 3).fault 0x0A 0x0A).settle
  else if s.pr.arb ≠ .none then .next s
  else if s.pr.rounds < 3 then .next (s.onPair (fun p => { p with won := false, arb := .idle }))
  else if s.board.linkUp ∧ s.pr.known then
    .next (if s.preferred then s.winContention else s.loseContention)
  else .next ((s.onPair (fun p => { p with deadlock := true, won := false })).fault 0x0A 0x0B)

/-! ### Heartbeats and lanes (R520, R523, R550) -/

/-- HEARTBEAT_SEND (R523, R83): from BOOT until KEEP, except in LOCKOUT, every 8 µs on every lane that is up. -/
def execHeartbeatSend (s : State) : Out :=
  if !s.optT ∨ !s.pllOn ∨ s.mode.mode = .lockout then .next s
  else
    let n := s.pr.hbSeq
    let fr := ZlFrame.heartbeat n s.role s.pr.sync s.pr.mseq
    let s := match s.pr.hbSentT with | some t => s.passTo (t + 8000) | none => s
    let s := s.onPair (fun p => { p with hbSeq := (n + 1) % 2 ^ 32, hbSentT := some s.now })
    .next ((maskList 2 s.pr.lanes).foldl (fun s _ => s.sendZl fr) s)

/-- The link has come up (R528, R533, R550): IDENT is sent; a partner of the same incarnation is found again, and a resync begins
(DEDUCED, log entry 50). -/
def State.linkCame (s : State) (inc : Nat) : State :=
  let s := s.sendZl (.ident s.ownIdent)
  if s.pr.known && !s.pr.lostSeen && s.pr.pInc == some inc then ((s.onPair (fun p => { p with reacqT := none })).pairEvt 8).startResync else s

/-- HEARTBEAT (R520, R521, R523, R539): it counts when it is valid; sixteen in a row bring a lane up (DEDUCED, log entry 50). -/
def execHeartbeat (f : FrameHead) (lane : Fin 2) (_hbseq role sync mseq : Nat) (s : State) : Out :=
  if !s.optT ∨ !s.pllOn then .next s
  else
    let (ok, s) := s.takeFrame f
    let run := if lane.val = 0 then s.pr.run0 else s.pr.run1
    let setRun (s : State) (n : Nat) : State := s.onPair (fun p => if lane.val = 0 then { p with run0 := n } else { p with run1 := n })
    if !ok then .next (setRun s 0)
    else
      let was := s.board.linkUp
      let back := s.pr.known && s.pr.pInc == some f.inc && s.pr.reacqT.isSome
      let s := if s.pr.lanes.testBit lane.val then s
        else if 15 ≤ run then (setRun s 0).onPair (fun p => { p with lanes := p.lanes ||| 2 ^ lane.val })
        else setRun s (run + 1)
      let s := if !was && s.board.linkUp then s.linkCame f.inc else s
      let s := (s.inOrder 2 f.fseq).2
      let s := s.onPair (fun p => { p with hbLast := some s.now, hbMissed := false, linkAtHb := p.lanes != 0, syncAtHb := p.sync == 2, pTwin := role == 2, pSync := sync,
                                           reacqT := if back then none else p.reacqT, mseq := if s.board.owner then p.mseq else mseq })
      let s := if s.board.owner && s.pr.sync == 2 && sync == 0 then s.startResync else s
      if s.board.fenceOut && s.board.owner && role == 2 && sync == 2 then .next (s.onBoard (fun b => { b with fenceOut := false })) else .next s

/-- HEARTBEAT_MISS (R523, R535, R550): 24 µs without a counted heartbeat: the reacquire timer starts, and a part in TWIN may take over. -/
def execHeartbeatMiss (s : State) : Out :=
  let s := s.fatalFirst
  match s.pr.hbLast with
  | some t =>
    if s.pr.hbMissed then .next s.tryTakeover
    else
      let s := (s.passTo (t + 24000)).bump 0x330018 0 16
      let s := s.onPair (fun p => { p with hbMissed := true, reacqT := if p.known then some s.now else none })
      .next s.tryTakeover
  | none => .next s.tryTakeover

/-- LANE_DOWN (R520, R533, Table 14-7) (DEDUCED, log entry 50). -/
def execLaneDown (lane : Fin 2) (s : State) : Out :=
  if !s.pr.lanes.testBit lane.val then .next (s.onPair (fun p => if lane.val = 0 then { p with run0 := 0 } else { p with run1 := 0 }))
  else
    let s := s.onPair (fun p => { p with lanes := setBits p.lanes lane.val 1 0, run0 := if lane.val = 0 then 0 else p.run0, run1 := if lane.val = 1 then 0 else p.run1 })
    if s.board.linkUp then .next (s.fault 0x0A 0x05)
    else
      let s := (s.fault 0x0A 0x04).pairEvt 7
      if s.board.owner then .next (s.onPair (fun p => { p with sync := 0, resyncT := none })) else .next s.outOfSync

/-! ### Forming a pair (R16, R524, R525, R528, R550) -/

/-- The pair does not form (R16, R524): until a reset no later IDENT forms it; a part that arbitrates stops and ends BOOT in TWIN. -/
def State.noPair (s : State) (cc : Nat) : State :=
  let s := (s.onBoard (fun b => { b with formed := false, pair := { b.pair with noForm := true } })).fault 0x0A cc
  if s.mode.mode = .boot ∧ s.pr.arb ≠ .none then (s.onPair (fun p => { p with arb := .none, roll := true })).bootTwin else s

/-- The resume area for the part that will hold the Pipe after BOOT, from the part that held it at LEHR entry (R104) (DEDUCED, log entry 51). -/
def State.sendResume (s : State) : State :=
  if s.mode.mode == .boot && s.pr.lehrOwner && allChans.any (fun c => (s.chan c).resume) then
    s.sendZl (.snapshot (s.mirrorItems.filter MirrorItem.ofResume))
  else s

/-- IDENT (R524): while the link is up, the ordering code, the certificate and MVER are checked; a new incarnation opens a new epoch and a resync. In BOOT the part
that held the Pipe at LEHR entry sends its resume area (R104) (DEDUCED, log entry 51). -/
def execIdent (f : FrameHead) (id : Ident) (s : State) : Out :=
  if !s.optT ∨ !s.pllOn ∨ !s.board.linkUp then .next s
  else if !f.crcOk then .next ((s.setBit 0x330028 0).bump 0x330028 16 16)
  else if s.pr.noForm then .next s
  else if id.opt ≠ s.opt then .next (s.noPair 0x01)
  else if !id.certOk then .next (s.noPair 0x02)
  else
    let same := s.pr.pInc = some id.inc ∧ !s.pr.lostSeen
    let before := s.pr.known || s.mode.mode != .boot
    let mis := decide (id.mver ≠ 3)
    let s := s.onBoard (fun b => { b with formed := true, pair := { b.pair with
      known := true, pSerial := id.serial, pPref := id.pref, pMver := id.mver, pInc := some id.inc, unmirrored := mis, lostSeen := false,
      rcKnown := true, reacqT := if b.pair.hbMissed then b.pair.reacqT else none } })
    let s := if mis then s.fault 0x0A 0x03 else s
    if same then .next s
    else
      let s := (s.keepNvm 0 (fun s => s)).onPair (fun p => { p with epoch := (Nat.max p.epoch id.epoch + 1) % 2 ^ 32, fseqIn := [], fseqOut := [], sync := 0, resyncT := none, lastItems := [] })
      let s := if before then (s.pairEvt 4).pairEvt 5 else s
      .next s.sendResume.startResync

/-! ### Mirror, resync, record copies, epoch marks (R529 to R534) -/

/-- A part that applies the owner's stream: in TWIN, in a formed pair that is mirrored. -/
def State.follows (s : State) : Bool := s.mode.mode == .twin && s.board.formed && !s.pr.unmirrored && !s.board.owner

/-- MIRROR_SEND (R529): the items that changed since the last frame. -/
def execMirrorSend (s : State) : Out :=
  if s.board.owner && s.board.formed && s.board.linkUp && !s.pr.unmirrored && s.pr.sync != 0 then
    let items := s.mirrorItems
    let new := items.filter (fun i => !s.pr.lastItems.contains i) ++ s.mirrorBack
    if new.isEmpty then .next s
    else
      .next ((s.sendZl (.mirror new)).onPair (fun p => { p with lastItems := items, mseq := p.mseq + 1 }))
  else .next s

/-- MIRROR (R529, R533): applied in FSEQ order; a gap or a discarded frame puts the part out of sync. -/
def execMirror (f : FrameHead) (lag : Nat) (items : List MirrorItem) (s : State) : Out :=
  if !s.follows then .next s
  else
    let (ok, s) := s.takeFrame f
    if !ok then .next s.outOfSync
    else
      let (ord, s) := s.inOrder 3 f.fseq
      if s.pr.sync = 0 then .next s
      else if !ord then .next s.outOfSync
      else
        let s := s.applyItems items
        let l := Nat.min lag 0xFFFF
        .next ((s.setFld 0x330014 0 16 l).setFld 0x330014 16 16 (Nat.max l (s.fld 0x330014 16 16)))

/-- SNAPSHOT (R533): part of a resync is applied. In BOOT it brings the resume area of the part that held the Pipe at LEHR entry, in place of the
own copy (R104) (DEDUCED, log entry 51). -/
def execSnapshot (f : FrameHead) (items : List MirrorItem) (s : State) : Out :=
  if s.mode.mode = .boot ∧ s.board.formed ∧ !s.pr.lehrOwner then
    let (ok, s) := s.takeFrame f
    .next (if ok then (s.inOrder 4 f.fseq).2.applyItems (items.filter MirrorItem.ofResume) else s)
  else if !s.follows then .next s
  else
    let (ok, s) := s.takeFrame f
    if !ok then .next s
    else
      let s := (s.inOrder 4 f.fseq).2
      let s := if s.pr.sync = 1 then s
        else (s.onPair (fun p => { p with sync := 1, resyncT := some s.now, fseqIn := p.fseqIn.filter (fun x => x.1 != 3) })).bump 0x330018 16 16
      .next (s.applyItems items)

/-- RESYNC_DONE (R533). -/
def execResyncDone (s : State) : Out :=
  if s.pr.sync = 1 then .next (s.onPair (fun p => { p with sync := 2, resyncT := none })) else .next s

/-- RESYNC_FAIL (R551): a resync has not ended within 10 s; it starts again. -/
def execResyncFail (s : State) : Out :=
  match s.pr.resyncT with
  | some t =>
    let s := ((s.passTo (t + 10000000000)).fault 0x0A 0x0D)
    if s.board.owner then .next s.startResync
    else .next ((s.onPair (fun p => { p with resyncT := some s.now })).bump 0x330018 16 16)
  | none => .next s

/-- RECCOPY (R531): the owner's staged record is staged here, its tag unchanged, while in sync. -/
def execReccopy (f : FrameHead) (train : List Entry) (s : State) : Out :=
  if !s.follows then .next s
  else
    let (ok, s) := s.takeFrame f
    match train.head? with
    | some e =>
      let s := if ok then (s.inOrder 6 f.fseq).2 else s
      if ok && s.pr.sync == 2 then .next (s.stage e.tag.tenant train (e.tag.kind == 0x60)) else .next s
    | none => .next s

/-- EPOCHMARK_SEND (R534): every 1 ms. -/
def execEpochmarkSend (s : State) : Out :=
  if s.board.owner && s.board.formed && s.board.linkUp then
    let s := match s.pr.markSentT with | some t => s.passTo (t + 1000000) | none => s
    .next ((s.sendZl (.epochMark (s.gat 0).cycle s.ptp)).onPair (fun p => { p with markSentT := some s.now }))
  else .next s

/-- EPOCHMARK (R534): `within` says that the trimmed period epoch matches the owner's within ±100 ps. -/
def execEpochmark (f : FrameHead) (count : Nat) (within : Bool) (s : State) : Out :=
  if s.board.owner ∨ !s.board.formed then .next s
  else
    let (ok, s) := s.takeFrame f
    if !ok then .next s
    else
      let s := s.onGat 0 (fun g => if within then { g with cycle := count % 2 ^ 32 } else g)
      .next ((s.inOrder 7 f.fseq).2.onPair (fun p => { p with markT := some s.now, epochLock := within }))

/-- EPOCH_UNLOCK (R534): 10 ms without a valid mark. -/
def execEpochUnlock (s : State) : Out :=
  match s.pr.markT with
  | some t =>
    if s.pr.epochLock then
      .next (((s.passTo (t + 10000000)).onPair (fun p => { p with epochLock := false, markT := none })).fault 0x0A 0x07)
    else .next s
  | none => .next s

/-- ACK (R521, Table 14-2): a frame type and sequence is acknowledged (DEDUCED, log entry 52). -/
def execAck (f : FrameHead) (ftype fseq : Nat) (s : State) : Out :=
  if !s.optT then .next s
  else
    let (ok, s) := s.takeFrame f
    if !ok then .next s
    else .next ((s.inOrder 9 f.fseq).2.onPair (fun p => { p with acked := (ftype, fseq) :: p.acked.filter (fun x => x.1 != ftype) }))

/-! ### Planned handover (R541 to R543, Table 14-6) -/

/-- A handover frame: the check of R521, then the step. -/
def State.hoFrame (s : State) (f : FrameHead) (k : State → State) : Out :=
  let (ok, s) := s.takeFrame f
  if ok then .next (k (s.inOrder 8 f.fseq).2) else .next s

/-- HANDOVER_PREP (R541): the partner is READY only in TWIN, in sync and with EPOCHLOCK. -/
def execHandoverPrep (f : FrameHead) (s : State) : Out :=
  s.hoFrame f (fun s =>
    if s.follows && s.pr.sync == 2 && s.pr.epochLock then (s.sendZl .hoReady).onPair (fun p => { p with ho := .answered }) else s)

/-- The first start of a period of channel 0 of Gather 0 at or after a PTP time (R541), in ns rounded up. -/
def State.periodStart (s : State) (t : Nat) : Nat :=
  let y := s.gat 0
  let p := Nat.max 1 (s.period 0)
  let want := 8 * (s.now + (t - s.ptp))
  let n := (want - y.epoch + p - 1) / p
  t + ((y.epoch + n * p - want) + 7) / 8

/-- HANDOVER_READY (R541): the owner sends TIME; S starts a period of channel 0 of Gather 0 and lies at least 200 µs after READY. -/
def execHandoverReady (f : FrameHead) (sAt : Nat) (s : State) : Out :=
  s.hoFrame f (fun s =>
    match s.pr.ho with
    | .prep h till =>
      if till < s.ptp then s
      else
        let sAt := s.periodStart (Nat.max sAt (s.ptp + 200000))
        (s.sendZl (.hoTime sAt)).onPair (fun p => { p with ho := .timed h sAt })
    | _ => s)

/-- HANDOVER_TIME (R541, R547). -/
def execHandoverTime (f : FrameHead) (sAt : Nat) (s : State) : Out :=
  s.hoFrame f (fun s => if s.pr.ho = .answered then s.onPair (fun p => { p with ho := .due sAt }) else s)

/-- HANDOVER_STATE (R541): the owner's on-times and integrators. -/
def execHandoverState (f : FrameHead) (items : List MirrorItem) (s : State) : Out :=
  s.hoFrame f (fun s => match s.pr.ho with | .due _ => if s.follows then s.applyItems items else s | _ => s)

/-- HANDOVER_PIPE_RELEASE (R541): the STATE frames are sent, and 1 µs before S the owner lowers PIPE_OUT; it still holds the Pipe
(DEDUCED, log entry 52). -/
def execHandoverPipeRelease (s : State) : Out :=
  match s.pr.ho with
  | .timed h sAt =>
    let s := s.tickTo (sAt - 1000)
    let items := s.mirrorItems
    let s := s.sendZl (.hoState items)
    .next (s.onBoard (fun b => { b with pipeOut := false, pair := { b.pair with ho := .given h sAt, lastItems := items } }))
  | _ => .next s

/-- HANDOVER_PIPE_TAKE (R81, R541, R542): at S the partner raises PIPE_OUT and drives the levels handed over: no period is skipped and no ramp
runs. The mode, its events and the ACK follow (DEDUCED, log entry 52). -/
def execHandoverPipeTake (s : State) : Out :=
  let s := s.fatalFirst
  match s.pr.ho with
  | .due sAt =>
    if !s.follows then .next s
    else
      let s := s.tickTo sAt
      let s := s.onBoard (fun b => { b with owner := true, barred := false, pipeOut := true, pair := { b.pair with ho := .none, rcPrimary := true } })
      let s := s.tkStamp
      let s := s.enterMode s.workMode 0x10 0
      let s := s.forChans allChans (fun c s =>
        let l := (s.chan c).loop
        if l.st = .released ∧ l.before ≠ .released ∧ s.mayDrive c then (s.onLoop c (fun l => { l with before := .stopped })).setSt c l.before .none 0 else s)
      let s := (s.settle.adopt false).freshStorms
      .next (((s.pairEvt 2).programEvts 3).sendZl .hoAck)
  | _ => .next s

/-- The modes from which a part enters TWIN by handover (Table 03-2). -/
def modeGives : Mode → Bool
  | .ready | .run | .degraded | .service => true
  | _ => false

/-- HANDOVER_ACK (R81, R541, R542): the old owner enters TWIN and completes the command with APPLIED equal to S. In LEHR the mode stays (R80). -/
def execHandoverAck (f : FrameHead) (s : State) : Out :=
  s.fatalFirst.hoFrame f (fun s =>
    match s.pr.ho with
    | .given h sAt =>
      let s := s.cancelDeferred
      let s := s.onBoard (fun b => { b with owner := false, pipeOut := false, pair := { b.pair with rcPrimary := false } })
      let s := s.tkStamp
      let s := (if modeGives s.mode.mode then s.enterMode .twin 0x0F 0 else s).settle
      let n := s.evtFifo.length
      let s := s.pairEvt 1
      let s := s.corrFrom n h.corr
      let s := s.endHandover h .ok sAt
      s.dropServed
    | _ => s)

/-- HANDOVER_TIMEOUT (R541, R543): READY missed the deadline, or the partner has not raised PIPE_OUT by S + 10 µs; the owner keeps the Pipe. -/
def execHandoverTimeout (s : State) : Out :=
  match s.pr.ho with
  | .prep h till => .next ((s.tickTo till).endHandover h .timeout 0)
  | .timed h sAt => .next ((s.tickTo (sAt + 10000)).endHandover h .timeout 0)
  | .given h sAt =>
    if s.board.pipeIn then .next s
    else
      let s := (s.tickTo (sAt + 10000)).onBoard (fun b => { b with pipeOut := true })
      .next (s.endHandover h .timeout 0)
  | .answered => .next (s.onPair (fun p => { p with ho := .none }))
  | .due sAt => .next ((s.tickTo (sAt + 10000)).onPair (fun p => { p with ho := .none }))
  | .none => .next s

/-! ### Arbitration (R526, R527) -/

/-- ARBITRATION_START (R526, R527): the idle check has passed, or 50 µs have gone since a round was lost; a round begins. -/
def execArbitrationStart (s : State) : Out :=
  match (if s.pr.noForm then Arb.none else s.pr.arb) with
  | .idle => .next (s.onPair (fun p => { p with arb := .round, roll := false }))
  | .lost t => .next ((s.passTo (t + 50000)).onPair (fun p => { p with arb := .round, roll := false }))
  | _ => .next s

/-- ARBITRATION_END (R526, R527, R544): `line` holds the sampled level of ROLL in slots 0 to 64. -/
def execArbitrationEnd (line : List Bool) (s : State) : Out :=
  if s.pr.arb ≠ .round ∨ s.pr.noForm then .next s
  else
    let won := arbWon s.arbBits line
    let s := s.onPair (fun p => { p with arb := .none, roll := true })
    if s.pr.contend then
      let s := s.onPair (fun p => { p with rounds := p.rounds + 1 })
      .next (if won then s.winContention else s.loseContention)
    else if s.mode.mode ≠ .boot then .next s
    else if won then .next s.bootOwner
    else .next (s.onPair (fun p => { p with arb := .lost s.now }))

/-- ARBITRATION_ROUND_VOID (R526): every part restarts at the idle check. -/
def execArbitrationRoundVoid (s : State) : Out :=
  if s.pr.arb = .none then .next s else .next (s.onPair (fun p => { p with arb := .idle, roll := true }))

/-- REACQ_EXPIRY (R550): the partner is lost. -/
def execReacqExpiry (s : State) : Out :=
  match s.pr.reacqT with
  | some t =>
    let s := s.passTo (t + s.fld 0x330000 8 8 * 100000000)
    let s := s.onPair (fun p => { p with reacqT := none, lostSeen := true })
    .next ((s.pairEvt 3).fault 0x0A 0x0C)
  | none => .next s

/-! ### Roll call (R548, Table 14-8) -/

/-- Roll call runs in KEEP with ROLLEN set and a known partner. Table 03-3 lists it in WAKE as well; R548 has parts from WAKE on neither send nor
answer pulses, and the model follows R548 (DEDUCED, log entry 52). -/
def State.rollOn (s : State) : Bool := s.optT && s.mode.mode == .keep && s.bit 0x330000 16 && s.pr.rcKnown

/-- A KEEP tick of 30.52 µs: ns in n ticks of 1 / 32,768 s. -/
def keepTicks (n : Nat) : Nat := n * 1000000000 / 32768

/-- ROLL_CALL_PULSE: the primary's presence pulse, 327,680 ticks after the last. -/
def execRollCallPulse (s : State) : Out :=
  if s.rollOn && s.pr.rcPrimary then
    let s := if s.pr.rcPulse = 0 then s else s.passTo (s.pr.rcPulse + keepTicks 327680)
    .next (s.onPair (fun p => { p with rcPulse := s.now }))
  else .next s

/-- ROLL_PULSE_DETECT: a low of 32 ticks or more in the window or in a search: the partner is there. -/
def execRollPulseDetect (s : State) : Out :=
  if !s.rollOn then .next s
  else
    .next (s.onPair (fun p => { p with rcMisses := 0, rcSearch := false, rcAbsent := false, rcSkips := 0
                                       rcCalls := if p.rcPrimary then satAdd 0xFFFF p.rcCalls 1 else p.rcCalls
                                       rcPulse := if p.rcPrimary then p.rcPulse else s.now }))

/-- ROLL_CALL_REPLY: the secondary answers 256 ticks after the primary's pulse of 64 ticks. -/
def execRollCallReply (s : State) : Out :=
  if s.rollOn && !s.pr.rcPrimary then
    let s := s.passTo (s.pr.rcPulse + keepTicks 320)
    .next (s.onPair (fun p => { p with rcCalls := satAdd 0xFFFF p.rcCalls 1 }))
  else .next s

/-- ROLL_CALL_MISS: no pulse in the window; three in a row begin a search, and with ABSENT set every tenth period does (DEDUCED, log entry 52). -/
def execRollCallMiss (s : State) : Out :=
  if !s.rollOn then .next s
  else
    .next (s.onPair (fun p =>
      if p.rcAbsent then
        if 9 ≤ p.rcSkips then { p with rcSkips := 0, rcSearch := true } else { p with rcSkips := p.rcSkips + 1 }
      else { p with rcMisses := Nat.min 3 (p.rcMisses + 1), rcSearch := p.rcSearch || decide (2 ≤ p.rcMisses) }))

/-- ROLL_CALL_SEARCH_END: a search of 327,680 ticks found nothing. -/
def execRollCallSearchEnd (s : State) : Out :=
  if s.rollOn && s.pr.rcSearch then .next (s.onPair (fun p => { p with rcSearch := false, rcAbsent := true, rcSkips := 0 })) else .next s

end Sys2Proof.Machine
end

