-- ==== Sys2Proof/Machine/RegView.lean ====
section
/-! DEFINITION. What a read of each register gives (R22, R27): the registers that follow from the state, block by block; all others read
as they are stored. -/

namespace Sys2Proof.Machine

open Sys2Proof

/-- The extents of Table 01-3: base and size. -/
def extents : List (Nat × Nat) :=
  ((List.range 10).map (fun i => (0x10000 * i, 0x10000))) ++ ((List.range 8).map (fun i => (0x100000 + 0x10000 * i, 0x10000)))
    ++ [(0x200000, 0x10000), (0x210000, 0x10000), (0x300000, 0x10000), (0x310000, 0x10000), (0x320000, 0x10000), (0x330000, 0x10000),
        (0x400000, 0x80000), (0x1000000, 0x1000000)]

/-- An address lies inside an extent of the fabric map (R27) (DESIGN CHOICE, log entry 9). -/
def inFabric (a : Nat) : Bool := extents.any (fun e => decide (e.1 ≤ a ∧ a < e.1 + e.2))

/-- A register of a block that belongs to an absent option (R9). -/
def State.absent (s : State) (a : Nat) : Bool :=
  (a / 65536 == 0x21 && !s.optZ) || (a / 65536 == 0x33 && !s.optT) || (a / 65536 == 0x31 && !s.optL)
    || (a / 65536 == 0x20 && decide (0x200800 ≤ a) && !s.optM)

/-! ### SYS, RST, WDG, EVR -/

def State.viewSys (s : State) (off : Nat) : Nat :=
  if off = 0x00 then 0x7264 + 0x10000 * s.opt + 0x100000 * 0xB0
  else if off = 0x04 then s.serial
  else if off = 0x08 then s.serial / 2 ^ 32
  else if off = 0x0C then (match s.fw with | some (a, b, n) => b + 256 * a + 65536 * n | none => 0)
  else if off = 0x10 then s.sysMode
  else if off = 0x14 then s.sysCause
  else if off = 0x18 then s.mode.time
  else if off = 0x1C then s.mode.time / 2 ^ 32
  else if off = 0x20 then s.strap + 16 * s.strapRaw + 65536 * b2n s.strapValid
  else 0

/-- A block or Gather is held in reset (R654). -/
def State.heldBlock (s : State) (u : Nat) : Bool := s.rst.blocks.any (fun b => b.block == u && b.quieted)

def State.viewRst (s : State) (off : Nat) : Nat :=
  if off = 0x00 then s.rst.kind + 16 * s.rst.source + 65536 * s.rst.warms
  else if off = 0x04 then s.rst.fcode + 65536 * b2n s.rst.latched
  else if off = 0x0C then
    b2n (s.heldBlock 4) + 2 * b2n (s.heldBlock 7) + 4 * b2n (s.heldBlock 8) + 8 * b2n (s.heldBlock 9) + 16 * b2n (s.heldBlock 10)
      + 32 * b2n (s.heldBlock 11)
      + 256 * maskOf ((allGathers.filter (fun g => (s.gat g).inReset || s.heldBlock (uGat g))).map Fin.val)
      + 65536 * s.rst.coreRst + 1048576 * s.rst.coreResets
  else s.reg (0x010000 + off)

def State.viewWdg (s : State) (off : Nat) : Nat :=
  if h : off / 0x20 < 5 then
    let w : Fin 5 := ⟨off / 0x20, h⟩
    let r := s.reg (0x020000 + off)
    if off % 0x20 = 0xC then
      b2n (s.wdgOpen w) + 2 * b2n s.wdg[w].hard.isSome + 4 * bitsOf r 2 3 + 65536 * s.wdg[w].expiries
    else r
  else 0

def State.viewEvr (s : State) (off : Nat) : Nat :=
  if off < 0x40 ∧ off % 16 = 0 then (s.evrClaim (off / 16)).1
  else if 0x1000 ≤ off ∧ off < 0x1800 then
    setBits (s.reg (0x030000 + off)) 31 1 (b2n (s.evr.src (0x100 + (off - 0x1000) / 4)).pend)
  else if 0x2000 ≤ off ∧ off < 0x2800 then (s.evr.src (0x100 + (off - 0x2000) / 4)).count
  else s.reg (0x030000 + off)

/-! ### FLT (Tables 18-24 to 18-28) -/

/-- The conditions of ALARM_N, in MASK order (Table 18-26). -/
def State.alarmConds (s : State) : Nat :=
  b2n s.faultN + 2 * b2n (s.col.pend.any (fun p => p.cls == .c)) + 4 * b2n (s.mode.mode == .twin)
    + 8 * b2n (s.board.pwr.path == .holdup || s.board.pwr.path == .returning || s.board.pwr.path == .test)
    + 16 * b2n (!s.board.pwr.holdok) + 32 * b2n (s.led.st != .mounted) + 64 * b2n (!s.board.ptpLocked)
    + 128 * b2n (allChans.any (fun c => (s.chan c).prot.twarn))
    + 256 * b2n (allGathers.any (fun g => (s.gat g).uvw || (s.gat g).ovw))
    + 512 * b2n (s.nvm.roMask != 0) + 1024 * b2n (decide (s.nvm.spares ≤ 16))
    + 2048 * b2n (s.storm.isSome || s.tenants.any (fun t => t.storm.isSome))
    + 4096 * b2n s.anyPaused + 8192 * b2n (allGathers.any (fun g => (s.gat g).calhold))

def State.viewFlt (s : State) (off : Nat) : Nat :=
  if off = 0 then
    b2n s.faultN + 2 * b2n s.rst.latched + 256 * Nat.min 255 s.col.pend.length + 65536 * s.col.fences.length
  else if off = 4 then s.col.lastCode + 65536 * classCode s.col.lastCls + 262144 * b2n s.col.lastEsc
  else if off = 8 then bitsOf (s.reg 0x040008) 0 14 + 65536 * s.alarmConds
  else if 0x400 ≤ off ∧ off < 0x600 then
    let u := (off - 0x400) / 4
    Nat.min 0xFFFF (s.col.recov u) + 65536 * b2n (s.fenced u) + 131072 * b2n (s.col.pend.any (fun p => p.uu == u))
      + 262144 * b2n (s.onProbation u)
  else s.reg (0x040000 + off)

/-! ### KEEP, PWR, HLD, NVM -/

/-- What the read shadows hold: the frozen fields, or the calendar itself (R559). -/
def State.calRead (s : State) : CalTime × Bool := s.board.time.frozen.getD (s.board.time.cal, s.board.time.valid)

def State.viewKeep (s : State) (off : Nat) : Nat :=
  let (c, v) := s.calRead
  if off = 0 then c.second + 256 * c.minute + 65536 * c.hour
  else if off = 4 then c.day + 256 * c.month + 65536 * c.wday
  else if off = 8 then (c.year - 2000) + 256 * b2n c.summer + 512 * b2n v
  else if off = 0x18 then b2n s.board.time.xtalOk + 2 * b2n s.board.time.frozen.isSome + 4 * bitsOf (s.reg 0x050018) 2 2
  else if 0x100 ≤ off ∧ off < 0x200 then numAt s.board.pwr.snap (off - 0x100) 4
  else s.reg (0x050000 + off)

/-- A PWR register: the value written last, also where it takes effect only at the next WAKE (R617). -/
def State.pwrReg (s : State) (a : Nat) : Nat := ((s.board.pwr.next.find? (fun x => x.1 == a)).map Prod.snd).getD (s.reg a)

def State.viewPwr (s : State) (off : Nat) : Nat :=
  let p := s.board.pwr
  if h : off / 0x20 < 4 then
    let k : Fin 4 := ⟨off / 0x20, h⟩
    let a := p.aux[k]
    if off % 0x20 = 0x0C then
      b2n a.on + 2 * b2n a.pgood + 4 * b2n a.de + 8 * b2n (a.hicT.any (fun t => decide (s.now ≤ t + 1000000)))
        + 16 * b2n (s.bit (0x060000 + off) 4) + 32 * b2n a.latched + 64 * b2n a.twarn + 65536 * tc 16 (p.rd.tdrv.getD k.val 0)
    else if off % 0x20 = 0x10 then p.rd.vout.getD k.val 0 % 65536 + 65536 * (p.rd.iout.getD k.val 0 / 10)
    else s.pwrReg (0x060000 + off)
  else if 0x90 ≤ off ∧ off < 0xA0 then
    let m := (off - 0x90) / 4
    let v := p.rd.mon.getD m 0
    let w := s.reg (0x060080 + 4 * m)
    Nat.min v 2047 + 2048 * b2n (decide (bitsOf w 0 11 ≤ v ∧ v ≤ bitsOf w 16 11))
  else if off = 0xA4 then p.slot + 16 * p.phase + 64 * bitsOf (s.reg 0x0600A4) 6 3 + 65536 * p.onMask
  else s.pwrReg (0x060000 + off)

def State.viewHld (s : State) (off : Nat) : Nat :=
  let p := s.board.pwr
  if off = 0x24 then
    pathCode p.path + 8 * b2n p.holdok + 16 * b2n p.present + 32 * b2n p.input + 256 * chgCode p.chg + 4096 * p.endcause
      + 32768 * bitsOf (s.reg 0x070024) 15 2
  else if off = 0x28 then p.rd.vin % 65536 + 65536 * p.rd.packv
  else if off = 0x2C then tc 16 p.rd.ipack + 65536 * tc 16 (p.rd.tpack.getD 0)
  else if off = 0x30 then p.search % 65536 + 65536 * b2n p.searchT.isSome
  else s.reg (0x070000 + off)

def State.viewNvm (s : State) (off : Nat) : Nat :=
  if off = 0 then s.nvm.spares + 512 * b2n s.nvm.busy + 1024 * s.nvm.roMask
  else if off = 4 then s.nvm.maxErase
  else if off = 0x70 then b2n s.nvm.hken
  else s.reg (0x090000 + off)

/-! ### GATHER -/

/-- Registers of a channel window (chapters 04 to 06). -/
def State.viewChan (s : State) (c : ChanNo) (o : Nat) : Nat :=
  let x := s.chan c
  if o = 0x10 then s.chStat c
  else if o = 0x14 then w32 x.loop.iref
  else if o = 0x18 then w32 x.loop.iloop
  else if o = 0x1C then w32 x.loop.vloop
  else if o = 0x20 then x.loop.last.ton
  else if o = 0x90 then Nat.min 0xFFFFFF (x.prot.used / 1000000000) + 16777216 * b2n x.prot.fold
  else if o = 0xB0 then s.chPstat c
  else if o = 0xC4 then s.chMstat c
  else if o = 0xC8 then w32 x.meas.vout
  else if o = 0xCC then w32 x.meas.iout
  else if o = 0xD0 then tc 16 x.meas.tcell
  else if o = 0xD4 then x.meas.stamp
  else if o = 0xD8 then x.meas.frozenHi.getD (x.meas.stamp / 2 ^ 32)
  else if o = 0xE0 then
    let y := s.gat (gOf c)
    y.seats.getD (2 * kOf c) (2 * kOf c) + 256 * y.seats.getD (2 * kOf c + 1) (2 * kOf c + 1)
  else if o = 0xE4 then bitsOf (s.reg (chA c 0xE4)) 0 5 + 512 * b2n x.meas.snapOk
  else if o = 0xE8 then w32 x.meas.snapOff
  else if o = 0xEC then w32 x.meas.snapGain
  else if o = 0xF0 then w32 x.meas.snapQ
  else if o = 0xF4 then x.meas.snapGen
  else if o = 0xF8 then x.meas.diffcnt + 65536 * x.meas.nocmp
  else s.reg (chA c o)

/-- Registers of a program window (chapter 07). -/
def State.viewProg (s : State) (c : ChanNo) (o : Nat) : Nat :=
  let x := s.chan c
  if o = 0x00 then s.pgStat c
  else if o = 0x04 then s.pgLen c
  else if o = 0x08 then tMs x.prog.stepT
  else if o = 0x24 then s.hlEused c
  else if o = 0x28 then b2n x.icap + 2 * bitsOf (s.reg (pgA c 0x28)) 1 2
  else if 0x80 ≤ o ∧ o < 0x100 then w32 (x.prog.var ((o - 0x80) / 4))
  else s.reg (pgA c o)

/-- Registers of a Gather as a whole. -/
def State.viewG (s : State) (g : GatherNo) (off : Nat) : Nat :=
  let y := s.gat g
  if off = 0x18 then
    let m := s.gMask g (fun x => stSwitch x.loop.st)
    b2n (m != 0) + 2 * b2n (!y.inReset && s.bit (gA g 0) 24) + 256 * m + 65536 * s.gMask g (fun x => x.loop.de)
  else if off = 0x1C then y.cycle
  else if off = 0x100 then
    b2n ((chansOf g).any (fun c => (s.chan c).prot.uvhold)) + 2 * b2n y.stgValid + 256 * s.gMask g (fun x => x.prot.twarn)
      + 65536 * s.gMask g Chan.isFaulted + 16777216 * maskOf (((chansOf g).filter (fun c => s.chanFenced c)).map kOf)
  else if off = 0x104 then tc 16 y.tstg + 65536 * b2n y.stgValid
  else if off = 0x108 then y.ckPass + 256 * y.ckFail
  else if off = 0x210 then
    b2n y.swapping + 2 * b2n y.calhold + 4 * b2n y.refok + 16 * y.spares + 256 * (y.swapNo % 16) + 65536 * y.swaps
  else if off = 0x214 then y.pa.view + 256 * y.pb.view
  else if off = 0x218 then y.retired
  else if off = 0x300 then
    s.gMask g (fun x => !x.prog.live.isEmpty) + 256 * s.gMask g (fun x => x.prog.sync) + 65536 * b2n y.draining
  else s.reg (gA g off)

def State.viewGather (s : State) (g : GatherNo) (off : Nat) : Nat :=
  if 0x1000 ≤ off ∧ off < 0x1800 then s.viewChan (chOf g ⟨(off - 0x1000) / 0x100 % 8, by omega⟩) (off % 0x100)
  else if 0x2000 ≤ off ∧ off < 0x2800 then s.viewProg (chOf g ⟨(off - 0x2000) / 0x100 % 8, by omega⟩) (off % 0x100)
  else s.viewG g off

/-! ### BUS and EIS -/

/-- A METER_SCHED entry: the value written last, also where it waits for the minute boundary (R374). -/
def State.schedReg (s : State) (e : Nat) : Nat :=
  ((s.met.sched.find? (fun x => x.1 == e)).map Prod.snd).getD (s.reg (0x200900 + 4 * e))

def State.viewBus (s : State) (off : Nat) : Nat :=
  if off = 0x10 then
    b2n s.bal.holdChg + 2 * b2n s.bal.holdDis + 4 * s.bal.stage + 16 * b2n (s.bit 0x200010 4) + 256 * s.deferredChans.length
      + 65536 * s.bal.overruns
  else if off = 0x14 then w32 s.bal.net
  else if off = 0x18 then s.bal.mchg
  else if off = 0x1C then s.bal.mdis
  else if 0x100 ≤ off ∧ off < 0x200 then
    let g : GatherNo := ⟨(off - 0x100) / 0x20 % 8, by omega⟩
    let y := s.gat g
    if off % 0x20 = 0x14 then y.vbus
    else if off % 0x20 = 0x18 then w32 y.ibus
    else if off % 0x20 = 0x1C then
      b2n y.uvw + 2 * b2n y.uvs + 4 * b2n y.ovw + 8 * b2n y.ovs + 16 * b2n ((chansOf g).any (fun c => (s.chan c).prot.ovhold))
        + 32 * b2n y.sensok
    else s.reg (0x200000 + off)
  else if 0x400 ≤ off ∧ off < 0x500 then
    match chan? ((off - 0x400) / 4) with
    | some c => s.bcStat c
    | none => 0
  else if off = 0x804 then
    s.met.tariff + 8 * b2n s.met.partial_ + 16 * b2n s.met.late + 32 * b2n s.met.nocal
  else if 0x900 ≤ off ∧ off < 0x980 then s.schedReg ((off - 0x900) / 4)
  else s.reg (0x200000 + off)

def State.viewEis (s : State) (off : Nat) : Nat :=
  if h : off / 0x100 < 8 then
    let g : GatherNo := ⟨off / 0x100, h⟩
    let o := off % 0x100
    if o = 0x04 then
      maskOf (((chansOf g).filter s.inEis).map kOf) + 256 * maskOf (((chansOf g).filter (fun c => s.inEis c && (s.chan c).eis.ffpath)).map kOf)
        + 65536 * b2n (s.fenced (uEis g)) + 131072 * b2n (s.gat g).eisOk
    else if 0x10 ≤ o ∧ o < 0x30 then
      let e := (s.chan (chOf g ⟨(o - 0x10) / 4 % 8, by omega⟩)).eis
      e.code + 8192 * e.phase + 32768 * b2n e.rep + 65536 * e.point
    else s.reg (0x210000 + off)
  else 0

/-! ### DMA, LEDGER, NET, PAIR, QM -/

def dmaCode : DmaState → Nat
  | .idle => 0 | .running => 1 | .stopping => 2 | .stopped => 3 | .halted => 4

def State.viewDma (s : State) (off : Nat) : Nat :=
  if off = 4 then
    maskOf (((List.finRange 32).filter (fun c => s.dma[c].state == .running || s.dma[c].state == .stopping)).map Fin.val)
  else if h : 0x100 ≤ off ∧ off < 0x500 then
    let d := s.dma[(off - 0x100) / 0x20]
    if off % 0x20 = 8 then d.cur
    else if off % 0x20 = 0xC then dmaCode d.state + 256 * d.code + 65536 * d.done
    else s.reg (0x300000 + off)
  else s.reg (0x300000 + off)

def ledgerCode : LedgerSt → Nat
  | .off => 0 | .discovering => 1 | .mounted => 2 | .degraded => 3 | .full => 4 | .unlabelled => 5 | .foreign => 6 | .incomplete => 7
  | .failed => 8

def State.viewLedger (s : State) (off : Nat) : Nat :=
  let l := s.led
  if off = 0x08 then
    ledgerCode l.st + 16 * maskOf ((List.range 4).filter (fun d => (l.drive d).state == 1))
      + 256 * maskOf ((List.range 4).filter (fun d => (l.drive d).labelOk)) + 4096 * b2n l.initBusy + 65536 * Nat.min 1024 l.used
  else if off = 0x0C then Nat.min 64 (l.used - 960) + 256 * s.fld 0x31000C 8 24
  else if off = 0x10 then (if l.isMounted then l.freeSegs else 0)
  else if off = 0x14 then (if l.isMounted then l.dataSegs else 0)
  else if off = 0x18 then l.bootcnt
  else if 0x100 ≤ off ∧ off < 0x180 then
    let d := l.drive ((off - 0x100) / 0x20)
    if off % 0x20 = 0 then
      b2n d.present + 2 * b2n d.linkUp + 4 * d.width + 16 * d.speed + 128 * b2n d.labelOk + 256 * d.state + 65536 * Nat.min 0xFFFF d.errs
    else if off % 0x20 = 4 then d.blocks
    else if off % 0x20 = 8 then d.blocks / 2 ^ 32
    else s.reg (0x310000 + off)
  else s.reg (0x310000 + off)

def ptpCode : PtpSt → Nat
  | .unset => 0 | .seeded => 1 | .locking => 2 | .locked => 3 | .holdover => 4 | .mains => 5 | .freerun => 6

/-- NET registers whose writes take effect at the next Sync (R580). -/
def netLater (off : Nat) : Bool := off == 0x40 || off == 0x44 || off == 0x54 || off == 0x58 || off == 0x5C

/-- A NET register as it was last written. -/
def State.netReg (s : State) (a : Nat) : Nat := ((s.board.time.netNext.find? (fun x => x.1 == a)).map Prod.snd).getD (s.reg a)

def State.viewNet (s : State) (off : Nat) : Nat :=
  let t := s.board.time
  if off = 0x48 then
    ptpCode t.ptp + 8 * b2n s.board.ptpValid + 16 * t.slave + 64 * b2n t.stepPend.isSome + 128 * b2n (s.bit 0x320048 7)
  else if off = 0x64 then t.ppsHi.getD (s.reg 0x320064)
  else if netLater off then s.netReg (0x320000 + off)
  else s.reg (0x320000 + off)

def lanesUp (m : Nat) : Nat := (maskList 2 m).length

def State.viewPair (s : State) (off : Nat) : Nat :=
  let p := s.pr
  if off = 0x04 then
    s.role + 4 * lanesUp p.lanes + 16 * p.sync + 64 * b2n p.epochLock + 128 * b2n p.unmirrored + 256 * b2n s.board.pipeIn
      + 512 * b2n s.board.pipeOut + 1024 * b2n s.board.fenceIn + 2048 * b2n s.board.fenceOut + 4096 * b2n p.roll + 8192 * b2n p.cold
  else if off = 0x08 then p.epoch
  else if off = 0x0C then p.pSerial
  else if off = 0x10 then p.pSerial / 2 ^ 32
  else s.reg (0x330000 + off)

/-- The descriptor of a queue (Table 10-3) as 32 bytes. -/
def Queue.desc (q : Queue) : List Byte :=
  let kind := match q.kind with | .command => 0 | .completion => 1 | .record => 2 | .event => 3
  leBytes 4 (kind + 4 + 8 * b2n q.local_ + 16 * q.size + 256 * q.tenant + 65536 * q.holdCap)
    ++ leBytes 4 q.base ++ leBytes 2 q.head ++ leBytes 2 q.tail ++ leBytes 2 q.nseq
    ++ leBytes 2 (match q.pair with | some p => p + 32768 | none => 0)
    ++ leBytes 2 (match q.bind with | some n => n + 32768 | none => 0)
    ++ leBytes 2 q.cack ++ leBytes 2 q.climit
    ++ leBytes 2 (b2n q.overflow + 2 * b2n q.closing + 4 * b2n q.losspend) ++ leBytes 4 q.drops ++ zeros 4

/-- KiB of the pool that tenant rings and holds use (R377, R448). -/
def State.kibUsed (s : State) : Nat := ((s.queues.filter (fun q => !q.local_ && !q.closing)).map Queue.kib).sum

def State.viewQm (s : State) (off : Nat) : Nat :=
  if off < 0x40000 then
    match s.queue? (off / 0x20) with
    | some q => numAt q.desc (off % 0x20) 4
    | none => 0
  else if off = 0x40000 then s.queues.length + 65536 * b2n (s.queues.any (fun q => q.overflow))
  else if off = 0x40004 then 11968 - s.kibUsed
  else s.reg (0x400000 + off)

/-! ### Any register -/

/-- A read of the word at a fabric address, without what the read itself does (R9, R27). -/
def State.viewRaw (s : State) (a : Nat) : Nat :=
  let off := a % 65536
  match a / 65536 with
  | 0x00 => s.viewSys off
  | 0x01 => s.viewRst off
  | 0x02 => s.viewWdg off
  | 0x03 => s.viewEvr off
  | 0x04 => s.viewFlt off
  | 0x05 => s.viewKeep off
  | 0x06 => s.viewPwr off
  | 0x07 => s.viewHld off
  | 0x08 => s.reg a
  | 0x09 => s.viewNvm off
  | 0x20 => s.viewBus off
  | 0x21 => s.viewEis off
  | 0x30 => s.viewDma off
  | 0x31 => s.viewLedger off
  | 0x32 => s.viewNet off
  | 0x33 => s.viewPair off
  | b =>
    if h : 0x10 ≤ b ∧ b < 0x18 then s.viewGather ⟨b - 0x10, by omega⟩ off
    else if 0x40 ≤ b ∧ b < 0x48 then s.viewQm (a - 0x400000)
    else if 0x100 ≤ b then s.cruNum (a - 0x1000000) 4
    else 0

/-- Write-only and key fields read zero (Table 00-4). -/
def RegDesc.mask (d : RegDesc) (w : Nat) : Nat :=
  d.fields.foldl (fun w f => if f.acc = .wo ∨ f.acc = .wk then setBits w f.lo f.len 0 else w) w

/-- The word that a read of an address gives. -/
def State.regView (s : State) (a : Nat) : Nat :=
  if s.absent a then 0
  else
    let w := s.viewRaw a % 2 ^ 32
    match regAt a with
    | some d => d.mask w
    | none => w

end Sys2Proof.Machine
end

