-- ==== Sys2Proof/Machine/RegOps.lean ====
section
/-! DEFINITION. Reads and writes of registers: what a read does besides giving the word, the checks a write must pass, and the effect of
a write in its owning block (R22, R27, R115, R153, R160 and the register rules of chapters 05 to 18). -/

namespace Sys2Proof.Machine

open Sys2Proof

/-- The state an outcome leaves; the state before it where it stops. -/
def outState (o : Out) (s : State) : State :=
  match o with
  | .next t => t
  | _ => s

/-! ### Reads (RC of Table 00-4, R227, R559, R665, R666) -/

/-- The RC fields of a register clear. -/
def RegDesc.rcClear (d : RegDesc) (w : Nat) : Nat :=
  d.fields.foldl (fun w f => if f.acc = .rc then setBits w f.lo f.len 0 else w) w

/-- The freeze of the calendar's read shadows by a read of register `off` of KEEP (R559) (DEDUCED, log entry 19). -/
def State.freezeRead (s : State) (off : Nat) : State :=
  if s.board.time.frozen.isNone then outState (execCalendarReadFreeze s) s
  else if off = 8 then outState (execKeepYearRead s) s
  else s

/-- What a read of a channel-window register does. -/
def State.chanReadActs (s : State) (c : ChanNo) (o : Nat) : State :=
  if o = 0xB0 then s.onProt c (fun p => { p with twinck := 0 })
  else if o = 0xF8 then s.onMeas c (fun m => { m with diffcnt := 0, nocmp := 0 })
  else if o = 0xD4 then s.onMeas c (fun m => { m with frozenHi := some (m.stamp / 2 ^ 32) })
  else if o = 0xD8 then s.onMeas c (fun m => { m with frozenHi := none })
  else s

/-- What a read does besides giving the word (DEDUCED, log entry 41). -/
def State.readActs (s : State) (a : Nat) : State :=
  let off := a % 65536
  let b := a / 65536
  if s.absent a then s
  else if b = 0x03 ∧ off < 0x40 ∧ off % 16 = 0 then (s.evrClaim (off / 16)).2
  else if b = 0x03 ∧ 0x2000 ≤ off ∧ off < 0x2800 then s.onSrc (0x100 + (off - 0x2000) / 4) (fun x => { x with count := 0 })
  else if b = 0x05 ∧ off < 0x0C then s.freezeRead off
  else if b = 0x32 ∧ off = 0x60 then s.onTime (fun t => { t with ppsHi := some (s.reg 0x320064) })
  else if b = 0x32 ∧ off = 0x64 then s.onTime (fun t => { t with ppsHi := none })
  else if h : 0x10 ≤ b ∧ b < 0x18 then
    if 0x1000 ≤ off ∧ off < 0x1800 then
      s.chanReadActs (chOf ⟨b - 0x10, by omega⟩ ⟨(off - 0x1000) / 0x100 % 8, by omega⟩) (off % 0x100)
    else s
  else
    match regAt a with
    | some d => if d.fields.any (fun f => f.acc = .rc) then s.setReg a (d.rcClear (s.reg a)) else s
    | none => s

/-- A read of one register word: the word, and the state after it (DEDUCED, log entry 41). -/
def State.regRead (s : State) (a : Nat) : Nat × State := (s.regView a, s.readActs a)

/-! ### Checks of a write -/

/-- Every written field lies in its range (DEDUCED, log entry 37). -/
def RegDesc.rangeOk (d : RegDesc) (w : Nat) : Bool :=
  d.fields.all (fun f =>
    match f.range with
    | some (lo, hi) =>
      let v : Int := if f.signed then sx f.len (bitsOf w f.lo f.len) else (bitsOf w f.lo f.len : Int)
      decide (lo ≤ v ∧ v ≤ hi)
    | none => true)

/-- The word that a write leaves: RW and RWL fields take the written bits, W1C fields lose the bits written 1 (Table 00-4)
(DEDUCED, log entry 37). -/
def RegDesc.merge (d : RegDesc) (old w : Nat) : Nat :=
  d.fields.foldl (fun r f =>
    let b := bitsOf w f.lo f.len
    if f.acc = .rw ∨ f.acc = .rwl then setBits r f.lo f.len b
    else if f.acc = .w1c then setBits r f.lo f.len (bitsOf r f.lo f.len &&& (2 ^ f.len - 1 - b))
    else r) old

/-- 2π in units of 10^-20. -/
def twoPi : Nat := 628318530717958647692

/-- R128: the current-loop crossover KPI / (2π × LIND) is at most 5 kHz and the PWM frequency over 20; KPI in µΩ, LIND in nH, PERIOD in
ticks of 125 ps. -/
def crossOk (kpi lind period : Nat) : Bool :=
  decide (kpi * 1000 * 10 ^ 20 ≤ 5000 * twoPi * lind) && decide (kpi * 1000 * period * 10 ^ 20 ≤ 400000000 * twoPi * lind)

/-- Members, leader, tracking and EN of a gang slot word (Table 04-14). -/
def slotMembers (w : Nat) : Nat := bitsOf w 0 8

/-- R153, R154: 2 to 8 members, the leader among them, no channel in two enabled slots, follower shares of at most 65,536 (DEDUCED, log entry 34). -/
def State.gangOk (s : State) (g : GatherNo) (slot w : Nat) : Bool :=
  let m := slotMembers w
  let mem := maskList 8 m
  let leader := bitsOf w 8 3
  !w.testBit 15 ||
    (decide (2 ≤ mem.length) && m.testBit leader
      && (List.range 4).all (fun i => i == slot || (let v := s.reg (gA g (0x40 + 4 * i)); !v.testBit 15 || (slotMembers v &&& m) == 0))
      && (!w.testBit 12
          || decide (((mem.filter (fun k => k != leader)).map (fun k => s.fld (gA g (0x100C + 0x100 * k)) 0 16)).sum ≤ 65536)))

/-- A slot write reaches only members that are STOPPED, PAUSED or RELEASED (R153): those it names and those the slot holds
(DEDUCED, log entry 34). -/
def State.gangBusy (s : State) (g : GatherNo) (slot w : Nat) : Bool :=
  let old := s.reg (gA g (0x40 + 4 * slot))
  let m := (if w.testBit 15 then slotMembers w else 0) ||| (if old.testBit 15 then slotMembers old else 0)
  (chansOf g).any (fun c => m.testBit (kOf c)
    && !((s.chan c).loop.st == .stopped || (s.chan c).loop.st == .paused || (s.chan c).loop.st == .released))

/-- Relations between fields and registers of a Gather that a write must keep. A share whose sum with the others passes 65,536 is refused with
the slot that enables it, not where CH_SHARE is written (R154) (DEDUCED, log entry 34). -/
def State.gatherRel (s : State) (g : GatherNo) (off w : Nat) : Bool :=
  if 0x40 ≤ off ∧ off < 0x50 then s.gangOk g ((off - 0x40) / 4) w
  else if 0x1000 ≤ off ∧ off < 0x1800 then
    let win := off / 0x100 * 0x100
    let o := off % 0x100
    if o = 0x04 then (List.range 4).all (fun p => crossOk (s.fld (gA g (win + 0x40 + 16 * p)) 0 20) (bitsOf w 0 16) (s.period g))
    else if 0x40 ≤ o ∧ o < 0x80 ∧ o % 16 = 0 then crossOk (bitsOf w 0 20) (s.fld (gA g (win + 4)) 0 16) (s.period g)
    else if o = 0x94 then decide (sx 16 w < sx 16 (w / 65536))
    else if o = 0xC0 then decide (bitsOf w 0 4 ≤ 10)
    else true
  else true

/-- A write that R115, R153 or R193 lets through only at rest, and that finds the Gather running. -/
def State.gatherBusy (s : State) (g : GatherNo) (off w : Nat) : Bool :=
  let win := decide (0x1000 ≤ off ∧ off < 0x1800)
  let o := off % 0x100
  if 0x40 ≤ off ∧ off < 0x50 then s.gangBusy g ((off - 0x40) / 4) w
  else
    let held : Bool := off == 0 || off == 4 || off == 8 || (win && (o == 0x08 || o == 0x80))
      || (win && o == 0x8C && s.fld (gA g off) 0 8 != bitsOf w 0 8)
    held && !s.gatQuiet g

/-- R349: UVSTOP < UVWARN < OVWARN < OVSTOP after the write. -/
def State.busOrder (s : State) (off w : Nat) : Bool :=
  let base := 0x200000 + off / 0x20 * 0x20
  let uv := if off % 0x20 = 0x08 then w else s.reg (base + 0x08)
  let ov := if off % 0x20 = 0x0C then w else s.reg (base + 0x0C)
  decide (bitsOf uv 16 16 < bitsOf uv 0 16 ∧ bitsOf uv 0 16 < bitsOf ov 0 16 ∧ bitsOf ov 0 16 < bitsOf ov 16 16)

/-- The slot of a sequencer target, with one register replaced by its new word. -/
def State.slotOf (s : State) (a w t : Nat) : Option Nat :=
  (List.range 16).find? (fun i =>
    let r := if 0x0600C0 + 4 * i = a then w else s.pwrReg (0x0600C0 + 4 * i)
    r.testBit 4 && bitsOf r 0 4 == t)

/-- R584, R589: a target stands in one slot only, and a tracking controller's slot does not come before its leader's. -/
def State.planOk (s : State) (a w : Nat) : Bool :=
  let word (b : Nat) : Nat := if b = a then w else s.pwrReg b
  let targets := ((List.range 16).map (fun i => word (0x0600C0 + 4 * i))).filter (fun r => r.testBit 4)
  let once := (List.range 12).all (fun t => decide ((targets.filter (fun r => bitsOf r 0 4 == t)).length ≤ 1))
  once && (List.range 4).all (fun k =>
    let cfg := word (0x060000 + 0x20 * k)
    bitsOf cfg 9 2 == 0 ||
      (match s.slotOf a w (8 + k), s.slotOf a w (8 + bitsOf cfg 11 2) with
       | some x, some y => decide (y ≤ x)
       | _, _ => true))

/-- Values of DEMINT (R366). -/
def demintOk (n : Nat) : Bool := decide (1 ≤ n ∧ n ≤ 60) && 1440 % n == 0

/-- Relations that a write must keep, outside the Gathers (R349, R366, R584, R589 and the tables of chapters 13 and 16). -/
def State.relOk (s : State) (a w : Nat) : Bool :=
  let off := a % 65536
  match a / 65536 with
  | 0x06 =>
    if off < 0x80 ∧ off % 0x20 = 0 then s.planOk a w
    else if off < 0x80 ∧ off % 0x20 = 4 then decide (bitsOf w 8 7 < bitsOf w 0 7)
    else if 0x80 ≤ off ∧ off < 0x90 then decide (bitsOf w 0 11 < bitsOf w 16 11)
    else if off = 0xA8 then decide (bitsOf w 0 8 < bitsOf w 8 8)
    else if 0xC0 ≤ off then s.planOk a w
    else true
  | 0x05 => if off = 4 then decide (1 ≤ bitsOf w 0 5) else true
  | 0x07 => if off = 0x14 then decide (bitsOf w 16 11 < bitsOf w 0 11) else true
  | 0x20 =>
    if 0x100 ≤ off ∧ off < 0x200 ∧ (off % 0x20 = 0x08 ∨ off % 0x20 = 0x0C) then s.busOrder off w
    else if off = 0x800 then demintOk (bitsOf w 0 6)
    else true
  | 0x31 => if off = 0 then bitsOf w 1 2 != 3 && bitsOf w 3 2 != 3 else true
  | _ => true

/-- The error bit that an ignored write sets (R160, R193, R251, R303, R346, R349, R374, R517, R553, R580, R617, R637) (DEDUCED, log entry 37). -/
def State.cfgErr (s : State) (a : Nat) : State :=
  let off := a % 65536
  match a / 65536 with
  | 0x05 => s.setBit 0x050018 3
  | 0x06 => s.setBit 0x0600A4 8
  | 0x07 => s.setBit 0x070024 16
  | 0x08 => if off < 0x400 then s.setBit (0x080084 + off / 0x100 * 0x100) 3 else s
  | 0x20 => if 0x100 ≤ off ∧ off < 0x200 then s.rangeErr ⟨(off - 0x100) / 0x20 % 8, by omega⟩ else s.setBit 0x200010 4
  | 0x21 => s.rangeErr ⟨off / 0x100 % 8, by omega⟩
  | 0x31 => s.setBit 0x31001C 8
  | 0x32 => if 0x40 ≤ off then s.setBit 0x320048 7 else s
  | 0x33 => s.setBit 0x330028 4
  | b => if h : 0x10 ≤ b ∧ b < 0x18 then s.rangeErr ⟨b - 0x10, by omega⟩ else s

/-! ### Effects of a write, block by block -/

/-- WDG (R657 to R663): PERIOD and WSTART wait for the next kick and are taken only while the window is open; LOCK is set by writing 1,
and EN and CLKSEL are read only from then on; EN is cleared by the key sequence alone (DEDUCED, log entry 37). -/
def State.writeWdg (s : State) (w : Fin 5) (o v : Nat) (d : RegDesc) : State :=
  if o = 0x04 then outState (execWdgKick w (BitVec.ofNat 16 v) s) s
  else if o = 0x08 then outState (execWdgKey w (BitVec.ofNat 16 v) s) s
  else if o = 0x00 then
    let a := wdgA w 0
    let changes := bitsOf v 16 14 != s.fld a 16 14 || bitsOf v 8 4 != s.fld a 8 4
    let s := if !changes then s
      else if s.wdgOpen w then s.onWdg w (fun x => { x with newPer := some (bitsOf v 16 14), newWin := some (bitsOf v 8 4) })
      else s.setBit (wdgA w 0xC) 3
    if s.bit a 2 then s
    else
      let s := if v.testBit 0 && !s.bit a 0 then (s.setBit a 0).onWdg w (fun x => { x with base := s.now }) else s
      (s.setFld a 1 1 (bitsOf v 1 1)).setFld a 2 1 (bitsOf v 2 1)
  else s.setReg (wdgA w o) (d.merge (s.reg (wdgA w o)) v)

/-- EVR (R664 to R668) (DEDUCED, log entry 38). -/
def State.writeEvr (s : State) (a v : Nat) (d : RegDesc) : State :=
  let off := a % 65536
  if off < 0x40 then (if off % 16 = 4 then s.evrComplete (off / 16) (v % 4096) else s)
  else if 0x1000 ≤ off ∧ off < 0x1800 then
    let i := 0x100 + (off - 0x1000) / 4
    let was := s.bit a 5
    let s := s.setReg a (d.merge (s.reg a) v)
    if was && !v.testBit 5 then s.onSrc i (fun x => { x with offT := some s.now })
    else if v.testBit 5 then s.onSrc i (fun x => { x with offT := none })
    else s
  else s.setReg a (d.merge (s.reg a) v)

/-- KEEP (R557, R561, R566, R580) (DEDUCED, log entry 37). -/
def State.writeKeep (s : State) (a v : Nat) (d : RegDesc) : State :=
  let off := a % 65536
  if off = 0x0C then
    if bitsOf v 16 16 = 0x4B50 then
      let s := if v.testBit 0 then outState (execKeepLoadTime s) s else s
      if v.testBit 1 then outState (execKeepLoadWday s) s else s
    else s
  else if off = 0x10 then (s.setTrim (sx 10 v)).setFld 0x050010 16 1 (bitsOf v 16 1)
  else
    let s := s.setReg a (d.merge (s.reg a) v)
    if off = 0x30 then s.onTime (fun t => { t with pwakeT := s.now }) else s

/-- PWR (R617): slots, MON thresholds and AUX fields take effect at the next WAKE (DEDUCED, log entry 53). -/
def State.writePwr (s : State) (a v : Nat) (d : RegDesc) : State :=
  let off := a % 65536
  let now : Bool := off == 0xA0 || off == 0xA4 || off == 0xA8 || (decide (off < 0x80) && off % 0x20 == 0x0C)
  if now then s.setReg a (d.merge (s.reg a) v)
  else
    let w := d.merge (s.pwrReg a) v
    s.onPwr (fun p => { p with next := p.next.filter (fun x => x.1 != a) ++ [(a, w)] })

/-- NVM keeps a copy of a PWR or HLD register (R581). -/
def State.copyReg (s : State) (a v : Nat) : State :=
  if regKept a then { s with nvm := { s.nvm with regs := s.nvm.regs.filter (fun x => x.1 != a) ++ [(a, v)] } } else s

/-- HLD (R604, R608, R610): CHGEN, pack tests, contacts, and the end of the fallback at the first write of HLD_CHG after a contact. -/
def State.writeHld (s : State) (a v : Nat) (d : RegDesc) : State :=
  let off := a % 65536
  if off = 0x20 then outState (execHldKick (BitVec.ofNat 16 v) s) s
  else
    let s := s.setReg a (d.merge (s.reg a) v)
    if off = 0x1C then
      let s := s.chgStart
      let s := if v.testBit 1 then outState (execPackTest s) s else s
      if v.testBit 2 then outState (execStoptest s) s else s
    else if off = 0x04 ∧ s.board.pwr.fallback ∧ s.board.pwr.contact then
      let s := s.onPwr (fun p => { p with fallback := false, contact := false, wdDue := false })
      if s.board.pwr.chg = .safe then s.chgTo .qual 0 else s
    else s

/-- TRAY (R619, R620, R632, R637) (DEDUCED, log entry 49). -/
def State.writeTray (s : State) (a v : Nat) (d : RegDesc) : State :=
  let off := a % 65536
  let q : Fin 4 := ⟨off / 0x100 % 4, by omega⟩
  if 0x400 ≤ off then (s.setReg a (d.merge (s.reg a) v)).setFld a 24 2 0
  else if off % 0x100 = 0 then (s.onPort q (fun t => { t with cfg := some (d.merge (s.reg a) v) })).atFree q
  else if off % 0x100 = 0x04 then
    let p := q
    let st := s.fld (trA p 8) 0 2
    if v.testBit 24 ∧ (st = 1 ∨ st = 2) then s.setBit (trA p 0x84) 3
    else
      let s := s.setReg a (d.merge (s.reg a) v)
      let s := if v.testBit 24 then outState (execGo p s) s else s
      if v.testBit 25 then outState (execAbort p s) s else s
  else s.setReg a (d.merge (s.reg a) v)

/-- NVM (R651): the fingerprint and HKEN are locked for life by HKEN. -/
def State.writeNvm (s : State) (a v : Nat) (d : RegDesc) : State :=
  if s.nvm.hken then s
  else if a = 0x090070 then (if v.testBit 0 then outState (execNvmHkctlHken s) s else s)
  else s.setReg a (d.merge (s.reg a) v)

/-- The live images of followers are empty while their gang slot is enabled (R255). -/
def State.emptyFollowers (s : State) (g : GatherNo) : State :=
  s.forChans (chansOf g) (fun c s => if s.follower c then s.onProg c (fun p => { p.emptied with shadow := p.shadow, shLen := p.shLen }) else s)

/-- GATHER (R111, R115, R153, R193, R207, R227) (DEDUCED, log entry 34). -/
def State.writeGather (s : State) (g : GatherNo) (off v : Nat) (d : RegDesc) : State :=
  let a := gA g off
  let o := off % 0x100
  if 0x1000 ≤ off ∧ off < 0x1800 ∧ (o = 0xC0 ∨ o = 0xE4) then
    let c := chOf g ⟨(off - 0x1000) / 0x100 % 8, by omega⟩
    if o = 0xC0 then
      let old := s.fld a 0 4
      let new := bitsOf v 0 4
      let s := (s.setReg a (d.merge (s.reg a) v)).setFld a 0 4 old
      s.onMeas c (fun m => { m with newRate := if new = old then none else some (new, s.rateTime old new), rngforce := false })
    else
      let s := s.setReg a (d.merge (s.reg a) v)
      if v.testBit 8 then outState (execChCalselSnap c s) s else s
  else
    let s := s.setReg a (d.merge (s.reg a) v)
    if off = 0 then s.alignGather g else if 0x40 ≤ off ∧ off < 0x50 then s.emptyFollowers g else if off = 0x200 then s.syncHold g else s

/-- DMA (R418 to R420). -/
def State.writeDma (s : State) (a v : Nat) (d : RegDesc) : State :=
  let off := a % 65536
  if off = 0 then (if v.testBit 0 then s.dmaClear else s)
  else if 0x100 ≤ off ∧ off % 0x20 = 0 then
    let c : Fin 32 := ⟨(off - 0x100) / 0x20 % 32, by omega⟩
    let s := if v.testBit 0 then s.dmaStart c else s
    let s := if v.testBit 1 then s.dmaStop c else s
    if v.testBit 2 then s.dmaPoke c else s
  else s.setReg a (d.merge (s.reg a) v)

/-- LEDGER_INIT (R518): the command word counts within 1 ms of the key. -/
def State.writeInit (s : State) (v : Nat) : State :=
  if v = 0x53564C30 then s.onLed (fun l => { l with initT := some s.now })
  else
    let open_ : Bool := match s.led.initT with | some t => decide (s.now ≤ t + 1000000) | none => false
    let s := s.onLed (fun l => { l with initT := none })
    if open_ ∧ v = 0x494E4954 then outState (execLedgerInitInit s) s
    else if open_ ∧ v = 0x45524153 then outState (execLedgerInitErase s) s
    else s

/-- METER_SCHED (R374): taken at the next minute boundary. -/
def State.writeSched (s : State) (e w : Nat) : State :=
  { s with met := { s.met with sched := s.met.sched.filter (fun x => x.1 != e) ++ [(e, w)] } }

/-- NET (R424, R580): the PTP and PPS settings take effect at the next Sync. -/
def State.writeNet (s : State) (a v : Nat) (d : RegDesc) : State :=
  if netLater (a % 65536) then
    let w := d.merge (s.netReg a) v
    s.onTime (fun t => { t with netNext := t.netNext.filter (fun x => x.1 != a) ++ [(a, w)] })
  else s.setReg a (d.merge (s.reg a) v)

/-- The effect of a write that passed its checks. -/
def State.writeOk (s : State) (a v : Nat) (d : RegDesc) : State :=
  let off := a % 65536
  match a / 65536 with
  | 0x02 => if h : off / 0x20 < 5 then s.writeWdg ⟨off / 0x20, h⟩ (off % 0x20) v d else s
  | 0x03 => s.writeEvr a v d
  | 0x05 => s.writeKeep a v d
  | 0x06 => (s.writePwr a v d).copyReg a (d.merge (s.pwrReg a) v)
  | 0x07 => (s.writeHld a v d).copyReg a (d.merge (s.reg a) v)
  | 0x08 => s.writeTray a v d
  | 0x09 => s.writeNvm a v d
  | 0x20 => if 0x900 ≤ off ∧ off < 0x980 then s.writeSched ((off - 0x900) / 4) (d.merge 0 v) else s.setReg a (d.merge (s.reg a) v)
  | 0x30 => s.writeDma a v d
  | 0x32 => s.writeNet a v d
  | 0x31 => if off = 4 then s.writeInit v else s.setReg a (d.merge (s.reg a) v)
  | b =>
    if h : 0x10 ≤ b ∧ b < 0x18 then s.writeGather ⟨b - 0x10, by omega⟩ off v d
    else s.setReg a (d.merge (s.reg a) v)

/-- A write of one register word (R9, R27): ignored where no register stands; a write that fails a check is ignored as a whole and sets
the error bit of its block (DEDUCED, log entry 37). -/
def State.regWrite (s : State) (a v : Nat) : State :=
  if s.absent a then s
  else if 0x1000000 ≤ a then s.cruWrite (a - 0x1000000) (leBytes 4 v)
  else
    match regAt a with
    | none => s
    | some d =>
      let b := a / 65536
      let off := a % 65536
      if h : 0x10 ≤ b ∧ b < 0x18 then
        let g : GatherNo := ⟨b - 0x10, by omega⟩
        let busy := s.gatherBusy g off v
        let good := d.rangeOk v && s.gatherRel g off v
        let t := if busy then s.cfgBusy g else s
        let t := if good then t else t.rangeErr g
        if busy || !good then t else s.writeOk a v d
      else if d.rangeOk v && s.relOk a v then s.writeOk a v d
      else s.cfgErr a

end Sys2Proof.Machine
end

