-- ==== Sys2Proof/Machine/CmdOps.lean ====
section
/-! DEFINITION. What every command goes through: its family, the checks of R467 in their order, and the parts of a completion
(chapters 03, 11 and 12). -/

namespace Sys2Proof.Machine

open Sys2Proof

/-! ### Answers -/

/-- What a command answers: the fields of its completion (Table 12-1); `later` where the completion is written by a later event. -/
structure Ans where
  status  : Status := .ok
  index   : Nat := 65535
  detail  : Nat := 0
  results : List (List Byte) := []
  later   : Bool := false
  deriving DecidableEq, Repr

/-- A command's state and its answer. -/
abbrev Done := State × Ans

def State.ok (s : State) : Done := (s, {})
def State.okWith (s : State) (rs : List (List Byte)) : Done := (s, { results := rs })
def State.no (s : State) (st : Status) : Done := (s, { status := st })
def State.noAt (s : State) (st : Status) (i : Nat) : Done := (s, { status := st, index := i })
def State.later (s : State) : Done := (s, { later := true })

/-- A RESULT of 32 bytes from fields at payload offsets P16 to P47. -/
def res32 (fs : List (Nat × List Byte)) : List Byte := fs.foldl (fun b f => putAt b (f.1 - 16) f.2) (zeros 32)

/-- A byte string across the RESULTs of n entries. -/
def chunks32 (n : Nat) (bs : List Byte) : List (List Byte) := (List.range n).map (fun i => sliceB bs (32 * i) 32)

/-! ### Families (Tables 12-3 to 12-18) -/

inductive Fam where
  | session | lease | program | channel | measure | estimate | meter | ledger | pair | time | power | service | register
  deriving DecidableEq, Repr

/-- The family of an opcode. -/
def famOf (op : Nat) : Fam :=
  if op ≤ 0x07 then .session else if op ≤ 0x0F then .lease else if op ≤ 0x17 then .program else if op ≤ 0x1D then .channel
  else if op ≤ 0x21 then .measure else if op ≤ 0x26 then .estimate else if op ≤ 0x2B then .meter else if op ≤ 0x2F then .ledger
  else if op ≤ 0x33 then .pair else if op ≤ 0x38 then .time else if op ≤ 0x3B then .power
  else if op = 0x3F then .register else .service

def CmdOp.fam (o : CmdOp) : Fam := famOf o.opcode

/-- Commands marked Read in their table (R465). -/
def CmdOp.isRead : CmdOp → Bool
  | .identify | .status | .leaseRead | .tenantRead _ | .progRead .. | .varRead | .measRead | .coefRead .. | .chRead | .estRead _ | .counterRead
  | .meterRead _ | .ledgerRead | .pairRead | .timeRead | .powerRead | .nvmStat | .regRead .. => true
  | .badField op _ => [0x01, 0x02, 0x0E, 0x0F, 0x12, 0x16, 0x1F, 0x20, 0x21, 0x24, 0x27, 0x28, 0x2C, 0x30, 0x34, 0x39].contains op
  | _ => false

/-- Opcodes that Tables 12-3 to 12-18 assign (R465). -/
def opAssigned (op : Nat) : Bool :=
  decide (1 ≤ op ∧ op ≤ 0x3F) && !([0x1D, 0x26, 0x32, 0x33, 0x3B].contains op)

/-- Commands whose Tenant column is H (R470). -/
def CmdOp.houseOnly (o : CmdOp) : Bool :=
  match o.opcode with
  | 0x08 | 0x09 | 0x0A | 0x0B | 0x0C | 0x0F | 0x29 | 0x2A | 0x2B | 0x2E | 0x30 | 0x31 | 0x35 | 0x36 | 0x37 | 0x38 | 0x39 | 0x3A | 0x3C | 0x3D
  | 0x3E | 0x3F => true
  | _ => false

/-- Commands whose Tenant column is L for their channel (R470). -/
def CmdOp.lesseeOnly (o : CmdOp) : Bool :=
  match o.opcode with
  | 0x10 | 0x11 | 0x12 | 0x13 | 0x14 | 0x15 | 0x16 | 0x18 | 0x19 | 0x1A | 0x1B | 0x1C | 0x1E | 0x1F | 0x20 | 0x21 | 0x22 | 0x23 | 0x24 | 0x25 | 0x27 => true
  | _ => false

/-- The pack's estimator is named by an estimation command with CHANNEL 0xFF. -/
def packCmd (h : CmdHead) (o : CmdOp) : Bool := o.fam == .estimate && h.channel == 255

/-! ### Step 2: NOT_PERMITTED (R7, R415, R429, R470) -/

/-- The option that a command needs is absent (R7). -/
def State.optAbsent (s : State) (o : CmdOp) : Bool :=
  match o.fam, o.opcode with
  | .ledger, _ => !s.optL
  | .pair, _ => !s.optT
  | .meter, 0x28 => !s.optM
  | .meter, 0x29 => !s.optM
  | .meter, 0x2B => !s.optM
  | _, _ => false

/-- Queue 0 accepts IDENTIFY and STATUS, the power and time families, FAULT_ACK and HOUSE_CLEAR (R415). -/
def localOk (o : CmdOp) : Bool :=
  match o with
  | .identify | .status | .faultAck _ | .houseClear => true
  | _ => o.fam == .power || o.fam == .time

/-- An enrolment session accepts IDENTIFY and a write of KEY0 (R429). -/
def enrolOk (o : CmdOp) : Bool :=
  match o with
  | .identify => true
  | .keyWrite 0 _ => true
  | _ => false

/-- The command came through an enrolment session. -/
def State.enrolling (s : State) (h : CmdHead) : Bool :=
  match h.session.bind s.session? with | some x => x.keyid == 15 | none => false

/-- A command that its sender may not send, beside the columns H and L. -/
def senderBars (h : CmdHead) (o : CmdOp) : Bool :=
  match o with
  | .coefRead l _ => l != 0 && h.tenant != 0
  | .meterRead t => h.tenant != 0 && t != h.tenant
  | _ => packCmd h o && h.tenant != 0

def State.notPermitted (s : State) (h : CmdHead) (o : CmdOp) : Bool :=
  s.optAbsent o || (o.houseOnly && h.tenant != 0) || senderBars h o || (s.enrolling h && !enrolOk o) || (h.queue == 0 && !localOk o)

/-! ### Step 3: the mode (R90, R91, Tables 03-4, 12-11, 12-16 to 12-18) -/

/-- The codes of Table 03-4. -/
inductive ModeRule where
  | a | r | n | h | w
  deriving DecidableEq, Repr

/-- Table 03-4. -/
def modeRule (f : Fam) (m : Mode) : ModeRule :=
  match m with
  | .ready | .run | .degraded => if f = .register then .w else .a
  | .service =>
    match f with
    | .program | .channel | .register => .h
    | _ => .a
  | .twin =>
    match f with
    | .lease | .program | .channel | .estimate | .meter | .time => .n
    | .service => .r
    | .register => .w
    | _ => .a
  | .lehr =>
    match f with
    | .channel | .ledger | .pair | .service | .register => .w
    | _ => .r
  | .lockout =>
    match f with
    | .session => .h
    | .channel | .register => .w
    | .service => .h
    | _ => .r
  | _ => .r

/-- Service operations that R91 and Table 12-18 admit beyond or against Table 03-4. -/
def CmdOp.modeSpecial (o : CmdOp) (m : Mode) : Option (Option Status) :=
  match o with
  | .identify => some none
  | .faultAck _ => if m = .twin ∨ m = .lockout then some none else none
  | .houseClear => some (if m = .lockout then none else some .wrongMode)
  | .nvmStat => if m = .lockout then some none else none
  | .svcEnter => if m = .twin then some (some .notOwner) else none
  | .handover _ => if m = .twin then some (some .notOwner) else none
  | .ship => if m = .ready then none else some (some .wrongMode)
  | .calWrite _ | .fwData .. | .fwFinish _ | .fwAbandon | .nvmScrub | .calTrim _ | .refcheck .. | .retest .. | .svcExit =>
    if m = .service then none else some (some .wrongMode)
  | .meterLimits .. | .meterSched .. => if m = .ready ∨ m = .run ∨ m = .degraded then none else some (some .wrongMode)
  | _ => none

/-- The status that the mode gives a command; none where it is accepted. In SERVICE a client's PROG_READ and VAR_READ are refused as Table 03-4
gives for its family, though R91 speaks of reads that are served (DEDUCED, log entry 31). -/
def modeStatus (m : Mode) (h : CmdHead) (o : CmdOp) : Option Status :=
  match o.modeSpecial m with
  | some r => r
  | none =>
    match modeRule o.fam m with
    | .a => none
    | .r => if o.isRead then none else some .wrongMode
    | .n => if o.isRead then none else some .notOwner
    | .h => if h.tenant ≠ 0 ∨ (m = .lockout ∧ o.fam = .service) then some .wrongMode else none
    | .w => some .wrongMode

/-- The mode that judges a command: the one in force at its claim (R86). -/
def State.modeOf (s : State) (h : CmdHead) : Mode := h.judged.getD s.mode.mode

/-! ### Step 4: NOT_LEASED (R426, R450, R470) -/

/-- The sender may act on a channel as its lessee; the house also on an unleased channel in SERVICE. -/
def State.leasedBy (s : State) (h : CmdHead) (n : Nat) : Bool :=
  match s.lessee n with
  | some x => x == h.tenant
  | none => h.tenant == 0 && s.modeOf h == .service

/-- Channels of a mask that the sender does not lease. -/
def State.maskBars (s : State) (t mask : Nat) : Bool := (mask &&& (2 ^ 64 - 1 - s.leasedMask t)) != 0

/-- The house reads and clears any channel (Tables 12-7, 12-9, 12-11). -/
def CmdOp.houseAny : CmdOp → Bool
  | .chRead | .counterRead | .coefRead .. | .clear => true
  | _ => false

def State.notLeased (s : State) (h : CmdHead) (o : CmdOp) : Bool :=
  match o with
  | .signal _ mask => s.maskBars h.tenant mask
  | .qRoute _ mask => s.maskBars h.tenant mask
  | .leaseModify _ => decide (64 ≤ h.channel) || (s.leaseOf h.channel).isNone
  | .leaseEnd => decide (64 ≤ h.channel) || (match s.lessee h.channel with | some t => h.tenant != 0 && t != h.tenant | none => true)
  | .leaseRead =>
    h.channel != 255 && (decide (64 ≤ h.channel) || (match s.lessee h.channel with | some t => h.tenant != 0 && t != h.tenant | none => true))
  | _ =>
    o.lesseeOnly && !packCmd h o
      && (decide (64 ≤ h.channel) || !(s.leasedBy h h.channel || (o.houseAny && h.tenant == 0)))

/-! ### Step 6: a fenced Gather (R91) -/

def State.fenceBars (s : State) (h : CmdHead) (o : CmdOp) : Bool :=
  let bad (n : Nat) : Bool := match gather? (n / 8) with | some g => s.fenced (uGat g) | none => false
  s.modeOf h == .degraded && (o.fam == .lease || o.fam == .program || o.fam == .channel)
    && (decide (h.channel < 64) && bad h.channel || (match o with | .signal _ m => (maskList 64 m).any bad | _ => false))

/-! ### The channels that a command names (R469) -/

/-- The leader of a channel number. -/
def State.leadNo (s : State) (n : Nat) : Nat := match chan? n with | some c => (s.leaderOf c).val | none => n

/-- The channels that a changing command reaches: the one it names, its mask, and for a lease every member that it moves. -/
def State.opChans (s : State) (h : CmdHead) (o : CmdOp) : List Nat :=
  if o.isRead then []
  else
    match o with
    | .signal _ m => (maskList 64 m).map s.leadNo
    | .qRoute _ m => (maskList 64 m).map s.leadNo
    | .leaseGrant l =>
      let ms := (List.range 64).filter (fun n => leaseHolds h.channel l n)
      let old := s.leases.filter (fun x => ms.any (fun n => leaseHolds x.1 x.2.f n))
      (h.channel :: ms ++ (List.range 64).filter (fun n => old.any (fun x => leaseHolds x.1 x.2.f n))).map s.leadNo
    | .leaseEnd => ((List.range 64).filter (fun n => (match s.leaseOf h.channel with | some x => leaseHolds x.1 x.2.f n | none => n == h.channel))).map s.leadNo
    | _ =>
      match o.fam with
      | .lease | .program | .channel | .measure | .estimate | .meter => if h.channel < 64 then [s.leadNo h.channel] else []
      | _ => []

end Sys2Proof.Machine
end

