-- ==== Sys2Proof/Machine/CmdFields.lean ====
section
/-! DEFINITION. Step 5 of R467: the fields of each command and the INDEX of the first one that a command may not carry
(chapters 11 and 12, Tables 08-3, 11-3, 11-4 and 12-3 to 12-18). -/

namespace Sys2Proof.Machine

open Sys2Proof

/-- The offset of the first test that fails (DEDUCED, log entry 27). -/
def firstBad (l : List (Bool × Nat)) : Option Nat := (l.find? (fun x => !x.1)).map Prod.snd

/-- INDEX where no field applies (Table 12-1) (DEDUCED, log entry 27). -/
def noField : Nat := 65535

/-- A network queue of the sender, of a given kind. -/
def State.ownQueue (s : State) (t q : Nat) (k : Option QKind) : Bool :=
  match s.queue? q with
  | some x => x.tenant == t && !x.local_ && !x.closing && (match k with | some k => x.kind == k | none => true)
  | none => false

/-- QKIND (Table 10-1). -/
def qkind? : Nat → Option QKind
  | 0 => some .command | 1 => some .completion | 2 => some .record | 3 => some .event | _ => none

/-- Q_CREATE (Table 12-3, R376, R381). -/
def State.badQCreate (s : State) (t kind size hold : Nat) (dflt : Bool) (pair : Nat) : Option Nat :=
  firstBad [(decide (kind ≤ 3), 0), (decide (size ≤ 8), 1), (hold == 0 || (kind == 2 && decide (hold ≤ 255)), 2), (!dflt || decide (2 ≤ kind), 3),
    (if kind = 0 then s.ownQueue t pair (some .completion) && (match s.queue? pair with | some p => decide (size ≤ p.size) | none => false)
     else pair == 0, 4)]

/-- Lease fields that Table 11-3 bounds, at the offsets of Table 12-5. -/
def State.badLease (s : State) (lead : Nat) (l : LeaseFields) : Option Nat :=
  let top := 2 * ((leaseChans lead l).map s.irated).sum
  let volt (v : Int) : Bool := decide (-1000000 ≤ v ∧ v ≤ 5500000)
  firstBad [(decide (l.tenant ≤ 253), 2), (decide (l.ichg ≤ top), 4), (decide (l.idis ≤ top), 8), (volt l.vmin && decide (l.vmin < l.vmax), 12),
    (volt l.vmax, 16), (decide (l.emax < 2 ^ 32), 20), (decide (l.gpioev < 2 ^ 12), 24)]

/-- The leases that a grant replaces: those that hold one of its members (R443). -/
def State.replaced (s : State) (lead : Nat) (l : LeaseFields) : List (Nat × Lease) :=
  s.leases.filter (fun x => (List.range 64).any (fun n => leaseHolds lead l n && leaseHolds x.1 x.2.f n))

/-- No member stands in an enabled gang slot but that of a lease that the grant replaces (R153). -/
def State.slotsFree (s : State) (lead : Nat) (l : LeaseFields) : Bool :=
  match gather? (lead / 8) with
  | some g =>
    (List.range 4).all (fun i =>
      let w := s.reg (gA g (0x40 + 4 * i))
      !w.testBit 15 || (bitsOf w 0 8 &&& l.members) == 0
        || (s.replaced lead l).any (fun x => x.2.f.members == bitsOf w 0 8))
  | none => false

/-- LEASE_GRANT (R153, R154, R443). -/
def State.badGrant (s : State) (lead : Nat) (l : LeaseFields) : Option Nat :=
  if 64 ≤ lead then some noField
  else
    let ms := maskList 8 l.members
    let fol := (ms.filter (fun k => k != lead % 8)).map (fun k => l.shares.getD k 0)
    match firstBad [(decide (l.members < 256) && l.members.testBit (lead % 8) && s.slotsFree lead l, 0), (decide (l.track ≤ 1), 1)] with
    | some i => some i
    | none =>
      match s.badLease lead l with
      | some i => some i
      | none => firstBad [(l.shares.all (fun x => decide (x < 65536)) && (l.track == 0 || decide (fol.sum ≤ 65536)), 28)]

/-- LEASE_MODIFY (R445): MEMBERS, TRACK, TENANT and SHARE stay. -/
def State.badModify (s : State) (lead : Nat) (l : LeaseFields) : Option Nat :=
  match s.leaseOf lead with
  | some x =>
    match firstBad [(x.1 == lead, noField), (l.members == x.2.f.members, 0), (l.track == x.2.f.track, 1), (l.tenant == x.2.f.tenant, 2)] with
    | some i => some i
    | none =>
      match s.badLease lead l with
      | some i => some i
      | none => firstBad [(l.shares == x.2.f.shares, 28)]
  | none => none

/-- QUOTA_SET (Table 11-4). -/
def badQuota (t : Nat) (q : QuotaFields) : Option Nat :=
  let ok (lo hi v : Nat) : Bool := v == 0 || decide (lo ≤ v ∧ v ≤ hi)
  firstBad [(decide (t ≤ 253), 0), (ok 1 1024 q.sessions, 4), (ok 2 8188 q.queues, 6), (ok 2 11968 q.ringkib, 8), (ok 100 1024000 q.recrate, 12),
    (ok 10 100000 q.evrate, 16)]

/-- EST_SET (Tables 08-3 and 12-10): only the fields of the mask count. -/
def badEst (f : EstFields) : Option Nat :=
  let ok (i : Nat) (b : Bool) : Bool := !f.mask.testBit i || b
  firstBad [(decide (f.mask < 128), 0), (ok 0 (decide (f.cnom ≤ 2000000000)), 4), (ok 1 (decide (f.slopemin ≤ 100000)), 8),
    (ok 2 (decide (60 ≤ f.ocvrest ∧ f.ocvrest ≤ 86400)), 12), (ok 3 (decide (1 ≤ f.rate ∧ f.rate ≤ 1000)), 16), (ok 4 (decide (f.kskip ≤ 240)), 18),
    (ok 5 (decide (1 ≤ f.kmin ∧ f.kmin ≤ 240)), 20), (ok 6 (decide (1 ≤ f.estrec ∧ f.estrec ≤ 3600)), 22)]

/-- The offset of point i of an OCV table (Table 12-10). -/
def pointOfs (i : Nat) : Nat := 48 * ((i + 1) / 6) + 8 * ((i + 1) % 6)

/-- Both columns of an OCV table rise strictly; point i is the first of the list. -/
def badPoints : Nat → Option (Nat × Int) → List (Nat × Int) → Option Nat
  | _, _, [] => none
  | i, prev, p :: l =>
    let bad : Option Nat :=
      if 10000 < p.1 then some (pointOfs i)
      else match prev with
        | some q => if p.1 ≤ q.1 then some (pointOfs i) else if p.2 ≤ q.2 then some (pointOfs i + 4) else none
        | none => none
    match bad with
    | some o => some o
    | none => badPoints (i + 1) (some p) l

/-- OCV_TABLE (Table 12-10). -/
def badTable (pts : List (Nat × Int)) : Option Nat :=
  if pts.length < 2 ∨ 32 < pts.length then some 0 else badPoints 0 none pts

/-- The first calendar field out of its range, from the offset of its CALTIME (Table 12-14). -/
def badCal (o : Nat) (c : CalTime) : Option Nat :=
  firstBad [(decide (2000 ≤ c.year ∧ c.year ≤ 2199), o), (decide (1 ≤ c.month ∧ c.month ≤ 12), o + 2),
    (decide (1 ≤ c.day ∧ c.day ≤ monthDays c.year c.month), o + 3), (decide (c.hour ≤ 23), o + 4), (decide (c.minute ≤ 59), o + 5),
    (decide (c.second ≤ 59), o + 6)]

/-- An alarm's match values: each in its range or ANY (R565) (DEDUCED, log entry 29). -/
def badAlarm (c : CalTime) : Option Nat :=
  let f (v lo hi : Nat) : Bool := v == 255 || decide (lo ≤ v ∧ v ≤ hi)
  firstBad [(c.year == 65535 || decide (2000 ≤ c.year ∧ c.year ≤ 2199), 4), (f c.month 1 12, 6), (f c.day 1 31, 7), (f c.hour 0 23, 8),
    (f c.minute 0 59, 9), (f c.second 0 59, 10)]

/-- WAKE_SET (Table 12-15). -/
def badWake (which : Nat) (c : CalTime) (period : Nat) : Option Nat :=
  if 2 < which then some 0
  else if which = 2 then firstBad [(decide (1 ≤ period ∧ period ≤ 5529600), 12)] else badAlarm c

/-- One pair of CAL_WRITE within R221, at the offset of its entry. -/
def badPair (o : Nat) (p : CalPair) : Option Nat :=
  firstBad [(decide (p.channel < 64), o), (decide (p.qty ≤ 4), o + 1), (decide (p.offu.natAbs * 100 ≤ fsOf p.qty), o + 4),
    (decide (p.gainu.natAbs ≤ 21474836), o + 8), (decide (p.qu.natAbs ≤ 2147484), o + 12)]

/-- CAL_WRITE: entries from number i on; a (channel, quantity) pair stands once (Table 12-17) (DEDUCED, log entry 27). -/
def badPairs : Nat → List CalPair → List CalPair → Option Nat
  | _, _, [] => none
  | i, seen, p :: l =>
    match badPair (48 * i) p with
    | some o => some o
    | none => if seen.any (fun q => q.channel == p.channel && q.qty == p.qty) then some (48 * i) else badPairs (i + 1) (p :: seen) l

/-- Steps whose index is out of range: INDEX is the first offending step index (Table 12-1) (DEDUCED, log entry 27). -/
def badSteps (steps : List (Nat × StepWord)) : Option Nat := (steps.find? (fun x => decide (511 < x.1))).map Prod.fst

/-- METER_SCHED (Tables 09-22 and 12-11). -/
def badSched (first : Nat) (words : List Nat) : Option Nat :=
  match firstBad [(decide (first < 32), 0), (decide (1 ≤ words.length ∧ words.length ≤ 8 ∧ first + words.length ≤ 32), 1)] with
  | some i => some i
  | none => ((List.range words.length).find? (fun i => decide (1439 < bitsOf (words.getD i 0) 0 11))).map (fun i => 4 + 4 * i)

/-- REG (Table 12-17): COUNT words within the fabric map. -/
def badReg (addr count : Nat) : Option Nat :=
  firstBad [(decide (1 ≤ count ∧ count ≤ 8), 1), (addr % 4 == 0 && (List.range count).all (fun i => inFabric (addr + 4 * i)), 4)]

/-- A follower named in place of its leader (R467). -/
def State.namesFollower (s : State) (h : CmdHead) (o : CmdOp) : Bool :=
  (o.lesseeOnly || (match o with | .leaseEnd | .leaseModify _ | .leaseRead => true | _ => false))
    && (match chan? h.channel with
        | some c => s.follower c || (match s.leaseOf c.val with | some l => l.1 != c.val | none => false)
        | none => false)

/-- The index of the field for which a command completes with BAD_FIELD (DEDUCED, log entry 27). -/
def State.badField (s : State) (h : CmdHead) (o : CmdOp) : Option Nat :=
  if s.namesFollower h o then some noField
  else
    match o with
    | .badField _ i => some i
    | .qCreate k sz hold d p => s.badQCreate h.tenant k sz hold d p
    | .qDelete q => firstBad [(s.ownQueue h.tenant q none, 0)]
    | .qBind q => firstBad [(s.ownQueue h.tenant q none, 0)]
    | .qRoute q _ => firstBad [(s.ownQueue h.tenant q (some .record), 0)]
    | .keyWrite slot sec => firstBad [(decide (slot ≤ 1), 0), (sec.length == 32, 16)]
    | .keyClear slot => firstBad [(decide (slot ≤ 1), 0)]
    | .tenantCreate ttl => firstBad [(decide (ttl ≤ 168), 0)]
    | .tenantSuspend t => firstBad [(decide (1 ≤ t ∧ t ≤ 253), 0)]
    | .tenantResume t => firstBad [(decide (1 ≤ t ∧ t ≤ 253), 0)]
    | .tenantRemove t => firstBad [(decide (1 ≤ t ∧ t ≤ 253), 0)]
    | .tenantReenrol t ttl => firstBad [(decide (1 ≤ t ∧ t ≤ 253), 0), (decide (ttl ≤ 168), 2)]
    | .quotaSet t q => badQuota t q
    | .leaseGrant l => s.badGrant h.channel l
    | .leaseModify l => s.badModify h.channel l
    | .tenantRead t => firstBad [(decide (t ≤ 253), 0)]
    | .progWrite steps => badSteps steps
    | .progLen len => firstBad [(decide (len ≤ 512), noField)]
    | .progRead which first count => firstBad [(decide (which ≤ 1 ∧ 1 ≤ count ∧ count ≤ 15), noField), (decide (first ≤ 511), first)]
    | .varWrite pairs => firstBad [(decide (1 ≤ pairs.length ∧ pairs.length ≤ 5) && pairs.all (fun p => decide (p.1 < 32)), noField)]
    | .signal sig _ => firstBad [(h.channel == 255 && decide (sig ≤ 15), noField)]
    | .start entry =>
      match chan? h.channel with
      | some c => let n := (s.chan c).prog.live.length; firstBad [(n == 0 || decide (entry < n), 0)]
      | none => none
    | .resume restart => firstBad [(decide (restart ≤ 1), 0)]
    | .measCfg sr sg rate rng fix => firstBad [(!sr || decide (rate ≤ 10), 1), (!sg || decide (rng ≤ 2), 2), (!sg || decide (fix ≤ 3), 3)]
    | .coefRead layer qty => firstBad [(decide (layer ≤ 3), 0), (decide (qty ≤ 4), 1)]
    | .estSet f => badEst f
    | .ocvTable pts => badTable pts
    | .meterRead t => firstBad [(decide (t ≤ 253), 0)]
    | .meterSched first words => badSched first words
    | .ledgerFetch _ _ _ q _ => firstBad [(s.ownQueue h.tenant q (some .record), 24)]
    | .ledgerRetain t _ => firstBad [(t == 255 || decide (t ≤ 253), 0)]
    | .handover d => firstBad [(decide (1 ≤ d ∧ d ≤ 1000), 0)]
    | .timeSet c date wday => (if date then badCal 0 c else none).orElse (fun _ => firstBad [(!wday || decide (c.wday ≤ 6), 7)])
    | .wakeSet which _ c p => badWake which c p
    | .calTrim p => firstBad [(decide (-511 ≤ p ∧ p ≤ 511), 0)]
    | .blockReset b => firstBad [(blockOk b, 1)]
    | .selftest g k => firstBad [(decide (g < 8), 2), (decide (k ≤ 1), 3)]
    | .refcheck g _ => firstBad [(decide (g < 8), 2)]
    | .retest g conv _ _ =>
      firstBad [(decide (g < 8), 2), (match gather? g with | some g => decide (conv < 18) && (s.gat g).retired.testBit conv | none => false, 3)]
    | .setTimes idle storm => firstBad [(idle == 0 || decide (5 ≤ idle ∧ idle ≤ 600), 2), (storm == 0 || decide (storm ≤ 600), 4)]
    | .calWrite pairs => if h.channel = 255 then badPairs 0 [] pairs else some noField
    | .fwData ofs data => firstBad [(ofs % 32 == 0 && decide (ofs + data.length ≤ 7 * 2 ^ 20), 4)]
    | .regRead addr n => badReg addr n
    | .regWrite addr data => badReg addr data.length
    | _ => none

/-- A train whose length lies outside its command's TCNT column, as far as the command shows it (R465) (DEDUCED, log entry 20). -/
def CmdOp.trainBad : CmdOp → Bool
  | .badTrain _ => true
  | .progWrite steps => !decide (1 ≤ steps.length ∧ steps.length ≤ 15)
  | .calWrite pairs => !decide (1 ≤ pairs.length ∧ pairs.length ≤ 15)
  | .fwData _ data => !decide (data.length % 32 = 0 ∧ 32 ≤ data.length ∧ data.length ≤ 480)
  | _ => false

/-- INDEX of a NOT_PERMITTED or NOT_LEASED that rests on one field of the payload: the channel masks, and the LAYER and TENANT that a client
may not name (Table 12-1; DEDUCED, log entry 40). -/
def State.barField (s : State) (h : CmdHead) (o : CmdOp) : Nat :=
  match o with
  | .signal .. => 8
  | .qRoute .. => 8
  | .coefRead .. => if senderBars h o && !s.enrolling h && h.queue != 0 then 0 else noField
  | .meterRead _ => if senderBars h o && !s.optAbsent o && !s.enrolling h && h.queue != 0 then 0 else noField
  | _ => noField

/-- The checks 1 to 6 of R467: the first that fails gives the status and INDEX (DEDUCED, log entry 32; DEDUCED, log entry 40). -/
def State.refusalOf (s : State) (h : CmdHead) (o : CmdOp) : Option (Status × Nat) :=
  if (match o with | .unknown _ => true | _ => false) || !opAssigned o.opcode then some (.unknownKind, noField)
  else if o.trainBad then some (.badTrain, noField)
  else if s.notPermitted h o then some (.notPermitted, match o with | .signal .. | .qRoute .. => noField | _ => s.barField h o)
  else
    match modeStatus (s.modeOf h) h o with
    | some st => some (st, noField)
    | none =>
      if s.notLeased h o then some (.notLeased, match o with | .coefRead .. => noField | _ => s.barField h o)
      else
        match s.badField h o with
        | some i => some (.badField, i)
        | none => if s.fenceBars h o then some (.notPermitted, noField) else none

end Sys2Proof.Machine
end

