-- ==== Sys2Proof/Machine/CmdSession.lean ====
section
/-! DEFINITION. The session family, and tenants, quotas and leases (Tables 12-3 to 12-5, chapters 10 and 11). -/

namespace Sys2Proof.Machine

open Sys2Proof

/-! ### IDENTIFY and STATUS (Table 12-3) -/

/-- The role byte of IDENTIFY. -/
def State.idRole (s : State) : Nat :=
  if s.mode.mode = .twin then 2 else if s.board.formed ∧ s.board.owner then 1 else 0

def State.doIdentify (s : State) : Done :=
  s.okWith [res32 [fN 16 4 (s.viewSys 0x00), fN 20 4 (s.viewSys 0x0C), fN 24 8 s.serial, (32, orderCode s.opt), fN 44 1 s.idRole]]

/-- FAULTED channels. -/
def State.faultedMask (s : State) : Nat := maskOf ((allChans.filter (fun c => (s.chan c).isFaulted)).map Fin.val)

/-- Every leased channel. -/
def State.leasedAll (s : State) : Nat := maskOf ((List.range 64).filter (fun n => (s.lessee n).isSome))

/-- SYS_MODE in client view (R106). -/
def State.clientMode (s : State) (t : Nat) : Nat := s.viewBitsOf t + 65536 * (match s.tenant? t with | some x => x.viewSeq | none => 0)

def State.doStatus (s : State) (h : CmdHead) : Done :=
  let own := if h.tenant = 0 then 2 ^ 64 - 1 else s.leasedMask h.tenant
  let mode := if h.tenant = 0 then s.sysMode else s.clientMode h.tenant
  s.okWith [res32 [fN 16 4 mode, fN 20 4 (if h.tenant = 0 then s.sysCause else 0), fN 24 8 (s.leasedAll &&& own),
    fN 32 8 (s.execMask &&& own), fN 40 8 (s.faultedMask &&& own)]]

/-! ### Queues (R376 to R383, R447, R451) -/

/-- The KiB that a ring of a size takes. -/
def ringKib (size : Nat) : Nat := 2 ^ size

/-- Bases at which a ring of a size can stand: multiples of its own size within the pool, clear of the other rings (R376, R377). -/
def freeBases (used : List (Nat × Nat)) (size : Nat) : List Nat :=
  let k := ringKib size
  ((List.range (12032 / k)).map (fun i => i * k)).filter (fun b =>
    decide (64 ≤ b ∧ b + k ≤ 12032) && used.all (fun u => decide (b + k ≤ u.1 ∨ u.1 + u.2 ≤ b)))

/-- The rings of the pool that stand now: base and KiB. -/
def State.ringsUsed (s : State) : List (Nat × Nat) := (s.queues.filter (fun q => !q.local_)).map (fun q => (q.base, ringKib q.size))

/-- Move the rings of one size to the lowest bases left by those placed before. -/
def repackSize (size : Nat) (st : List Queue × List (Nat × Nat)) (q : Queue) : List Queue × List (Nat × Nat) :=
  if q.size = size ∧ !q.local_ then
    let b := (freeBases st.2 size).headD q.base
    (st.1 ++ [{ q with base := b }], st.2 ++ [(b, ringKib size)])
  else st

/-- The rings moved together, the largest first (R376): a move changes BASE alone (DEDUCED, log entry 24). -/
def State.repack (s : State) : State :=
  let st := (List.range 9).foldl (fun st i => s.queues.foldl (repackSize (8 - i)) st) ([], [])
  { s with queues := s.queues.map (fun q => (st.1.find? (fun x => x.num == q.num)).getD q) }

/-- A base for a new ring: a free span, opened by moving other rings where none is free (DEDUCED, log entry 24). -/
def State.newBase (s : State) (size : Nat) : Nat × State :=
  let s := if (freeBases s.ringsUsed size).isEmpty then s.repack else s
  let (b, s) := s.pick (freeBases s.ringsUsed size)
  (b.getD 64, s)

/-- Queue numbers that are free (R375, R451) (DEDUCED, log entry 24). -/
def State.freeQueues (s : State) : List Nat :=
  let used := s.queues.map Queue.num
  ((List.range 8188).map (fun i => 4 + i)).filter (fun n => !used.contains n)

/-- Queues and KiB that a tenant uses (Table 11-4). -/
def State.queuesOf (s : State) (t : Nat) : List Queue := s.queues.filter (fun q => q.tenant == t && !q.local_ && !q.closing)

def State.kibOf (s : State) (t : Nat) : Nat := ((s.queuesOf t).map Queue.kib).sum

/-- Set the tenant's default record or event queue. -/
def Tenant.setDefault (x : Tenant) (kind : QKind) (q : Option Nat) : Tenant :=
  match kind with
  | .record => { x with defRec := q }
  | .event => { x with defEvt := q }
  | _ => x

def State.doQCreate (s : State) (h : CmdHead) (kind size hold : Nat) (dflt : Bool) (pair : Nat) : Done :=
  match s.tenant? h.tenant, qkind? kind with
  | some x, some k =>
    let need := ringKib size + (hold + 15) / 16
    if x.qQueues ≤ (s.queuesOf h.tenant).length ∨ x.qRingKib < s.kibOf h.tenant + need then s.no .quota
    else
      let free := s.freeQueues
      if free.isEmpty then s.no .quota
      else
        let (n, s) := s.pick free
        let n := n.getD (free.headD 4)
        let (b, s) := s.newBase size
        let q : Queue := { num := n, kind := k, size, tenant := h.tenant, holdCap := hold, base := b, bind := h.session,
                           pair := if kind = 0 then some pair else none, creditDue := kind == 0 }
        let s := { s with queues := s.queues ++ [q] }
        let s := if dflt then s.onTenant h.tenant (fun x => x.setDefault k (some n)) else s
        s.okWith [res32 [fN 16 2 n]]
  | _, _ => s.no .internal

/-- Change every lease. -/
def State.mapLeases (s : State) (f : Nat → Lease → Lease) : State :=
  { s with leases := s.leases.map (fun (l : Nat × Lease) => (l.1, f l.1 l.2)) }

/-- Nothing names a deleted queue any more: defaults, routes and coalesced events (DEDUCED, log entry 24). -/
def State.forgetQueue (s : State) (n : Nat) : State :=
  let f (o : Option Nat) : Option Nat := if o = some n then none else o
  let s : State := { s with tenants := s.tenants.map (fun (x : Tenant) =>
    { x with defRec := f x.defRec, defEvt := f x.defEvt, coal := x.coal.filter (fun (c : Coal) => c.queue != n) }) }
  s.mapLeases (fun _ l => { l with route := f l.route })

/-- A queue is deleted (R383). A command queue whose completions are still due stays, closing and empty, until the last is written
(DEDUCED, log entry 24). -/
def State.dropQueue (s : State) (n : Nat) : State :=
  let s := s.forgetQueue n
  match s.queue? n with
  | some q =>
    if q.kind = .command ∧ q.written ≠ q.claims then s.onQueue n (fun q => { q with closing := true, ring := [], bind := none })
    else { s with queues := s.queues.filter (fun q => q.num != n) }
  | none => s

def State.doQDelete (s : State) (h : CmdHead) (n : Nat) : Done :=
  let pairOwn := (s.queue? h.queue).bind Queue.pair
  if n = h.queue ∨ pairOwn = some n ∨ s.queues.any (fun q => q.kind == .command && q.pair == some n) then s.no .busy
  else (s.dropQueue n).ok

/-- Q_BIND (R382): delivery resumes from CACK. -/
def State.doQBind (s : State) (h : CmdHead) (n : Nat) : Done :=
  let s := s.onQueue n (fun q => { q with bind := h.session, sent := q.cack, ackT := s.now })
  s.okWith [res32 [fN 16 2 (match s.queue? n with | some q => q.cack | none => 0)]]

/-- Q_ROUTE (R472): every named channel, and with it its gang, records to the queue. -/
def State.doQRoute (s : State) (n mask : Nat) : Done :=
  (s.mapLeases (fun lead l =>
    if (maskList 64 mask).any (fun k => leaseHolds lead l.f k) then { l with route := some n } else l)).ok

/-! ### Keys (R428 to R432) -/

/-- A command that writes a region of NVM (R683, R687): WORN where the region is read only, MEDIA where no row takes the write. -/
def State.stored (s : State) (region : Nat) (k : State → Done) : Done :=
  if s.worn region then s.no .worn
  else
    let r := s.nvmWrite region
    if r.2 then k r.1 else r.1.no .media

def Tenant.key (x : Tenant) (slot : Nat) : Option (List Byte) := if slot = 0 then x.key0 else x.key1

def Tenant.setKey (x : Tenant) (slot : Nat) (k : Option (List Byte)) : Tenant := if slot = 0 then { x with key0 := k } else { x with key1 := k }

/-- A key batch is due in a stream whose slots or data key changed (R492). -/
def State.keyDue (s : State) (t : Nat) (newGen : Bool) : State :=
  if s.led.streams.any (fun x => x.num == t) then
    s.onStream t (fun x => { x with needKey := true, keygen := if newGen then x.keygen + 1 else x.keygen })
  else s

/-- A write of a secret slot; an enrolment voids its code and closes its session (R429, R430). -/
def State.doKeyWrite (s : State) (h : CmdHead) (slot : Nat) (secret : List Byte) : Done :=
  match s.tenant? h.tenant with
  | some x =>
    if (x.key slot).isSome then s.no .busy
    else s.stored 3 (fun s =>
      let enrol := s.enrolling h
      let s := s.onTenant h.tenant (fun x =>
        let x := x.setKey slot (some secret)
        if enrol then { x with code := none, enrolled := x.enrolled || x.num == 0 } else x)
      let s := s.keyDue h.tenant false
      (if enrol then (match h.session with | some n => s.closeSession n | none => s) else s).ok)
  | none => s.no .internal

def State.doKeyClear (s : State) (h : CmdHead) (slot : Nat) : Done :=
  match s.tenant? h.tenant with
  | some x =>
    let keys : Bool := match h.session.bind s.session? with | some y => y.keyid == slot | none => false
    let last : Bool := (x.key slot).isSome && (x.key (1 - slot)).isNone
    if keys ∨ last then s.no .busy
    else s.stored 3 (fun s => ((s.onTenant h.tenant (fun x => x.setKey slot none)).keyDue h.tenant false).ok)
  | none => s.no .internal

/-! ### Tenants (R426 to R429, R447 to R449) -/

/-- The sum of the ring quotas of every tenant (R448). -/
def State.quotaSum (s : State) : Nat := (s.tenants.map Tenant.qRingKib).sum

/-- ENRTTL in ns; 0 is 24 h (R429). -/
def enrTtl (ttl : Nat) : Nat := (if ttl = 0 then 24 else ttl) * 3600000000000

/-- The quotas and buckets of a new client (Table 11-4). -/
def newTenant (t : Nat) (code key : List Byte) (expiry now : Nat) : Tenant :=
  { num := t, code := some { code, expiry }, dataKey := key, qSess := 8, qQueues := 16, qRingKib := 512, qRecRate := 20000, qEvRate := 1000,
    bucket0 := { level := bucketCap 0 1000, since := now }, bucket1 := { level := bucketCap 1 1000, since := now }, bucket2 := { level := bucketCap 2 1000, since := now } }

/-- Draw an enrolment code and a data key (R429, R491). -/
def State.drawKeys (s : State) : List Byte × List Byte × State :=
  let (a, s) := s.draw
  let (b, s) := s.draw
  (leBytes 8 a, leBytes 32 b, s)

def State.doTenantCreate (s : State) (ttl : Nat) : Done :=
  match ((List.range 253).map (fun i => i + 1)).find? (fun t => (s.tenant? t).isNone) with
  | some t =>
    if 11968 < s.quotaSum + 512 then s.no .quota
    else s.stored 3 (fun s =>
      let (code, key, s) := s.drawKeys
      let s := { s with tenants := s.tenants ++ [newTenant t code key (s.now + enrTtl ttl) s.now] }
      let s := s.keyDue t true
      let s := s.onTenant t (fun x => { x with viewBits := s.viewBitsOf t })
      s.okWith [res32 [fN 16 1 t, (24, code)]])
  | none => s.no .quota

/-- Every session of a tenant closes (R439). -/
def State.closeSessions (s : State) (t : Nat) : State :=
  let ns := (s.sessions.filter (fun x => x.tenant == t)).map Session.num
  let s := ns.foldl (fun s n => s.closeSession n) s
  { s with establish := s.establish.filter (fun e => e.tenant != t) }

def State.doSuspend (s : State) (t : Nat) : Done :=
  if (s.tenant? t).isNone then s.no .notPermitted
  else s.stored 3 (fun s => ((s.onTenant t (fun x => { x with suspended := true })).closeSessions t).ok)

def State.doResumeTenant (s : State) (t : Nat) : Done :=
  if (s.tenant? t).isNone then s.no .notPermitted
  else s.stored 3 (fun s => (s.onTenant t (fun x => { x with suspended := false })).ok)

/-- A meter holds nothing (R449). -/
def Meter.isZero (m : Meter) : Bool := m.imp.all (fun v => v == 0) && m.exp.all (fun v => v == 0) && m.peak.all (fun v => v == 0)

/-- A removal (R449): queues, sessions, secrets and quotas go; ledger batches stay. -/
def State.doRemove (s : State) (t : Nat) : Done :=
  if (s.tenant? t).isNone then s.no .notPermitted
  else if s.leases.any (fun l => l.2.f.tenant == t) || !(s.meterOf t).isZero then s.no .busy
  else s.stored 3 (fun s =>
    let s := (s.closeSessions t).onLed (fun l =>
      if l.hasPending t then { l with lastKeys := (t, s.dataKey t) :: l.lastKeys.filter (fun x => x.1 != t) } else l)
    ({ s with queues := s.queues.filter (fun q => q.tenant != t), tenants := s.tenants.filter (fun x => x.num != t)
              inflight := s.inflight.filter (fun r => r.head.tenant != t), waiting := s.waiting.filter (fun w => w.1.tenant != t)
              met := { s.met with meters := s.met.meters.filter (fun m => m.tenant != t) } }).ok)

def State.doReenrol (s : State) (t ttl : Nat) : Done :=
  if (s.tenant? t).isNone then s.no .notPermitted
  else s.stored 3 (fun s =>
    let (code, key, s) := s.drawKeys
    let s := s.onTenant t (fun x => { x with key0 := none, key1 := none, dataKey := key, code := some { code, expiry := s.now + enrTtl ttl } })
    let s := (s.keyDue t true).closeSessions t
    s.okWith [res32 [(24, code)]])

/-- Buckets under a new event rate. -/
def Tenant.rebucket (x : Tenant) (now evrate : Nat) : Tenant :=
  let b (cls : Nat) : Bucket := { level := Nat.min (bucketCap cls evrate) ((x.bucket cls).levelAt cls x.qEvRate now), since := now }
  { x with bucket0 := b 0, bucket1 := b 1, bucket2 := b 2, qEvRate := evrate }

/-- A quota write (R447, R448); 0 keeps a value. -/
def State.doQuota (s : State) (t : Nat) (q : QuotaFields) : Done :=
  match s.tenant? t with
  | none => s.no .notPermitted
  | some x =>
    let k (new old : Nat) : Nat := if new = 0 then old else new
    let sess := k q.sessions x.qSess
    let qs := k q.queues x.qQueues
    let ring := k q.ringkib x.qRingKib
    if sess < (s.sessions.filter (fun y => y.tenant == t)).length ∨ qs < (s.queuesOf t).length ∨ ring < s.kibOf t then s.no .busy
    else if 11968 < s.quotaSum - x.qRingKib + ring then s.no .quota
    else s.stored 3 (fun s =>
      (s.onTenant t (fun x => { x.rebucket s.now (k q.evrate x.qEvRate) with
        qSess := sess, qQueues := qs, qRingKib := ring, qRecRate := k q.recrate x.qRecRate })).ok)

def State.doTenantRead (s : State) (t : Nat) : Done :=
  match s.tenant? t with
  | some x =>
    s.okWith [
      res32 [fN 16 1 (1 + 2 * b2n x.suspended + 4 * b2n x.key0.isSome + 8 * b2n x.key1.isSome + 16 * b2n x.code.isSome),
        fN 20 1 t, fN 24 2 x.qSess, fN 26 2 x.qQueues, fN 28 4 x.qRingKib, fN 32 4 x.qRecRate, fN 36 4 x.qEvRate],
      res32 [fN 16 2 (s.sessions.filter (fun y => y.tenant == t)).length, fN 18 2 (s.queuesOf t).length, fN 20 4 (s.kibOf t),
        fN 24 8 (s.leasedMask t)]]
  | none => s.okWith [res32 [], res32 []]

/-! ### Leases (R442 to R446) -/

/-- A LEASE event (Table 12-24, KIND 0xA4). -/
def State.leaseEvt (s : State) (h : CmdHead) (code lead : Nat) (f : LeaseFields) : State :=
  s.pushEvt { kind := 0xA4, tenant := f.tenant, dest := f.tenant, channel := lead, corr := h.corr, stepref := (s.refOf lead).1, calgen := (s.refOf lead).2,
              time := s.ptp,
              payloads := [payload [fN 0 1 code, fN 1 1 f.members, fN 2 2 f.gpioev, fN 8 8 s.ptp, fN 16 4 f.ichg, fN 20 4 f.idis, fI 24 4 f.vmin,
                fI 28 4 f.vmax, fN 32 4 f.emax]] }

/-- A LEASE_END event (KIND 0xA5). -/
def State.leaseEndEvt (s : State) (h : CmdHead) (code lead : Nat) (f : LeaseFields) (eused : Nat) : State :=
  s.pushEvt { kind := 0xA5, tenant := f.tenant, dest := f.tenant, channel := lead, corr := h.corr, stepref := (s.refOf lead).1, calgen := (s.refOf lead).2,
              time := s.ptp,
              payloads := [payload [fN 0 1 code, fN 1 1 f.members, fN 8 8 s.ptp, fN 16 4 eused]] }

/-- A leader's program stops at the end of its lease (R446): an executing one ramps, a paused one is discarded, a retry is cancelled
(DEDUCED, log entry 33). -/
def State.revokeStop (s : State) (h : CmdHead) (c : ChanNo) : State :=
  let l := (s.chan c).loop
  if stExec l.st then s.rampStop c .stop (some h.corr)
  else if l.st = .paused then
    let s := s.endProg c
    s.forChans (s.membersOf c) (fun m s => s.setSt m .stopped .none 0)
  else if l.st = .released ∧ (stExec l.before ∨ l.before = .paused) then
    s.forChans (s.membersOf c) (fun m s => s.onLoop m (fun l => { l with before := .stopped }))
  else if (s.chan c).prot.retryWait then s.cancelRetry c (some h.corr) else s

/-- What the Gather discards of a member: images, variables, estimator state, the copy in the resume area. A member that ramps keeps
its image until the ramp has ended; its share of the total is its own from here, since the gang slot goes (DEDUCED, log entry 33). -/
def State.discardChan (s : State) (c : ChanNo) : State :=
  let ramps := stExec (s.chan c).loop.st
  let s := s.onProg c (fun p => if ramps then { p with discard := true, shadow := [], shLen := 0, commit := none, commitBy := none } else p.emptied)
  let s := s.onLoop c (fun l => if ramps then { l with rampFrom := l.iref } else l)
  s.onChan c (fun x => { x with est := {}, resume := false })

/-- The gang slot of a lease is disabled (DEDUCED, log entry 33). -/
def State.dropSlot (s : State) (lead : Nat) (f : LeaseFields) : State :=
  match gather? (lead / 8) with
  | some g =>
    (List.range 4).foldl (fun s i =>
      let a := gA g (0x40 + 4 * i)
      if s.bit a 15 && s.fld a 0 8 == f.members then s.setFld a 15 1 0 else s) s
  | none => s

/-- A lease ends (R446): 0 revoke, 1 release. The answer is the final HL_EUSED (DEDUCED, log entry 33). -/
def State.endLease (s : State) (h : CmdHead) (code : Nat) (x : Nat × Lease) : Nat × State :=
  let ms := leaseChans x.1 x.2.f
  let s := s.forChans ms (fun c s => s.collect c)
  let eused := match chan? x.1 with | some c => s.hlEused c | none => 0
  let s := match chan? x.1 with | some c => s.revokeStop h c | none => s
  let s := s.forChans ms (fun c s => s.discardChan c)
  let s := s.dropSlot x.1 x.2.f
  let s := { s with leases := s.leases.filter (fun y => y.1 != x.1) }
  (eused, s.leaseEndEvt h code x.1 x.2.f eused)

/-- Members of a grant that do not stand still: executing, paused or FAULTED (R443). -/
def State.memberBusy (s : State) (c : ChanNo) : Bool := s.executing c || s.isPaused c || (s.chan c).isFaulted

/-- A new lease takes effect (R444). -/
def State.newLease (s : State) (h : CmdHead) (lead : Nat) (f : LeaseFields) : State :=
  let ms := leaseChans lead f
  let base : Counters :=
    match chan? lead with | some c => (s.chan c).cnt.add (s.chan c).cntNew | none => ({} : Counters)
  let l : Lease := { f, base }
  let s : State := { s with leases := s.leases ++ [(lead, l)] }
  let s := s.leaseRegs lead f
  let s := s.forChans ms (fun c s => s.onChan c (fun x => { x with eusedE := 0, prog := x.prog.emptied, est := {}, resume := false }))
  s.leaseEvt h 0 lead f

def State.doGrant (s : State) (h : CmdHead) (f : LeaseFields) : Done :=
  let ms := leaseChans h.channel f
  if ms.any (fun c => s.fenced (uGat (gOf c))) || (f.tenant != 0 && (s.tenant? f.tenant).isNone) then s.no .notPermitted
  else if ms.any (fun c => (match s.lessee c.val with | some t => t != f.tenant | none => false) || s.memberBusy c) then s.no .busy
  else s.stored 3 (fun s =>
    let s := (s.replaced h.channel f).foldl (fun s x => (s.endLease h 0 x).2) s
    let s := s.forChans ms (fun c s => s.collect c)
    ((s.newLease h h.channel f).settle).ok)

/-- LEASE_MODIFY (R445): the limit registers of every member follow at once; HL_EUSED is kept. -/
def State.doModify (s : State) (h : CmdHead) (f : LeaseFields) : Done :=
  s.stored 3 (fun s =>
    let s := s.onLease h.channel (fun l => { l with f })
    let s := s.forChans (leaseChans h.channel f) (fun c s =>
      ((((s.setReg (pgA c 0x10) f.ichg).setReg (pgA c 0x14) f.idis).setReg (pgA c 0x18) (w32 f.vmax)).setReg (pgA c 0x1C) (w32 f.vmin)).setReg
        (pgA c 0x20) f.emax)
    (s.leaseEvt h 1 h.channel f).ok)

def State.doLeaseEnd (s : State) (h : CmdHead) : Done :=
  match s.leaseOf h.channel with
  | some x =>
    let busy : Bool := match chan? x.1 with | some c => s.executing c || s.isPaused c | none => false
    if h.tenant ≠ 0 ∧ busy then s.no .busy
    else s.stored 3 (fun s =>
      let (e, s) := s.endLease h (if h.tenant = 0 then 0 else 1) x
      s.settle.okWith [res32 [fN 16 4 e]])
  | none => s.no .notLeased

/-- A lease in the layout of Table 12-5. -/
def leaseBytes (f : LeaseFields) : List Byte :=
  leBytes 1 f.members ++ leBytes 1 f.track ++ leBytes 1 f.tenant ++ leBytes 1 0 ++ leBytes 4 f.ichg ++ leBytes 4 f.idis ++ leBytesI 4 f.vmin
    ++ leBytesI 4 f.vmax ++ leBytes 4 f.emax ++ leBytes 2 f.gpioev ++ leBytes 2 0 ++ ((List.range 8).map (fun k => leBytes 2 (f.shares.getD k 0))).flatten

def State.doLeaseRead (s : State) (h : CmdHead) : Done :=
  if h.channel = 255 then
    s.okWith (chunks32 2 ((List.range 64).map (fun n =>
      match s.lessee n with
      | some t => if h.tenant = 0 ∨ t = h.tenant then BitVec.ofNat 8 t else 0xFF
      | none => 0xFF)))
  else
    match s.leaseOf h.channel with
    | some x => s.okWith (chunks32 2 (leaseBytes x.2.f))
    | none => s.no .notLeased

end Sys2Proof.Machine
end

