-- ==== Sys2Proof/Machine/CmdProg.lean ====
section
/-! DEFINITION. The program and channel families (Tables 12-6 to 12-8, chapters 04, 05 and 07). -/

namespace Sys2Proof.Machine

open Sys2Proof

/-! ### Editing (R254, R291, Table 12-6) -/

/-- A step written into the shadow image. -/
def putStep (l : List StepWord) (i : Nat) (w : StepWord) : List StepWord :=
  if i < l.length then l.set i w else l ++ List.replicate (i - l.length) 0 ++ [w]

def State.doProgWrite (s : State) (c : ChanNo) (steps : List (Nat × StepWord)) : Done :=
  (s.onProg c (fun p => { p with shadow := steps.foldl (fun l x => putStep l x.1 x.2) p.shadow })).ok

/-- PROG_LEN: steps at or above LEN become zero. -/
def State.doProgLen (s : State) (c : ChanNo) (len : Nat) : Done :=
  (s.onProg c (fun p => { p with shLen := len, shadow := p.shadow.take len })).ok

def State.doProgRead (s : State) (c : ChanNo) (which first count : Nat) : Done :=
  let p := (s.chan c).prog
  let m : Image := if which = 0 then p.live else p.shadowImage
  (s, { detail := m.length + 65536 * p.imggen
        results := (List.range count).map (fun i => leBytes 32 (m.at_ (first + i)).toNat) })

def State.doDiscard (s : State) (c : ChanNo) : Done :=
  (s.onProg c (fun p => { p with shadow := p.live, shLen := p.live.length })).ok

/-- RESULT of a COMMIT: IMGGEN and LEN (DEDUCED, log entry 28). -/
def commitRes (gen len : Nat) : List (List Byte) := [res32 [fN 16 1 gen, fN 18 2 len]]

/-- COMMIT (R292 to R295): the checks; then the image waits in the commit buffer for its swap (DEDUCED, log entry 28). -/
def State.doCommit (s : State) (h : CmdHead) (c : ChanNo) (checkOnly : Bool) : Done :=
  let p := (s.chan c).prog
  match s.commitCheck c with
  | some (st, i) => s.noAt st i
  | none =>
    if checkOnly then s.okWith (commitRes p.imggen p.shLen)
    else (s.onProg c (fun p => { p with commit := some p.shadowImage, commitBy := some h })).later

/-! ### Variables and signals (R269, R274) -/

def State.doVarWrite (s : State) (c : ChanNo) (pairs : List (Nat × Nat)) : Done :=
  (s.onProg c (fun p => { p with vars := pairs.foldl (fun v x => v.set x.1 (sx 32 x.2)) p.vars })).ok

def State.doVarRead (s : State) (c : ChanNo) : Done :=
  s.okWith (chunks32 4 ((List.range 32).map (fun i => leBytes 4 (w32 ((s.chan c).prog.var i)))).flatten)

/-- SIGNAL: the step in execution on each named channel, or on its gang's leader, sees the signal. -/
def State.doSignal (s : State) (sig mask : Nat) : Done :=
  let code := 0x20 + sig
  (((maskList 64 mask).filterMap chan?).foldl (fun s m =>
    let c := s.leaderOf m
    if s.tests c then s.onProg c (fun p => { p with events := if p.events.contains code then p.events else code :: p.events }) else s) s).ok

/-! ### Channel commands (R473, Table 12-8) -/

/-- The completion of a channel command: the state after it. -/
def State.chanDone (s : State) (c : ChanNo) : Done :=
  let s := s.refreshMode
  s.okWith [res32 [fN 16 1 (stCode (s.chan c).loop.st)]]

/-- A channel that is RELEASED turns every channel command away (DEDUCED, log entry 32). -/
def State.releasedNo (s : State) (c : ChanNo) : Done := s.no (if s.fenced (uGat (gOf c)) then .notPermitted else .busy)

/-- A start (R138, R186, R253, R286). -/
def State.startChan (s : State) (h : CmdHead) (c : ChanNo) (entry : Nat) : State :=
  if s.reversed c then (s.onProg c (fun p => { p with corr := h.corr })).faultStop c [7]
  else
    let s := s.onProg c (fun p => p.started entry h.corr)
    let r := s.beginSettle c .start
    if r.2 then (r.1.firstStep c entry).goSwitch c else r.1

/-- A start or resume that was claimed before LEHR completes under the old rules; Lehr then ramps it to rest (R86). -/
def State.lehrRamp (s : State) (c : ChanNo) : State := if s.mode.mode = .lehr then s.rampStop c .lehr none else s

def State.doStart (s : State) (h : CmdHead) (c : ChanNo) (entry : Nat) : Done :=
  let x := s.chan c
  match x.loop.st with
  | .released => s.releasedNo c
  | .stopped => if x.prog.live.isEmpty then s.no .notPermitted else ((s.startChan h c entry).lehrRamp c).chanDone c
  | _ => s.no .busy

/-- A stop of a PAUSED channel: the paused program goes, its image stays. -/
def State.dropPaused (s : State) (c : ChanNo) : State :=
  let s := (s.endProg c).onChan c (fun x => { x with resume := false })
  s.forChans (s.membersOf c) (fun m s => s.setSt m .stopped .none 0)

/-- CON opens on every member of a stopped channel. -/
def State.openCon (s : State) (c : ChanNo) : State := s.forChans (s.membersOf c) (fun m s => s.onLoop m (fun l => { l with con := false }))

def State.doStop (s : State) (h : CmdHead) (c : ChanNo) : Done :=
  let x := s.chan c
  match x.loop.st with
  | .released => s.releasedNo c
  | .stopped => (s.openCon c).chanDone c
  | .settling | .softstart | .active | .resting => (s.rampStop c .stop (some h.corr)).chanDone c
  | .stopping => s.chanDone c
  | .paused => (s.byCorr c h.corr (State.dropPaused · c)).chanDone c
  | .faulted => if x.prot.retryWait then (s.cancelRetry c (some h.corr)).chanDone c else s.chanDone c

def State.doPause (s : State) (h : CmdHead) (c : ChanNo) : Done :=
  match (s.chan c).loop.st with
  | .released => s.releasedNo c
  | .settling | .softstart | .active | .resting => (s.rampStop c .pause (some h.corr)).chanDone c
  | .paused => s.chanDone c
  | _ => s.no .busy

/-- The interrupted step from its beginning (R102, R265). -/
def State.restartStep (s : State) (c : ChanNo) : State :=
  let s := s.onProg c (fun p => { p.fresh p.pc with newStep := true, first := true })
  if stepKind (s.chan c).cur = 10 then s.onEst c (fun e => { e with ocvs := [], k := none, isd := none }) else s

/-- A resume (R102): the resume-area entry goes, records carry the CORR of the command, CON settles, soft-start follows. A program paused
before its first step begins with it. -/
def State.resumeChan (s : State) (h : CmdHead) (c : ChanNo) (restart : Nat) : State :=
  let s := s.onChan c (fun x => { x with resume := false, prog := { x.prog with corr := h.corr } })
  if (s.chan c).prog.inStep then
    let s := if restart = 1 then s.restartStep c else s
    (s.beginSettle c .resume).1
  else (s.beginSettle c .start).1

def State.doResume (s : State) (h : CmdHead) (c : ChanNo) (restart : Nat) : Done :=
  match (s.chan c).loop.st with
  | .released => s.releasedNo c
  | .paused => ((s.resumeChan h c restart).lehrRamp c).chanDone c
  | _ => s.no .busy

/-- TSTG at or above TSHUT − THYST for a channel (R172). -/
def State.hotFor (s : State) (c : ChanNo) : Bool :=
  decide (s.fldS (chA c 0x94) 16 16 - (s.fld (chA c 0x98) 0 12 : Int) ≤ (s.gat (gOf c)).tstg)

/-- A clear of a latched channel or gang: STOPPED, CON low, no program in execution, no retry used (R169, R172). -/
def State.clearChan (s : State) (c : ChanNo) : State :=
  let s := s.endProg c
  s.forChans (s.membersOf c) (fun m s =>
    let s := s.onLoop m (fun l => { l with con := false, tcoff := false })
    (s.onProt m (fun p => { p with retries := 0 })).setSt m .stopped .none 0)

def State.doClear (s : State) (h : CmdHead) (c : ChanNo) : Done :=
  let x := s.chan c
  match x.loop.st with
  | .released => s.releasedNo c
  | .stopped => s.chanDone c
  | .faulted =>
    if x.prot.retryWait then s.no .busy
    else if (s.membersOf c).any (fun m => s.chanFenced m) then s.no .notPermitted
    else if (s.membersOf c).any s.hotFor then s.no .busy
    else (s.byCorr c h.corr (State.clearChan · c)).chanDone c
  | _ => s.no .busy

end Sys2Proof.Machine
end

