-- ==== Sys2Proof/Machine/CmdMeas.lean ====
section
/-! DEFINITION. The measurement, estimation and meter families (Tables 12-9 to 12-11, chapters 06, 08 and 09). -/

namespace Sys2Proof.Machine

open Sys2Proof

/-! ### Measurement (R227, R249, R251, Table 12-9) -/

/-- MEAS_CFG of one channel: OUTRATE waits for its common grid point, the range for the next control-cycle boundary (R207, R251) (DEDUCED, log entry 18). -/
def State.measCfgOne (s : State) (c : ChanNo) (setRate setRange : Bool) (rate rng fix : Nat) : State :=
  let s := if setRate then
      let old := s.fld (chA c 0xC0) 0 4
      s.onMeas c (fun m => { m with newRate := if rate = old then none else some (rate, s.rateTime old rate) })
    else s
  if setRange then ((s.setFld (chA c 0xC0) 4 2 rng).setFld (chA c 0xC0) 6 2 fix).onMeas c MeasSt.release else s

def State.doMeasCfg (s : State) (c : ChanNo) (setRate setRange : Bool) (rate rng fix : Nat) : Done :=
  let t := if setRate then s.rateTime (s.fld (chA c 0xC0) 0 4) rate else 0
  let s := s.forChans (s.membersOf c) (fun m s => s.measCfgOne m setRate setRange rate rng fix)
  s.okWith [res32 [fN 16 8 t]]

def State.doMeasRead (s : State) (c : ChanNo) : Done :=
  let m := (s.chan c).meas
  s.okWith [res32 [fN 16 8 m.stamp, fI 24 4 m.vout, fI 28 4 (s.recI c), fI 32 2 m.smpTcell, fN 34 2 m.mstat, fI 36 4 m.smpIref,
    fN 40 1 m.smpState]]

/-- COEF_READ: the layer's coefficients as CH_CALSEL would load them; the snapshot registers stand (R465). -/
def State.doCoefRead (s : State) (c : ChanNo) (layer qty : Nat) : Done :=
  let k := s.coefs c layer qty
  let input := inputOf c (qty != 0)
  s.okWith [res32 [fI 16 4 k.1, fI 20 4 k.2.1, fI 24 4 k.2.2, fN 28 1 (s.chan c).meas.calgen, fN 29 1 ((s.gat (gOf c)).seats.getD input input)]]

def State.doChRead (s : State) (c : ChanNo) : Done :=
  s.okWith [res32 [fN 16 4 (s.viewChan c 0x10), fN 20 4 (s.viewChan c 0xB0), fN 24 4 (s.viewProg c 0x00), fN 28 4 (s.viewProg c 0x04),
    fN 32 4 (s.bcStat c), fN 36 4 (s.viewProg c 0x08), fN 40 4 (s.viewProg c 0x24), fN 44 4 (s.viewProg c 0x28)]]

/-! ### Estimation (R329, R339, R341, R344, Table 12-10) -/

/-- The estimator that a command names: a channel's, or the pack's with CHANNEL 0xFF. -/
def State.estAt (s : State) (n : Nat) : EstSt := match chan? n with | some c => (s.chan c).est | none => s.board.pwr.pack

def State.onEstAt (s : State) (n : Nat) (f : EstSt → EstSt) : State :=
  match chan? n with
  | some c => s.onEst c f
  | none => s.onPwr (fun p => { p with pack := f p.pack })

/-- EST_SET: the fields of the mask replace those in force or already waiting, at the next update. -/
def EstSt.setNext (e : EstSt) (f : EstFields) : EstSt :=
  let cur : EstFields := e.next.getD { mask := 127, cnom := e.cnom, slopemin := e.slopemin, ocvrest := e.ocvrest, rate := e.rate, kskip := e.kskip, kmin := e.kmin, estrec := e.estrec }
  let m (i new old : Nat) : Nat := if f.mask.testBit i then new else old
  { e with next := some { mask := 127, cnom := m 0 f.cnom cur.cnom, slopemin := m 1 f.slopemin cur.slopemin, ocvrest := m 2 f.ocvrest cur.ocvrest,
                          rate := m 3 f.rate cur.rate, kskip := m 4 f.kskip cur.kskip, kmin := m 5 f.kmin cur.kmin, estrec := m 6 f.estrec cur.estrec } }

def State.doEstSet (s : State) (n : Nat) (f : EstFields) : Done := (s.onEstAt n (fun e => e.setNext f)).ok

def State.doOcvTable (s : State) (n : Nat) (pts : List (Nat × Int)) : Done := (s.onEstAt n (fun e => { e with table := pts })).ok

/-- P4 to P23 of EST_SET as they are in force. -/
def estParams (e : EstSt) : List Byte :=
  leBytes 4 e.cnom ++ leBytes 4 e.slopemin ++ leBytes 4 e.ocvrest ++ leBytes 2 e.rate ++ leBytes 2 e.kskip ++ leBytes 2 e.kmin ++ leBytes 2 e.estrec

/-- EST_READ: the ESTIMATE payload over two entries, the parameters, and the table four points to an entry. -/
def State.doEstRead (s : State) (n : Nat) (table : Bool) : Done :=
  let e := s.estAt n
  let pts := (e.table.map (fun p => leBytes 4 p.1 ++ leBytesI 4 p.2)).flatten
  let tab := if table then chunks32 ((e.table.length + 3) / 4) pts else []
  s.okWith (chunks32 2 (estPayload e) ++ [sliceB (estParams e) 0 32] ++ tab)

/-- RELEARN (R341): the learned capacity, K, with it ISD, and the DCIR result go; STALE is cleared (DESIGN CHOICE, log entry 17). -/
def State.doRelearn (s : State) (n : Nat) : Done :=
  let was := (s.estAt n).stale
  let s := s.onEstAt n (fun e => { e with cmeas := none, k := none, isd := none, dcir := none, stale := false })
  (match chan? n with
   | some c => if was then s.estEvt c 1 (s.chan c).est.cnom else s
   | none => s).ok

/-! ### Meters (R360 to R374, Table 12-11) -/

/-- A counter less its value at the grant. -/
def Counters.sub (a b : Counters) : Counters :=
  { imp := a.imp - b.imp, exp := a.exp - b.exp, qin := a.qin - b.qin, qout := a.qout - b.qout, periods := a.periods - b.periods,
    ckoff := a.ckoff - b.ckoff, bands := List.zipWith (fun x y => x - y) a.bands b.bands }

/-- The counters in the order and units of Table 09-5, eight bytes each. -/
def Counters.bytes (n : Counters) : List Byte :=
  leBytes 8 (n.imp / rawMj) ++ leBytes 8 (n.exp / rawMj) ++ leBytes 8 (n.qin / 57600000) ++ leBytes 8 (n.qout / 57600000) ++ leBytes 8 n.periods
    ++ leBytes 8 n.ckoff ++ (n.bands.map (fun t => leBytes 8 (t / 8000000000))).flatten

/-- COUNTER_READ: lifetime values for the house, those since the grant for a client (DEDUCED, log entry 28). -/
def State.doCounterRead (s : State) (h : CmdHead) (c : ChanNo) : Done :=
  let n := (s.chan c).cnt.add (s.chan c).cntNew
  let n := if h.tenant = 0 then n else match s.leaseOf c.val with | some l => n.sub l.2.base | none => n
  s.okWith (chunks32 4 n.bytes)

/-- IFLAGS of the running interval (Table 12-23). -/
def MeterSt.flags (m : MeterSt) : Nat := b2n m.partial_ + 2 * b2n m.late + 4 * b2n m.nocal + 8 * b2n m.gap

def State.doMeterRead (s : State) (t : Nat) : Done :=
  let x := s.meterOf t
  let m := s.met
  s.okWith ((List.range 8).map (fun i =>
      res32 [fN 16 8 (x.imp.getD i 0), fN 24 8 (x.exp.getD i 0), fN 32 4 (x.peak.getD i 0), fN 36 8 (x.peakT.getD i 0)])
    ++ [res32 [fN 16 1 m.tariff, fN 17 1 m.flags, fN 18 8 m.startPtp, fN 26 8 x.runImp, fN 34 8 x.runExp]])

def State.doMeterClose (s : State) : Done := s.closeBilling.ok

/-- METER_LIMITS: BUS_IMPLIM and BUS_EXPLIM, from the next bus-balance cycle. -/
def State.doMeterLimits (s : State) (imp exp : Nat) : Done :=
  s.stored 1 (fun s => ((s.setReg 0x200004 imp).setReg 0x200008 exp).ok)

/-- METER_SCHED: entries of the schedule, from the next minute boundary. -/
def State.doMeterSched (s : State) (first : Nat) (words : List Nat) : Done :=
  s.stored 1 (fun s => ((List.range words.length).foldl (fun s i =>
    let w := words.getD i 0
    s.writeSched (first + i) (bitsOf w 0 14 + 32768 * bitsOf w 15 8)) s).ok)

end Sys2Proof.Machine
end

