-- ==== Sys2Proof/Machine/CmdSys.lean ====
section
/-! DEFINITION. The ledger, pair, time, power and service families and the register access of the house (Tables 12-12 to 12-18). -/

namespace Sys2Proof.Machine

open Sys2Proof

/-! ### Ledger (R474, R496, R505, R515, Table 12-12) -/

/-- The least and the greatest of a list; 0 for an empty one. -/
def leastOf (l : List Nat) : Nat := match l with | [] => 0 | a :: l => l.foldl Nat.min a
def greatestOf (l : List Nat) : Nat := l.foldl Nat.max 0

def State.doLedgerRead (s : State) (t : Nat) : Done :=
  let l := s.led
  let mine := l.stored.filter (fun b => b.stream == t)
  let data := mine.filter (fun b => b.btype == 0)
  let e0 := res32 [fN 16 8 ((mine.map (fun b => b.nblk * 4096)).sum), fN 24 8 (leastOf (data.map Batch.first)), fN 32 8 (greatestOf (data.map Batch.last)),
    fN 40 8 (s.streamOf t).durable]
  let mib := 1048576
  let e1 := res32 [fN 16 8 (l.segs.length * mib), fN 24 8 (if l.isMounted then l.freeSegs * mib else 0),
    fN 32 1 (maskOf ((List.range 4).filter (fun d => (l.drive d).state == 1))), fN 33 1 l.arrange, fN 34 1 (Nat.min 1024 l.used * 100 / 1024)]
  s.okWith (if t = 0 then [e0, e1] else [e0])

def State.doLedgerFetch (s : State) (h : CmdHead) (from_ to_ mask q : Nat) (periodic : Bool) : Done :=
  if s.led.fetches.any (fun f => f.head.tenant == h.tenant) then s.no .busy
  else if !s.led.isMounted then s.no .media
  else
    let n := (s.led.inRange h.tenant from_ to_ 0).length
    let s := s.onLed (fun l => { l with fetches := l.fetches ++ [{ head := h, from_, to_, mask, queue := q, periodic, next := 0 }] })
    (s.onQueue q (fun x => { x with fetching := true }), { detail := n })

def State.doLedgerRetain (s : State) (t days : Nat) : Done :=
  s.stored 1 (fun s =>
    let ts := if t = 255 then List.range 254 else [t]
    (s.onLed (fun l => { l with retain := l.retain.filter (fun x => !ts.contains x.1) ++ (if days = 0 then [] else ts.map (fun t => (t, days))) })).ok)

def State.doLedgerSeal (s : State) (h : CmdHead) : Done :=
  let t := h.tenant
  let soon : Bool := match s.tenant? t with
    | some x => (match x.lastSeal with | some a => decide (s.now < a + 100000000) | none => false)
    | none => false
  if soon then s.no .busy
  else if !s.led.isMounted then s.no .media
  else
    let s := (s.sealStream t 2).writeOut.onTenant t (fun x => { x with lastSeal := some s.now })
    let n := (s.led.sealed_.filter (fun b => b.stream == t && b.btype == 0)).length
    let x := s.streamOf t
    if n = 0 then s.okWith [res32 [fN 16 8 x.lastSeal, fN 24 8 x.lastAddr]]
    else (s.onLed (fun l => { l with seals := l.seals ++ [(h, t, n)] })).later

/-! ### Pair (R541, Table 12-13) -/

def State.doPairRead (s : State) : Done :=
  let p := s.pr
  s.okWith [res32 [fN 16 1 s.role, fN 17 1 (lanesUp p.lanes), fN 20 4 p.epoch, fN 24 8 p.pSerial, fN 32 4 (s.reg 0x33001C), fN 36 4 (s.reg 0x330020),
    fN 40 4 (s.fld 0x330014 16 16)]]

def State.doHandover (s : State) (h : CmdHead) (d : Nat) : Done :=
  if s.pr.ho ≠ .none ∨ (s.mode.mode = .service ∧ s.execMask ≠ 0) then s.no .busy
  else ((s.sendZl .hoPrep).onPair (fun p => { p with ho := .prep h (s.ptp + d * 1000000) })).later

/-! ### Time (R558, R561, R565, R566, Table 12-15) -/

def State.doTimeRead (s : State) (t : Nat) : Done :=
  let b := s.board.time
  let bits := b2n b.valid + 2 * b2n (b.ptp == .locked) + 4 * b2n (b.ptp == .mains) + 8 * b2n (b.ptp == .holdover)
  let fs := [(16, calBytes b.cal), fN 24 8 s.ptp, fN 32 1 bits]
  s.okWith [res32 (if t = 0 then fs ++ [fI 34 2 (s.fldS 0x050010 0 10)] else fs)]

def State.doTimeSet (s : State) (c : CalTime) (date wday : Bool) : Done :=
  let s := if date then s.loadTime c else s
  (if wday then s.loadWday c.wday else s).ok

def State.doSummer (s : State) (h : CmdHead) (fwd : Bool) : Done :=
  if s.board.time.cal.summer = fwd ∨ s.board.time.sumReq.isSome then s.no .busy
  else (s.onTime (fun t => { t with sumReq := some (fwd, h) })).later

/-- The match words of an alarm (Table 15-16): an ANY value sets the field's ANY bit. -/
def alarmTime (en : Bool) (c : CalTime) : Nat :=
  let f (v any lo len : Nat) : Nat := if v = 255 then 2 ^ any else (v % 2 ^ len) * 2 ^ lo
  f c.second 6 0 6 + f c.minute 14 8 6 + f c.hour 21 16 5 + 2 ^ 31 * b2n en
def alarmDay (c : CalTime) : Nat :=
  let f (v any lo len : Nat) : Nat := if v = 255 then 2 ^ any else (v % 2 ^ len) * 2 ^ lo
  f c.day 5 0 5 + f c.month 12 8 4 + (if c.year = 65535 then 2 ^ 24 else (c.year - 2000) % 256 * 65536)

def State.doWakeSet (s : State) (which : Nat) (en : Bool) (c : CalTime) (period : Nat) : Done :=
  if which = 2 then
    (((s.setFld 0x050030 0 23 period).setFld 0x050030 31 1 (b2n en)).onTime (fun t => { t with pwakeT := s.now })).ok
  else ((s.setReg (0x050020 + 8 * which) (alarmTime en c)).setReg (0x050024 + 8 * which) (alarmDay c)).ok

def State.doCalTrim (s : State) (p : Int) : Done := (s.setTrim p).ok

/-! ### Power (R91, R601, R640, R654, R655, Table 12-16) -/

/-- The pack's reported SoC in 0.01 %. -/
def State.packSoc (s : State) : Int := match s.board.pwr.pack.rep with | some r => r / 100000 | none => -2147483648

/-- PGOOD of the four AUX outputs and the range bit of each monitor input. -/
def State.railsGood (s : State) : Nat :=
  maskOf ((List.finRange 4).filter (fun k => (s.aux k).pgood) |>.map Fin.val)
    + 16 * maskOf ((List.range 4).filter (fun m => (s.viewPwr (0x90 + 4 * m)).testBit 11))

def State.doPowerRead (s : State) : Done :=
  let p := s.board.pwr
  s.okWith [res32 [fN 16 4 p.rd.vin, fN 20 4 p.rd.packv, fN 24 1 (pathCode p.path), fN 25 1 (chgCode p.chg), fN 26 1 s.railsGood, fI 28 4 s.packSoc],
    res32 ((List.range 4).map (fun m => fN (16 + 4 * m) 4 (p.rd.mon.getD m 0)))]

def State.doShip (s : State) : Done :=
  if !s.board.pwr.present then s.no .busy
  else ((s.enterLehr 0x13).settle).ok

def State.doWarmReset (s : State) (h : CmdHead) : Done :=
  ({ s with rst := { s.rst with commanded := true, commandedSrc := if h.queue = 0 then 9 else 8, commandedT := s.now } }).ok

/-- A Gather with a channel that executes or is paused keeps its block reset away. -/
def State.blockInUse (s : State) (b : Nat) : Bool :=
  match gather? (b - 0x10) with
  | some g => decide (0x10 ≤ b) && (chansOf g).any (fun c => s.executing c || s.isPaused c)
  | none => false

def State.doBlockReset (s : State) (h : CmdHead) (b : Nat) : Done :=
  if (b = 8 ∧ !s.optL) ∨ (b = 0x0A ∧ !s.optT) ∨ (b = 0x0B ∧ !s.optZ) then s.no .notPermitted
  else if s.blockInUse b then s.no .busy
  else if s.inBlockReset b then
      let l := updFirst (fun (x : BlockReset) => x.block == b) (fun (x : BlockReset) => { x with more := x.more ++ [h] }) s.rst.blocks
      let t : State := { s with rst := { s.rst with blocks := l } }
      t.later
  else
      let r : BlockReset := { block := b, head := some h, at_ := s.now }
      let t : State := { s with rst := { s.rst with blocks := s.rst.blocks ++ [r] } }
      (t.quiesce b).later

/-! ### Service (R91 to R94, R229, R241, R439, R651, R675, R685, Table 12-18) -/

def State.doEnter (s : State) : Done :=
  if s.execMask ≠ 0 ∨ s.mode.mode = .service then s.no .wrongMode
  else if !s.holdsPipe then s.no .notOwner
  else ((s.enterMode .service 0x0D 0).settle).ok

def State.doExit (s : State) : Done :=
  if s.execMask ≠ 0 then s.no .busy
  else ((s.enterMode (if s.anyFence then .degraded else .ready) 0x0E 0).settle).ok

/-- HOUSE_CLEAR: the latch of R644 clears and the part goes to BOOT (Table 03-2): the image is checked and the Gathers calibrate again
(DEDUCED, log entry 35). -/
def State.doHouseClear (s : State) : Done :=
  let s := { s with rst := { s.rst with latched := false, fcode := 0 }, fw := none }
  let s := { s with gathers := s.gathers.map Gather.idled }
  let s := s.onPair (fun p => { p with arb := .none })
  ((s.enterMode .boot 0x16 0).settle).ok

def State.doFaultAck (s : State) (code : Nat) : Done := ((s.ackFault code).settle).ok

/-- SELFTEST (R92). A test asked for while the Gather's slot is busy waits for it, though no channel executes (DESIGN CHOICE, log entry 47). -/
def State.doSelftest (s : State) (h : CmdHead) (g : GatherNo) (k : Nat) : Done :=
  let now_ : Bool := (s.mode.mode == .ready || s.mode.mode == .service || s.mode.mode == .degraded) && !s.gatExec g && (s.gat g).slot.isNone
  if now_ then (s.onGat g (fun y => { y with slot := some k, slotBy := some h, slotDef := false })).later
  else ((s.onGat g (fun y => { y with deferred := y.deferred ++ [(h, k)] })).refreshMode, { status := .okDeferred })

/-- RESULT of REFCHECK and RETEST. -/
def passRes (fail : Bool) : List (List Byte) := [res32 [fN 16 1 (b2n fail)]]

def State.doRefcheck (s : State) (g : GatherNo) (ppm : Nat) : Done :=
  if ppm ≤ 200 then (((s.onGat g (fun y => { y with refok := true, refHold := false })).syncHold g).refreshMode).okWith (passRes false)
  else
    let s := ((s.onGat g (fun y => { y with refok := false, refHold := true })).merr g 2).fault (uGat g) 5
    (s.syncHold g).okWith (passRes true)

/-- A converter that passed its retest serves again, with its new drift layer (R241): a Punty becomes free, or is seated again on an input that
has no other converter, and a working converter takes its input back from the Punty seated there. -/
def State.unretire (s : State) (g : GatherNo) (conv : Nat) (d : List (Int × Int)) : State :=
  let s := s.onGat g (fun y =>
    { y.setDrift conv (driftOf conv d) with retired := y.retired - (if y.retired.testBit conv then 2 ^ conv else 0) })
  if 16 ≤ conv then
    s.onGat g (fun y => y.onPunty (conv == 17) (fun p =>
      match y.seats.findIdx? (fun k => k == conv) with | some i => p.enter .seated i s.now | none => p.enter .free 0 s.now))
  else
    let back (b : Bool) (s : State) : State :=
      let p := (s.gat g).punty b
      if p.st = .seated ∧ p.input = conv then (s.seat g conv conv).onGat g (fun y => y.onPunty b (fun p => p.enter .free 0 s.now)) else s
    back true (back false s)

def State.doRetest (s : State) (g : GatherNo) (conv : Nat) (d : List (Int × Int)) (noise : List Nat) : Done :=
  if s.calOk g conv d noise then s.stored 2 (fun s => (((s.unretire g conv d).syncHold g).trySwap g).okWith (passRes false))
  else s.okWith (passRes true)

def State.doNvmStat (s : State) : Done := s.okWith [res32 [fN 16 2 s.nvm.spares, fN 18 2 s.nvm.roMask, fN 20 4 s.nvm.maxErase]]

def State.doNvmScrub (s : State) : Done :=
  (s.nvm.marked.foldl State.rewriteRow ({ s with nvm := { s.nvm with marked := [] } })).ok

def State.doSetTimes (s : State) (idle storm : Nat) : Done :=
  let k (s : State) : Done :=
    let s := { s with sessidle := if idle = 0 then s.sessidle else idle, stormquiet := if storm = 0 then s.stormquiet else storm }
    s.okWith [res32 [fN 16 2 s.sessidle, fN 18 2 s.stormquiet]]
  if idle = 0 ∧ storm = 0 then k s else s.stored 1 k

/-! ### CAL_WRITE (R221 to R225) -/

def State.calChanges (s : State) (p : CalPair) : Bool :=
  match chan? p.channel with
  | some c => (s.chan c).meas.pendCoef p.qty != (p.offu, p.gainu, p.qu)
  | none => false

/-- The new coefficients of a channel reach its Gather; one that takes no samples switches at once. -/
def State.calSend (s : State) (c : ChanNo) (gen corr : Nat) (mine : List CalPair) : State :=
  if mine.isEmpty then s
  else
    let s := s.onMeas c (fun m => { m with calNext := some (gen, corr, (match m.calNext with | some x => x.2.2 | none => []) ++ mine) })
    if s.gatOff (gOf c) then s.calSwitch c else s

/-- CAL_WRITE (R223 to R225): NVM holds the coefficients before any of them takes effect; the command completes when every channel that it
changes has switched. -/
def State.doCalWrite (s : State) (h : CmdHead) (pairs : List CalPair) : Done :=
  let ch := pairs.filter s.calChanges
  if ch.isEmpty then s.okWith [res32 [fN 16 1 s.calgenCtr]]
  else
    s.stored 2 (fun s =>
      let gen := nextGen s.calgenCtr
      let cs := allChans.filter (fun c => ch.any (fun p => p.channel == c.val))
      let s : State := { s with calgenCtr := gen, nvm := { s.nvm with calBy := s.nvm.calBy ++ [(h, gen, cs.map Fin.val)] } }
      (s.forChans cs (fun c s => s.calSend c gen h.corr (ch.filter (fun p => p.channel == c.val)))).later)

/-! ### FW_WRITE (R646 to R649) -/

/-- The slot that is not running. -/
def Flash.other (f : Flash) : Nat := 1 - f.running
def Flash.setSlot (f : Flash) (n : Nat) (x : Slot) : Flash := if n = 0 then { f with slot0 := x } else { f with slot1 := x }

def State.doFwData (s : State) (ofs : Nat) (data : List Byte) : Done :=
  let n := s.flash.other
  let img := (s.flash.slot n).image
  let img := img ++ List.replicate (ofs - img.length) 0xFF
  ({ s with flash := s.flash.setSlot n { image := putAt img ofs data } }).ok

def State.doFwFinish (s : State) (sigOk : Bool) : Done :=
  let n := s.flash.other
  if s.imageOk (s.flash.slot n) sigOk then ({ s with flash := { s.flash with primary := n, dseq := s.flash.dseq + 1 } }).ok
  else s.no .sigFailed

def State.doFwAbandon (s : State) : Done := ({ s with flash := s.flash.setSlot s.flash.other {} }).ok

/-! ### REG (R424, Table 12-17) -/

/-- Words that REG may not reach: the Crucible and step memory in either direction, writes to QM descriptors, and writes to NET outside R424
and the PTP settings of Table 15-24. -/
def regBarred (write : Bool) (a : Nat) : Bool :=
  let off := a % 65536
  decide (0x1000000 ≤ a)
    || (write && (decide (0x400000 ≤ a ∧ a < 0x440000)
        || (a / 65536 == 0x32 && !([0x00, 0x04, 0x08, 0x40, 0x44, 0x54, 0x58, 0x5C].contains off))))

/-- Registers that the house writes; a write of any other register is ignored, and shows in the read-back (DEDUCED, log entry 38). -/
def houseWrites (a : Nat) : Bool :=
  let off := a % 65536
  match a / 65536 with
  | 0x01 => off == 8
  | 0x03 => decide (0x12C0 ≤ off ∧ off < 0x12F0)
  | 0x04 => off == 8 || off == 0x0C
  | 0x05 => true
  | 0x06 => true
  | 0x07 => true
  | 0x08 => true
  | 0x09 => (decide (0x40 ≤ off ∧ off ≤ 0x70))
  | 0x20 => true
  | 0x21 => true
  | 0x31 => off == 0 || off == 4
  | 0x32 => true
  | 0x33 => off == 0
  | b => decide (0x10 ≤ b ∧ b < 0x18)

/-- The word that a house write carries to its register: fields that the house does not write keep their value (R561, R664)
(DEDUCED, log entry 38). -/
def State.houseWord (s : State) (a v : Nat) : Nat :=
  if a / 65536 = 0x03 then
    let old := s.reg a
    setBits (setBits old 8 12 (bitsOf v 8 12)) 20 1 (bitsOf v 20 1)
  else if a = 0x050010 then setBits v 0 10 (s.fld a 0 10)
  else v

def State.regWords (s : State) (addr : Nat) : Nat → List (List Byte) × State
  | 0 => ([], s)
  | n + 1 =>
    let r := s.regWords addr n
    let (w, t) := r.2.regRead (addr + 4 * n)
    (r.1 ++ [leBytes 4 w], t)

def State.doRegRead (s : State) (addr n : Nat) : Done :=
  if (List.range n).any (fun i => regBarred false (addr + 4 * i)) then s.noAt .notPermitted 4
  else
    let r := s.regWords addr n
    r.2.okWith [r.1.flatten]

/-- Each word is written and then read back. -/
def State.writeWords (s : State) (addr : Nat) : List Nat → List (List Byte) × State
  | [] => ([], s)
  | v :: l =>
    let s := if houseWrites addr then s.regWrite addr (s.houseWord addr v) else s
    let (w, s) := s.regRead addr
    let r := s.writeWords (addr + 4) l
    (leBytes 4 w :: r.1, r.2)

/-- The NVM region that holds a register the house writes (Table 18-12). -/
def nvmHolds (a : Nat) : Option Nat :=
  if !houseWrites a || a / 65536 == 5 then none
  else if a / 65536 = 9 then some 0
  else if regKept a then some 1
  else none

/-- Register writes; those that NVM holds need its region (R683, R687). -/
def State.doRegWrite (s : State) (addr : Nat) (data : List Nat) : Done :=
  let k (s : State) : Done :=
    let r := s.writeWords addr data
    r.2.okWith [r.1.flatten]
  if (List.range data.length).any (fun i => regBarred true (addr + 4 * i)) then s.noAt .notPermitted 4
  else
    match (List.range data.length).findSome? (fun i => nvmHolds (addr + 4 * i)) with
    | some r => s.stored r k
    | none => k s

end Sys2Proof.Machine
end

