-- ==== Sys2Proof/Machine/Commands.lean ====
section
/-! DEFINITION. A claimed command from its checks to its completion (R30, R34 to R36, R467 to R469), one meaning per command row, and the
rows that end a COMMIT or a self-test. -/

namespace Sys2Proof.Machine

open Sys2Proof

/-! ### The effect of each command -/

/-- A command on a channel; its checks have found the channel. -/
def onChanOf (s : State) (n : Nat) (f : ChanNo → Done) : Done :=
  match chan? n with | some c => f c | none => s.no .badField

/-- A command on a Gather. -/
def onGatOf (s : State) (n : Nat) (f : GatherNo → Done) : Done :=
  match gather? n with | some g => f g | none => s.no .badField

/-- What a command does once its checks 1 to 6 have passed. -/
def State.apply (s : State) (h : CmdHead) (o : CmdOp) : Done :=
  let ch := onChanOf s h.channel
  match o with
  | .identify => s.doIdentify
  | .status => s.doStatus h
  | .qCreate k sz hold d p => s.doQCreate h k sz hold d p
  | .qDelete q => s.doQDelete h q
  | .qBind q => s.doQBind h q
  | .qRoute q m => s.doQRoute q m
  | .keyWrite slot sec => s.doKeyWrite h slot sec
  | .keyClear slot => s.doKeyClear h slot
  | .tenantCreate ttl => s.doTenantCreate ttl
  | .tenantSuspend t => s.doSuspend t
  | .tenantResume t => s.doResumeTenant t
  | .tenantRemove t => s.doRemove t
  | .tenantReenrol t ttl => s.doReenrol t ttl
  | .quotaSet t q => s.doQuota t q
  | .leaseGrant l => s.doGrant h l
  | .leaseModify l => s.doModify h l
  | .leaseEnd => s.doLeaseEnd h
  | .leaseRead => s.doLeaseRead h
  | .tenantRead t => s.doTenantRead t
  | .progWrite steps => ch (fun c => s.doProgWrite c steps)
  | .progLen len => ch (fun c => s.doProgLen c len)
  | .progRead w f n => ch (fun c => s.doProgRead c w f n)
  | .progDiscard => ch (fun c => s.doDiscard c)
  | .commit only => ch (fun c => s.doCommit h c only)
  | .varWrite ps => ch (fun c => s.doVarWrite c ps)
  | .varRead => ch (fun c => s.doVarRead c)
  | .signal sig m => s.doSignal sig m
  | .start e => ch (fun c => s.doStart h c e)
  | .stop => ch (fun c => s.doStop h c)
  | .pause => ch (fun c => s.doPause h c)
  | .resume r => ch (fun c => s.doResume h c r)
  | .clear => ch (fun c => s.doClear h c)
  | .measCfg sr sg rate rng fix => ch (fun c => s.doMeasCfg c sr sg rate rng fix)
  | .measRead => ch (fun c => s.doMeasRead c)
  | .coefRead l q => ch (fun c => s.doCoefRead c l q)
  | .chRead => ch (fun c => s.doChRead c)
  | .estSet f => s.doEstSet h.channel f
  | .ocvTable pts => s.doOcvTable h.channel pts
  | .estRead t => s.doEstRead h.channel t
  | .relearn => s.doRelearn h.channel
  | .counterRead => ch (fun c => s.doCounterRead h c)
  | .meterRead t => s.doMeterRead t
  | .meterClose => s.doMeterClose
  | .meterLimits i e => s.doMeterLimits i e
  | .meterSched f w => s.doMeterSched f w
  | .ledgerRead => s.doLedgerRead h.tenant
  | .ledgerFetch a b m q p => s.doLedgerFetch h a b m q p
  | .ledgerRetain t d => s.doLedgerRetain t d
  | .ledgerSeal => s.doLedgerSeal h
  | .pairRead => s.doPairRead
  | .handover d => s.doHandover h d
  | .timeRead => s.doTimeRead h.tenant
  | .timeSet c d w => s.doTimeSet c d w
  | .summer f => s.doSummer h f
  | .wakeSet w e c p => s.doWakeSet w e c p
  | .calTrim p => s.doCalTrim p
  | .powerRead => s.doPowerRead
  | .ship => s.doShip
  | .warmReset => s.doWarmReset h
  | .blockReset b => s.doBlockReset h b
  | .svcEnter => s.doEnter
  | .svcExit => s.doExit
  | .houseClear => s.doHouseClear
  | .faultAck code => s.doFaultAck code
  | .selftest g k => onGatOf s g (fun g => s.doSelftest h g k)
  | .refcheck g p => onGatOf s g (fun g => s.doRefcheck g p)
  | .retest g v d n => onGatOf s g (fun g => s.doRetest g v d n)
  | .nvmStat => s.doNvmStat
  | .nvmScrub => s.doNvmScrub
  | .setTimes i q => s.doSetTimes i q
  | .calWrite ps => s.doCalWrite h ps
  | .fwData o d => s.doFwData o d
  | .fwFinish ok => s.doFwFinish ok
  | .fwAbandon => s.doFwAbandon
  | .regRead a n => s.doRegRead a n
  | .regWrite a d => s.doRegWrite a d
  | .badTrain _ => s.no .badTrain
  | .badField _ i => s.noAt .badField i
  | .unknown _ => s.no .unknownKind

/-! ### Completions (R30, R34, R35, Table 12-1) -/

/-- A status that a command with an effect completes with. -/
def Status.done : Status → Bool
  | .ok => true | .okDeferred => true | _ => false

/-- The completion of a command, to be written in the order of its queue (DEDUCED, log entry 28). -/
def State.replyOf (s : State) (h : CmdHead) (o : CmdOp) (a : Ans) : Reply :=
  { head := h, opcode := o.opcode, status := a.status, index := a.index, detail := a.detail
    applied := if a.status.done && !o.isRead then s.ptp else 0
    results := a.results, stepref := (s.refOf h.channel).1, calgen := (s.refOf h.channel).2 }

/-- The completion joins those waiting to be written (DEDUCED, log entry 7). -/
def State.complete (s : State) (h : CmdHead) (o : CmdOp) (a : Ans) : State :=
  if a.later then s else { s with inflight := s.inflight ++ [s.replyOf h o a] }

/-- A command that names a channel wakes its estimator (R339). -/
def State.wakeFor (s : State) (h : CmdHead) : State := match chan? h.channel with | some c => s.wakeEst c | none => s

/-- Events that a command causes, and the records it causes that are of no channel's program, carry its CORR (R34, R36): all that stand in the
queues after its effect and did not before. -/
def State.byCommand (t s : State) (corr : Nat) : State :=
  let n := s.recFifo.length
  let t := t.corrFrom s.evtFifo.length corr
  { t with recFifo := t.recFifo.take n ++ (t.recFifo.drop n).map (fun (r : RecIn) => if r.channel < 64 then r else { r with corr := corr }) }

/-- A command runs: the first check that fails gives its status; otherwise its effect and its completion (R467). -/
def State.runCmd (s : State) (h : CmdHead) (o : CmdOp) : State :=
  let s := s.wakeFor h
  match s.refusalOf h o with
  | some (st, i) => s.complete h o { status := st, index := i }
  | none => let d := s.apply h o; (d.1.byCommand s h.corr).complete h o d.2

/-! ### Commands that wait (R293, R396, R469) -/

/-- A COMMIT of the channel waits for its swap. -/
def State.commitOpen (s : State) (n : Nat) : Bool := match chan? n with | some c => (s.chan c).prog.commitBy.isSome | none => false

/-- The commit buffer of a channel's Gather is in use (R293). -/
def State.bufferBusy (s : State) (n : Nat) : Bool :=
  match gather? (n / 8) with
  | some g => (s.gat g).draining || (chansOf g).any (fun c => (s.chan c).prog.commitBy.isSome)
  | none => false

/-- A command waits: behind a waiting command of its queue, behind a changing command of a channel that it changes, or a COMMIT for its
Gather's buffer (DEDUCED, log entry 31). -/
def State.blocked (s : State) (h : CmdHead) (o : CmdOp) : Bool :=
  let mine := s.opChans h o
  s.waiting.any (fun w => (w.1.queue == h.queue && decide (w.1.ticket < h.ticket)) || (s.opChans w.1 w.2).any (fun n => mine.contains n))
    || mine.any s.commitOpen
    || (match o with | .commit false => s.bufferBusy h.channel | _ => false)

/-- A command runs, or waits at the end of the list. -/
def State.runOrWait (s : State) (h : CmdHead) (o : CmdOp) : State :=
  if s.blocked h o then { s with waiting := s.waiting ++ [(h, o)] } else s.runCmd h o

/-- Waiting commands run as far as they can, oldest first. -/
def State.runWaiting (s : State) : State :=
  s.waiting.foldl (fun s w => s.runOrWait w.1 w.2) { s with waiting := [] }

/-- A command taken from its queue: F faults come first (R81), the mode of this moment judges it (R86), it gets its place there and runs or waits (DEDUCED, log entry 31).
While the Steward's work stops nothing is claimed (R39). -/
def State.submit (s : State) (h : CmdHead) (o : CmdOp) : State :=
  if !s.stewardOn then s
  else
    let s := s.fatalFirst.runWaiting
    let n := (match s.queue? h.queue with | some q => q.claims | none => 0)
    let s := s.onQueue h.queue (fun q => { q with claims := q.claims + 1 })
    s.runOrWait { h with ticket := n, judged := some s.mode.mode } o

/-! ### The end of a COMMIT (R293 to R295) -/

/-- COMMIT_SWAP (R39, R293 to R295): at a control-cycle boundary the Gather makes the swap or refuses it with BUSY; the COMMIT completes. -/
def execCommitSwap (c : ChanNo) (s : State) : Out :=
  let p := (s.chan c).prog
  match p.commit, p.commitBy with
  | some m, some h =>
    if !s.stewardOn ∨ s.gatOff (gOf c) then .next s
    else if p.swapBusy m then
      let s := s.onProg c (fun p => { p with commit := none, commitBy := none })
      .next (s.complete h (.commit false) { status := .busy }).runWaiting
    else
      let s := (s.onProg c (fun p => { (p.swapped m) with commit := none, commitBy := none })).onGat (gOf c) (fun y => { y with draining := true })
      let q := (s.chan c).prog
      .next (s.complete h (.commit false) { results := commitRes q.imggen q.live.length }).runWaiting
  | _, _ => .next s.runWaiting

/-- COMMIT_BUFFER_DRAIN (R293): the commit buffer of a Gather is in step memory. -/
def execCommitBufferDrain (g : GatherNo) (s : State) : Out := .next (s.onGat g (fun y => { y with draining := false })).runWaiting

/-! ### Self-tests (R92 to R94, R173) -/

/-- Every channel of a Gather is stopped, paused, faulted, released or in a REST step (R92). -/
def State.gatAtRest (s : State) (g : GatherNo) : Bool :=
  (chansOf g).all (fun c =>
    let x := s.chan c
    !stExec x.loop.st || (x.loop.st == .resting && stepKind (s.chan (s.leaderOf c)).cur == 1))

/-- DEFERRED_SELFTEST_RUN (R92): a deferred test takes the self-test slot. -/
def execDeferredSelftestRun (g : GatherNo) (s : State) : Out :=
  let y := s.gat g
  match y.deferred, y.slot with
  | (h, k) :: rest, none =>
    if s.gatAtRest g then
      .next (s.onGat g (fun y => { y with slot := some k, slotBy := some h, slotDef := true, deferred := rest })).refreshMode
    else .next s
  | _, _ => .next s

/-- What a test found: a channel that fails is fenced, a loop engine that fails fences its Gather (R92, R173). -/
def State.testResult (s : State) (g : GatherNo) (k pass : Nat) (loopOk : Bool) : State :=
  if k = 1 then
    let s := s.onGat g (fun y => { y with ckPass := pass, ckFail := 255 - pass })
    (chansOf g).foldl (fun s c =>
      let ok := pass.testBit (kOf c)
      let s := s.onProt c (fun p => { p with ckPass := ok, ckFail := !ok })
      if ok then s else s.fault (uChan c) 0x0C) s
  else if loopOk then s
  else s.fault (uGat g) 0x09

/-- SELFTEST_SLOT_END (R92, R93): the test has finished: its completion, or the event of a deferred one. -/
def execSelftestSlotEnd (g : GatherNo) (pass : BitVec 8) (loopOk : Bool) (s : State) : Out :=
  let y := s.gat g
  match y.slot, y.slotBy with
  | some k, some h =>
    if s.gatOff g then .next s else
    let m := if k = 1 then pass.toNat else if loopOk then 255 else 0
    let s := (s.testResult g k pass.toNat loopOk).onGat g (fun y => { y with slot := none, slotBy := none, slotDef := false })
    if y.slotDef then .next (s.selftestEvt g h k 0 m (255 - m)) else .next (s.complete h (.selftest g.val k) {})
  | _, _ => .next s

/-! ### A write from inside the part (R27) -/

/-- REGISTER_WRITE (R22, R27): an agent of the fabric writes one word. Outside the fabric map nothing is written and the step ends in a
fault. -/
def execRegisterWrite (addr : Nat) (data : Word32) (s : State) : Out :=
  if inFabric addr then .next (s.regWrite addr data.toNat) else .fault .outsideFabric

/-! ### One meaning per command row -/

/-- IDENTIFY (R11). -/
def execIdentify (h : CmdHead) (s : State) : Out := .next (s.submit h (.identify))

/-- STATUS (R106). -/
def execStatus (h : CmdHead) (s : State) : Out := .next (s.submit h (.status))

/-- Q_CREATE (R376). -/
def execQCreate (h : CmdHead) (qkind size hold : Nat) (dflt : Bool) (pair : Nat) (s : State) : Out := .next (s.submit h (.qCreate qkind size hold dflt pair))

/-- Q_DELETE (R383). -/
def execQDelete (h : CmdHead) (q : Nat) (s : State) : Out := .next (s.submit h (.qDelete q))

/-- Q_BIND (R382). -/
def execQBind (h : CmdHead) (q : Nat) (s : State) : Out := .next (s.submit h (.qBind q))

/-- Q_ROUTE (R472). -/
def execQRoute (h : CmdHead) (q : Nat) (mask : Mask64) (s : State) : Out := .next (s.submit h (.qRoute q mask.toNat))

/-- KEY_WRITE (R432). -/
def execKeyWrite (h : CmdHead) (slot : Nat) (secret : List Byte) (s : State) : Out := .next (s.submit h (.keyWrite slot secret))

/-- KEY_CLEAR (R432). -/
def execKeyClear (h : CmdHead) (slot : Nat) (s : State) : Out := .next (s.submit h (.keyClear slot))

/-- TENANT_CREATE (R429). -/
def execTenantCreate (h : CmdHead) (ttl : Nat) (s : State) : Out := .next (s.submit h (.tenantCreate ttl))

/-- TENANT_SUSPEND (R439). -/
def execTenantSuspend (h : CmdHead) (t : Nat) (s : State) : Out := .next (s.submit h (.tenantSuspend t))

/-- TENANT_RESUME (R426). -/
def execTenantResume (h : CmdHead) (t : Nat) (s : State) : Out := .next (s.submit h (.tenantResume t))

/-- TENANT_REMOVE (R449). -/
def execTenantRemove (h : CmdHead) (t : Nat) (s : State) : Out := .next (s.submit h (.tenantRemove t))

/-- TENANT_REENROL (R491). -/
def execTenantReenrol (h : CmdHead) (t ttl : Nat) (s : State) : Out := .next (s.submit h (.tenantReenrol t ttl))

/-- QUOTA_SET (R447). -/
def execQuotaSet (h : CmdHead) (t : Nat) (q : QuotaFields) (s : State) : Out := .next (s.submit h (.quotaSet t q))

/-- LEASE_GRANT (R444). -/
def execLeaseGrant (h : CmdHead) (l : LeaseFields) (s : State) : Out := .next (s.submit h (.leaseGrant l))

/-- LEASE_MODIFY (R445). -/
def execLeaseModify (h : CmdHead) (l : LeaseFields) (s : State) : Out := .next (s.submit h (.leaseModify l))

/-- LEASE_END (R446). -/
def execLeaseEnd (h : CmdHead) (s : State) : Out := .next (s.submit h (.leaseEnd))

/-- LEASE_READ (R450). -/
def execLeaseRead (h : CmdHead) (s : State) : Out := .next (s.submit h (.leaseRead))

/-- TENANT_READ (R426). -/
def execTenantRead (h : CmdHead) (t : Nat) (s : State) : Out := .next (s.submit h (.tenantRead t))

/-- PROG_WRITE (R291). -/
def execProgWrite (h : CmdHead) (steps : List (Nat × StepWord)) (s : State) : Out := .next (s.submit h (.progWrite steps))

/-- PROG_LEN (R291). -/
def execProgLen (h : CmdHead) (len : Nat) (s : State) : Out := .next (s.submit h (.progLen len))

/-- PROG_READ (R252). -/
def execProgRead (h : CmdHead) (which first count : Nat) (s : State) : Out := .next (s.submit h (.progRead which first count))

/-- PROG_DISCARD (R291). -/
def execProgDiscard (h : CmdHead) (s : State) : Out := .next (s.submit h (.progDiscard))

/-- COMMIT (R292). -/
def execCommit (h : CmdHead) (s : State) : Out := .next (s.submit h (.commit false))

/-- COMMIT_CHECKONLY (R292). -/
def execCommitCheckonly (h : CmdHead) (s : State) : Out := .next (s.submit h (.commit true))

/-- VAR_WRITE (R274). -/
def execVarWrite (h : CmdHead) (pairs : List (Nat × Word32)) (s : State) : Out := .next (s.submit h (.varWrite (pairs.map (fun p => (p.1, p.2.toNat)))))

/-- VAR_READ (R274). -/
def execVarRead (h : CmdHead) (s : State) : Out := .next (s.submit h (.varRead))

/-- SIGNAL (R269). -/
def execSignal (h : CmdHead) (sig : Nat) (mask : Mask64) (s : State) : Out := .next (s.submit h (.signal sig mask.toNat))

/-- START (R138). -/
def execStart (h : CmdHead) (entry : Nat) (s : State) : Out := .next (s.submit h (.start entry))

/-- STOP (R473). -/
def execStop (h : CmdHead) (s : State) : Out := .next (s.submit h (.stop))

/-- PAUSE (R290). -/
def execPause (h : CmdHead) (s : State) : Out := .next (s.submit h (.pause))

/-- RESUME (R102). -/
def execResume (h : CmdHead) (restart : Nat) (s : State) : Out := .next (s.submit h (.resume restart))

/-- CLEAR (R172). -/
def execClear (h : CmdHead) (s : State) : Out := .next (s.submit h (.clear))

/-- MEAS_CFG (R251). -/
def execMeasCfg (h : CmdHead) (setRate setRange : Bool) (rate rng fix : Nat) (s : State) : Out := .next (s.submit h (.measCfg setRate setRange rate rng fix))

/-- MEAS_READ (R249). -/
def execMeasRead (h : CmdHead) (s : State) : Out := .next (s.submit h (.measRead))

/-- COEF_READ (R227). -/
def execCoefRead (h : CmdHead) (layer qty : Nat) (s : State) : Out := .next (s.submit h (.coefRead layer qty))

/-- CH_READ (R473). -/
def execChRead (h : CmdHead) (s : State) : Out := .next (s.submit h (.chRead))

/-- EST_SET (R329). -/
def execEstSet (h : CmdHead) (f : EstFields) (s : State) : Out := .next (s.submit h (.estSet f))

/-- OCV_TABLE (R329). -/
def execOcvTable (h : CmdHead) (pts : List (Nat × Int)) (s : State) : Out := .next (s.submit h (.ocvTable pts))

/-- EST_READ (R339). -/
def execEstRead (h : CmdHead) (table : Bool) (s : State) : Out := .next (s.submit h (.estRead table))

/-- RELEARN (R341). -/
def execRelearn (h : CmdHead) (s : State) : Out := .next (s.submit h (.relearn))

/-- COUNTER_READ (R360). -/
def execCounterRead (h : CmdHead) (s : State) : Out := .next (s.submit h (.counterRead))

/-- METER_READ (R363). -/
def execMeterRead (h : CmdHead) (t : Nat) (s : State) : Out := .next (s.submit h (.meterRead t))

/-- METER_CLOSE (R369). -/
def execMeterClose (h : CmdHead) (s : State) : Out := .next (s.submit h (.meterClose))

/-- METER_LIMITS (R374). -/
def execMeterLimits (h : CmdHead) (imp exp : Word32) (s : State) : Out := .next (s.submit h (.meterLimits imp.toNat exp.toNat))

/-- METER_SCHED (R364). -/
def execMeterSched (h : CmdHead) (first : Nat) (words : List Word32) (s : State) : Out := .next (s.submit h (.meterSched first (words.map (fun w => w.toNat))))

/-- LEDGER_READ (R515). -/
def execLedgerRead (h : CmdHead) (s : State) : Out := .next (s.submit h (.ledgerRead))

/-- LEDGER_FETCH (R515). -/
def execLedgerFetch (h : CmdHead) (from_ to_ : Nat) (mask : Mask64) (queue : Nat) (periodic : Bool) (s : State) : Out := .next (s.submit h (.ledgerFetch from_ to_ mask.toNat queue periodic))

/-- LEDGER_RETAIN (R505). -/
def execLedgerRetain (h : CmdHead) (t days : Nat) (s : State) : Out := .next (s.submit h (.ledgerRetain t days))

/-- LEDGER_SEAL (R496). -/
def execLedgerSeal (h : CmdHead) (s : State) : Out := .next (s.submit h (.ledgerSeal))

/-- PAIR_READ (R551). -/
def execPairRead (h : CmdHead) (s : State) : Out := .next (s.submit h (.pairRead))

/-- HANDOVER (R541). -/
def execHandover (h : CmdHead) (deadline : Nat) (s : State) : Out := .next (s.submit h (.handover deadline))

/-- TIME_READ (R559). -/
def execTimeRead (h : CmdHead) (s : State) : Out := .next (s.submit h (.timeRead))

/-- TIME_SET (R557). -/
def execTimeSet (h : CmdHead) (cal : CalTime) (date wday : Bool) (s : State) : Out := .next (s.submit h (.timeSet cal date wday))

/-- SUMMER_FORWARD (R558). -/
def execSummerForward (h : CmdHead) (s : State) : Out := .next (s.submit h (.summer true))

/-- SUMMER_BACK (R558). -/
def execSummerBack (h : CmdHead) (s : State) : Out := .next (s.submit h (.summer false))

/-- WAKE_SET (R565). -/
def execWakeSet (h : CmdHead) (which : Nat) (en : Bool) (cal : CalTime) (period : Nat) (s : State) : Out := .next (s.submit h (.wakeSet which en cal period))

/-- CAL_TRIM (R561). -/
def execCalTrim (h : CmdHead) (pulses : Int) (s : State) : Out := .next (s.submit h (.calTrim pulses))

/-- POWER_READ (R615). -/
def execPowerRead (h : CmdHead) (s : State) : Out := .next (s.submit h (.powerRead))

/-- POWER_CTL_SHIP (R614). -/
def execPowerCtlShip (h : CmdHead) (s : State) : Out := .next (s.submit h (.ship))

/-- POWER_CTL_WARM_RESET (R640). -/
def execPowerCtlWarmReset (h : CmdHead) (s : State) : Out := .next (s.submit h (.warmReset))

/-- POWER_CTL_BLOCK_RESET (R654). -/
def execPowerCtlBlockReset (h : CmdHead) (block : Nat) (s : State) : Out := .next (s.submit h (.blockReset block))

/-- ENTER (R91). -/
def execEnter (h : CmdHead) (s : State) : Out := .next (s.submit h (.svcEnter))

/-- EXIT (R91). -/
def execExit (h : CmdHead) (s : State) : Out := .next (s.submit h (.svcExit))

/-- HOUSE_CLEAR (R644). -/
def execHouseClear (h : CmdHead) (s : State) : Out := .next (s.submit h (.houseClear))

/-- FAULT_ACK (R675). -/
def execFaultAck (h : CmdHead) (code : Nat) (s : State) : Out := .next (s.submit h (.faultAck code))

/-- SELFTEST (R92). -/
def execSelftest (h : CmdHead) (g kind : Nat) (s : State) : Out := .next (s.submit h (.selftest g kind))

/-- REFCHECK (R229). -/
def execRefcheck (h : CmdHead) (g ppm : Nat) (s : State) : Out := .next (s.submit h (.refcheck g ppm))

/-- RETEST (R241). -/
def execRetest (h : CmdHead) (g conv : Nat) (p : CalPoints) (s : State) : Out := .next (s.submit h (.retest g conv p.d p.noise))

/-- NVM_STAT (R686). -/
def execNvmStat (h : CmdHead) (s : State) : Out := .next (s.submit h (.nvmStat))

/-- NVM_SCRUB (R685). -/
def execNvmScrub (h : CmdHead) (s : State) : Out := .next (s.submit h (.nvmScrub))

/-- SET_TIMES (R439). -/
def execSetTimes (h : CmdHead) (idle storm : Nat) (s : State) : Out := .next (s.submit h (.setTimes idle storm))

/-- CAL_WRITE (R224). -/
def execCalWrite (h : CmdHead) (pairs : List CalPair) (s : State) : Out := .next (s.submit h (.calWrite pairs))

/-- FW_WRITE_DATA (R646). -/
def execFwWriteData (h : CmdHead) (offset : Nat) (data : List Byte) (s : State) : Out := .next (s.submit h (.fwData offset data))

/-- FW_WRITE_FINISH (R650). -/
def execFwWriteFinish (h : CmdHead) (sigOk : Bool) (s : State) : Out := .next (s.submit h (.fwFinish sigOk))

/-- FW_WRITE_ABANDON (R646). -/
def execFwWriteAbandon (h : CmdHead) (s : State) : Out := .next (s.submit h (.fwAbandon))

/-- REG_READ (R27). -/
def execRegRead (h : CmdHead) (addr count : Nat) (s : State) : Out := .next (s.submit h (.regRead addr count))

/-- REG_WRITE (R27). -/
def execRegWrite (h : CmdHead) (addr : Nat) (data : List Word32) (s : State) : Out := .next (s.submit h (.regWrite addr (data.map (fun w => w.toNat))))

end Sys2Proof.Machine
end

