-- ==== Sys2Proof/Machine/Claim.lean ====
section
/-! DEFINITION. From a command ring to a command: the payload layouts of Tables 12-3 to 12-18, the completion slots that a command needs,
and the claim (R89, R395, R396, R465). -/

namespace Sys2Proof.Machine

open Sys2Proof

/-! ### Payload layouts; offsets count on from entry 0, 48 bytes an entry -/

/-- Lease fields (Table 12-5). -/
def parseLease (p : List Byte) : LeaseFields :=
  { members := numAt p 0 1, track := numAt p 1 1, tenant := numAt p 2 1, ichg := numAt p 4 4, idis := numAt p 8 4, vmin := intAt p 12 4
    vmax := intAt p 16 4, emax := numAt p 20 4, gpioev := numAt p 24 2, shares := (List.range 8).map (fun k => numAt p (28 + 2 * k) 2) }

/-- CALTIME (Table 12-14). -/
def parseCal (p : List Byte) (o : Nat) : CalTime :=
  { year := numAt p o 2, month := numAt p (o + 2) 1, day := numAt p (o + 3) 1, hour := numAt p (o + 4) 1, minute := numAt p (o + 5) 1
    second := numAt p (o + 6) 1, wday := bitsOf (numAt p (o + 7) 1) 0 3, summer := bitOf (numAt p (o + 7) 1) 3 }

/-- EST_SET (Table 12-10). -/
def parseEst (p : List Byte) : EstFields :=
  { mask := numAt p 0 1, cnom := numAt p 4 4, slopemin := numAt p 8 4, ocvrest := numAt p 12 4, rate := numAt p 16 2, kskip := numAt p 18 2
    kmin := numAt p 20 2, estrec := numAt p 22 2 }

/-- QUOTA_SET (Table 12-4). -/
def parseQuota (p : List Byte) : QuotaFields :=
  { sessions := numAt p 4 2, queues := numAt p 6 2, ringkib := numAt p 8 4, recrate := numAt p 12 4, evrate := numAt p 16 4 }

/-- TCNT of an OCV table with a number of points (Table 12-10). -/
def ocvEntries (npts : Nat) : Nat := if npts ≤ 5 then 1 else 1 + (npts - 5 + 5) / 6

/-- KEY (Table 12-3) (DEDUCED, log entry 20). -/
def parseKey (p : List Byte) : CmdOp :=
  let slot := numAt p 0 1
  match numAt p 1 1 with
  | 0 => .keyWrite slot (sliceB p 16 32)
  | 1 => .keyClear slot
  | _ => .badField 0x07 (if slot ≤ 1 then 1 else 0)

/-- TENANT_STATE (Table 12-4) (DEDUCED, log entry 20). -/
def parseTenant (p : List Byte) : CmdOp :=
  let t := numAt p 0 1
  match numAt p 1 1 with
  | 0 => .tenantSuspend t
  | 1 => .tenantResume t
  | 2 => .tenantRemove t
  | 3 => .tenantReenrol t (numAt p 2 2)
  | _ => .badField 0x09 (if 1 ≤ t ∧ t ≤ 253 then 1 else 0)

/-- SERVICE (Table 12-18); `f` is what a reference check or a retest finds (DEDUCED, log entry 20). -/
def parseService (p : List Byte) (f : Finding) : CmdOp :=
  match numAt p 0 1 with
  | 0 => .svcEnter
  | 1 => .svcExit
  | 2 => .houseClear
  | 3 => .faultAck (numAt p 2 2)
  | 4 => .selftest (numAt p 2 1) (numAt p 3 1)
  | 5 => .refcheck (numAt p 2 1) f.ppm
  | 6 => .retest (numAt p 2 1) (numAt p 3 1) f.drift f.noise
  | 7 => .nvmStat
  | 8 => .nvmScrub
  | 9 => .setTimes (numAt p 2 2) (numAt p 4 2)
  | _ => .badField 0x3C 0

/-- POWER_CTL (Table 12-16) (DEDUCED, log entry 20). -/
def parsePower (p : List Byte) : CmdOp :=
  match numAt p 0 1 with
  | 0 => .ship
  | 1 => .warmReset
  | 2 => .blockReset (numAt p 1 1)
  | _ => .badField 0x3A 0

/-- FW_WRITE (Table 12-17): n entries; `sigOk` is what the signatures of a finish give (DEDUCED, log entry 20). -/
def parseFw (p : List Byte) (n : Nat) (sigOk : Bool) : CmdOp :=
  match numAt p 0 1 with
  | 0 => .fwData (numAt p 4 4) ((List.range n).map (fun t => sliceB p (48 * t + 16) 32)).flatten
  | 1 => .fwFinish sigOk
  | 2 => .fwAbandon
  | _ => .badField 0x3E 0

/-- REG (Table 12-17) (DEDUCED, log entry 20). -/
def parseReg (p : List Byte) : CmdOp :=
  match numAt p 0 1 with
  | 0 => .regRead (numAt p 4 4) (numAt p 1 1)
  | 1 => .regWrite (numAt p 4 4) ((List.range (numAt p 1 1)).map (fun i => numAt p (8 + 4 * i) 4))
  | _ => .badField 0x3F 0

/-- Program, channel and measurement families (Tables 12-6 to 12-9). -/
def parseChan (op : Nat) (p : List Byte) (n : Nat) : CmdOp :=
  match op with
  | 0x10 => .progWrite ((List.range n).map (fun t => (numAt p (48 * t) 2, BitVec.ofNat 256 (numAt p (48 * t + 16) 32))))
  | 0x11 => .progLen (numAt p 0 2)
  | 0x12 => .progRead (numAt p 0 1) (numAt p 2 2) (numAt p 4 1)
  | 0x13 => .progDiscard
  | 0x14 => .commit (bitOf (numAt p 0 1) 0)
  | 0x15 => .varWrite ((List.range (numAt p 0 1)).map (fun i => (numAt p (8 + 8 * i) 4, numAt p (12 + 8 * i) 4)))
  | 0x16 => .varRead
  | 0x17 => .signal (numAt p 0 1) (numAt p 8 8)
  | 0x18 => .start (numAt p 0 2)
  | 0x19 => .stop
  | 0x1A => .pause
  | 0x1B => .resume (numAt p 0 1)
  | 0x1C => .clear
  | 0x1E => .measCfg (bitOf (numAt p 0 1) 0) (bitOf (numAt p 0 1) 1) (numAt p 1 1) (numAt p 2 1) (numAt p 3 1)
  | 0x1F => .measRead
  | 0x20 => .coefRead (numAt p 0 1) (numAt p 1 1)
  | 0x21 => .chRead
  | _ => .unknown op

/-- Session and lease families (Tables 12-3 and 12-4). -/
def parseHouse (op : Nat) (p : List Byte) : CmdOp :=
  match op with
  | 0x01 => .identify
  | 0x02 => .status
  | 0x03 => .qCreate (numAt p 0 1) (numAt p 1 1) (numAt p 2 1) (bitOf (numAt p 3 1) 0) (numAt p 4 2)
  | 0x04 => .qDelete (numAt p 0 2)
  | 0x05 => .qBind (numAt p 0 2)
  | 0x06 => .qRoute (numAt p 0 2) (numAt p 8 8)
  | 0x07 => parseKey p
  | 0x08 => .tenantCreate (numAt p 0 2)
  | 0x09 => parseTenant p
  | 0x0A => .quotaSet (numAt p 0 1) (parseQuota p)
  | 0x0B => .leaseGrant (parseLease p)
  | 0x0C => .leaseModify (parseLease p)
  | 0x0D => .leaseEnd
  | 0x0E => .leaseRead
  | 0x0F => .tenantRead (numAt p 0 1)
  | _ => .unknown op

/-- Estimation and meter families (Tables 12-10 and 12-11). -/
def parseMeter (op : Nat) (p : List Byte) (n : Nat) : CmdOp :=
  match op with
  | 0x22 => .estSet (parseEst p)
  | 0x23 =>
    let k := numAt p 0 1
    if 2 ≤ k ∧ k ≤ 32 ∧ n ≠ ocvEntries k then .badTrain 0x23
    else .ocvTable ((List.range k).map (fun i => (numAt p (pointOfs i) 4, intAt p (pointOfs i + 4) 4)))
  | 0x24 => .estRead (bitOf (numAt p 0 1) 0)
  | 0x25 => .relearn
  | 0x27 => .counterRead
  | 0x28 => .meterRead (numAt p 0 1)
  | 0x29 => .meterClose
  | 0x2A => .meterLimits (numAt p 0 4) (numAt p 4 4)
  | 0x2B => .meterSched (numAt p 0 1) ((List.range (numAt p 1 1)).map (fun i => numAt p (4 + 4 * i) 4))
  | _ => .unknown op

/-- Ledger, pair, time, power and service families (Tables 12-12 to 12-17). -/
def parseSys (op : Nat) (p : List Byte) (n : Nat) (f : Finding) : CmdOp :=
  match op with
  | 0x2C => .ledgerRead
  | 0x2D => .ledgerFetch (numAt p 0 8) (numAt p 8 8) (numAt p 16 8) (numAt p 24 2) (bitOf (numAt p 26 1) 0)
  | 0x2E => .ledgerRetain (numAt p 0 1) (numAt p 4 4)
  | 0x2F => .ledgerSeal
  | 0x30 => .pairRead
  | 0x31 => .handover (numAt p 0 4)
  | 0x34 => .timeRead
  | 0x35 => .timeSet (parseCal p 0) (bitOf (numAt p 8 1) 0) (bitOf (numAt p 8 1) 1)
  | 0x36 => if numAt p 0 1 ≤ 1 then .summer (numAt p 0 1 == 1) else .badField 0x36 0
  | 0x37 => .wakeSet (numAt p 0 1) (bitOf (numAt p 1 1) 0) (parseCal p 4) (numAt p 12 4)
  | 0x38 => .calTrim (intAt p 0 2)
  | 0x39 => .powerRead
  | 0x3A => parsePower p
  | 0x3C => parseService p f
  | 0x3D => .calWrite ((List.range n).map (fun t =>
      { channel := numAt p (48 * t) 1, qty := numAt p (48 * t + 1) 1, offu := intAt p (48 * t + 4) 4, gainu := intAt p (48 * t + 8) 4, qu := intAt p (48 * t + 12) 4 }))
  | 0x3E => parseFw p n f.sigOk
  | 0x3F => parseReg p
  | _ => .unknown op

/-- The TCNT column of each command: the most entries that its train may have (R465). -/
def tcntMax (op : Nat) : Nat :=
  match op with
  | 0x10 => 15 | 0x23 => 6 | 0x3D => 15 | 0x3E => 15 | _ => 1

/-- A command train of n entries, as its payloads spell it (DEDUCED, log entry 20). -/
def parseOp (op : Nat) (p : List Byte) (n : Nat) (f : Finding) : CmdOp :=
  if !opAssigned op then .unknown op
  else if tcntMax op < n then .badTrain op
  else if op ≤ 0x0F then parseHouse op p
  else if op ≤ 0x21 then parseChan op p n
  else if op ≤ 0x2B then parseMeter op p n
  else parseSys op p n f

/-! ### The claim -/

/-- Completion slots that a command needs (R395). -/
def State.slotsFor (s : State) (h : CmdHead) (o : CmdOp) : Nat :=
  match o with
  | .progRead _ _ n => Nat.max 1 (Nat.min 15 n)
  | .varRead => 4
  | .counterRead => 4
  | .meterRead _ => 9
  | .leaseRead => 2
  | .tenantRead _ => 2
  | .powerRead => 2
  | .ledgerRead => if h.tenant = 0 then 2 else 1
  | .estRead t => if t then 3 + ((s.estAt h.channel).table.length + 3) / 4 else 3
  | _ => 1

/-- The completion queue of a command queue. -/
def State.replyQueue (s : State) (q : Queue) : Option Queue := q.pair.bind s.queue?

/-- A command queue has a train that can be claimed (R395) (DEDUCED, log entry 31). -/
def State.claimable (s : State) (q : Queue) : Bool :=
  q.kind == .command && !q.closing && !q.ring.isEmpty && (match s.replyQueue q with | some c => decide (15 ≤ c.free) | none => false)

/-- The oldest train of a queue carries URGENT. -/
def Queue.urgentHead (q : Queue) : Bool := match q.ring.head? with | some e => e.tag.urgent | none => false

/-- URGENT first (R396): no other claimable queue begins with an urgent train while this one does not (DEDUCED, log entry 31). -/
def State.claimTurn (s : State) (q : Queue) : Bool := q.urgentHead || !(s.queues.any (fun x => s.claimable x && x.urgentHead))

/-- Eloawen runs (R39, R89): an image has been accepted and the Steward's work goes on (DEDUCED, log entry 31). -/
def State.eloawenRuns (s : State) : Bool := s.fw.isSome && s.stewardOn

/-- The head of a command, from its tag and its queue (R34, R382). -/
def claimHead (q : Queue) (t : Tag) : CmdHead :=
  { tenant := t.tenant, queue := q.num, session := q.bind, channel := t.channel, corr := t.corr, urgent := t.urgent }

/-- The oldest train of a command queue is claimed (R379, R395): its slots are free, the completion's slots are reserved, and the command
runs or waits. -/
def State.claim (s : State) (q : Queue) (e : Entry) (f : Finding) : State :=
  let n := Nat.max 1 e.tag.tcnt
  let o := parseOp e.tag.kind ((q.ring.take n).map Entry.payload).flatten n f
  let h := claimHead q e.tag
  let need := s.slotsFor h o
  let s := s.onQueue q.num (fun x => { x with ring := x.ring.drop n, tail := (x.tail + n) % x.cap, creditDue := true })
  let s := match q.pair with
    | some c => s.onQueue c (fun x => { x with reserved := x.reserved + need })
    | none => s
  s.submit { h with resv := need } o

/-- COMMAND_CLAIM (R395, R396, R89): Eloawen claims the oldest train of command queue q (DEDUCED, log entry 31). -/
def execCommandClaim (q : Nat) (f : Finding) (s : State) : Out :=
  match s.queue? q with
  | some x =>
    match x.ring.head? with
    | some e => if s.eloawenRuns ∧ s.claimable x ∧ s.claimTurn x then .next (s.claim x e f) else .next s
    | none => .next s
  | none => .next s

end Sys2Proof.Machine
end

