-- ==== Sys2Proof/Machine/LocalPort.lean ====
section
/-! DEFINITION. The local management port (R411 to R416). -/

namespace Sys2Proof.Machine

open Sys2Proof

/-- LSTATUS values (R413). -/
def lsOk : Nat := 0
def lsCheck : Nat := 1
def lsAddress : Nat := 2
def lsDenied : Nat := 3
def lsFull : Nat := 4

/-- CHK: the bytes and it sum to 0xA5 modulo 256 (R412). -/
def chkByte (l : List Byte) : Byte := BitVec.ofNat 8 (0xA5 + 256 - byteSum l)

/-- The frame ends: its LSTATUS, the bytes the part sent, and the queue of a QGET (R413). -/
def State.frameEnd (s : State) (st : Nat) (out : List Byte) (get : Option Nat) : State :=
  { s with localPort := { s.localPort with lstatus := st, getQ := get, out } }

/-! ### Crossing times (R705), in ns -/

/-- A frame begins before the last WRITE or QPUT has crossed: it is ignored. -/
def State.early (s : State) : Bool := decide (s.now < s.localPort.busyTill)

/-- An ignored frame: LMISO stays high impedance and LSTATUS keeps its value. -/
def State.frameIgnored (s : State) : State := { s with localPort := { s.localPort with out := [] } }

/-- The words of a frame lie in the KEEP block. -/
def inKeep (addr : Nat) : Bool := addr / 65536 == 5

/-- tRD of a READ and tWR of a WRITE of `count` words. -/
def crossNs (addr count : Nat) : Nat := if inKeep addr then count * 100000 else 2000 + count * 100

/-- tWR runs from the end of a WRITE or QPUT. -/
def State.crossing (s : State) (ns : Nat) : State := { s with localPort := { s.localPort with busyTill := s.now + ns } }

/-- The blocks that READ and WRITE reach (R414). -/
def localBlock (a : Nat) : Bool :=
  match a / 65536 with
  | 0x00 => true | 0x04 => true | 0x05 => true | 0x06 => true | 0x07 => true | 0x08 => true | _ => false

/-- The words of a frame lie in the blocks, at addresses of words (DEDUCED, log entry 36). -/
def localReach (addr count : Nat) : Bool := addr % 4 == 0 && (List.range count).all (fun i => localBlock (addr + 4 * i))

/-- COUNT of a READ or WRITE (Table 10-8). -/
def localCount (n : Nat) : Bool := decide (1 ≤ n ∧ n ≤ 64)

/-- n bytes that the spec does not give. -/
def State.freeBytes (s : State) : Nat → List Byte × State
  | 0 => ([], s)
  | n + 1 =>
    let (v, t) := s.draw
    let r := t.freeBytes n
    (BitVec.ofNat 8 v :: r.1, r.2)

/-- How many of n bytes were clocked before `trd` had passed, from the idle time and the time of a byte. -/
def FrameClk.early (k : FrameClk) (trd n : Nat) : Nat :=
  if trd ≤ k.gap then 0 else if k.byte = 0 then n else Nat.min n ((trd - k.gap + k.byte - 1) / k.byte)

/-- The data bytes and CHK that the part sends after `head` (R412); those clocked before tRD are undefined, and their CHK does not match
(R705): free values. -/
def State.sends (s : State) (head d : List Byte) (k : FrameClk) (trd : Nat) : List Byte × State :=
  let n := k.early trd d.length
  let chk := chkByte (head ++ d)
  if n = 0 then (d ++ [chk], s)
  else
    let r := s.freeBytes n
    let (x, t) := r.2.draw
    let d := r.1 ++ d.drop n
    (d ++ [chkByte (head ++ d) + BitVec.ofNat 8 (1 + x % 255)], t)

/-- The clock of a frame in which the part sends is kept: a STATUS frame is clocked like the one before it (DESIGN CHOICE, log entry 36). -/
def State.clocked (s : State) (k : FrameClk) : State := { s with localPort := { s.localPort with clk := k } }

/-- LOCAL_READ (R412 to R414, R705): the words and CHK; a frame without a clock was not whole (DEDUCED, log entry 36). -/
def execLocalRead (addr count : Nat) (k : Option FrameClk) (s : State) : Out :=
  if !s.localOn then .next s
  else if s.early then .next s.frameIgnored
  else match k with
  | none => .next (s.frameEnd lsCheck [] none)
  | some k =>
    let s := s.clocked k
    let head : List Byte := [1] ++ leBytes 4 addr ++ leBytes 1 count
    if !localCount count then .next (s.frameEnd lsCheck [] none)
    else if localReach addr count then
      let r := s.regWords addr count
      let o := r.2.sends head r.1.flatten k (crossNs addr count)
      .next (o.2.frameEnd lsOk o.1 none)
    else
      let r := s.freeBytes (4 * count)
      let o := r.2.sends head r.1 k (crossNs addr count)
      .next (o.2.frameEnd lsAddress o.1 none)

/-- May the local port write this register (R561, R580, R617, R637, R688)? A write of a read-only register of SYS is ignored under R27
(DEDUCED, log entry 36). -/
def localMay (a : Nat) : Bool :=
  let off := a % 65536
  match a / 65536 with
  | 0x00 => true
  | 0x04 => off == 8
  | 0x05 => off != 0x10
  | 0x07 => off == 0x1C || off == 0x20
  | 0x08 => decide (off < 0x400) && (off % 0x100 == 0x04 || decide (0x20 ≤ off % 0x100 ∧ off % 0x100 < 0x40) || off % 0x100 == 0x40 || off % 0x100 == 0x80
      || off % 0x100 == 0x84)
  | _ => false

/-- The words of a WRITE, one after the other; the flag says that one was denied. -/
def State.localWords (s : State) (addr : Nat) : List Word32 → State × Bool
  | [] => (s, false)
  | w :: l =>
    let s := if localMay addr then s.regWrite addr w.toNat else s
    let r := s.localWords (addr + 4) l
    (r.1, r.2 || !localMay addr)

/-- LOCAL_WRITE (R413, R414, R705) (DEDUCED, log entry 36). -/
def execLocalWrite (addr : Nat) (data : List Word32) (chkOk : Bool) (s : State) : Out :=
  if !s.localOn then .next s
  else if s.early then .next s.frameIgnored
  else
    let t := s.crossing (crossNs addr data.length)
    if !chkOk ∨ !localCount data.length then .next (t.frameEnd lsCheck [] none)
    else if !localReach addr data.length then .next (t.frameEnd lsAddress [] none)
    else
      let r := t.localWords addr data
      .next (r.1.frameEnd (if r.2 then lsDenied else lsOk) [] none)

/-- The slot that a QGET read is freed (R379, R413). -/
def State.freeGet (s : State) (q : Nat) : State := s.onQueue q (fun x => x.ack ((x.cack + 1) % 65536) s.now)

/-- LOCAL_STATUS (R412, R413, R705): LSTATUS of the last frame; one that reads 0x00 frees the slot of a QGET before it. The next frame after it
finds this frame's own, OK (DEDUCED, log entry 36). -/
def execLocalStatus (s : State) : Out :=
  if !s.localOn then .next s
  else if s.early then .next s.frameIgnored
  else
    let o := s.sends [3] (leBytes 1 s.localPort.lstatus) s.localPort.clk 500
    let t := match s.localPort.getQ with
      | some q => if o.1.headD 0 = 0 then o.2.freeGet q else o.2
      | none => o.2
    .next (t.frameEnd lsOk o.1 none)

/-- A refusal of the local port: its completion goes to queue 1 (R415). -/
def State.refuseLocal (s : State) (e : Entry) (n : Nat) (st : Status) (ls : Nat) : State :=
  match s.refuseTrain 0 e n st with
  | some t => t.frameEnd ls [] none
  | none => s.frameEnd lsFull [] none

/-- QPUT (R413, R415, R705): one train for queue 0; its first SEQ is not compared with CACK (DEDUCED, log entry 36). -/
def execQput (entries : List RawEntry) (chkOk : Bool) (s : State) : Out :=
  if !s.localOn then .next s
  else if s.early then .next s.frameIgnored
  else
    let s := s.crossing (2000 + entries.length * 100)
    if !chkOk then .next (s.frameEnd lsCheck [] none)
    else match entries, s.queue? 0 with
    | b :: _, some q =>
      if 15 < entries.length then .next (s.frameEnd lsCheck [] none)
      else
        let e := parseEntry b
        let st := trainCheck entries 0
        if st ≠ .ok then .next (s.refuseLocal e entries.length st lsOk)
        else if q.free < entries.length then .next (s.refuseLocal e entries.length .quota lsFull)
        else .next ((s.placeTrain 0 (entries.map parseEntry)).frameEnd lsOk [] none)
    | _, _ => .next (s.frameEnd lsCheck [] none)

/-- QGET (R412, R413, R705): the oldest entry of local queue 1, 2 or 3, or zeros when it is empty; the slot is freed by the next good STATUS
(DEDUCED, log entry 36). -/
def execQget (f : GetFrame) (s : State) : Out :=
  if !s.localOn then .next s
  else if s.early then .next s.frameIgnored
  else
    let q := f.q
    let k := f.clk
    let s := s.clocked k
    let head : List Byte := [5] ++ leBytes 4 q
    if q < 1 ∨ 3 < q then
      let r := s.freeBytes 64
      let o := r.2.sends head r.1 k 2000
      .next (o.2.frameEnd lsAddress o.1 none)
    else
      match (s.queue? q).bind (fun x => x.ring.head?) with
      | some e => let o := s.sends head (entryBytes e) k 2000; .next (o.2.frameEnd lsOk o.1 (some q))
      | none => let o := s.sends head (zeros 64) k 2000; .next (o.2.frameEnd lsOk o.1 none)

end Sys2Proof.Machine
end

