-- ==== Sys2Proof/Machine/Dispatch.lean ====
section
/-! DEFINITION. The dispatch: one arm per row of the opcode table, each a direct call of the row's meaning. -/

namespace Sys2Proof.Machine

open Sys2Proof

/-- The effect of a command or event on everything but the queue (DESIGN CHOICE, log entry 57). -/
def exec (i : Instr) (s : State) : Host.Outcome State Fault Refusal :=
  match i with
  | .identify h => Sys2Proof.Machine.execIdentify h s
  | .status h => Sys2Proof.Machine.execStatus h s
  | .qCreate h qkind size hold dflt pair => Sys2Proof.Machine.execQCreate h qkind size hold dflt pair s
  | .qDelete h q => Sys2Proof.Machine.execQDelete h q s
  | .qBind h q => Sys2Proof.Machine.execQBind h q s
  | .qRoute h q mask => Sys2Proof.Machine.execQRoute h q mask s
  | .keyWrite h slot secret => Sys2Proof.Machine.execKeyWrite h slot secret s
  | .keyClear h slot => Sys2Proof.Machine.execKeyClear h slot s
  | .tenantCreate h ttl => Sys2Proof.Machine.execTenantCreate h ttl s
  | .tenantSuspend h t => Sys2Proof.Machine.execTenantSuspend h t s
  | .tenantResume h t => Sys2Proof.Machine.execTenantResume h t s
  | .tenantRemove h t => Sys2Proof.Machine.execTenantRemove h t s
  | .tenantReenrol h t ttl => Sys2Proof.Machine.execTenantReenrol h t ttl s
  | .quotaSet h t q => Sys2Proof.Machine.execQuotaSet h t q s
  | .leaseGrant h l => Sys2Proof.Machine.execLeaseGrant h l s
  | .leaseModify h l => Sys2Proof.Machine.execLeaseModify h l s
  | .leaseEnd h => Sys2Proof.Machine.execLeaseEnd h s
  | .leaseRead h => Sys2Proof.Machine.execLeaseRead h s
  | .tenantRead h t => Sys2Proof.Machine.execTenantRead h t s
  | .progWrite h steps => Sys2Proof.Machine.execProgWrite h steps s
  | .progLen h len => Sys2Proof.Machine.execProgLen h len s
  | .progRead h which first count => Sys2Proof.Machine.execProgRead h which first count s
  | .progDiscard h => Sys2Proof.Machine.execProgDiscard h s
  | .commit h => Sys2Proof.Machine.execCommit h s
  | .commitCheckonly h => Sys2Proof.Machine.execCommitCheckonly h s
  | .commitSwap c => Sys2Proof.Machine.execCommitSwap c s
  | .commitBufferDrain g => Sys2Proof.Machine.execCommitBufferDrain g s
  | .varWrite h pairs => Sys2Proof.Machine.execVarWrite h pairs s
  | .varRead h => Sys2Proof.Machine.execVarRead h s
  | .signal h sig mask => Sys2Proof.Machine.execSignal h sig mask s
  | .start h entry => Sys2Proof.Machine.execStart h entry s
  | .stop h => Sys2Proof.Machine.execStop h s
  | .pause h => Sys2Proof.Machine.execPause h s
  | .resume h restart => Sys2Proof.Machine.execResume h restart s
  | .clear h => Sys2Proof.Machine.execClear h s
  | .measCfg h setRate setRange rate rng fix => Sys2Proof.Machine.execMeasCfg h setRate setRange rate rng fix s
  | .measRead h => Sys2Proof.Machine.execMeasRead h s
  | .coefRead h layer qty => Sys2Proof.Machine.execCoefRead h layer qty s
  | .chRead h => Sys2Proof.Machine.execChRead h s
  | .estSet h f => Sys2Proof.Machine.execEstSet h f s
  | .ocvTable h pts => Sys2Proof.Machine.execOcvTable h pts s
  | .estRead h table => Sys2Proof.Machine.execEstRead h table s
  | .relearn h => Sys2Proof.Machine.execRelearn h s
  | .counterRead h => Sys2Proof.Machine.execCounterRead h s
  | .meterRead h t => Sys2Proof.Machine.execMeterRead h t s
  | .meterClose h => Sys2Proof.Machine.execMeterClose h s
  | .meterLimits h imp exp => Sys2Proof.Machine.execMeterLimits h imp exp s
  | .meterSched h first words => Sys2Proof.Machine.execMeterSched h first words s
  | .ledgerRead h => Sys2Proof.Machine.execLedgerRead h s
  | .ledgerFetch h from_ to_ mask queue periodic => Sys2Proof.Machine.execLedgerFetch h from_ to_ mask queue periodic s
  | .ledgerFetchBatch t ans => Sys2Proof.Machine.execLedgerFetchBatch t ans s
  | .ledgerRetain h t days => Sys2Proof.Machine.execLedgerRetain h t days s
  | .ledgerSeal h => Sys2Proof.Machine.execLedgerSeal h s
  | .pairRead h => Sys2Proof.Machine.execPairRead h s
  | .handover h deadline => Sys2Proof.Machine.execHandover h deadline s
  | .timeRead h => Sys2Proof.Machine.execTimeRead h s
  | .timeSet h cal date wday => Sys2Proof.Machine.execTimeSet h cal date wday s
  | .summerForward h => Sys2Proof.Machine.execSummerForward h s
  | .summerBack h => Sys2Proof.Machine.execSummerBack h s
  | .wakeSet h which en cal period => Sys2Proof.Machine.execWakeSet h which en cal period s
  | .calTrim h pulses => Sys2Proof.Machine.execCalTrim h pulses s
  | .powerRead h => Sys2Proof.Machine.execPowerRead h s
  | .powerCtlShip h => Sys2Proof.Machine.execPowerCtlShip h s
  | .powerCtlWarmReset h => Sys2Proof.Machine.execPowerCtlWarmReset h s
  | .powerCtlBlockReset h block => Sys2Proof.Machine.execPowerCtlBlockReset h block s
  | .blockQuiesceDone block timeout => Sys2Proof.Machine.execBlockQuiesceDone block timeout s
  | .blockResetReturn block => Sys2Proof.Machine.execBlockResetReturn block s
  | .enter h => Sys2Proof.Machine.execEnter h s
  | .exit h => Sys2Proof.Machine.execExit h s
  | .houseClear h => Sys2Proof.Machine.execHouseClear h s
  | .faultAck h code => Sys2Proof.Machine.execFaultAck h code s
  | .selftest h g kind => Sys2Proof.Machine.execSelftest h g kind s
  | .deferredSelftestRun g => Sys2Proof.Machine.execDeferredSelftestRun g s
  | .selftestSlotEnd g pass loopOk => Sys2Proof.Machine.execSelftestSlotEnd g pass loopOk s
  | .refcheck h g ppm => Sys2Proof.Machine.execRefcheck h g ppm s
  | .retest h g conv p => Sys2Proof.Machine.execRetest h g conv p s
  | .nvmStat h => Sys2Proof.Machine.execNvmStat h s
  | .nvmScrub h => Sys2Proof.Machine.execNvmScrub h s
  | .setTimes h idle storm => Sys2Proof.Machine.execSetTimes h idle storm s
  | .calWrite h pairs => Sys2Proof.Machine.execCalWrite h pairs s
  | .calgenSwitch c => Sys2Proof.Machine.execCalgenSwitch c s
  | .fwWriteData h offset data => Sys2Proof.Machine.execFwWriteData h offset data s
  | .fwWriteFinish h sigOk => Sys2Proof.Machine.execFwWriteFinish h sigOk s
  | .fwWriteAbandon h => Sys2Proof.Machine.execFwWriteAbandon h s
  | .regRead h addr count => Sys2Proof.Machine.execRegRead h addr count s
  | .regWrite h addr data => Sys2Proof.Machine.execRegWrite h addr data s
  | .registerWrite addr data => Sys2Proof.Machine.execRegisterWrite addr data s
  | .tenantDatagram d entries => Sys2Proof.Machine.execTenantDatagram d entries s
  | .tenantCredit d => Sys2Proof.Machine.execTenantCredit d s
  | .hello addr t keyid nonceT share => Sys2Proof.Machine.execHello addr t keyid nonceT share s
  | .confirm addr session macOk => Sys2Proof.Machine.execConfirm addr session macOk s
  | .close d => Sys2Proof.Machine.execClose d s
  | .establishmentExpiry session => Sys2Proof.Machine.execEstablishmentExpiry session s
  | .sessidleExpiry session => Sys2Proof.Machine.execSessidleExpiry session s
  | .authThrottleEnd addr => Sys2Proof.Machine.execAuthThrottleEnd addr s
  | .unsupportedFrame port => Sys2Proof.Machine.execUnsupportedFrame port s
  | .icmpEcho port addr => Sys2Proof.Machine.execIcmpEcho port addr s
  | .addressResolution port forUs => Sys2Proof.Machine.execAddressResolution port forUs s
  | .bootDatagramDrop => Sys2Proof.Machine.execBootDatagramDrop s
  | .commandCreditSend q => Sys2Proof.Machine.execCommandCreditSend q s
  | .entrySend q n => Sys2Proof.Machine.execEntrySend q n s
  | .retxExpiry q => Sys2Proof.Machine.execRetxExpiry q s
  | .commandClaim q f => Sys2Proof.Machine.execCommandClaim q f s
  | .commandCompletion q => Sys2Proof.Machine.execCommandCompletion q s
  | .recordPlace => Sys2Proof.Machine.execRecordPlace s
  | .eventPlace => Sys2Proof.Machine.execEventPlace s
  | .coalescedPlace t cls => Sys2Proof.Machine.execCoalescedPlace t cls s
  | .decimationUpdate => Sys2Proof.Machine.execDecimationUpdate s
  | .stormEnd t => Sys2Proof.Machine.execStormEnd t s
  | .localRead addr count k => Sys2Proof.Machine.execLocalRead addr count k s
  | .localWrite addr data chkOk => Sys2Proof.Machine.execLocalWrite addr data chkOk s
  | .localStatus => Sys2Proof.Machine.execLocalStatus s
  | .qput entries chkOk => Sys2Proof.Machine.execQput entries chkOk s
  | .qget f => Sys2Proof.Machine.execQget f s
  | .dmaStart c => Sys2Proof.Machine.execDmaStart c s
  | .dmaStop c => Sys2Proof.Machine.execDmaStop c s
  | .dmaPoke c => Sys2Proof.Machine.execDmaPoke c s
  | .dmaDescriptorDone c => Sys2Proof.Machine.execDmaDescriptorDone c s
  | .dmaBusError c addr moved => Sys2Proof.Machine.execDmaBusError c addr moved s
  | .dmaBuserrClear => Sys2Proof.Machine.execDmaBuserrClear s
  | .controlCycle g x => Sys2Proof.Machine.execControlCycle g x s
  | .syncRelease t b => Sys2Proof.Machine.execSyncRelease t b s
  | .settleEnd c v => Sys2Proof.Machine.execSettleEnd c v s
  | .softstartEnd c => Sys2Proof.Machine.execSoftstartEnd c s
  | .rampedStopEnd c => Sys2Proof.Machine.execRampedStopEnd c s
  | .tcoffExpiry c => Sys2Proof.Machine.execTcoffExpiry c s
  | .pulseLevelChange c => Sys2Proof.Machine.execPulseLevelChange c s
  | .dcirPhaseChange c => Sys2Proof.Machine.execDcirPhaseChange c s
  | .dcirStepEnd c => Sys2Proof.Machine.execDcirStepEnd c s
  | .ocvRecord c => Sys2Proof.Machine.execOcvRecord c s
  | .crackOff x => Sys2Proof.Machine.execCrackOff x s
  | .crackOffRetry c => Sys2Proof.Machine.execCrackOffRetry c s
  | .retryCountReset c => Sys2Proof.Machine.execRetryCountReset c s
  | .slowOvl c => Sys2Proof.Machine.execSlowOvl c s
  | .reverseCell c => Sys2Proof.Machine.execReverseCell c s
  | .contactLoss c => Sys2Proof.Machine.execContactLoss c s
  | .temperatureUpdate g cells stage => Sys2Proof.Machine.execTemperatureUpdate g cells stage s
  | .stgtSensor g => Sys2Proof.Machine.execStgtSensor g s
  | .busWindow g v cur => Sys2Proof.Machine.execBusWindow g v cur s
  | .busStop g ovr => Sys2Proof.Machine.execBusStop g ovr s
  | .busSensor g => Sys2Proof.Machine.execBusSensor g s
  | .outputSample c stamp clocks raw => Sys2Proof.Machine.execOutputSample c stamp clocks raw s
  | .outrateChange c stamp => Sys2Proof.Machine.execOutrateChange c stamp s
  | .twinsample c stamp v cur rng calgen rate => Sys2Proof.Machine.execTwinsample c stamp v cur rng calgen rate s
  | .twinHoldExpiry c => Sys2Proof.Machine.execTwinHoldExpiry c s
  | .puntySwapStart g => Sys2Proof.Machine.execPuntySwapStart g s
  | .shadowDone g b dAbs => Sys2Proof.Machine.execShadowDone g b dAbs s
  | .converterCalDone g b p refPpm => Sys2Proof.Machine.execConverterCalDone g b p refPpm s
  | .returnShadowDone g b => Sys2Proof.Machine.execReturnShadowDone g b s
  | .selfcalDone g b d noise refPpm => Sys2Proof.Machine.execSelfcalDone g b d noise refPpm s
  | .swapAbandon r => Sys2Proof.Machine.execSwapAbandon r s
  | .converterHealthFail r conv => Sys2Proof.Machine.execConverterHealthFail r conv s
  | .gatherCalibrationDone g d noise => Sys2Proof.Machine.execGatherCalibrationDone g d noise s
  | .eisToneStart c stamp => Sys2Proof.Machine.execEisToneStart c stamp s
  | .eisSettleEnd c stamp amps => Sys2Proof.Machine.execEisSettleEnd c stamp amps s
  | .eisWindowEnd c stamp => Sys2Proof.Machine.execEisWindowEnd c stamp s
  | .busBalanceCycle late => Sys2Proof.Machine.execBusBalanceCycle late s
  | .defmaxExpiry c => Sys2Proof.Machine.execDefmaxExpiry c s
  | .takeoverRampEnd c => Sys2Proof.Machine.execTakeoverRampEnd c s
  | .counterCollect => Sys2Proof.Machine.execCounterCollect s
  | .meterNvmCommit => Sys2Proof.Machine.execMeterNvmCommit s
  | .estimatorUpdate c => Sys2Proof.Machine.execEstimatorUpdate c s
  | .hibernationEntry c => Sys2Proof.Machine.execHibernationEntry c s
  | .ocvCorrection c => Sys2Proof.Machine.execOcvCorrection c s
  | .estimatorRecord c => Sys2Proof.Machine.execEstimatorRecord c s
  | .secondTick stamp => Sys2Proof.Machine.execSecondTick stamp s
  | .minuteBoundary => Sys2Proof.Machine.execMinuteBoundary s
  | .meterStampSplit g => Sys2Proof.Machine.execMeterStampSplit g s
  | .periodicWakeExpiry => Sys2Proof.Machine.execPeriodicWakeExpiry s
  | .trimWindow => Sys2Proof.Machine.execTrimWindow s
  | .autotrim rate => Sys2Proof.Machine.execAutotrim rate s
  | .xtalFail => Sys2Proof.Machine.execXtalFail s
  | .keepLoadTime => Sys2Proof.Machine.execKeepLoadTime s
  | .keepLoadWday => Sys2Proof.Machine.execKeepLoadWday s
  | .calendarReadFreeze => Sys2Proof.Machine.execCalendarReadFreeze s
  | .keepYearRead => Sys2Proof.Machine.execKeepYearRead s
  | .freezeTimeout => Sys2Proof.Machine.execFreezeTimeout s
  | .ptpSync port t freq => Sys2Proof.Machine.execPtpSync port t freq s
  | .ptpAnnounce port rank => Sys2Proof.Machine.execPtpAnnounce port rank s
  | .ptpDelayResp port d => Sys2Proof.Machine.execPtpDelayResp port d s
  | .ptpPdelayReq port => Sys2Proof.Machine.execPtpPdelayReq port s
  | .ptpDelayReqSend port => Sys2Proof.Machine.execPtpDelayReqSend port s
  | .announceTimeout => Sys2Proof.Machine.execAnnounceTimeout s
  | .holdmaxExpiry mainsOk => Sys2Proof.Machine.execHoldmaxExpiry mainsOk s
  | .backwardStep => Sys2Proof.Machine.execBackwardStep s
  | .elapsedPairStore => Sys2Proof.Machine.execElapsedPairStore s
  | .mainsWindowEnd count => Sys2Proof.Machine.execMainsWindowEnd count s
  | .mainsRefInvalid => Sys2Proof.Machine.execMainsRefInvalid s
  | .ppsOut => Sys2Proof.Machine.execPpsOut s
  | .ppsIn => Sys2Proof.Machine.execPpsIn s
  | .wakeEvent src => Sys2Proof.Machine.execWakeEvent src s
  | .wakeIn => Sys2Proof.Machine.execWakeIn s
  | .pwroffEnd => Sys2Proof.Machine.execPwroffEnd s
  | .vkeepRise vin => Sys2Proof.Machine.execVkeepRise vin s
  | .vkeepLoss vin => Sys2Proof.Machine.execVkeepLoss vin s
  | .button => Sys2Proof.Machine.execButton s
  | .shipExit => Sys2Proof.Machine.execShipExit s
  | .longPress => Sys2Proof.Machine.execLongPress s
  | .longPressPathEnd => Sys2Proof.Machine.execLongPressPathEnd s
  | .packShipLow => Sys2Proof.Machine.execPackShipLow s
  | .inputLoss vin pathOk => Sys2Proof.Machine.execInputLoss vin pathOk s
  | .inputPresent vin => Sys2Proof.Machine.execInputPresent vin s
  | .pathReturn => Sys2Proof.Machine.execPathReturn s
  | .packExhausted => Sys2Proof.Machine.execPackExhausted s
  | .vinCollapse => Sys2Proof.Machine.execVinCollapse s
  | .vintPowerOn => Sys2Proof.Machine.execVintPowerOn s
  | .lehrRampDone => Sys2Proof.Machine.execLehrRampDone s
  | .lehrDone flushed => Sys2Proof.Machine.execLehrDone flushed s
  | .seqSlotDone => Sys2Proof.Machine.execSeqSlotDone s
  | .seqTimeout => Sys2Proof.Machine.execSeqTimeout s
  | .powerDownStep => Sys2Proof.Machine.execPowerDownStep s
  | .auxPgood k => Sys2Proof.Machine.execAuxPgood k s
  | .auxHiccup k => Sys2Proof.Machine.execAuxHiccup k s
  | .auxHiccupRestart k => Sys2Proof.Machine.execAuxHiccupRestart k s
  | .auxSlowLimit k => Sys2Proof.Machine.execAuxSlowLimit k s
  | .auxTwarn k t => Sys2Proof.Machine.execAuxTwarn k t s
  | .auxTshut k t => Sys2Proof.Machine.execAuxTshut k t s
  | .thermalPowerDown => Sys2Proof.Machine.execThermalPowerDown s
  | .railRange src => Sys2Proof.Machine.execRailRange src s
  | .wardenReadingRefresh r => Sys2Proof.Machine.execWardenReadingRefresh r s
  | .packPresent v => Sys2Proof.Machine.execPackPresent v s
  | .packRemoved => Sys2Proof.Machine.execPackRemoved s
  | .packNtc => Sys2Proof.Machine.execPackNtc s
  | .qualEnd => Sys2Proof.Machine.execQualEnd s
  | .preTimeout => Sys2Proof.Machine.execPreTimeout s
  | .searchStep vin => Sys2Proof.Machine.execSearchStep vin s
  | .searchHoldEnd => Sys2Proof.Machine.execSearchHoldEnd s
  | .chargeMeanUpdate v t => Sys2Proof.Machine.execChargeMeanUpdate v t s
  | .fastmaxExpiry => Sys2Proof.Machine.execFastmaxExpiry s
  | .chargerWatchdog => Sys2Proof.Machine.execChargerWatchdog s
  | .hldKick key => Sys2Proof.Machine.execHldKick key s
  | .packTest => Sys2Proof.Machine.execPackTest s
  | .stoptest => Sys2Proof.Machine.execStoptest s
  | .resetN => Sys2Proof.Machine.execResetN s
  | .brownout => Sys2Proof.Machine.execBrownout s
  | .warmResetRelease strap => Sys2Proof.Machine.execWarmResetRelease strap s
  | .imageCheck sig0 sig1 => Sys2Proof.Machine.execImageCheck sig0 sig1 s
  | .bootEnd => Sys2Proof.Machine.execBootEnd s
  | .ledgerRecovery found streams intact torn => Sys2Proof.Machine.execLedgerRecovery found streams intact torn s
  | .sealTick => Sys2Proof.Machine.execSealTick s
  | .batchDurable => Sys2Proof.Machine.execBatchDurable s
  | .stagingGap => Sys2Proof.Machine.execStagingGap s
  | .ledgerReclaim => Sys2Proof.Machine.execLedgerReclaim s
  | .nvmeTimeout d => Sys2Proof.Machine.execNvmeTimeout d s
  | .nvmeError d stream again => Sys2Proof.Machine.execNvmeError d stream again s
  | .driveLost d => Sys2Proof.Machine.execDriveLost d s
  | .resilverDone => Sys2Proof.Machine.execResilverDone s
  | .ledgerInitInit => Sys2Proof.Machine.execLedgerInitInit s
  | .ledgerInitErase => Sys2Proof.Machine.execLedgerInitErase s
  | .pipeInRise => Sys2Proof.Machine.execPipeInRise s
  | .fenceInRise => Sys2Proof.Machine.execFenceInRise s
  | .pipeInFall => Sys2Proof.Machine.execPipeInFall s
  | .pipeSense => Sys2Proof.Machine.execPipeSense s
  | .contention => Sys2Proof.Machine.execContention s
  | .heartbeatSend => Sys2Proof.Machine.execHeartbeatSend s
  | .heartbeat f lane hbseq role sync mseq => Sys2Proof.Machine.execHeartbeat f lane hbseq role sync mseq s
  | .heartbeatMiss => Sys2Proof.Machine.execHeartbeatMiss s
  | .laneDown lane => Sys2Proof.Machine.execLaneDown lane s
  | .ident f id => Sys2Proof.Machine.execIdent f id s
  | .mirror f lag items => Sys2Proof.Machine.execMirror f lag items s
  | .snapshot f items => Sys2Proof.Machine.execSnapshot f items s
  | .resyncDone => Sys2Proof.Machine.execResyncDone s
  | .resyncFail => Sys2Proof.Machine.execResyncFail s
  | .reccopy f train => Sys2Proof.Machine.execReccopy f train s
  | .epochmark f count within => Sys2Proof.Machine.execEpochmark f count within s
  | .epochUnlock => Sys2Proof.Machine.execEpochUnlock s
  | .ack f ftype fseq => Sys2Proof.Machine.execAck f ftype fseq s
  | .handoverPrep f => Sys2Proof.Machine.execHandoverPrep f s
  | .handoverReady f sAt => Sys2Proof.Machine.execHandoverReady f sAt s
  | .handoverTime f sAt => Sys2Proof.Machine.execHandoverTime f sAt s
  | .handoverState f items => Sys2Proof.Machine.execHandoverState f items s
  | .handoverPipeRelease => Sys2Proof.Machine.execHandoverPipeRelease s
  | .handoverPipeTake => Sys2Proof.Machine.execHandoverPipeTake s
  | .handoverAck f => Sys2Proof.Machine.execHandoverAck f s
  | .handoverTimeout => Sys2Proof.Machine.execHandoverTimeout s
  | .arbitrationStart => Sys2Proof.Machine.execArbitrationStart s
  | .arbitrationEnd line => Sys2Proof.Machine.execArbitrationEnd line s
  | .reacqExpiry => Sys2Proof.Machine.execReacqExpiry s
  | .rollCallPulse => Sys2Proof.Machine.execRollCallPulse s
  | .rollPulseDetect => Sys2Proof.Machine.execRollPulseDetect s
  | .rollCallReply => Sys2Proof.Machine.execRollCallReply s
  | .rollCallMiss => Sys2Proof.Machine.execRollCallMiss s
  | .rollCallSearchEnd => Sys2Proof.Machine.execRollCallSearchEnd s
  | .gpioEdge pin rising => Sys2Proof.Machine.execGpioEdge pin rising s
  | .trayTransferStart p => Sys2Proof.Machine.execTrayTransferStart p s
  | .go p => Sys2Proof.Machine.execGo p s
  | .abort p => Sys2Proof.Machine.execAbort p s
  | .trayTransferEnd p result data => Sys2Proof.Machine.execTrayTransferEnd p result data s
  | .arbLost p addr bytes => Sys2Proof.Machine.execArbLost p addr bytes s
  | .trayTimeout p => Sys2Proof.Machine.execTrayTimeout p s
  | .trayStuck p freed => Sys2Proof.Machine.execTrayStuck p freed s
  | .buslockRetry p freed => Sys2Proof.Machine.execBuslockRetry p freed s
  | .targetWrite p addr bytes => Sys2Proof.Machine.execTargetWrite p addr bytes s
  | .rxnewClear p => Sys2Proof.Machine.execRxnewClear p s
  | .alert p ans => Sys2Proof.Machine.execAlert p ans s
  | .alertReread p ans => Sys2Proof.Machine.execAlertReread p ans s
  | .idpoll p => Sys2Proof.Machine.execIdpoll p s
  | .identityReadDone p addr ofs val => Sys2Proof.Machine.execIdentityReadDone p addr ofs val s
  | .wdgKick w v => Sys2Proof.Machine.execWdgKick w v s
  | .wdgKey w v => Sys2Proof.Machine.execWdgKey w v s
  | .wdgLock w => Sys2Proof.Machine.execWdgLock w s
  | .wdgExpiry w => Sys2Proof.Machine.execWdgExpiry w s
  | .wdgHard w => Sys2Proof.Machine.execWdgHard w s
  | .wdgClock w => Sys2Proof.Machine.execWdgClock w s
  | .coreException x => Sys2Proof.Machine.execCoreException x s
  | .evrSourceAccept src level => Sys2Proof.Machine.execEvrSourceAccept src level s
  | .evrDeliver core => Sys2Proof.Machine.execEvrDeliver core s
  | .evrClaim core => Sys2Proof.Machine.execEvrClaim core s
  | .evrComplete core src => Sys2Proof.Machine.execEvrComplete core src s
  | .faultTaken ext => Sys2Proof.Machine.execFaultTaken ext s
  | .lockstep => Sys2Proof.Machine.execLockstep s
  | .refclkLost => Sys2Proof.Machine.execRefclkLost s
  | .wdnOsc => Sys2Proof.Machine.execWdnOsc s
  | .quietPeriodEnd unit => Sys2Proof.Machine.execQuietPeriodEnd unit s
  | .recoveryEnd unit pass => Sys2Proof.Machine.execRecoveryEnd unit pass s
  | .chCalselSnap c => Sys2Proof.Machine.execChCalselSnap c s
  | .nvmHkctlHken => Sys2Proof.Machine.execNvmHkctlHken s
  | .ethLinkDown port => Sys2Proof.Machine.execEthLinkDown port s
  | .ethLinkUp port => Sys2Proof.Machine.execEthLinkUp port s
  | .fenceInFall => Sys2Proof.Machine.execFenceInFall s
  | .mirrorSend => Sys2Proof.Machine.execMirrorSend s
  | .epochmarkSend => Sys2Proof.Machine.execEpochmarkSend s
  | .arbitrationRoundVoid => Sys2Proof.Machine.execArbitrationRoundVoid s
  | .buttonRelease ms => Sys2Proof.Machine.execButtonRelease ms s
  | .enrolmentCodeExpiry t => Sys2Proof.Machine.execEnrolmentCodeExpiry t s
  | .commandedWarmReset => Sys2Proof.Machine.execCommandedWarmReset s
  | .warmResetLedgerQuiesce timeout => Sys2Proof.Machine.execWarmResetLedgerQuiesce timeout s

end Sys2Proof.Machine
end

