-- ==== Sys2Proof/Machine/Step.lean ====
section
/-! DEFINITION. One step of the block: the command at the front of the queue, or one nanosecond of idling. -/

namespace Sys2Proof.Machine

open Sys2Proof

/-- On an empty queue the block idles: its clocks advance by 1 ns (DESIGN CHOICE, log entry 1). -/
def idle (s : State) : State := { s with now := s.now + 1, ptp := s.ptp + 1 }

/-- Take the command at the front of the queue and run it with the queue's rest; idle on an empty queue (DESIGN CHOICE, log entry 1). -/
def step (s : State) : Host.Outcome State Fault Refusal :=
  match s.pending with
  | [] => .next (idle s)
  | c :: rest => exec c { s with pending := rest }

/-- The command that a word spells, put at the front of the queue; no row of the table gives bits (DESIGN CHOICE, log entry 1). -/
def State.withFetchWord (s : State) (nbits w : Nat) : State :=
  match decodeTableWord nbits w with
  | some c => { s with pending := c :: s.pending }
  | none => s

end Sys2Proof.Machine
end

