-- ==== Sys2Proof/Machine/Pins.lean ====
section
/-! DEFINITION. Balls that follow from the state (R58, R61, R64, R67): PWH, PWL and CON (R66, R113, R149), thermistor excitation, lamps
(R107, R611), FAULT_N and ALARM_N (R679), LINT_N (R416), PPS_OUT (R577), RSTOUT_N, PWRON_N (R564), the pair's balls, and the JTAG port (R652). -/

namespace Sys2Proof.Machine

open Sys2Proof

/-- Lamp patterns (R107); `z` is high impedance. -/
inductive Lamp where
  | z | off | on | slow | fast | flash
  deriving DecidableEq, Repr

/-- A pattern is lit a time in ns after the start of the warden's time base (R107). -/
def Lamp.lit (l : Lamp) (t : Nat) : Bool :=
  match l with
  | .z => false
  | .off => false
  | .on => true
  | .slow => decide (t % 1000000000 < 500000000)
  | .fast => decide (t % 250000000 < 125000000)
  | .flash => decide (t % 2000000000 < 100000000)

/-- LAMP0 and LAMP1 (Table 03-5). -/
def State.lamps (s : State) : Lamp × Lamp :=
  let f : Lamp := if s.anyFence then .slow else .off
  if s.rst.warm then (.on, .on)
  else
    match s.mode.mode with
    | .boot => (.fast, .off)
    | .ready => (.on, f)
    | .run => (.slow, f)
    | .degraded => (if s.execMask ≠ 0 then .slow else .on, .slow)
    | .twin => (.flash, f)
    | .service => (.fast, .fast)
    | .lehr => (.off, .fast)
    | .lockout => (.off, .on)
    | _ => (.z, .z)

/-- The PACK_NTC fault awaits its acknowledgement or its unit is fenced (Table 16-5). -/
def State.ntcFault (s : State) : Bool :=
  s.col.pend.any (fun p => p.uu == 3 && p.cc == 4) || s.col.fences.any (fun f => f.unit == 3 && f.cc == 4)

/-- STAT0 and STAT1: the first row of Table 16-5 that applies (R611). -/
def State.stats (s : State) : Lamp × Lamp :=
  let p := s.board.pwr
  if s.mode.mode = .off ∨ s.mode.mode = .ship ∨ s.mode.mode = .keep then (.z, .z)
  else if p.path = .holdup ∨ p.path = .returning then (.off, .fast)
  else if p.chg = .fault ∨ s.ntcFault then (.off, .on)
  else if !p.present then (.off, .slow)
  else if p.chg = .safe then (.flash, .flash)
  else if p.path = .test then (.fast, .off)
  else
    match p.chg with
    | .suspend => (.slow, .slow)
    | .qual => (.flash, .off)
    | .pre => (.flash, .off)
    | .fast => (.slow, .off)
    | .full => (.on, .off)
    | _ => (.off, .off)

/-- LAMP0 and LAMP1 are lit at a time in ns: every pattern runs on the warden's one time base (R107). -/
def State.lampsLit (s : State) (t : Nat) : Bool × Bool := (s.lamps.1.lit (t - s.rst.wdnT), s.lamps.2.lit (t - s.rst.wdnT))

/-- STAT0 and STAT1 are lit at a time in ns (R107, R611). -/
def State.statsLit (s : State) (t : Nat) : Bool × Bool := (s.stats.1.lit (t - s.rst.wdnT), s.stats.2.lit (t - s.rst.wdnT))

/-- FAULT_N is low (R679, Table 02-10). -/
def State.faultLow (s : State) : Bool := s.faultN

/-- ALARM_N is low: a condition that MASK of FLT_ALARM enables is present (R679). -/
def State.alarmLow (s : State) : Bool := (s.alarmConds &&& s.fld 0x040008 0 14) != 0

/-- LINT_N is low: a local queue holds an entry that the port has not read (R416). -/
def State.lintLow (s : State) : Bool :=
  s.localOn && [1, 2, 3].any (fun q => match s.queue? q with | some x => !x.ring.isEmpty | none => false)

/-- PPS_OUT is high: its width has not passed since the last whole second (R577). -/
def State.ppsOut (s : State) : Bool :=
  s.bit 0x32005C 0 && s.board.ptpValid
    && (match s.board.time.ppsHigh with | some t => decide (s.ptp < t + s.fld 0x32005C 8 9 * 1000000) | none => false)

/-- PWRON_N is driven low (R564). -/
def State.pwronLow (s : State) : Bool := s.board.time.pwron

/-! ### Levels (R67, Table 02-11) -/

/-- A ball is driven high, driven low, or in high impedance. -/
inductive Level where
  | z | low | high
  deriving DecidableEq, Repr

def level (b : Bool) : Level := if b then .high else .low

/-- The modes of Table 02-11 in which the balls of the PLL islands are released: OFF to WAKE, and any reset that holds their island. -/
def State.ballsOff (s : State) : Bool := !modeUp s.mode.mode || s.rst.warm

/-- CON of a channel (R66, R137). -/
def State.conBall (s : State) (c : ChanNo) : Level := if s.mayDrive c then level (s.chan c).loop.con else .z

/-- PIPE_OUT and FENCE_OUT: driven from BOOT on. -/
def State.pipeBall (s : State) : Level := if s.ballsOff then .z else level s.board.pipeOut
def State.fenceBall (s : State) : Level := if s.ballsOff then .z else level s.board.fenceOut

/-- ROLL is open drain: driven low, or released (Table 02-10). KEEP holds it through a reset. -/
def State.rollBall (s : State) : Level :=
  if s.mode.mode = .off ∨ s.mode.mode = .ship then .z else if s.board.pair.roll then .z else .low

/-- The tray bus and GPIO balls are driven by function from BOOT on. -/
def State.trayDriven (s : State) : Bool := !s.ballsOff

/-- The sense balls measure from BOOT on. -/
def State.sensing (s : State) : Bool := !s.ballsOff

/-- RSTOUT_N is low while the Steward island is held in reset: from WAKE until its image is accepted, and in a warm reset (R61, R640). -/
def State.rstoutLow (s : State) : Bool := modeWarden s.mode.mode && (s.rst.warm || s.fw.isNone)

/-- PERST_N is low (R67, R478): in any reset, and while the ledger holds it. -/
def State.perstLow (s : State) : Bool := s.ballsOff || s.board.led.perst

/-- Excitation of a channel's thermistor, in µA: on only while the part drives the channel's balls (R64, R211). -/
def State.tmpExcite (s : State) (c : ChanNo) : Nat := if s.mayDrive c then (if (s.chan c).meas.tcold then 2 else 20) else 0

/-- Excitation of a Gather's stage thermistor, in µA (R64, R211). -/
def State.stgExcite (s : State) (g : GatherNo) : Nat := if s.mayDrive (chOf g 0) then (if (s.gat g).scold then 2 else 20) else 0

/-! ### PWH and PWL in a period (R113, R149) -/

/-- Levels of PWH and PWL `at` ticks into a period of `per` ticks: the controlled switch for its on-time, the dead time, then the other switch
until the dead time before the next period; under DE until the shunt current crosses zero at `zc`, if that comes first. -/
def Duty.levels (d : Duty) (per dthl dtlh : Nat) (zc : Option Nat) (at_ : Nat) : Bool × Bool :=
  let a := if d.pwl then dtlh else dthl                    -- from the fall of the controlled switch to the rise of the other
  let b := per - (if d.pwl then dthl else dtlh)            -- the latest fall of the other
  let fall := match (if d.de then zc else none) with | some z => Nat.min z b | none => b
  let on := decide (at_ < d.ton)
  let other := decide (d.ton ≠ 0 ∧ d.ton + a ≤ at_ ∧ at_ < fall)
  if d.pwl then (other, on) else (on, other)

/-- DTHL and DTLH of a Gather (R113). -/
def State.dthl (s : State) (g : GatherNo) : Nat := s.fld (gA g 4) 0 10
def State.dtlh (s : State) (g : GatherNo) : Nat := s.fld (gA g 4) 16 10

/-- PWH and PWL in a period with this duty: released where the part may not drive; low outside the states that switch and during a self-test. -/
def State.pwBalls (s : State) (c : ChanNo) (d : Duty) (zc : Option Nat) (at_ : Nat) : Level × Level :=
  let g := gOf c
  if !s.mayDrive c then (.z, .z)
  else if !stSwitch (s.chan c).loop.st || (s.gat g).slot.isSome then (.low, .low)
  else
    let l := d.levels (s.period g) (s.dthl g) (s.dtlh g) zc at_
    (level l.1, level l.2)

/-- PWH and PWL in the period now running; `zc` is where in it the shunt current crosses zero. -/
def State.pwNow (s : State) (c : ChanNo) (zc : Option Nat) (at_ : Nat) : Level × Level := s.pwBalls c (s.chan c).loop.mid zc at_

/-- PWH and PWL as they stood in the period that ended last. -/
def State.pwLast (s : State) (c : ChanNo) (at_ : Nat) : Level × Level :=
  let l := (s.chan c).loop
  s.pwBalls c l.last l.zc at_

/-! ### JTAG (R652) -/

/-- What the JTAG port shifts out in production: its ID code, or the bypass bit for every other instruction. -/
inductive JtagReg where
  | idcode | bypass
  deriving DecidableEq, Repr

/-- IDCODE: version 0xB, part 0x7264; the spec gives no value of the low 12 bits (DESIGN CHOICE, log entry 2). -/
def jtagIdcode : BitVec 32 := 0xB#4 ++ 0x7264#16 ++ Config.idcodeLow

/-- The register between TDI and TDO as a list of bits, first bit out first. No instruction reaches a processor, a memory or a ball. -/
def JtagReg.bits : JtagReg → List Bool
  | .idcode => (List.range 32).map jtagIdcode.getLsbD
  | .bypass => [false]

end Sys2Proof.Machine
end

