-- ==== Sys2Proof/Safety.lean ====
section
/-! DEFINITION. What a safe run keeps: the canonical form of the two sparse memories, the fuses, and the queue behind the command that runs. -/

namespace Sys2Proof.Machine

open Sys2Proof

/-- The canonical form of the register memory: addresses strictly rising, and no entry equal to its register's reset value. -/
def regsWf : List (Nat × Word32) → Bool
  | [] => true
  | [(a, v)] => v.toNat != regReset a
  | (a, v) :: (b, w) :: l => v.toNat != regReset a && decide (a < b) && regsWf ((b, w) :: l)

/-- Both sparse memories of a state are canonical, so that equal memories are equal data. -/
def State.memWf (s : State) : Bool := cruWf s.cru && regsWf s.regs

/-- What no command and no event changes (R3 to R5: the fuses; the block's own queue), and the canonical form that every one keeps. -/
structure Keeps (s t : State) : Prop where
  opt : t.opt = s.opt
  serial : t.serial = s.serial
  pending : t.pending = s.pending
  cru : cruWf s.cru = true → cruWf t.cru = true
  regs : regsWf s.regs = true → regsWf t.regs = true

/-! ### When a command runs at once -/

/-- A region of NVM takes a write now (R683, R687). -/
def State.takesNvm (s : State) (region : Nat) : Bool := !s.worn region && (s.nvmWrite region).2

/-- The state with a new copy of a structure of a region (R684). -/
def State.copied (s : State) (region : Nat) : State := (s.nvmWrite region).1

/-- A command's place among those taken from its queue, and the mode that judges it (R86, R396). -/
def State.headOf (s : State) (h : CmdHead) : CmdHead :=
  { h with ticket := match s.queue? h.queue with | some q => q.claims | none => 0, judged := some s.mode.mode }

/-- No F fault waits to be taken (R81). -/
def State.noFatal (s : State) : Bool := s.col.fifo.all (fun f => (faultInfo f.uu f.cc).map Prod.fst != some .f)

/-- A command is taken at once: the Steward runs (R39), no F fault waits (R81) and no command does (R469). -/
def State.takesNow (s : State) : Bool := s.stewardOn && s.noFatal && s.waiting.isEmpty

/-- The state once a queue has counted the command (R396). -/
def State.counted (s : State) (h : CmdHead) : State := s.onQueue h.queue (fun q => { q with claims := q.claims + 1 })

/-- The state in which a command meets its checks: its queue has counted it and the estimator of its channel is awake (R339). -/
def State.taken (s : State) (h : CmdHead) : State := (s.counted h).wakeFor h

/-- A command runs at once and passes the checks 1 to 6 of R467: it is taken at once, nothing holds it back (R293, R396, R469), and no check
refuses it. -/
def State.accepts (s : State) (h : CmdHead) (o : CmdOp) : Bool :=
  s.takesNow && !(s.counted h).blocked (s.headOf h) o && ((s.taken h).refusalOf (s.headOf h) o).isNone

/-- A command runs at once and the checks of R467 refuse it with a status and an INDEX. -/
def State.refuses (s : State) (h : CmdHead) (o : CmdOp) (st : Status) (i : Nat) : Bool :=
  s.takesNow && !(s.counted h).blocked (s.headOf h) o && (s.taken h).refusalOf (s.headOf h) o == some (st, i)

/-- The state that the effect `t` of an accepted command leaves, what it causes under its CORR (R34). -/
def State.caused (s : State) (h : CmdHead) (t : State) : State := t.byCommand (s.taken h) h.corr

/-- The state of an accepted command with its completion waiting to be written (Table 12-1); `t` is the state that its effect leaves. -/
def State.answered (s : State) (h : CmdHead) (o : CmdOp) (t : State) (rs : List (List Byte)) : State :=
  (s.caused h t).complete (s.headOf h) o { results := rs }

/-- The head and the operation of a command row of chapter 12; none for the other rows. -/
def commandOf (i : Instr) : Option (CmdHead × CmdOp) :=
  match i with
  | .identify h => some (h, .identify)
  | .status h => some (h, .status)
  | .qCreate h qkind size hold dflt pair => some (h, (.qCreate qkind size hold dflt pair))
  | .qDelete h q => some (h, (.qDelete q))
  | .qBind h q => some (h, (.qBind q))
  | .qRoute h q mask => some (h, (.qRoute q mask.toNat))
  | .keyWrite h slot secret => some (h, (.keyWrite slot secret))
  | .keyClear h slot => some (h, (.keyClear slot))
  | .tenantCreate h ttl => some (h, (.tenantCreate ttl))
  | .tenantSuspend h t => some (h, (.tenantSuspend t))
  | .tenantResume h t => some (h, (.tenantResume t))
  | .tenantRemove h t => some (h, (.tenantRemove t))
  | .tenantReenrol h t ttl => some (h, (.tenantReenrol t ttl))
  | .quotaSet h t q => some (h, (.quotaSet t q))
  | .leaseGrant h l => some (h, (.leaseGrant l))
  | .leaseModify h l => some (h, (.leaseModify l))
  | .leaseEnd h => some (h, .leaseEnd)
  | .leaseRead h => some (h, .leaseRead)
  | .tenantRead h t => some (h, (.tenantRead t))
  | .progWrite h steps => some (h, (.progWrite steps))
  | .progLen h len => some (h, (.progLen len))
  | .progRead h which first count => some (h, (.progRead which first count))
  | .progDiscard h => some (h, .progDiscard)
  | .commit h => some (h, (.commit false))
  | .commitCheckonly h => some (h, (.commit true))
  | .varWrite h pairs => some (h, (.varWrite (pairs.map (fun p => (p.1, p.2.toNat)))))
  | .varRead h => some (h, .varRead)
  | .signal h sig mask => some (h, (.signal sig mask.toNat))
  | .start h entry => some (h, (.start entry))
  | .stop h => some (h, .stop)
  | .pause h => some (h, .pause)
  | .resume h restart => some (h, (.resume restart))
  | .clear h => some (h, .clear)
  | .measCfg h setRate setRange rate rng fix => some (h, (.measCfg setRate setRange rate rng fix))
  | .measRead h => some (h, .measRead)
  | .coefRead h layer qty => some (h, (.coefRead layer qty))
  | .chRead h => some (h, .chRead)
  | .estSet h f => some (h, (.estSet f))
  | .ocvTable h pts => some (h, (.ocvTable pts))
  | .estRead h table => some (h, (.estRead table))
  | .relearn h => some (h, .relearn)
  | .counterRead h => some (h, .counterRead)
  | .meterRead h t => some (h, (.meterRead t))
  | .meterClose h => some (h, .meterClose)
  | .meterLimits h imp exp => some (h, (.meterLimits imp.toNat exp.toNat))
  | .meterSched h first words => some (h, (.meterSched first (words.map (fun w => w.toNat))))
  | .ledgerRead h => some (h, .ledgerRead)
  | .ledgerFetch h from_ to_ mask queue periodic => some (h, (.ledgerFetch from_ to_ mask.toNat queue periodic))
  | .ledgerRetain h t days => some (h, (.ledgerRetain t days))
  | .ledgerSeal h => some (h, .ledgerSeal)
  | .pairRead h => some (h, .pairRead)
  | .handover h deadline => some (h, (.handover deadline))
  | .timeRead h => some (h, .timeRead)
  | .timeSet h cal date wday => some (h, (.timeSet cal date wday))
  | .summerForward h => some (h, (.summer true))
  | .summerBack h => some (h, (.summer false))
  | .wakeSet h which en cal period => some (h, (.wakeSet which en cal period))
  | .calTrim h pulses => some (h, (.calTrim pulses))
  | .powerRead h => some (h, .powerRead)
  | .powerCtlShip h => some (h, .ship)
  | .powerCtlWarmReset h => some (h, .warmReset)
  | .powerCtlBlockReset h block => some (h, (.blockReset block))
  | .enter h => some (h, .svcEnter)
  | .exit h => some (h, .svcExit)
  | .houseClear h => some (h, .houseClear)
  | .faultAck h code => some (h, (.faultAck code))
  | .selftest h g kind => some (h, (.selftest g kind))
  | .refcheck h g ppm => some (h, (.refcheck g ppm))
  | .retest h g conv p => some (h, (.retest g conv p.d p.noise))
  | .nvmStat h => some (h, .nvmStat)
  | .nvmScrub h => some (h, .nvmScrub)
  | .setTimes h idle storm => some (h, (.setTimes idle storm))
  | .calWrite h pairs => some (h, (.calWrite pairs))
  | .fwWriteData h offset data => some (h, (.fwData offset data))
  | .fwWriteFinish h sigOk => some (h, (.fwFinish sigOk))
  | .fwWriteAbandon h => some (h, .fwAbandon)
  | .regRead h addr count => some (h, (.regRead addr count))
  | .regWrite h addr data => some (h, (.regWrite addr (data.map (fun w => w.toNat))))
  | _ => none

end Sys2Proof.Machine
end

