-- ==== Sys2Proof/Certificates/Slice0/Obligations.lean ====
section
/-! DEFINITION. The statements for the provers. Where a statement says that a command completes, its hypothesis `accepts` or the named conditions are
those of the rules that the docstring cites; clauses about values that a log entry names rest on that entry. -/

open Sys2Proof Sys2Proof.Machine

/-- R11, R106, R426, R450, Tables 12-3 and 12-4: IDENTIFY, STATUS, LEASE_READ and TENANT_READ complete OK with the results that the tables give;
nothing changes but the count of the queue, the wakened estimator of a named channel and the completion that waits to be written.

R443 to R446: LEASE_GRANT, LEASE_MODIFY and LEASE_END complete OK; a grant ends the leases that it replaces and the new lease stands, a
modify replaces the lease's limits and writes them into the HL registers of every member, an end removes the lease and answers HL_EUSED. -/
def Obligations.SessionAndLeaseCommandsComplete : Prop :=
  ((∀ (s : Machine.State) (h : CmdHead), s.accepts h .identify = true →
    let t := s.taken h
    exec (.identify h) s = .next (s.answered h .identify t
      [res32 [fN 16 4 (t.viewSys 0x00), fN 20 4 (t.viewSys 0x0C), fN 24 8 t.serial, (32, orderCode t.opt), fN 44 1 t.idRole]])) ∧
  (∀ (s : Machine.State) (h : CmdHead), s.accepts h .status = true → h.tenant = 0 →
    let t := s.taken h
    exec (.status h) s = .next (s.answered h .status t
      [res32 [fN 16 4 t.sysMode, fN 20 4 t.sysCause, fN 24 8 (t.leasedAll &&& (2 ^ 64 - 1)), fN 32 8 (t.execMask &&& (2 ^ 64 - 1)),
        fN 40 8 (t.faultedMask &&& (2 ^ 64 - 1))]])) ∧
  (∀ (s : Machine.State) (h : CmdHead), s.accepts h .status = true → h.tenant ≠ 0 →
    let t := s.taken h
    let own := t.leasedMask h.tenant
    exec (.status h) s = .next (s.answered h .status t
      [res32 [fN 16 4 (t.clientMode h.tenant), fN 20 4 0, fN 24 8 (t.leasedAll &&& own), fN 32 8 (t.execMask &&& own),
        fN 40 8 (t.faultedMask &&& own)]])) ∧
  (∀ (s : Machine.State) (h : CmdHead), s.accepts h .leaseRead = true → h.channel = 255 →
    let t := s.taken h
    exec (.leaseRead h) s = .next (s.answered h .leaseRead t
      (chunks32 2 ((List.range 64).map (fun n =>
        match t.lessee n with
        | some x => if h.tenant = 0 ∨ x = h.tenant then BitVec.ofNat 8 x else 0xFF
        | none => 0xFF))))) ∧
  (∀ (s : Machine.State) (h : CmdHead) (l : Nat × Lease), s.accepts h .leaseRead = true → h.channel ≠ 255 →
    (s.taken h).leaseOf h.channel = some l →
    exec (.leaseRead h) s = .next (s.answered h .leaseRead (s.taken h) (chunks32 2 (leaseBytes l.2.f)))) ∧
  (∀ (s : Machine.State) (h : CmdHead) (n : Nat) (x : Tenant), s.accepts h (.tenantRead n) = true → (s.taken h).tenant? n = some x →
    let t := s.taken h
    exec (.tenantRead h n) s = .next (s.answered h (.tenantRead n) t
      [res32 [fN 16 1 (1 + 2 * b2n x.suspended + 4 * b2n x.key0.isSome + 8 * b2n x.key1.isSome + 16 * b2n x.code.isSome), fN 20 1 n,
        fN 24 2 x.qSess, fN 26 2 x.qQueues, fN 28 4 x.qRingKib, fN 32 4 x.qRecRate, fN 36 4 x.qEvRate],
       res32 [fN 16 2 (t.sessions.filter (fun y => y.tenant == n)).length, fN 18 2 (t.queuesOf n).length, fN 20 4 (t.kibOf n),
        fN 24 8 (t.leasedMask n)]])) ∧
  (∀ (s : Machine.State) (h : CmdHead) (n : Nat), s.accepts h (.tenantRead n) = true → (s.taken h).tenant? n = none →
    exec (.tenantRead h n) s = .next (s.answered h (.tenantRead n) (s.taken h) [zeros 32, zeros 32]))) ∧
  ((∀ (s : Machine.State) (h : CmdHead) (l : LeaseFields), s.accepts h (.leaseGrant l) = true →
    (leaseChans h.channel l).any (fun c => (s.taken h).fenced (uGat (gOf c))) = false →
    (l.tenant = 0 ∨ ((s.taken h).tenant? l.tenant).isSome) →
    (leaseChans h.channel l).any (fun c =>
      (match (s.taken h).lessee c.val with | some t => t != l.tenant | none => false) || (s.taken h).memberBusy c) = false →
    (s.taken h).takesNvm 3 = true →
    let h' := s.headOf h
    let t := (s.taken h).copied 3
    let u := (t.replaced h.channel l).foldl (fun v x => (v.endLease h' 0 x).2) t
    exec (.leaseGrant h l) s = .next (s.answered h (.leaseGrant l)
      (((u.forChans (leaseChans h.channel l) (fun c v => v.collect c)).newLease h' h.channel l).settle) [])) ∧
  (∀ (s : Machine.State) (h : CmdHead) (l : LeaseFields), s.accepts h (.leaseModify l) = true → (s.taken h).takesNvm 3 = true →
    let u := ((s.taken h).copied 3).onLease h.channel (fun x => { x with f := l })
    exec (.leaseModify h l) s = .next (s.answered h (.leaseModify l)
      ((u.forChans (leaseChans h.channel l) (fun c s =>
        ((((s.setReg (pgA c 0x10) l.ichg).setReg (pgA c 0x14) l.idis).setReg (pgA c 0x18) (w32 l.vmax)).setReg (pgA c 0x1C)
          (w32 l.vmin)).setReg (pgA c 0x20) l.emax)).leaseEvt (s.headOf h) 1 h.channel l) [])) ∧
  (∀ (s : Machine.State) (h : CmdHead) (x : Nat × Lease), s.accepts h .leaseEnd = true → (s.taken h).leaseOf h.channel = some x →
    (h.tenant = 0 ∨ ∀ c, chan? x.1 = some c → (s.taken h).executing c = false ∧ (s.taken h).isPaused c = false) →
    (s.taken h).takesNvm 3 = true →
    let e := ((s.taken h).copied 3).endLease (s.headOf h) (if h.tenant = 0 then 0 else 1) x
    exec (.leaseEnd h) s = .next (s.answered h .leaseEnd e.2.settle [res32 [fN 16 4 e.1]])) ∧
  (∀ (s : Machine.State) (h : CmdHead) (code : Nat) (x : Nat × Lease), (s.endLease h code x).2.leases = s.leases.filter (fun y => y.1 != x.1)) ∧
  (∀ (s : Machine.State) (h : CmdHead) (lead : Nat) (f : LeaseFields), ∃ b, (s.newLease h lead f).leases = s.leases ++ [(lead, { f, base := b })]))

/-- R376, R382, R383, R472, R447: Q_CREATE adds one queue with an empty ring, bound to the sending session, within the tenant's quotas; Q_DELETE
closes a queue; Q_BIND binds a queue to the sending session and resumes delivery from CACK; Q_ROUTE sets the record route of every lease that
holds a channel of the mask. -/
def Obligations.QueueCommandsComplete : Prop :=
  (∀ (s : Machine.State) (h : CmdHead) (k : QKind) (kind size hold : Nat) (dflt : Bool) (pair : Nat) (x : Tenant),
    s.accepts h (.qCreate kind size hold dflt pair) = true → qkind? kind = some k → (s.taken h).tenant? h.tenant = some x →
    ((s.taken h).queuesOf h.tenant).length < x.qQueues → (s.taken h).kibOf h.tenant + (2 ^ size + (hold + 15) / 16) ≤ x.qRingKib →
    (s.taken h).freeQueues ≠ [] →
    ∃ (n b : Nat) (t : Machine.State),
      exec (.qCreate h kind size hold dflt pair) s = .next (s.answered h (.qCreate kind size hold dflt pair) t [res32 [fN 16 2 n]]) ∧
      (∃ r, t.queues = r ++ [{ num := n, kind := k, size, tenant := h.tenant, holdCap := hold, base := b, bind := h.session,
                               pair := if kind = 0 then some pair else none, creditDue := kind == 0 }] ∧
        r.map Queue.num = (s.taken h).queues.map Queue.num) ∧
      t.tenants = (if dflt then updFirst (fun y => y.num == h.tenant) (fun y => y.setDefault k (some n)) (s.taken h).tenants
        else (s.taken h).tenants)) ∧
  (∀ (s : Machine.State) (h : CmdHead) (q : Nat), s.accepts h (.qDelete q) = true → q ≠ h.queue →
    ((s.taken h).queue? h.queue).bind Queue.pair ≠ some q → (s.taken h).queues.any (fun x => x.kind == .command && x.pair == some q) = false →
    exec (.qDelete h q) s = .next (s.answered h (.qDelete q) ((s.taken h).dropQueue q) [])) ∧
  (∀ (s : Machine.State) (h : CmdHead) (q : Nat) (x : Queue), s.accepts h (.qBind q) = true → (s.taken h).queue? q = some x →
    let t := (s.taken h).onQueue q (fun y => { y with bind := h.session, sent := y.cack, ackT := (s.taken h).now })
    exec (.qBind h q) s = .next (s.answered h (.qBind q) t [res32 [fN 16 2 x.cack]])) ∧
  (∀ (s : Machine.State) (h : CmdHead) (q : Nat) (mask : Mask64), s.accepts h (.qRoute q mask.toNat) = true →
    let t := s.taken h
    exec (.qRoute h q mask) s = .next (s.answered h (.qRoute q mask.toNat)
      { t with leases := t.leases.map (fun l =>
          (l.1, if (maskList 64 mask.toNat).any (fun k => leaseHolds l.1 l.2.f k) then { l.2 with route := some q } else l.2)) } []))

/-- R428 to R432, R426 to R429, R439, R447 to R449, R491: the commands on tenants complete OK with the effect that each rule gives. -/
def Obligations.TenantCommandsComplete : Prop :=
  (∀ (s : Machine.State) (h : CmdHead) (slot : Nat) (sec : List Byte) (x : Tenant), s.accepts h (.keyWrite slot sec) = true →
    (s.taken h).tenant? h.tenant = some x → x.key slot = none → (s.taken h).takesNvm 3 = true → ((s.taken h).copied 3).enrolling h = false →
    exec (.keyWrite h slot sec) s = .next (s.answered h (.keyWrite slot sec)
      ((((s.taken h).copied 3).onTenant h.tenant (fun y => y.setKey slot (some sec))).keyDue h.tenant false) [])) ∧
  (∀ (s : Machine.State) (h : CmdHead) (slot n : Nat) (sec : List Byte) (x : Tenant), s.accepts h (.keyWrite slot sec) = true →
    (s.taken h).tenant? h.tenant = some x → x.key slot = none → (s.taken h).takesNvm 3 = true → ((s.taken h).copied 3).enrolling h = true →
    h.session = some n →
    exec (.keyWrite h slot sec) s = .next (s.answered h (.keyWrite slot sec)
      (((((s.taken h).copied 3).onTenant h.tenant (fun y =>
        { (y.setKey slot (some sec)) with code := none, enrolled := y.enrolled || y.num == 0 })).keyDue h.tenant false).closeSession n) [])) ∧
  (∀ (s : Machine.State) (h : CmdHead) (slot : Nat) (x : Tenant), s.accepts h (.keyClear slot) = true →
    (s.taken h).tenant? h.tenant = some x → (∀ y, h.session.bind (s.taken h).session? = some y → y.keyid ≠ slot) →
    (x.key slot = none ∨ (x.key (1 - slot)).isSome) → (s.taken h).takesNvm 3 = true →
    exec (.keyClear h slot) s = .next (s.answered h (.keyClear slot)
      ((((s.taken h).copied 3).onTenant h.tenant (fun y => y.setKey slot none)).keyDue h.tenant false) [])) ∧
  (∀ (s : Machine.State) (h : CmdHead) (ttl n : Nat), s.accepts h (.tenantCreate ttl) = true →
    ((List.range 253).map (fun i => i + 1)).find? (fun t => ((s.taken h).tenant? t).isNone) = some n →
    (s.taken h).quotaSum + 512 ≤ 11968 → (s.taken h).takesNvm 3 = true →
    let u := (s.taken h).copied 3
    let code := leBytes 8 (Config.freeNat u.draws)
    let key := leBytes 32 (Config.freeNat (u.draws + 1))
    let v := { u with draws := u.draws + 2, tenants := u.tenants ++ [newTenant n code key (u.now + enrTtl ttl) u.now] }.keyDue n true
    exec (.tenantCreate h ttl) s = .next (s.answered h (.tenantCreate ttl) (v.onTenant n (fun x => { x with viewBits := v.viewBitsOf n }))
      [res32 [fN 16 1 n, (24, code)]])) ∧
  (∀ (s : Machine.State) (h : CmdHead) (n : Nat), s.accepts h (.tenantSuspend n) = true → ((s.taken h).tenant? n).isSome →
    (s.taken h).takesNvm 3 = true →
    exec (.tenantSuspend h n) s = .next (s.answered h (.tenantSuspend n)
      ((((s.taken h).copied 3).onTenant n (fun y => { y with suspended := true })).closeSessions n) [])) ∧
  (∀ (s : Machine.State) (h : CmdHead) (n : Nat), s.accepts h (.tenantResume n) = true → ((s.taken h).tenant? n).isSome →
    (s.taken h).takesNvm 3 = true →
    exec (.tenantResume h n) s = .next (s.answered h (.tenantResume n)
      (((s.taken h).copied 3).onTenant n (fun y => { y with suspended := false })) [])) ∧
  (∀ (s : Machine.State) (h : CmdHead) (n : Nat), s.accepts h (.tenantRemove n) = true → ((s.taken h).tenant? n).isSome →
    (s.taken h).leases.any (fun l => l.2.f.tenant == n) = false → ((s.taken h).meterOf n).isZero = true → (s.taken h).takesNvm 3 = true →
    let v := ((s.taken h).copied 3).closeSessions n
    let u := v.onLed (fun l => if l.hasPending n then { l with lastKeys := (n, v.dataKey n) :: l.lastKeys.filter (fun x => x.1 != n) } else l)
    exec (.tenantRemove h n) s = .next (s.answered h (.tenantRemove n)
      { u with queues := u.queues.filter (fun q => q.tenant != n), tenants := u.tenants.filter (fun y => y.num != n)
               inflight := u.inflight.filter (fun r => r.head.tenant != n), waiting := u.waiting.filter (fun w => w.1.tenant != n)
               met := { u.met with meters := u.met.meters.filter (fun m => m.tenant != n) } } [])) ∧
  (∀ (s : Machine.State) (h : CmdHead) (n ttl : Nat), s.accepts h (.tenantReenrol n ttl) = true → ((s.taken h).tenant? n).isSome →
    (s.taken h).takesNvm 3 = true →
    let u := (s.taken h).copied 3
    let code := leBytes 8 (Config.freeNat u.draws)
    let key := leBytes 32 (Config.freeNat (u.draws + 1))
    let v := { u with draws := u.draws + 2 }.onTenant n (fun y =>
      { y with key0 := none, key1 := none, dataKey := key, code := some { code, expiry := u.now + enrTtl ttl } })
    exec (.tenantReenrol h n ttl) s = .next (s.answered h (.tenantReenrol n ttl) ((v.keyDue n true).closeSessions n) [res32 [(24, code)]])) ∧
  (∀ (s : Machine.State) (h : CmdHead) (n : Nat) (q : QuotaFields) (x : Tenant), s.accepts h (.quotaSet n q) = true →
    (s.taken h).tenant? n = some x → (s.taken h).takesNvm 3 = true →
    let k (new old : Nat) : Nat := if new = 0 then old else new
    ((s.taken h).sessions.filter (fun y => y.tenant == n)).length ≤ k q.sessions x.qSess →
    ((s.taken h).queuesOf n).length ≤ k q.queues x.qQueues → (s.taken h).kibOf n ≤ k q.ringkib x.qRingKib →
    (s.taken h).quotaSum - x.qRingKib + k q.ringkib x.qRingKib ≤ 11968 →
    exec (.quotaSet h n q) s = .next (s.answered h (.quotaSet n q)
      (((s.taken h).copied 3).onTenant n (fun y => { y.rebucket ((s.taken h).copied 3).now (k q.evrate y.qEvRate) with
        qSess := k q.sessions x.qSess, qQueues := k q.queues x.qQueues, qRingKib := k q.ringkib x.qRingKib
        qRecRate := k q.recrate y.qRecRate })) []))

/-- R252, R254, R274, R291: PROG_WRITE, PROG_LEN, PROG_READ, PROG_DISCARD, VAR_WRITE and VAR_READ complete OK: a write changes the shadow image
(or the variables) of the named channel alone, a read changes nothing of it.

R292 to R295: a COMMIT whose shadow image passes every check puts it into the commit buffer and completes later, at the swap; a check-only
COMMIT answers IMGGEN and LEN; an image that fails completes with the first status that applies and the first offending step, and nothing
else changes. -/
def Obligations.ProgramCommandsComplete : Prop :=
  ((∀ (s : Machine.State) (h : CmdHead) (c : ChanNo) (steps : List (Nat × StepWord)), s.accepts h (.progWrite steps) = true →
    chan? h.channel = some c →
    exec (.progWrite h steps) s = .next (s.answered h (.progWrite steps)
      ((s.taken h).onProg c (fun p => { p with shadow := steps.foldl (fun l x => putStep l x.1 x.2) p.shadow })) [])) ∧
  (∀ (s : Machine.State) (h : CmdHead) (c : ChanNo) (len : Nat), s.accepts h (.progLen len) = true → chan? h.channel = some c →
    exec (.progLen h len) s = .next (s.answered h (.progLen len)
      ((s.taken h).onProg c (fun p => { p with shLen := len, shadow := p.shadow.take len })) [])) ∧
  (∀ (s : Machine.State) (h : CmdHead) (c : ChanNo) (which first count : Nat), s.accepts h (.progRead which first count) = true →
    chan? h.channel = some c →
    let p := ((s.taken h).chan c).prog
    let m : Image := if which = 0 then p.live else p.shadowImage
    exec (.progRead h which first count) s = .next ((s.caused h (s.taken h)).complete (s.headOf h) (.progRead which first count)
      { detail := m.length + 65536 * p.imggen, results := (List.range count).map (fun i => leBytes 32 (m.at_ (first + i)).toNat) })) ∧
  (∀ (s : Machine.State) (h : CmdHead) (c : ChanNo), s.accepts h .progDiscard = true → chan? h.channel = some c →
    exec (.progDiscard h) s = .next (s.answered h .progDiscard
      ((s.taken h).onProg c (fun p => { p with shadow := p.live, shLen := p.live.length })) [])) ∧
  (∀ (s : Machine.State) (h : CmdHead) (c : ChanNo) (pairs : List (Nat × Word32)),
    s.accepts h (.varWrite (pairs.map (fun p => (p.1, p.2.toNat)))) = true → chan? h.channel = some c →
    exec (.varWrite h pairs) s = .next (s.answered h (.varWrite (pairs.map (fun p => (p.1, p.2.toNat))))
      ((s.taken h).onProg c (fun p =>
        { p with vars := (pairs.map (fun x => (x.1, x.2.toNat))).foldl (fun v x => v.set x.1 (sx 32 x.2)) p.vars })) [])) ∧
  (∀ (s : Machine.State) (h : CmdHead) (c : ChanNo), s.accepts h .varRead = true → chan? h.channel = some c →
    exec (.varRead h) s = .next (s.answered h .varRead (s.taken h)
      (chunks32 4 ((List.range 32).map (fun i => leBytes 4 (w32 (((s.taken h).chan c).prog.var i)))).flatten)))) ∧
  ((∀ (s : Machine.State) (h : CmdHead) (c : ChanNo), s.accepts h (.commit false) = true → chan? h.channel = some c →
    (s.taken h).commitCheck c = none →
    exec (.commit h) s = .next (s.caused h ((s.taken h).onProg c (fun p =>
      { p with commit := some p.shadowImage, commitBy := some (s.headOf h) })))) ∧
  (∀ (s : Machine.State) (h : CmdHead) (c : ChanNo), s.accepts h (.commit true) = true → chan? h.channel = some c →
    (s.taken h).commitCheck c = none →
    let p := ((s.taken h).chan c).prog
    exec (.commitCheckonly h) s = .next (s.answered h (.commit true) (s.taken h) [res32 [fN 16 1 p.imggen, fN 18 2 p.shLen]])) ∧
  (∀ (s : Machine.State) (h : CmdHead) (c : ChanNo) (st : Status) (i : Nat), s.accepts h (.commit false) = true → chan? h.channel = some c →
    (s.taken h).commitCheck c = some (st, i) →
    exec (.commit h) s = .next ((s.caused h (s.taken h)).complete (s.headOf h) (.commit false) { status := st, index := i })) ∧
  (∀ (s : Machine.State) (c : ChanNo) (m : List StepWord) (h : CmdHead), (s.chan c).prog.commit = some m → (s.chan c).prog.commitBy = some h →
    (s.chan c).prog.swapBusy m = false → s.stewardOn = true → s.gatOff (gOf c) = false →
    let t := (s.onProg c (fun p => { p with live := m, shadow := m, shLen := m.length, imggen := nextGen p.imggen, commit := none, commitBy := none })).onGat
      (gOf c) (fun y => { y with draining := true })
    exec (.commitSwap c) s = .next (t.complete h (.commit false) { results := [res32 [fN 16 1 (nextGen (s.chan c).prog.imggen), fN 18 2 m.length]] }).runWaiting) ∧
  (∀ (s : Machine.State) (g : GatherNo),
    exec (.commitBufferDrain g) s = .next (s.onGat g (fun y => { y with draining := false })).runWaiting))

/-- R269, R138, R290, R102, R172, R473: SIGNAL, START, STOP, PAUSE, RESUME and CLEAR complete OK on a channel in the state in which each takes
effect; the completion answers the channel's state. -/
def Obligations.ChannelCommandsComplete : Prop :=
  (∀ (s : Machine.State) (h : CmdHead) (sig : Nat) (mask : Mask64), s.accepts h (.signal sig mask.toNat) = true →
    let code := 0x20 + sig
    exec (.signal h sig mask) s = .next (s.answered h (.signal sig mask.toNat)
      (((maskList 64 mask.toNat).filterMap chan?).foldl (fun u m =>
        let c := u.leaderOf m
        if u.tests c then u.onProg c (fun p => { p with events := if p.events.contains code then p.events else code :: p.events }) else u)
        (s.taken h)) [])) ∧
  (∀ (s : Machine.State) (h : CmdHead) (c : ChanNo) (entry : Nat), s.accepts h (.start entry) = true → chan? h.channel = some c →
    ((s.taken h).chan c).loop.st = .stopped → ((s.taken h).chan c).prog.live ≠ [] → (s.taken h).reversed c = false →
    let u := (s.taken h).onProg c (fun p => p.started entry h.corr)
    let r := u.beginSettle c .start
    let t := ((if r.2 then (r.1.firstStep c entry).goSwitch c else r.1).lehrRamp c).refreshMode
    exec (.start h entry) s = .next (s.answered h (.start entry) t [res32 [fN 16 1 (stCode (t.chan c).loop.st)]])) ∧
  (∀ (s : Machine.State) (h : CmdHead) (c : ChanNo), s.accepts h .stop = true → chan? h.channel = some c →
    (((s.taken h).chan c).loop.st = .settling ∨ ((s.taken h).chan c).loop.st = .softstart ∨ ((s.taken h).chan c).loop.st = .active
      ∨ ((s.taken h).chan c).loop.st = .resting) →
    let t := ((s.taken h).rampStop c .stop (some h.corr)).refreshMode
    exec (.stop h) s = .next (s.answered h .stop t [res32 [fN 16 1 (stCode (t.chan c).loop.st)]])) ∧
  (∀ (s : Machine.State) (h : CmdHead) (c : ChanNo), s.accepts h .stop = true → chan? h.channel = some c →
    ((s.taken h).chan c).loop.st = .paused →
    let t := ((s.taken h).byCorr c h.corr (fun v =>
      let u := (v.endProg c).onChan c (fun x => { x with resume := false })
      u.forChans (u.membersOf c) (fun m s => s.setSt m .stopped .none 0))).refreshMode
    exec (.stop h) s = .next (s.answered h .stop t [res32 [fN 16 1 (stCode (t.chan c).loop.st)]])) ∧
  (∀ (s : Machine.State) (h : CmdHead) (c : ChanNo), s.accepts h .pause = true → chan? h.channel = some c →
    (((s.taken h).chan c).loop.st = .settling ∨ ((s.taken h).chan c).loop.st = .softstart ∨ ((s.taken h).chan c).loop.st = .active
      ∨ ((s.taken h).chan c).loop.st = .resting) →
    let t := ((s.taken h).rampStop c .pause (some h.corr)).refreshMode
    exec (.pause h) s = .next (s.answered h .pause t [res32 [fN 16 1 (stCode (t.chan c).loop.st)]])) ∧
  (∀ (s : Machine.State) (h : CmdHead) (c : ChanNo) (restart : Nat), s.accepts h (.resume restart) = true → chan? h.channel = some c →
    ((s.taken h).chan c).loop.st = .paused → ((s.taken h).chan c).prog.inStep = true →
    let u := (s.taken h).onChan c (fun x => { x with resume := false, prog := { x.prog with corr := h.corr } })
    let t := (((if restart = 1 then u.restartStep c else u).beginSettle c .resume).1.lehrRamp c).refreshMode
    exec (.resume h restart) s = .next (s.answered h (.resume restart) t [res32 [fN 16 1 (stCode (t.chan c).loop.st)]])) ∧
  (∀ (s : Machine.State) (h : CmdHead) (c : ChanNo), s.accepts h .clear = true → chan? h.channel = some c →
    ((s.taken h).chan c).loop.st = .faulted → ((s.taken h).chan c).prot.retryWait = false →
    ((s.taken h).membersOf c).any (fun m => (s.taken h).chanFenced m) = false → ((s.taken h).membersOf c).any (s.taken h).hotFor = false →
    let t := ((s.taken h).byCorr c h.corr (fun v =>
      let u := v.endProg c
      u.forChans (u.membersOf c) (fun m s =>
        let s := s.onLoop m (fun l => { l with con := false, tcoff := false })
        (s.onProt m (fun p => { p with retries := 0 })).setSt m .stopped .none 0))).refreshMode
    exec (.clear h) s = .next (s.answered h .clear t [res32 [fN 16 1 (stCode (t.chan c).loop.st)]]))

/-- R138, R143, R290: what the shared operations of the channel commands do to the channel that they name, when it stands in no gang: a start or a
resume closes CON and settles, a ramped stop of a switching channel is STOPPING.

R64, R66, R113, R149: PWH and PWL are never high together, the second switch rises only after its dead time, and a part that may not drive a channel
holds CON in high impedance and its thermistor without excitation. -/
def Obligations.SettleAndRamp : Prop :=
  (∀ (s : Machine.State) (c : ChanNo) (w : SettleFor), s.gangOf c = none → ((s.chan c).loop.con = false ∨ w ≠ .start) →
    let r := s.beginSettle c w
    r.2 = false ∧ (r.1.chan c).loop.st = .settling ∧ (r.1.chan c).loop.con = true ∧ (r.1.chan c).loop.ramp = 0 ∧
      (r.1.chan c).loop.settle = w ∧ ∀ d, d ≠ c → r.1.chan d = s.chan d) ∧
  (∀ (s : Machine.State) (c : ChanNo) (w : StopFor), s.gangOf c = none → ((s.chan c).loop.st = .softstart ∨ (s.chan c).loop.st = .active) →
    ∀ corr, s.endingSlot c = none →
    let t := s.rampStop c w corr
    (t.chan c).loop.st = .stopping ∧ (t.chan c).loop.stopFor = w ∧ (t.chan c).loop.con = (s.chan c).loop.con ∧
      ∀ d, d ≠ c → t.chan d = s.chan d) ∧
  (∀ (d : Duty) (per dthl dtlh : Nat) (zc : Option Nat) (t u : Nat),
    ¬ ((d.levels per dthl dtlh zc t).1 = true ∧ (d.levels per dthl dtlh zc t).2 = true) ∧
    (d.pwl = false → (d.levels per dthl dtlh zc t).1 = true → (d.levels per dthl dtlh zc u).2 = true → t + dthl < u) ∧
    (d.pwl = true → (d.levels per dthl dtlh zc t).2 = true → (d.levels per dthl dtlh zc u).1 = true → t + dtlh < u)) ∧
  (∀ (s : Machine.State) (c : ChanNo), s.mayDrive c = false → s.conBall c = .z ∧ s.tmpExcite c = 0)

/-- R227, R249, R251, R473, Table 12-9: MEAS_CFG, MEAS_READ, COEF_READ and CH_READ complete OK; the reads change nothing of the channel. -/
def Obligations.MeasureCommandsComplete : Prop :=
  (∀ (s : Machine.State) (h : CmdHead) (c : ChanNo) (setRate setRange : Bool) (rate rng fix : Nat),
    s.accepts h (.measCfg setRate setRange rate rng fix) = true → chan? h.channel = some c →
    let t := s.taken h
    exec (.measCfg h setRate setRange rate rng fix) s = .next (s.answered h (.measCfg setRate setRange rate rng fix)
      (t.forChans (t.membersOf c) (fun m u => u.measCfgOne m setRate setRange rate rng fix))
      [res32 [fN 16 8 (if setRate then t.rateTime (t.fld (chA c 0xC0) 0 4) rate else 0)]])) ∧
  (∀ (s : Machine.State) (h : CmdHead) (c : ChanNo), s.accepts h .measRead = true → chan? h.channel = some c →
    let t := s.taken h
    let m := (t.chan c).meas
    exec (.measRead h) s = .next (s.answered h .measRead t
      [res32 [fN 16 8 m.stamp, fI 24 4 m.vout, fI 28 4 (t.recI c), fI 32 2 m.smpTcell, fN 34 2 m.mstat, fI 36 4 m.smpIref, fN 40 1 m.smpState]])) ∧
  (∀ (s : Machine.State) (h : CmdHead) (c : ChanNo) (layer qty : Nat), s.accepts h (.coefRead layer qty) = true → chan? h.channel = some c →
    let t := s.taken h
    let k := t.coefs c layer qty
    exec (.coefRead h layer qty) s = .next (s.answered h (.coefRead layer qty) t
      [res32 [fI 16 4 k.1, fI 20 4 k.2.1, fI 24 4 k.2.2, fN 28 1 (t.chan c).meas.calgen,
        fN 29 1 ((t.gat (gOf c)).seats.getD (inputOf c (qty != 0)) (inputOf c (qty != 0)))]])) ∧
  (∀ (s : Machine.State) (h : CmdHead) (c : ChanNo), s.accepts h .chRead = true → chan? h.channel = some c →
    let t := s.taken h
    exec (.chRead h) s = .next (s.answered h .chRead t
      [res32 [fN 16 4 (t.viewChan c 0x10), fN 20 4 (t.viewChan c 0xB0), fN 24 4 (t.viewProg c 0x00), fN 28 4 (t.viewProg c 0x04),
        fN 32 4 (t.bcStat c), fN 36 4 (t.viewProg c 0x08), fN 40 4 (t.viewProg c 0x24), fN 44 4 (t.viewProg c 0x28)]]))

/-- R329, R339, R341, R344, Table 12-10: EST_SET waits for the next update, OCV_TABLE replaces the table, EST_READ answers the estimate, RELEARN
forgets what was learned; each on the channel's estimator, or on the pack's with CHANNEL 0xFF.

R360, R363, R364, R369, R374, Table 12-11: the counters and meters are read without change; METER_CLOSE closes the billing period;
METER_LIMITS writes both front-end limits; METER_SCHED leaves each entry for the next minute boundary. -/
def Obligations.EstimatorAndMeterCommandsComplete : Prop :=
  ((∀ (s : Machine.State) (h : CmdHead) (f : EstFields), s.accepts h (.estSet f) = true →
    exec (.estSet h f) s = .next (s.answered h (.estSet f) ((s.taken h).onEstAt h.channel (fun e => e.setNext f)) [])) ∧
  (∀ (s : Machine.State) (h : CmdHead) (pts : List (Nat × Int)), s.accepts h (.ocvTable pts) = true →
    exec (.ocvTable h pts) s = .next (s.answered h (.ocvTable pts) ((s.taken h).onEstAt h.channel (fun e => { e with table := pts })) [])) ∧
  (∀ (s : Machine.State) (h : CmdHead) (table : Bool), s.accepts h (.estRead table) = true →
    let e := (s.taken h).estAt h.channel
    exec (.estRead h table) s = .next (s.answered h (.estRead table) (s.taken h)
      (chunks32 2 (estPayload e) ++ [sliceB (estParams e) 0 32]
        ++ (if table then chunks32 ((e.table.length + 3) / 4) ((e.table.map (fun p => leBytes 4 p.1 ++ leBytesI 4 p.2)).flatten) else [])))) ∧
  (∀ (s : Machine.State) (h : CmdHead), s.accepts h .relearn = true → ((s.taken h).estAt h.channel).stale = false →
    exec (.relearn h) s = .next (s.answered h .relearn ((s.taken h).onEstAt h.channel (fun e =>
      { e with cmeas := none, k := none, isd := none, dcir := none, stale := false })) [])) ∧
  (∀ (s : Machine.State) (h : CmdHead) (c : ChanNo), s.accepts h .relearn = true → chan? h.channel = some c →
    ((s.taken h).chan c).est.stale = true →
    let t := (s.taken h).onEst c (fun e => { e with cmeas := none, k := none, isd := none, dcir := none, stale := false })
    exec (.relearn h) s = .next (s.answered h .relearn (t.estEvt c 1 (t.chan c).est.cnom) []))) ∧
  ((∀ (s : Machine.State) (h : CmdHead) (c : ChanNo), s.accepts h .counterRead = true → chan? h.channel = some c →
    let n := ((s.taken h).chan c).cnt.add ((s.taken h).chan c).cntNew
    exec (.counterRead h) s = .next (s.answered h .counterRead (s.taken h)
      (chunks32 4 (if h.tenant = 0 then n else match (s.taken h).leaseOf c.val with | some l => n.sub l.2.base | none => n).bytes))) ∧
  (∀ (s : Machine.State) (h : CmdHead) (n : Nat), s.accepts h (.meterRead n) = true →
    let x := (s.taken h).meterOf n
    let m := (s.taken h).met
    exec (.meterRead h n) s = .next (s.answered h (.meterRead n) (s.taken h)
      ((List.range 8).map (fun i => res32 [fN 16 8 (x.imp.getD i 0), fN 24 8 (x.exp.getD i 0), fN 32 4 (x.peak.getD i 0), fN 36 8 (x.peakT.getD i 0)])
        ++ [res32 [fN 16 1 m.tariff, fN 17 1 m.flags, fN 18 8 m.startPtp, fN 26 8 x.runImp, fN 34 8 x.runExp]]))) ∧
  (∀ (s : Machine.State) (h : CmdHead), s.accepts h .meterClose = true →
    exec (.meterClose h) s = .next (s.answered h .meterClose (s.taken h).closeBilling [])) ∧
  (∀ (s : Machine.State) (h : CmdHead) (imp exp : Word32), s.accepts h (.meterLimits imp.toNat exp.toNat) = true → (s.taken h).takesNvm 1 = true →
    Machine.exec (.meterLimits h imp exp) s = .next (s.answered h (.meterLimits imp.toNat exp.toNat)
      ((((s.taken h).copied 1).setReg 0x200004 imp.toNat).setReg 0x200008 exp.toNat) [])) ∧
  (∀ (s : Machine.State) (h : CmdHead) (first : Nat) (words : List Word32), s.accepts h (.meterSched first (words.map (fun w => w.toNat))) = true →
    (s.taken h).takesNvm 1 = true →
    let ws := words.map (fun w => w.toNat)
    exec (.meterSched h first words) s = .next (s.answered h (.meterSched first ws)
      ((List.range ws.length).foldl (fun u i => u.writeSched (first + i) (bitsOf (ws.getD i 0) 0 14 + 32768 * bitsOf (ws.getD i 0) 15 8)) ((s.taken h).copied 1)) [])))

/-- R496, R505, R515, R541, R551, Tables 12-12 and 12-13: LEDGER_READ and PAIR_READ change nothing; LEDGER_FETCH starts a fetch; LEDGER_RETAIN sets
a retention; LEDGER_SEAL of a stream with nothing to seal answers at once, and otherwise completes when its batches are durable; HANDOVER sends
PREP and waits for READY until its deadline. -/
def Obligations.LedgerAndPairCommandsComplete : Prop :=
  (∀ (s : Machine.State) (h : CmdHead), s.accepts h .ledgerRead = true →
    let t := s.taken h
    let l := t.board.led
    let mine := l.stored.filter (fun b => b.stream == h.tenant)
    let data := mine.filter (fun b => b.btype == 0)
    let own := res32 [fN 16 8 ((mine.map (fun b => b.nblk * 4096)).sum), fN 24 8 (leastOf (data.map Batch.first)),
      fN 32 8 (greatestOf (data.map Batch.last)), fN 40 8 (t.streamOf h.tenant).durable]
    let all := res32 [fN 16 8 (l.segs.length * 1048576), fN 24 8 (if l.isMounted then l.freeSegs * 1048576 else 0),
      fN 32 1 (maskOf ((List.range 4).filter (fun d => (l.drive d).state == 1))), fN 33 1 l.arrange, fN 34 1 (Nat.min 1024 l.used * 100 / 1024)]
    exec (.ledgerRead h) s = .next (s.answered h .ledgerRead t (if h.tenant = 0 then [own, all] else [own]))) ∧
  (∀ (s : Machine.State) (h : CmdHead) (a b q : Nat) (mask : Mask64) (per : Bool), s.accepts h (.ledgerFetch a b mask.toNat q per) = true →
    (s.taken h).led.fetches.any (fun f => f.head.tenant == h.tenant) = false → (s.taken h).led.isMounted = true →
    let t := (s.taken h).onLed (fun l =>
      { l with fetches := l.fetches ++ [{ head := s.headOf h, from_ := a, to_ := b, mask := mask.toNat, queue := q, periodic := per, next := 0 }] })
    exec (.ledgerFetch h a b mask q per) s = .next ((s.caused h (t.onQueue q (fun x => { x with fetching := true }))).complete (s.headOf h)
      (.ledgerFetch a b mask.toNat q per) { detail := ((s.taken h).led.inRange h.tenant a b 0).length })) ∧
  (∀ (s : Machine.State) (h : CmdHead) (n days : Nat), s.accepts h (.ledgerRetain n days) = true → (s.taken h).takesNvm 1 = true →
    let ts := if n = 255 then List.range 254 else [n]
    exec (.ledgerRetain h n days) s = .next (s.answered h (.ledgerRetain n days)
      (((s.taken h).copied 1).onLed (fun l =>
        { l with retain := l.retain.filter (fun x => !ts.contains x.1) ++ (if days = 0 then [] else ts.map (fun t => (t, days))) })) [])) ∧
  (∀ (s : Machine.State) (h : CmdHead) (x : Tenant), s.accepts h .ledgerSeal = true → (s.taken h).tenant? h.tenant = some x → (∀ a, x.lastSeal = some a → a + 100000000 ≤ (s.taken h).now) →
    (s.taken h).led.isMounted = true →
    let t := ((s.taken h).sealStream h.tenant 2).writeOut.onTenant h.tenant (fun y => { y with lastSeal := some (s.taken h).now })
    let n := (t.led.sealed_.filter (fun b => b.stream == h.tenant && b.btype == 0)).length
    exec (.ledgerSeal h) s = .next (if n = 0 then
        s.answered h .ledgerSeal t [res32 [fN 16 8 (t.streamOf h.tenant).lastSeal, fN 24 8 (t.streamOf h.tenant).lastAddr]]
      else s.caused h (t.onLed (fun l => { l with seals := l.seals ++ [(s.headOf h, h.tenant, n)] })))) ∧
  (∀ (s : Machine.State) (h : CmdHead), s.accepts h .pairRead = true →
    let t := s.taken h
    let p := t.board.pair
    exec (.pairRead h) s = .next (s.answered h .pairRead t
      [res32 [fN 16 1 t.role, fN 17 1 (lanesUp p.lanes), fN 20 4 p.epoch, fN 24 8 p.pSerial, fN 32 4 (t.reg 0x33001C), fN 36 4 (t.reg 0x330020),
        fN 40 4 (t.fld 0x330014 16 16)]])) ∧
  (∀ (s : Machine.State) (h : CmdHead) (d : Nat), s.accepts h (.handover d) = true → (s.taken h).board.pair.ho = .none →
    ((s.taken h).mode.mode ≠ .service ∨ (s.taken h).execMask = 0) →
    exec (.handover h d) s = .next (s.caused h (((s.taken h).sendZl .hoPrep).onPair (fun p =>
      { p with ho := .prep (s.headOf h) ((s.taken h).ptp + d * 1000000) }))))

/-- R557 to R561, R565, R566, Tables 12-14 and 12-15: the time commands complete OK; SUMMER completes later, at the next second tick.

R601, R614, R615, R640, R654, R655, Table 12-16: POWER_READ changes nothing; a SHIP request enters LEHR; WARM_RESET records the commanded
reset and completes; BLOCK_RESET begins the quiesce of its block, or joins the reset of it that runs, and completes later. -/
def Obligations.TimeAndPowerCommandsComplete : Prop :=
  ((∀ (s : Machine.State) (h : CmdHead), s.accepts h .timeRead = true →
    let t := s.taken h
    let b := t.board.time
    let fs := [(16, calBytes b.cal), fN 24 8 t.ptp,
      fN 32 1 (b2n b.valid + 2 * b2n (b.ptp == .locked) + 4 * b2n (b.ptp == .mains) + 8 * b2n (b.ptp == .holdover))]
    exec (.timeRead h) s = .next (s.answered h .timeRead t [res32 (if h.tenant = 0 then fs ++ [fI 34 2 (t.fldS 0x050010 0 10)] else fs)])) ∧
  (∀ (s : Machine.State) (h : CmdHead) (cal : CalTime) (date wday : Bool), s.accepts h (.timeSet cal date wday) = true →
    let t := if date then (s.taken h).loadTime cal else s.taken h
    exec (.timeSet h cal date wday) s = .next (s.answered h (.timeSet cal date wday) (if wday then t.loadWday cal.wday else t) [])) ∧
  (∀ (s : Machine.State) (h : CmdHead), s.accepts h (.summer true) = true → (s.taken h).board.time.cal.summer = false →
    (s.taken h).board.time.sumReq = none →
    exec (.summerForward h) s = .next (s.caused h ((s.taken h).onTime (fun t => { t with sumReq := some (true, s.headOf h) })))) ∧
  (∀ (s : Machine.State) (h : CmdHead), s.accepts h (.summer false) = true → (s.taken h).board.time.cal.summer = true →
    (s.taken h).board.time.sumReq = none →
    exec (.summerBack h) s = .next (s.caused h ((s.taken h).onTime (fun t => { t with sumReq := some (false, s.headOf h) })))) ∧
  (∀ (s : Machine.State) (h : CmdHead) (which : Nat) (en : Bool) (cal : CalTime) (period : Nat),
    s.accepts h (.wakeSet which en cal period) = true → which ≠ 2 →
    exec (.wakeSet h which en cal period) s = .next (s.answered h (.wakeSet which en cal period)
      (((s.taken h).setReg (0x050020 + 8 * which) (alarmTime en cal)).setReg (0x050024 + 8 * which) (alarmDay cal)) [])) ∧
  (∀ (s : Machine.State) (h : CmdHead) (en : Bool) (cal : CalTime) (period : Nat), s.accepts h (.wakeSet 2 en cal period) = true →
    let t := ((s.taken h).setFld 0x050030 0 23 period).setFld 0x050030 31 1 (b2n en)
    exec (.wakeSet h 2 en cal period) s = .next (s.answered h (.wakeSet 2 en cal period)
      (t.onTime (fun x => { x with pwakeT := (s.taken h).now })) [])) ∧
  (∀ (s : Machine.State) (h : CmdHead) (p : Int), s.accepts h (.calTrim p) = true →
    exec (.calTrim h p) s = .next (s.answered h (.calTrim p) ((s.taken h).setTrim p) []))) ∧
  ((∀ (s : Machine.State) (h : CmdHead), s.accepts h .powerRead = true →
    let t := s.taken h
    let p := t.board.pwr
    exec (.powerRead h) s = .next (s.answered h .powerRead t
      [res32 [fN 16 4 p.rd.vin, fN 20 4 p.rd.packv, fN 24 1 (pathCode p.path), fN 25 1 (chgCode p.chg), fN 26 1 t.railsGood, fI 28 4 t.packSoc],
       res32 ((List.range 4).map (fun m => fN (16 + 4 * m) 4 (p.rd.mon.getD m 0)))])) ∧
  (∀ (s : Machine.State) (h : CmdHead), s.accepts h .ship = true → (s.taken h).board.pwr.present = true →
    exec (.powerCtlShip h) s = .next (s.answered h .ship (((s.taken h).enterLehr 0x13).settle) [])) ∧
  (∀ (s : Machine.State) (h : CmdHead), s.accepts h .warmReset = true →
    let t := s.taken h
    exec (.powerCtlWarmReset h) s = .next (s.answered h .warmReset
      { t with rst := { t.rst with commanded := true, commandedSrc := if h.queue = 0 then 9 else 8, commandedT := t.now } } [])) ∧
  (∀ (s : Machine.State) (h : CmdHead) (b : Nat), s.accepts h (.blockReset b) = true →
    ((b ≠ 8 ∨ (s.taken h).optL = true) ∧ (b ≠ 0x0A ∨ (s.taken h).optT = true) ∧ (b ≠ 0x0B ∨ (s.taken h).optZ = true)) →
    (s.taken h).blockInUse b = false → (s.taken h).inBlockReset b = false →
    let t := s.taken h
    let r : BlockReset := { block := b, head := some (s.headOf h), at_ := t.now }
    exec (.powerCtlBlockReset h b) s = .next (s.caused h ({ t with rst := { t.rst with blocks := t.rst.blocks ++ [r] } }.quiesce b))) ∧
  (∀ (s : Machine.State) (h : CmdHead) (b : Nat), s.accepts h (.blockReset b) = true →
    ((b ≠ 8 ∨ (s.taken h).optL = true) ∧ (b ≠ 0x0A ∨ (s.taken h).optT = true) ∧ (b ≠ 0x0B ∨ (s.taken h).optZ = true)) →
    (s.taken h).blockInUse b = false → (s.taken h).inBlockReset b = true →
    let t := s.taken h
    exec (.powerCtlBlockReset h b) s = .next (s.caused h { t with rst := { t.rst with
      blocks := updFirst (fun x => x.block == b) (fun x => { x with more := x.more ++ [s.headOf h] }) t.rst.blocks } })))

/-- R91 to R94, R644, R675, Tables 12-18: ENTER, EXIT, HOUSE_CLEAR, FAULT_ACK and SELFTEST.

R229, R241, R439, R685, R686, Table 12-18: REFCHECK, RETEST, NVM_STAT, NVM_SCRUB and SET_TIMES. -/
def Obligations.ServiceCommandsAndChecksComplete : Prop :=
  ((∀ (s : Machine.State) (h : CmdHead), s.accepts h .svcEnter = true → (s.taken h).execMask = 0 → (s.taken h).mode.mode ≠ .service →
    (s.taken h).holdsPipe = true →
    exec (.enter h) s = .next (s.answered h .svcEnter (((s.taken h).enterMode .service 0x0D 0).settle) [])) ∧
  (∀ (s : Machine.State) (h : CmdHead), s.accepts h .svcExit = true → (s.taken h).execMask = 0 →
    exec (.exit h) s = .next (s.answered h .svcExit
      (((s.taken h).enterMode (if (s.taken h).anyFence then .degraded else .ready) 0x0E 0).settle) [])) ∧
  (∀ (s : Machine.State) (h : CmdHead), s.accepts h .houseClear = true →
    let t := s.taken h
    let u := { t with rst := { t.rst with latched := false, fcode := 0 }, fw := none, gathers := t.gathers.map Gather.idled }
    exec (.houseClear h) s = .next (s.answered h .houseClear
      (((u.onPair (fun p => { p with arb := .none })).enterMode .boot 0x16 0).settle) [])) ∧
  (∀ (s : Machine.State) (h : CmdHead) (code : Nat), s.accepts h (.faultAck code) = true →
    exec (.faultAck h code) s = .next (s.answered h (.faultAck code) (((s.taken h).ackFault code).settle) [])) ∧
  (∀ (s : Machine.State) (h : CmdHead) (n k : Nat) (g : GatherNo), s.accepts h (.selftest n k) = true → gather? n = some g →
    ((s.taken h).mode.mode = .ready ∨ (s.taken h).mode.mode = .service ∨ (s.taken h).mode.mode = .degraded) →
    (s.taken h).gatExec g = false → ((s.taken h).gat g).slot = none →
    exec (.selftest h n k) s = .next (s.caused h ((s.taken h).onGat g (fun y =>
      { y with slot := some k, slotBy := some (s.headOf h), slotDef := false })))) ∧
  (∀ (s : Machine.State) (h : CmdHead) (n k : Nat) (g : GatherNo), s.accepts h (.selftest n k) = true → gather? n = some g →
    (((s.taken h).mode.mode ≠ .ready ∧ (s.taken h).mode.mode ≠ .service ∧ (s.taken h).mode.mode ≠ .degraded) ∨
      (s.taken h).gatExec g = true ∨ ((s.taken h).gat g).slot ≠ none) →
    exec (.selftest h n k) s = .next ((s.caused h
      ((s.taken h).onGat g (fun y => { y with deferred := y.deferred ++ [(s.headOf h, k)] })).refreshMode).complete (s.headOf h) (.selftest n k) { status := .okDeferred }))) ∧
  ((∀ (s : Machine.State) (h : CmdHead) (n ppm : Nat) (g : GatherNo), s.accepts h (.refcheck n ppm) = true → gather? n = some g → ppm ≤ 200 →
    exec (.refcheck h n ppm) s = .next (s.answered h (.refcheck n ppm)
      ((((s.taken h).onGat g (fun y => { y with refok := true, refHold := false })).syncHold g).refreshMode) [res32 [fN 16 1 0]])) ∧
  (∀ (s : Machine.State) (h : CmdHead) (n ppm : Nat) (g : GatherNo), s.accepts h (.refcheck n ppm) = true → gather? n = some g → 200 < ppm →
    exec (.refcheck h n ppm) s = .next (s.answered h (.refcheck n ppm)
      (((((s.taken h).onGat g (fun y => { y with refok := false, refHold := true })).merr g 2).fault (uGat g) 5).syncHold g) [res32 [fN 16 1 1]])) ∧
  (∀ (s : Machine.State) (h : CmdHead) (n conv : Nat) (g : GatherNo) (p : CalPoints),
    s.accepts h (.retest n conv p.d p.noise) = true → gather? n = some g → (s.taken h).calOk g conv p.d p.noise = true →
    (s.taken h).takesNvm 2 = true →
    exec (.retest h n conv p) s = .next (s.answered h (.retest n conv p.d p.noise)
      (((((s.taken h).copied 2).unretire g conv p.d).syncHold g).trySwap g) [res32 [fN 16 1 0]])) ∧
  (∀ (s : Machine.State) (h : CmdHead) (n conv : Nat) (g : GatherNo) (p : CalPoints),
    s.accepts h (.retest n conv p.d p.noise) = true → gather? n = some g → (s.taken h).calOk g conv p.d p.noise = false →
    exec (.retest h n conv p) s = .next (s.answered h (.retest n conv p.d p.noise) (s.taken h) [res32 [fN 16 1 1]])) ∧
  (∀ (s : Machine.State) (h : CmdHead), s.accepts h .nvmStat = true →
    let n := (s.taken h).nvm
    exec (.nvmStat h) s = .next (s.answered h .nvmStat (s.taken h) [res32 [fN 16 2 n.spares, fN 18 2 n.roMask, fN 20 4 n.maxErase]])) ∧
  (∀ (s : Machine.State) (h : CmdHead), s.accepts h .nvmScrub = true →
    let t := s.taken h
    exec (.nvmScrub h) s = .next (s.answered h .nvmScrub
      (t.nvm.marked.foldl State.rewriteRow { t with nvm := { t.nvm with marked := [] } }) [])) ∧
  (∀ (s : Machine.State) (h : CmdHead) (idle storm : Nat), s.accepts h (.setTimes idle storm) = true →
    (idle = 0 ∧ storm = 0 ∨ (s.taken h).takesNvm 1 = true) →
    let t := if idle = 0 ∧ storm = 0 then s.taken h else (s.taken h).copied 1
    let i := if idle = 0 then t.sessidle else idle
    let q := if storm = 0 then t.stormquiet else storm
    exec (.setTimes h idle storm) s = .next (s.answered h (.setTimes idle storm) { t with sessidle := i, stormquiet := q }
      [res32 [fN 16 2 i, fN 18 2 q]])))

/-- R27, R224, R646 to R650, Table 12-17: CAL_WRITE that changes nothing answers the present generation; FW_WRITE writes, finishes or erases the
slot that is not running; REG reads its words in order, and REG with a count outside the barred addresses writes each and reads it back. -/
def Obligations.WriteCommandsComplete : Prop :=
  (∀ (s : Machine.State) (h : CmdHead) (ps : List CalPair), s.accepts h (.calWrite ps) = true →
    ps.filter (s.taken h).calChanges = [] →
    exec (.calWrite h ps) s = .next (s.answered h (.calWrite ps) (s.taken h) [res32 [fN 16 1 (s.taken h).calgenCtr]])) ∧
  (∀ (s : Machine.State) (h : CmdHead) (ps : List CalPair), s.accepts h (.calWrite ps) = true → (s.taken h).takesNvm 2 = true →
    ps.filter (s.taken h).calChanges ≠ [] →
    let ch := ps.filter (s.taken h).calChanges
    let v := (s.taken h).copied 2
    let gen := nextGen v.calgenCtr
    let cs := allChans.filter (fun c => ch.any (fun p => p.channel == c.val))
    let u := { v with calgenCtr := gen, nvm := { v.nvm with calBy := v.nvm.calBy ++ [(s.headOf h, gen, cs.map Fin.val)] } }
    exec (.calWrite h ps) s = .next (s.caused h (u.forChans cs (fun c u =>
      u.calSend c gen h.corr (ch.filter (fun p => p.channel == c.val)))))) ∧
  (∀ (s : Machine.State) (h : CmdHead) (ofs : Nat) (data : List Byte), s.accepts h (.fwData ofs data) = true →
    let t := s.taken h
    let n := 1 - t.flash.running
    let img := (t.flash.slot n).image
    exec (.fwWriteData h ofs data) s = .next (s.answered h (.fwData ofs data)
      { t with flash := t.flash.setSlot n { image := putAt (img ++ List.replicate (ofs - img.length) 0xFF) ofs data } } [])) ∧
  (∀ (s : Machine.State) (h : CmdHead) (ok : Bool), s.accepts h (.fwFinish ok) = true →
    let t := s.taken h
    let n := 1 - t.flash.running
    t.imageOk (t.flash.slot n) ok = true →
    exec (.fwWriteFinish h ok) s = .next (s.answered h (.fwFinish ok) { t with flash := { t.flash with primary := n, dseq := t.flash.dseq + 1 } } [])) ∧
  (∀ (s : Machine.State) (h : CmdHead), s.accepts h .fwAbandon = true →
    let t := s.taken h
    exec (.fwWriteAbandon h) s = .next (s.answered h .fwAbandon { t with flash := t.flash.setSlot (1 - t.flash.running) {} } [])) ∧
  (∀ (s : Machine.State) (h : CmdHead) (a n : Nat), s.accepts h (.regRead a n) = true →
    (List.range n).any (fun i => regBarred false (a + 4 * i)) = false →
    let r := (s.taken h).regWords a n
    exec (.regRead h a n) s = .next (s.answered h (.regRead a n) r.2 [r.1.flatten])) ∧
  (∀ (s : Machine.State) (h : CmdHead) (a : Nat) (data : List Word32), s.accepts h (.regWrite a (data.map (fun w => w.toNat))) = true →
    let ws := data.map (fun w => w.toNat)
    (List.range ws.length).any (fun i => regBarred true (a + 4 * i)) = false →
    (∀ k, (List.range ws.length).findSome? (fun i => nvmHolds (a + 4 * i)) = some k → (s.taken h).takesNvm k = true) →
    let r := (match (List.range ws.length).findSome? (fun i => nvmHolds (a + 4 * i)) with
      | some k => (s.taken h).copied k
      | none => s.taken h).writeWords a ws
    exec (.regWrite h a data) s = .next (s.answered h (.regWrite a ws) r.2 [r.1.flatten])) ∧
  (∀ (s : Machine.State) (a : Nat) (w : Word32), inFabric a = true → exec (.registerWrite a w) s = .next (s.regWrite a w.toNat)) ∧
  (∀ (s : Machine.State) (a : Nat) (w : Word32), inFabric a = false → exec (.registerWrite a w) s = .fault .outsideFabric)

/-- R138, R140, R143, R538: at their times a settle, a soft-start, a ramped stop, TCOFF and a takeover ramp end, each on every member of the
channel's gang.

R125, R261, R325, R327: a PULSE step changes its level when the level has lasted its duration in whole control cycles; a DCIR step moves to its
second current after T1 and ends by its own end after T2. -/
def Obligations.RampsAndStepPhases : Prop :=
  ((∀ (s : Machine.State) (c : ChanNo) (v : Int),
    let l := s.leaderOf c
    let x := s.chan l
    let t := (s.forChans (s.membersOf l) (fun m u => u.onLoop m (fun y => { y with ramp := 0 }))).onLoop l (fun y => { y with vloop := v })
    x.loop.st = .settling → s.fld (gA (gOf l) 0x0C) 0 16 * 800000 ≤ x.loop.ramp → x.loop.settle = .start →
    (∀ m, m ∈ s.membersOf l → t.bit (chA m 0xAC) 1 = true → sx 32 (t.reg (chA m 0xA0)) ≤ (t.chan m).loop.vloop) →
    exec (.settleEnd c v) s = .next ((t.firstStep l (t.chan l).prog.pc).goSwitch l).refreshMode) ∧
  (∀ (s : Machine.State) (c : ChanNo) (v : Int),
    let l := s.leaderOf c
    let x := s.chan l
    let t := (s.forChans (s.membersOf l) (fun m u => u.onLoop m (fun y => { y with ramp := 0 }))).onLoop l (fun y => { y with vloop := v })
    x.loop.st = .settling → s.fld (gA (gOf l) 0x0C) 0 16 * 800000 ≤ x.loop.ramp → x.loop.settle = .step →
    (∀ m, m ∈ s.membersOf l → t.bit (chA m 0xAC) 1 = true → sx 32 (t.reg (chA m 0xA0)) ≤ (t.chan m).loop.vloop) →
    exec (.settleEnd c v) s = .next ((t.stepOn l true).goSwitch l).refreshMode) ∧
  (∀ (s : Machine.State) (c : ChanNo),
    let l := s.leaderOf c
    (s.chan l).loop.st = .softstart → s.fld (gA (gOf l) 0x0C) 16 16 * 800000 ≤ (s.chan l).loop.ramp →
    let r := s.xover l
    let t := r.1.forChans (r.1.membersOf l) (fun m u => u.setSt m .active .none 0)
    exec (.softstartEnd c) s = .next (if r.2 then t.faultStop l [9] else t).refreshMode) ∧
  (∀ (s : Machine.State) (c : ChanNo),
    let l := s.leaderOf c
    (s.chan l).loop.st = .stopping → s.fld (gA (gOf l) 0x10) 0 16 * 800000 ≤ (s.chan l).loop.ramp →
    exec (.rampedStopEnd c) s = .next (s.finishStop l).refreshMode) ∧
  (∀ (s : Machine.State) (c : ChanNo), (s.chan c).loop.tcoff = true → s.fld (gA (gOf c) 0x10) 16 16 * 800000 ≤ (s.chan c).loop.ramp →
    exec (.tcoffExpiry c) s = .next (s.onLoop c (fun l => { l with tcoff := false, con := false, ramp := 0 }))) ∧
  (∀ (s : Machine.State) (c : ChanNo),
    let l := s.leaderOf c
    (s.chan l).loop.tkramp = true → s.fld 0x330000 0 8 * 400000 ≤ (s.chan l).loop.tkT →
    exec (.takeoverRampEnd c) s = .next (s.forChans (s.membersOf l) (fun m u => u.onLoop m (fun y => { y with tkramp := false, tkT := 0, tkFrom := 0 }))))) ∧
  ((∀ (s : Machine.State) (c : ChanNo),
    let l := s.leaderOf c
    let x := s.chan l
    let unit := if slotVref x.cur 2 then 8000000 else 80000
    let n := if x.prog.pulseB then bitsOf (slotVal x.cur 2) 16 16 else bitsOf (slotVal x.cur 2) 0 16
    s.tests l = true → stepKind x.cur = 7 → pulseCycles (n * unit) (s.period (gOf l)) * s.period (gOf l) ≤ x.prog.phaseT →
    exec (.pulseLevelChange c) s = .next (s.onProg l (fun p => { p with pulseB := !p.pulseB, phaseT := 0 }))) ∧
  (∀ (s : Machine.State) (c : ChanNo),
    let l := s.leaderOf c
    let x := s.chan l
    s.tests l = true → stepKind x.cur = 8 → x.prog.dcirB = false → dcirT x.cur false ≤ x.prog.phaseT →
    exec (.dcirPhaseChange c) s = .next (s.onProg l (fun p => { p with dcirB := true, phaseT := 0 }))) ∧
  (∀ (s : Machine.State) (c : ChanNo),
    let l := s.leaderOf c
    let x := s.chan l
    s.tests l = true → stepKind x.cur = 8 → x.prog.dcirB = true → dcirT x.cur true ≤ x.prog.phaseT →
    exec (.dcirStepEnd c) s = .next ((s.slotOrEnd l).driveCycle l true true).refreshMode) ∧
  (∀ (dur period : Nat), 0 < period → 4 ≤ pulseCycles dur period ∧
    (4 ≤ (2 * dur + period) / (2 * period) → 2 * dur < (2 * pulseCycles dur period + 1) * period ∧ 2 * pulseCycles dur period * period ≤ 2 * dur + period)))

/-- R116 to R158, R283, R269: a control cycle of a Gather that is not in reset samples its channels, integrates, tests each leader's stops and
terminations and runs its loops; a SYNC barrier whose release time has come empties and its channels leave their steps; a GPIO edge reaches the
step in execution on every channel.

R92 to R94, R173: a deferred self-test takes the slot once its Gather is at rest, and the end of a slot gives its completion, or the event of a
deferred test. -/
def Obligations.CyclesEventsAndSelfTests : Prop :=
  ((∀ (s : Machine.State) (g : GatherNo) (x : CycleIn), s.gatOff g = false →
    let a := (s.tickTo x.epoch).nextPeriod g
    let b := a.forChans (chansOf g) (fun c u => u.sampleOne c (x.ch.getD (kOf c) {}))
    let d := if x.integ then b.integrate g { x with ch := (chansOf g).map (fun c => a.calIn c (x.ch.getD (kOf c) {})) } else b
    let lead := (chansOf g).filter (fun c => !d.follower c)
    let e := d.forChans lead (fun c u =>
      let v := ((u.pushTotal c).countTicks c).demodCycle a x c
      if x.grid100 then v.onProg c ProgSt.point100 else v)
    exec (.controlCycle g x) s = .next ((e.forChans lead (fun c u => u.leaderCycle c)).takeInputs g).refreshMode) ∧
  (∀ (s : Machine.State) (g : GatherNo) (c : ChanNo), gOf c = g →
    let t := s.nextPeriod g
    let p := s.period g
    (t.chan c).loop.start = (s.gat g).epoch + ((s.gat g).perN + 1) * p + kOf c * p / 8
      + (if s.bit (gA g 0) 24 then g.val * p / 64 else 0)) ∧
  (∀ (s : Machine.State) (t b : Nat) (x : Barrier), s.barriers.find? (fun y => y.tenant == t && y.num == b && y.trel.isSome) = some x →
    x.trel.getD 0 ≤ s.ptp →
    let u := { s with barriers := s.barriers.filter (fun y => y ≠ x) }
    exec (.syncRelease t b) s = .next (u.forChans ((x.arrived.filterMap chan?).filter (fun c => (u.chan c).prog.sync && u.tests c))
      (fun c v => (v.slotOrEnd c).driveCycle c true true)).refreshMode) ∧
  (∀ (s : Machine.State) (pin : Fin 12) (rising : Bool),
    let code := if rising then pin.val else 0x10 + pin.val
    exec (.gpioEdge pin rising) s = .next (s.forChans allChans (fun c u =>
      if u.tests c then u.onProg c (fun p => { p with events := if p.events.contains code then p.events else code :: p.events }) else u)))) ∧
  ((∀ (s : Machine.State) (g : GatherNo) (h : CmdHead) (k : Nat) (rest : List (CmdHead × Nat)), (s.gat g).deferred = (h, k) :: rest →
    (s.gat g).slot = none → s.gatAtRest g = true →
    exec (.deferredSelftestRun g) s = .next (s.onGat g (fun y =>
      { y with slot := some k, slotBy := some h, slotDef := true, deferred := rest })).refreshMode) ∧
  (∀ (s : Machine.State) (g : GatherNo) (pass : BitVec 8) (loopOk : Bool) (k : Nat) (h : CmdHead), (s.gat g).slot = some k →
    (s.gat g).slotBy = some h → (s.gat g).slotDef = false → s.gatOff g = false →
    let t := (s.testResult g k pass.toNat loopOk).onGat g (fun y => { y with slot := none, slotBy := none, slotDef := false })
    exec (.selftestSlotEnd g pass loopOk) s = .next (t.complete h (.selftest g.val k) {})) ∧
  (∀ (s : Machine.State) (g : GatherNo) (pass : BitVec 8) (loopOk : Bool) (k : Nat) (h : CmdHead), (s.gat g).slot = some k →
    (s.gat g).slotBy = some h → (s.gat g).slotDef = true → s.gatOff g = false →
    let m := if k = 1 then pass.toNat else if loopOk then 255 else 0
    let t := (s.testResult g k pass.toNat loopOk).onGat g (fun y => { y with slot := none, slotBy := none, slotDef := false })
    exec (.selftestSlotEnd g pass loopOk) s = .next (t.selftestEvt g h k 0 m (255 - m))))

/-- R165 to R174, R186, R187: the Crack-off latch holds both switches low and counts; the retry after 100 ms settles again; 10 s without a trip
return the retries; slow overload, a reverse cell and a lost contact take a fault stop with their causes. -/
def Obligations.ChannelProtections : Prop :=
  (∀ (s : Machine.State) (c : ChanNo) (vsh : Int), s.ckReached c vsh = true → (s.chan c).prot.ckLatch = false → (s.chan c).loop.st ≠ .released →
    let l := (s.chan c).loop
    ∃ t, exec (.crackOff ⟨c, vsh⟩) s = .next t ∧
      (t.chan c).prot = { (s.chan c).prot with ckLatch := true, ckOff := !stSwitch l.st && decide (l.mid.ton = 0), noTripT := 0, tripT := s.ptp } ∧
      (t.chan c).loop = { l with mid := {}, next := {}, tcoff := l.con, ramp := if l.tcoff then l.ramp else 0 } ∧
      (t.chan c).cntNew = { (s.chan c).cntNew with ckoff := (s.chan c).cntNew.ckoff + 1 } ∧ (∀ d, d ≠ c → t.chan d = s.chan d) ∧
      t.regs = s.regs ∧ t.gathers = s.gathers ∧ t.board = s.board) ∧
  (∀ (s : Machine.State) (c : ChanNo) (vsh : Int), s.ckReached c vsh = false → exec (.crackOff ⟨c, vsh⟩) s = .next s) ∧
  (∀ (s : Machine.State) (c : ChanNo) (vsh : Int), s.ckReached c vsh = true ↔
    16 * (255 + 7 * (s.fld (chA c 0x84) 0 8 : Int)) * 1000000 ≤ 255 * (vsh.natAbs : Int)) ∧
  (∀ (s : Machine.State) (c : ChanNo) (vsh : Int), s.ckReached c vsh = true → (s.chan c).prot.ckLatch = false →
    (s.chan c).loop.st = .released → s.mode.mode = .twin →
    exec (.crackOff ⟨c, vsh⟩) s = .next (s.onProt c (fun p => { p with twinck := Nat.min 15 (p.twinck + 1) }))) ∧
  (∀ (s : Machine.State) (c : ChanNo),
    let l := s.leaderOf c
    (s.chan l).loop.st = .faulted → (s.chan l).prot.retryWait = true → (s.chan l).prot.tripT + 100000000 ≤ s.ptp →
    exec (.crackOffRetry c) s = .next
      ((s.forChans (s.membersOf l) (fun m u => u.onProt m (fun p => { p with retryWait := false }))).beginSettle l .retry).1.refreshMode) ∧
  (∀ (s : Machine.State) (c : ChanNo), 80000000000 ≤ (s.chan c).prot.noTripT →
    exec (.retryCountReset c) s = .next (s.onProt c (fun p => { p with retries := 0 }))) ∧
  (∀ (s : Machine.State) (c : ChanNo), s.slowMet c = true →
    exec (.slowOvl c) s = .next (s.faultStop c [0x0A]).refreshMode) ∧
  (∀ (s : Machine.State) (c : ChanNo), s.reversed c = true → s.mode.mode ≠ .twin → (s.chan c).loop.con = true → (s.chan c).stoppable = true →
    exec (.reverseCell c) s = .next (((s.faultStop c [7]).onProt c (fun p => { p with revSeen := true })).refreshMode)) ∧
  (∀ (s : Machine.State) (c : ChanNo), s.reversed c = true → s.mode.mode ≠ .twin → (s.chan c).prot.revSeen = false →
    (s.chan c).loop.con = false →
    exec (.reverseCell c) s = .next (((s.faultEvent c 7).onProt c (fun p => { p with revSeen := true })).refreshMode)) ∧
  (∀ (s : Machine.State) (c : ChanNo), s.bit (chA c 0xAC) 3 = true → s.mode.mode ≠ .twin → (s.chan c).loop.con = true →
    (s.chan c).stoppable = true → exec (.contactLoss c) s = .next (((s.faultStop c [8]).cellChange c 0).refreshMode)) ∧
  (∀ (s : Machine.State) (c : ChanNo), s.bit (chA c 0xAC) 3 = false → s.mode.mode ≠ .twin →
    exec (.contactLoss c) s = .next (s.cellChange c 0).refreshMode)

/-- R176 to R179, R210, R350, R351: a raw thermistor window updates the cell and stage temperatures, and the warning and shutdown follow the stage
temperature; a sensor invalid for 10 ms raises the fault that fences the Gather; a bus stop condition gives every channel whose reference has its
sign a fault stop.

R347, R348, R350: one bus window: the bus voltage and current are scaled, an undervoltage or overvoltage warning holds from its threshold to the
threshold with hysteresis, and a stop condition holds from its debounce count. Nothing but the Gather changes. -/
def Obligations.GatherProtectionsAndBusFlags : Prop :=
  ((∀ (s : Machine.State) (g : GatherNo) (cells : List Nat) (stage : Nat), s.gatOff g = false →
    let t := (s.forChans (chansOf g) (fun c u => u.cellTemp c (cells.getD (kOf c) 0))).stageTemp g stage
    exec (.temperatureUpdate g cells stage) s = .next
      (if (t.gat g).stgSeen then t.forChans (chansOf g) (fun c u => u.thermal c) else t).refreshMode) ∧
  (∀ (s : Machine.State) (g : GatherNo), 10 ≤ (s.gat g).stgBadMs → s.fenced (uGat g) = false →
    ∃ f, f.uu = 0x10 + g.val ∧ f.cc = 1 ∧ f.time = s.ptp ∧
      exec (.stgtSensor g) s = .next { s with col := { s.col with fifo := s.col.fifo ++ [f] } }) ∧
  (∀ (s : Machine.State) (g : GatherNo), 80000000 ≤ (s.gat g).senBad → s.fenced (uGat g) = false →
    ∃ f, f.uu = 0x10 + g.val ∧ f.cc = 8 ∧ f.time = s.ptp ∧
      exec (.busSensor g) s = .next { s with col := { s.col with fifo := s.col.fifo ++ [f] } }) ∧
  (∀ (s : Machine.State) (g : GatherNo) (ovr : Bool), s.gatOff g = false →
    let code := if ovr then 0x16 else 0x15
    exec (.busStop g ovr) s = .next (s.forChans (chansOf g) (fun c u =>
      if (u.busCauses c).contains code then u.faultStop c [code] else u)).refreshMode)) ∧
  (∀ (s : Machine.State) (c : ChanNo), (s.busCauses c).contains 0x15 = true ↔
    (s.gat (gOf c)).uvs = true ∧ stSwitch (s.chan c).loop.st = true ∧ 0 < (s.chan c).loop.iref) ∧
  (∀ (s : Machine.State) (g : GatherNo) (v : Nat) (i : Int), s.gatOff g = false →
    let vb := v * s.fld (bgA g 0) 0 16 / 1000
    let uvw := s.fld (bgA g 8) 0 16 * 1000
    let uvs := s.fld (bgA g 8) 16 16 * 1000
    let ovw := s.fld (bgA g 0xC) 0 16 * 1000
    let ovs := s.fld (bgA g 0xC) 16 16 * 1000
    let h := s.fld (bgA g 0x10) 0 10 * 1000
    let db := s.fld (bgA g 0x10) 16 8
    ∃ t, exec (.busWindow g v i) s = .next t ∧ (t.gat g).vbus = vb ∧
      (vb < uvw → (t.gat g).uvw = true) ∧ (uvw ≤ vb → uvw + h ≤ vb → (t.gat g).uvw = false) ∧
      (uvw ≤ vb → vb < uvw + h → (t.gat g).uvw = (s.gat g).uvw) ∧
      (ovw < vb → (t.gat g).ovw = true) ∧ (vb ≤ ovw → vb + h ≤ ovw → (t.gat g).ovw = false) ∧
      (vb ≤ ovw → ovw < vb + h → (t.gat g).ovw = (s.gat g).ovw) ∧
      (t.gat g).uvCnt = (if vb < uvs then Nat.min db ((s.gat g).uvCnt + 1) else 0) ∧
      (t.gat g).ovCnt = (if ovs < vb then Nat.min db ((s.gat g).ovCnt + 1) else 0) ∧
      (db ≤ (t.gat g).uvCnt → (t.gat g).uvs = true) ∧ (db ≤ (t.gat g).ovCnt → (t.gat g).ovs = true) ∧
      (2450000 < v ∨ 64000000 < i.natAbs → (t.gat g).sensok = false ∧ (t.gat g).senBad = (s.gat g).senBad + s.period g) ∧
      (v ≤ 2450000 → i.natAbs ≤ 64000000 → (t.gat g).sensok = true ∧ (t.gat g).senBad = 0) ∧
      (∀ e, e ≠ g → t.gat e = s.gat e) ∧ t.chans = s.chans ∧ t.regs = s.regs ∧ t.board = s.board ∧ t.queues = s.queues)

/-- R203 to R207, R243 to R248: an output window of an executing channel gives a SAMPLE record; a pending rate takes effect at a timestamp on both
grids; a twin sample is kept; the end of a hold lets the oldest held record go with TWIN, TWINDIFF or NOTWIN. -/
def Obligations.SamplesAndTwins : Prop :=
  (∀ (s : Machine.State) (c : ChanNo) (stamp : Nat) (ns : List Nat) (raw : List (Int × Int)), s.gatOff (gOf c) = false → s.windowEnds c stamp = true →
    let t := s.takeSample c stamp (rawParts ns raw)
    t.mode.mode ≠ .twin → stExec (t.chan c).loop.st = true → t.follower c = false →
    let m := (t.chan c).meas
    exec (.outputSample c stamp ns raw) s = .next (t.sampleRec 0x60 c stamp (t.samplePayload c stamp m.vout (t.recI c) m.mstat))) ∧
  (∀ (s : Machine.State) (c : ChanNo) (stamp : Nat) (raw : List RawPart) (v i : Int), s.winV c raw = some v → s.winI c raw = some i →
    let m := ((s.takeSample c stamp raw).chan c).meas
    (s.chan c).est.savedOcv = none → m.vout = v ∧ m.iout = i ∧ m.stamp = stamp ∧ m.winEnd = some stamp ∧
      m.mstat = (s.chan c).meas.winFlags ||| s.statusNow c ∧ m.winFlags = 0 ∧ m.smpIref = (s.chan c).loop.iref ∧
      m.smpState = stCode (s.chan c).loop.st) ∧
  (∀ (s : Machine.State) (c : ChanNo) (r due : Nat), (s.chan c).meas.newRate = some (r, due) →
    exec (.outrateChange c due) s = .next ((s.setFld (chA c 0xC0) 0 4 r).onMeas c (fun m => { m with newRate := none }))) ∧
  (∀ (s : Machine.State) (old new : Nat), 0 < outPeriod old → 0 < outPeriod new → s.ptp < s.rateTime old new ∧
    s.rateTime old new % outPeriod old = 0 ∧ s.rateTime old new % outPeriod new = 0 ∧
    ∀ t, s.ptp < t → t % outPeriod old = 0 → t % outPeriod new = 0 → s.rateTime old new ≤ t) ∧
  (∀ (s : Machine.State) (c : ChanNo) (stamp : Nat) (v i : Int) (rng calgen rate : Nat),
    exec (.twinsample c stamp v i rng calgen rate) s = .next (s.onMeas c (fun m => { m with twin := some { stamp, v, i, rng, calgen, rate } }))) ∧
  (∀ (s : Machine.State) (c : ChanNo) (h : HeldSmp) (rest : List HeldSmp), (s.chan c).meas.held = h :: rest → s.twinResult c h = none →
    let t := s.onMeas c (fun m => { m with
      held := rest, notwin := true, twinok := false, twindiff := false, diffRun := 0, agreeRun := 0, nocmp := Nat.min 0xFFFF (m.nocmp + 1) })
    exec (.twinHoldExpiry c) s = .next { t with recFifo := releaseHeld c.val h.stamp false 512 s.recFifo }) ∧
  (∀ (s : Machine.State) (c : ChanNo) (h : HeldSmp) (rest : List HeldSmp), (s.chan c).meas.held = h :: rest → s.twinResult c h = some true →
    let t := s.onMeas c (fun m => { m with
      held := rest, notwin := false, twinok := true, twindiff := false, diffRun := 0, agreeRun := Nat.min 256 (m.agreeRun + 1)
      diffArmed := m.diffArmed || decide (256 ≤ Nat.min 256 (m.agreeRun + 1)) })
    exec (.twinHoldExpiry c) s = .next { t with recFifo := releaseHeld c.val h.stamp true 0 s.recFifo }) ∧
  (∀ (s : Machine.State) (c : ChanNo) (h : HeldSmp) (rest : List HeldSmp), (s.chan c).meas.held = h :: rest → s.twinResult c h = some false →
    let raise := decide (4 ≤ (s.chan c).meas.diffRun + 1) && (s.chan c).meas.diffArmed
    let t := s.onMeas c (fun m => { m with
      held := rest, notwin := false, twinok := false, twindiff := true, diffRun := m.diffRun + 1, agreeRun := 0
      diffcnt := Nat.min 0xFFFF (m.diffcnt + 1) })
    let u := { t with recFifo := releaseHeld c.val h.stamp false 256 s.recFifo }
    exec (.twinHoldExpiry c) s = .next (if raise then (u.onMeas c (fun m => { m with diffArmed := false })).faultEvent c 0x0E else u)) ∧
  (∀ (s : Machine.State) (c : ChanNo) (h : HeldSmp) (t : TwinIn), (s.chan c).meas.twin = some t → t.stamp = h.stamp → t.calgen = h.calgen →
    t.rate = h.rate → s.board.linkUp = true → s.twinResult c h = some (s.twinAgrees c h.v h.i h.rng h.rate t)) ∧
  (∀ (s : Machine.State) (c : ChanNo) (h : HeldSmp), ((s.chan c).meas.twin = none ∨ s.board.linkUp = false ∨
    ∃ t, (s.chan c).meas.twin = some t ∧ (t.stamp ≠ h.stamp ∨ t.calgen ≠ h.calgen ∨ t.rate ≠ h.rate)) → s.twinResult c h = none)

/-- R230 to R237: the stages of one Punty swap: a free Punty starts its shadow, takes the input on a match (or repeats after a self-calibration), the
released converter gets its new drift layer and takes its input back, and the Punty calibrates itself and is free.

R237 to R242, R223 to R227: a failed converter that no input uses is retired; a calibration of a Gather outside reset sets it calibrated; a
generation switch puts the new coefficients and CALGEN in force; a CH_CALSEL snapshot loads the selected coefficients. -/
def Obligations.ConvertersAndPuntySwap : Prop :=
  ((∀ (s : Machine.State) (g : GatherNo) (b : Bool), s.gatOff g = false → (s.gat g).calibrated = true → s.bit (gA g 0x200) 0 = true →
    (s.gat g).refHold = false → (s.gat g).rotT + s.fld (gA g 0x200) 4 12 * 1000000000 ≤ s.now →
    (∀ x, ((s.gat g).punty x).stuck = false ∧ ((s.gat g).punty x).back = false) →
    let n := (s.gat g).swapNo
    let first := decide ((n + n / 16) % 2 = 1)
    (∀ x, ((s.gat g).punty x).st = .standin → ((s.gat g).punty x).input ≠ n % 16) →
    ((s.gat g).punty b).st = .free → (b = first ∨ ((s.gat g).punty first).st ≠ .free) →
    ∃ t, exec (.puntySwapStart g) s = .next t ∧ (t.gat g).swapNo = n + 1 ∧ (t.gat g).rotT = s.now ∧ (t.gat g).waiting = false ∧
      (t.gat g).punty b = { ((s.gat g).punty b).enter .shadow (n % 16) s.now with swap := true, num := n } ∧
      (t.gat g).punty (!b) = (s.gat g).punty (!b) ∧ (t.gat g).seats = (s.gat g).seats ∧ (t.gat g).drift = (s.gat g).drift ∧
      (∀ e, e ≠ g → t.gat e = s.gat e) ∧ t.chans = s.chans ∧ t.regs = s.regs) ∧
  (∀ (s : Machine.State) (g : GatherNo) (b : Bool) (d : Nat), s.gatOff g = false → ((s.gat g).punty b).st = .shadow →
    ((s.gat g).punty b).shadowed s.now = true → (s.gat g).planned b = false →
    d * 1000000 * 8 ≤ s.fld (gA g 0x200) 16 8 * s.matchAcc g ((s.gat g).punty b).input →
    exec (.shadowDone g b d) s = .next (s.onGat g (fun y => y.plan (y.punty b).input (puntyConv b) (some (b, .standin))))) ∧
  (∀ (s : Machine.State) (g : GatherNo) (b : Bool) (d : Nat), s.gatOff g = false → ((s.gat g).punty b).st = .shadow →
    ((s.gat g).punty b).shadowed s.now = true → (s.gat g).planned b = false →
    s.fld (gA g 0x200) 16 8 * s.matchAcc g ((s.gat g).punty b).input < d * 1000000 * 8 →
    exec (.shadowDone g b d) s = .next (if ((s.gat g).punty b).again
      then ((s.onGat g (fun y => y.plan (y.punty b).input (puntyConv b) (some (b, .standin)))).merr g 0).fault (uGat g) 4
      else s.onGat g (fun y => y.onPunty b (fun p => { p with st := .selfcal, again := true, since := s.now })))) ∧
  (∀ (s : Machine.State) (g : GatherNo) (input : Nat) (b : Bool), (s.gat g).due = [{ input, conv := puntyConv b, punty := some (b, .standin) }] →
    let t := s.takeInputs g
    (t.gat g).seats = (s.gat g).seats.set input (puntyConv b) ∧ (t.gat g).due = [] ∧ ((t.gat g).punty b).st = .standin ∧
      ((t.gat g).punty b).rel = some (s.seated g input) ∧ ((t.gat g).punty b).again = false) ∧
  (∀ (s : Machine.State) (g : GatherNo) (b : Bool) (conv ppm : Nat) (pts : CalPoints), s.gatOff g = false →
    ((s.gat g).punty b).st = .standin → ((s.gat g).punty b).rel = some conv → ((s.gat g).punty b).back = false →
    ((s.gat g).punty b).stuck = false → ((s.gat g).punty b).since + calNs conv ≤ s.now → s.calOk g conv pts.d pts.noise = true →
    exec (.converterCalDone g b pts ppm) s = .next (s.onGat g (fun y =>
      (({ y with prev := (conv, y.drift.getD conv {}) :: y.prev.filter (fun x => x.1 != conv) }).renew conv (driftOf conv pts.d)).onPunty b (fun p =>
        { p with back := true, begun := s.now, since := s.now })))) ∧
  (∀ (s : Machine.State) (g : GatherNo) (b : Bool) (conv : Nat), s.gatOff g = false → ((s.gat g).punty b).st = .standin →
    ((s.gat g).punty b).rel = some conv → ((s.gat g).punty b).back = true → ((s.gat g).punty b).shadowed s.now = true →
    exec (.returnShadowDone g b) s = .next ((s.onGat g (fun y =>
      (y.onPunty b (fun p => { p with back := false })).plan ((s.gat g).punty b).input conv (some (b, .selfcal)))).trySwap g)) ∧
  (∀ (s : Machine.State) (g : GatherNo) (b : Bool) (d : List (Int × Int)) (noise : List Nat) (ppm : Nat), s.gatOff g = false →
    ((s.gat g).punty b).st = .selfcal → (s.gat g).calibrated = true → ((s.gat g).punty b).since + calNs (puntyConv b) ≤ s.now →
    s.calOk g (puntyConv b) d noise = true →
    let p := (s.gat g).punty b
    exec (.selfcalDone g b d noise ppm) s = .next (if p.swap && p.again
      then s.onGat g (fun y => (y.renew (puntyConv b) (driftOf (puntyConv b) d)).onPunty b (fun p =>
        { p with st := .shadow, begun := s.now, since := s.now }))
      else (s.onGat g (fun y =>
        let y := (y.renew (puntyConv b) (driftOf (puntyConv b) d)).onPunty b (fun p => p.enter .free 0 s.now)
        if p.swap then y.swapDone p.num else y)).rotate g ppm)) ∧
  (∀ (s : Machine.State) (g : GatherNo) (b : Bool) (ppm : Nat), s.gatOff g = false → ((s.gat g).punty b).st = .shadow →
    (s.gat g).planned b = false → ((s.gat g).punty b).begun + s.fld (gA g 0x200) 4 12 * 1000000000 ≤ s.now →
    ((s.gat g).punty (!b)).st = .free →
    exec (.swapAbandon ⟨g, ppm⟩) s = .next (((s.onGat g (fun y =>
      (y.onPunty b (fun p => p.enter .free 0 s.now)).swapAbandoned ((s.gat g).punty b).num)).merr g 3).rotate g ppm))) ∧
  ((∀ (s : Machine.State) (g : GatherNo) (conv : Fin 18) (input ppm : Nat), s.gatOff g = false → (s.gat g).retired.testBit conv.val = false →
    (List.range 16).find? (fun i => (s.gat g).seatSoon i == conv.val) = some input → conv.val < 16 →
    let c := chanOfInput g input
    let a := (s.onGat g (fun y => y.retire conv.val)).merr g 4
    let t := (a.cutWin c (a.winNow c)).onChan c (fun x =>
      { x with
        meas := { x.meas with winFlags := x.meas.winFlags ||| 64, lostV := x.meas.lostV || input % 2 == 0, lostI := x.meas.lostI || input % 2 == 1 }
        loop := { x.loop with hold := 2 } })
    let l := t.leaderOf c
    let u := if (t.chan l).eis.phase = 3 then t.onEis l (fun e => { e with bad := e.bad ||| 128 }) else t
    exec (.converterHealthFail ⟨g, ppm⟩ conv) s = .next
      (((u.replaceConv g input conv.val).noSpare g (s.gat g).spares).rotate g ppm).refreshMode) ∧
  (∀ (s : Machine.State) (g : GatherNo) (d : List (List (Int × Int))) (noise : List (List Nat)), s.gatOff g = false →
    (s.gat g).calibrated = false → (s.gat g).rotT + 2500000000 ≤ s.now →
    let a := (16 :: 17 :: List.range 16).foldl (fun u k => u.calAtOnce g d noise k) s
    let b := (a.takeInputs g).onGat g (fun y => { y with calibrated := true, rotT := a.now })
    let e := { b with col := { b.col with fences := b.col.fences.map (fun (f : Fence) =>
      if f.unit == uGat g && f.recov then { f with probation := true } else f) } }
    exec (.gatherCalibrationDone g d noise) s = .next (((e.noSpare g (s.gat g).spares).syncHold g).settle)) ∧
  (∀ (s : Machine.State) (g : GatherNo) (d : List (List (Int × Int))) (noise : List (List Nat)) (k : Nat), k < 16 →
    (s.gat g).retired.testBit k = false → s.calOk g k (d.getD k []) (noise.getD k []) = true →
    s.calAtOnce g d noise k = s.onGat g (fun y => y.setDrift k (driftOf k (d.getD k [])))) ∧
  (∀ (s : Machine.State) (c : ChanNo) (gen corr : Nat) (ps : List CalPair), s.gatOff (gOf c) = false →
    (s.chan c).meas.calNext = some (gen, corr, ps) →
    ∃ t, exec (.calgenSwitch c) s = .next t ∧
      (t.chan c).meas = (s.chan c).meas.calSwitched ∧ (t.chan c).meas.calgen = gen ∧ (t.chan c).meas.calNext = none ∧
      (∃ r, t.recFifo = s.recFifo ++ [r] ∧ r.kind = 0x65 ∧ r.tenant = 255 ∧ r.channel = c.val ∧ r.calgen = gen ∧ r.corr = corr ∧
        r.payloads.length = ps.length) ∧
      (s.ownerOf c.val = 0 → t.evtFifo = s.evtFifo) ∧
      (s.ownerOf c.val ≠ 0 → ∃ e, t.evtFifo = s.evtFifo ++ [e] ∧ e.kind = 0xA6 ∧ e.dest = s.ownerOf c.val) ∧
      (∀ d, d ≠ c → t.chan d = s.chan d)) ∧
  (∀ (s : Machine.State) (c : ChanNo),
    let k := s.coefs c (s.fld (chA c 0xE4) 0 2) (s.fld (chA c 0xE4) 2 3)
    exec (.chCalselSnap c) s = .next (s.onMeas c (fun m =>
      { m with snapOff := k.1, snapGain := k.2.1, snapQ := k.2.2, snapGen := m.calgen, snapOk := true }))))

/-- R305, R312, R315 to R319: a tone starts on the 1 ms grid once the reference has reached IBIAS, the window opens after the settle, and its end
repeats an invalid point once or writes the point record and goes on to the next code, or ends the step. -/
def Obligations.SweepPointStages : Prop :=
  (∀ (s : Machine.State) (c : ChanNo) (stamp : Nat),
    let l := s.leaderOf c
    let x := s.chan l
    s.inEis l = true → x.eis.phase = 1 → stamp % 1000000 = 0 → s.ptp < stamp + 1000000 → stamp < s.ptp + 1000000 → x.loop.st = .active → x.loop.iref = s.shareOf l (s.limTotal l x.prog.seta) →
    exec (.eisToneStart c stamp) s = .next (((s.tickTo stamp).onEis l (fun e => { e with ph := 0, sin9 := 0, tone := 0 })).eisPoint l stamp x.eis.point
      ((eisCode x.cur x.eis.point).getD x.eis.code))) ∧
  (∀ (s : Machine.State) (c : ChanNo) (amps : List Nat),
    let l := s.leaderOf c
    let x := s.chan l
    let stamp := x.eis.settleT + eisSettle x.eis.code * 3125
    let t := s.tickTo stamp
    let scale (m : ChanNo) (v : Nat) : Nat :=
      let want := (t.shareOf m (stepAmp x.cur)).natAbs
      let amp := amps.getD (kOf m) 0
      if amp * 2 ≤ want then v * 2 else if want * 2 ≤ amp then v / 2 else v * want / amp
    s.inEis l = true → x.eis.phase = 2 →
    let u := if x.eis.ffpath then t.forChans (t.membersOf l) (fun m v => v.onEis m (fun e => { e with vamp := scale m e.vamp })) else t
    exec (.eisSettleEnd c stamp amps) s = .next (u.onEis l (fun e => { e.cleared with phase := 3, wstart := stamp }))) ∧
  (∀ (s : Machine.State) (c : ChanNo),
    let l := s.leaderOf c
    let e := (s.chan l).eis
    s.inEis l = true → e.phase = 3 → s.eisLen l ≤ e.window.n → e.rep = false → e.bad ≠ 0 → e.cfg.testBit 1 = true →
    let stamp := e.wstart + s.eisLen l * 3125
    let u := s.tickTo stamp
    let t := { u with draws := u.draws + 3 }
    exec (.eisWindowEnd c stamp) s = .next (((t.setBit (eisA (gOf l) 0x30) 0).setBit (eisA (gOf l) 0x30) 1).onEis l (fun y =>
      { y.cleared with rep := true, wstart := stamp }))) ∧
  (∀ (s : Machine.State) (c : ChanNo) (zre zim : Int) (coh code : Nat),
    let l := s.leaderOf c
    let ch := s.chan l
    let e := ch.eis
    let n := s.eisLen l
    let x := e.window
    let amp := stepAmp ch.cur
    let vamp := cAbs (2 * x.vre) (2 * x.vim) (n * 1000000000000)
    let iamp := cAbs (2 * x.ire) (2 * x.iim) (n * 1000000000000)
    s.inEis l = true → e.phase = 3 → n ≤ x.n → e.bad = 0 → zOf x = some (zre, zim) → cohOf e.eighths = some coh → bitsOf e.cfg 16 16 ≤ coh →
    amp ≤ iamp * 2 → iamp ≤ amp * 2 → eisCode ch.cur (e.point + 1) = some code →
    let stag := s.eisStagger l
    let stamp := e.wstart + n * 3125
    let v := s.tickTo stamp
    let t := { v with draws := v.draws + 3 }
    let u := t.chanRec 0x64 l ch.prog.pc stamp false
      [payload [fN 0 2 e.point, fN 2 2 e.code, fN 4 8 (eisToneU stag (stepNper ch.cur) e.code (gOf l).val), fN 12 8 e.wstart, fI 20 4 zre,
        fI 24 4 zim, fN 28 2 coh, fN 30 4 vamp, fN 34 4 iamp, fI 38 4 (rdiv e.vsum (1000 * n)), fI 42 2 ch.meas.tcell,
        fN 44 2 (b2n e.ffpath + 2 * b2n e.rep + 256 * b2n e.swap), fN 46 2 ch.meas.mstat]]
    exec (.eisWindowEnd c stamp) s = .next (((u.bumpWrap (eisA (gOf l) 0x34) 0 16).onEis l (fun y => { y with done := y.point + 1 })).eisPoint l
      stamp (e.point + 1) code))

/-- R263, R329, R331, R335 to R338: an OCVWATCH step writes its record at each multiple of its interval; the estimator updates outside TWIN; it
hibernates after 60 s; a long rest corrects the estimate from the table where its slope allows; the record is written.

R352, R355, R356, R362, R364, R367: with bus balance off every deferral is released and every cap lifted; a deferral ends after DEFMAX; counters
and meters are collected and written to NVM; the minute boundary works at a whole minute. -/
def Obligations.EstimatorBalanceAndMeterEvents : Prop :=
  ((∀ (s : Machine.State) (c : ChanNo), (s.chan c).prog.inStep = true → (s.chan c).prog.newStep = false → stepKind (s.chan c).cur = 10 →
    (s.chan c).loop.st = .resting → 0 < (s.chan c).prog.seta → (s.chan c).prog.seta.toNat ≤ tMs (s.chan c).prog.stepT →
    tMs (s.chan c).prog.stepT % (s.chan c).prog.seta.toNat = 0 → s.gatOff (gOf c) = false → s.stewardOn = true → s.mode.mode ≠ .twin →
    ∃ t r, exec (.ocvRecord c) s = .next t ∧ t.recFifo = s.recFifo ++ [r] ∧ r.kind = 0x63 ∧ r.channel = c.val ∧ r.time = (s.chan c).meas.stamp ∧
      (t.chan c).est = ({ (s.chan c).est with ocvs := (s.chan c).est.ocvs ++ [(tMs (s.chan c).prog.stepT, (s.chan c).meas.vout)] }).fit ∧
      (∀ d, d ≠ c → t.chan d = s.chan d)) ∧
  (∀ (s : Machine.State) (c : ChanNo), s.mode.mode ≠ .twin → s.stewardOn = true → (s.chan c).est.hib = false →
    exec (.estimatorUpdate c) s = .next (s.updateEst c ((s.chan c).est.hibMs + 100))) ∧
  (∀ (s : Machine.State) (c : ChanNo), s.mode.mode ≠ .twin → s.stewardOn = true → (s.chan c).est.hib = true →
    (s.lowI c = false ∨ 9900 ≤ (s.chan c).est.hibMs) →
    exec (.estimatorUpdate c) s = .next (s.updateEst c ((s.chan c).est.hibMs + 100))) ∧
  (∀ (s : Machine.State) (c : ChanNo), s.mode.mode ≠ .twin → s.stewardOn = true → (s.chan c).est.hib = true → s.lowI c = true →
    (s.chan c).est.hibMs < 9900 →
    exec (.estimatorUpdate c) s = .next (s.onEst c (fun e => { e with hibMs := (s.chan c).est.hibMs + 100 }))) ∧
  (∀ (s : Machine.State) (c : ChanNo), 60000 ≤ (s.chan c).est.lowT → s.stewardOn = true → s.mode.mode ≠ .twin →
    exec (.hibernationEntry c) s = .next (s.onEst c (fun e => { e with hib := true }))) ∧
  (∀ (s : Machine.State) (c : ChanNo) (q sl : Int), (s.chan c).est.ocvrest * 1000 ≤ (s.chan c).est.restMs →
    (if (s.chan c).est.hib then (s.chan c).est.hibMs = 0 else (s.chan c).est.restMs < (s.chan c).est.ocvrest * 1000 + 100) →
    (s.chan c).est.cap ≠ 0 → s.stewardOn = true → s.mode.mode ≠ .twin →
    ocvSeg (s.chan c).est.table (s.chan c).meas.vout = some (q, sl) → ((s.chan c).est.slopemin : Int) ≤ sl →
    exec (.ocvCorrection c) s = .next (s.onEst c (fun e => { e with soc := some q, corrd := true }))) ∧
  (∀ (s : Machine.State) (c : ChanNo), s.mode.mode ≠ .twin → s.stewardOn = true →
    exec (.estimatorRecord c) s = .next ((s.chanRec 0x66 c 65535 s.ptp false [estPayload (s.chan c).est]).onEst c
      (fun e => { e with corrd := false })))) ∧
  ((∀ (s : Machine.State), s.holdsPipe = true → modeWorks s.mode.mode = true → s.stewardOn = true → s.bit 0x200000 0 = false →
    let t := s.deferredChans.foldl (fun u c => u.release c) s
    let u := t.forChans allChans (fun c v => v.onChan c (fun x => { x with cap := none, flextrim := false, proptrim := false }))
    exec (.busBalanceCycle false) s = .next ({ u with bal := { u.bal with
      holdChg := false, holdDis := false, stage := 0, mchg := 65536, mdis := 65536 } }).refreshMode) ∧
  (∀ (s : Machine.State), s.holdsPipe = true → modeWorks s.mode.mode = true → s.stewardOn = true → s.bit 0x200000 0 = true →
    let eff := Nat.max 500 (s.fld 0x200000 16 10)
    let live (u : Machine.State) : List Demand := (allChans.filter u.demands).map (fun c => u.demandOf c false)
    let t := Machine.State.releases s eff s.deferredChans (((live s).map (busPow eff)).sum)
    exec (.busBalanceCycle false) s = .next (t.balance eff (live t)).refreshMode) ∧
  (∀ (s : Machine.State), s.holdsPipe = true → modeWorks s.mode.mode = true → s.stewardOn = true →
    exec (.busBalanceCycle true) s =
      .next (({ s with bal := { s.bal with overruns := satAdd 0xFFFF s.bal.overruns 1 } }).fault 0x0C 0x01)) ∧
  (∀ (s : Machine.State) (c : ChanNo) (t : Nat), (s.chan c).prog.deferT = some t → s.fld 0x20000C 0 16 ≠ 0 →
    t + s.fld 0x20000C 0 16 * 1000000000 ≤ s.now → s.gatOff (gOf c) = false → exec (.defmaxExpiry c) s = .next (s.release c).refreshMode) ∧
  (∀ (s : Machine.State), s.stewardOn = true →
    exec .counterCollect s = .next (s.catchUp.forChans allChans (fun c u => u.collectOpen c))) ∧
  (∀ (s : Machine.State), s.stewardOn = true → s.takesNvm 4 = true →
    s.met.commitT + (if s.optM then s.fld 0x200800 8 12 else 300) * 1000000000 ≤ s.now →
    let t := (s.copied 4).forChans allChans (fun c u => u.onChan c (fun x => { x with cntNvm := x.cnt }))
    exec .meterNvmCommit s = .next { t with met := { t.met with nvm := t.met.meters, dirty := false, commitT := t.now } }) ∧
  (∀ (s : Machine.State) (g : GatherNo) (t : Nat), s.met.stamps[(s.gat g).pieces]? = some t → t ≤ s.ptp → s.gatOff g = false →
    exec (.meterStampSplit g) s = .next ((s.forChans (chansOf g) (fun c u => u.split c)).onGat g (fun y => { y with pieces := y.pieces + 1 }))) ∧
  (∀ (s : Machine.State), s.met.due = true → s.stewardOn = true →
    let t := { s with met := { s.met with due := false } }
    exec .minuteBoundary s = .next ((((t.catchUp).takePieces true).minuteBoundary s.board.time.stamp).predict s.board.time.stamp 60)) ∧
  (∀ (s : Machine.State), s.met.due = true → s.stewardOn = false →
    exec .minuteBoundary s = .next { s with met := { s.met with due := false, missed := s.met.missed ++ [(s.board.time.stamp, s.board.time.cal)] } }) ∧
  (∀ (s : Machine.State), s.met.due = false → exec .minuteBoundary s = .next s))

/-- R554 to R558, R565 to R567: while the crystal runs, a second tick in any mode but OFF and SHIP advances the calendar by one second, takes its
PTP stamp, applies a waiting summer-time step and then the two alarms; the periodic wake and TRIM take effect at their times.

R559: the first read freezes the three read shadows, a read of KEEP_YEAR or 1 s ends the freeze; nothing else changes. -/
def Obligations.CalendarTicksAndFreeze : Prop :=
  ((∀ (s : Machine.State) (stamp : Nat), s.calStopped = false →
    (∀ t, s.board.time.loadT = some t → s.now * 32768 / 1000000000 ≠ t * 32768 / 1000000000) →
    let n := s.board.time.cal.nextSecond
    let t := s.onTime (fun t => { t with cal := n.1, xtalOk := true, xtalBad := false, tickT := s.now, stamp, repeat_ := t.repeat_ - 1 })
    let u := (if n.2 then t.rollover else t).summerStep
    let v := { u with met := { u.met with due := n.1.second == 0 } }
    let w := if v.stewardOn && v.met.stamps.isEmpty then v.predict stamp (60 - n.1.second) else v
    exec (.secondTick stamp) s = .next ((w.alarmTick 0).alarmTick 1)) ∧
  (∀ (s : Machine.State), s.calStopped = true ↔
    (s.board.time.xtalBad = true ∧ s.mode.mode = .keep) ∨ s.mode.mode = .off ∨ s.mode.mode = .ship) ∧
  (∀ (s : Machine.State), s.bit 0x050030 31 = true → s.calStopped = false → s.board.time.pwakeT + s.fld 0x050030 0 23 * 15625000 ≤ s.now →
    let t := s.onTime (fun t => { t with pwakeT := t.pwakeT + s.fld 0x050030 0 23 * 15625000 })
    exec .periodicWakeExpiry s = .next (if s.mode.mode = .keep then t.latchWake 2 else t)) ∧
  (∀ (s : Machine.State), exec .trimWindow s = .next (s.onTime (fun t => { t with trim := s.fldS 0x050010 0 10 }))) ∧
  (∀ (s : Machine.State) (rate : Int), s.board.time.ptp = .locked → s.board.time.lockT + 3600000000000 ≤ s.now →
    let t := (s.setReg 0x050014 (w32 rate)).onTime (fun t => { t with lockT := s.now })
    exec (.autotrim rate) s = .next (if t.bit 0x050010 16 then t.setTrim (clampI (-511) 511 (rdiv (-rate * 10) 4768)) else t)) ∧
  (∀ (s : Machine.State), modeUp s.mode.mode = true →
    exec .xtalFail s = .next ((((s.onTime (fun t => { t with xtalOk := false, xtalBad := true, rcond := false })).setFld 0x050018 0 1 0).calInvalid).fault 0x01 0x01)) ∧
  (∀ (s : Machine.State), s.calShadow.ok = true → exec .keepLoadTime s = .next (s.loadTime s.calShadow)) ∧
  (∀ (s : Machine.State), s.calShadow.ok = false → exec .keepLoadTime s = .next (s.setBit 0x050018 3)) ∧
  (∀ (s : Machine.State), exec .keepLoadWday s = .next (s.loadWday s.calShadow.wday))) ∧
  ((∀ (s : Machine.State), s.board.time.frozen = none →
    exec .calendarReadFreeze s = .next (s.onTime (fun t => { t with frozen := some (t.cal, t.valid), frozenT := s.now }))) ∧
  (∀ (s : Machine.State), s.board.time.frozen.isSome = true → exec .calendarReadFreeze s = .next s) ∧
  (∀ (s : Machine.State), exec .keepYearRead s = .next (s.onTime (fun t => { t with frozen := none }))) ∧
  (∀ (s : Machine.State), s.board.time.frozenT + 1000000000 ≤ s.now →
    exec .freezeTimeout s = .next (s.onTime (fun t => { t with frozen := none }))))

/-- R554, R555, Table 15-1: one second after a calendar time in its ranges stands a calendar time in its ranges, and the roll-over is reported
exactly past the last second of 2199. -/
def Obligations.NextSecondStaysValid : Prop :=
  ∀ (c : CalTime), c.ok = true → c.wday ≤ 6 →
    c.nextSecond.1.ok = true ∧ c.nextSecond.1.wday ≤ 6 ∧
    (c.nextSecond.2 = true ↔ c.year = 2199 ∧ c.month = 12 ∧ c.day = 31 ∧ c.hour = 23 ∧ c.minute = 59 ∧ c.second = 59)

/-- R568, R571, R572: on a port that runs PTP an Announce feeds the choice of the slave port and starts LOCKING from every state without a master;
a Sync on the slave port stores the offset, and in LOCKED corrects the frequency, or falls back to LOCKING at the fourth offset beyond 500 ns.

R571, R572, R575 to R577: the transitions of the timebase by time-outs, the pending backward step, the stored pair, the MAINS window and its
loss, and the PPS pins. -/
def Obligations.PtpAndTimebase : Prop :=
  ((∀ (s : Machine.State) (port rank : Nat), s.ptpPort port = true → s.board.time.ptp ≠ .locking → s.board.time.ptp ≠ .locked →
    exec (.ptpAnnounce port rank) s = .next (s.onTime (fun t =>
      let u := if port = 0 then { t with rank0 := some rank } else { t with rank1 := some rank }
      { u with slave := u.choose, ptp := .locking, inN := 0, outN := 0 }))) ∧
  (∀ (s : Machine.State) (port rank : Nat), s.ptpPort port = true → (s.board.time.ptp = .locking ∨ s.board.time.ptp = .locked) →
    exec (.ptpAnnounce port rank) s = .next (s.onTime (fun t =>
      let u := if port = 0 then { t with rank0 := some rank } else { t with rank1 := some rank }
      { u with slave := u.choose }))) ∧
  (∀ (s : Machine.State) (port t1 t2 : Nat) (freq : Int), s.netTake.ptpPort port = true → s.board.time.slave = port → s.board.time.ptp = .locked →
    let offset : Int := (t2 : Int) - s.netTake.fld (0x320054 + 4 * port) 0 16 - t1 - (if port = 0 then s.board.time.delay0 else s.board.time.delay1)
    let inN := if offset.natAbs ≤ 50 then s.board.time.inN + 1 else 0
    let outN := if 500 < offset.natAbs then s.board.time.outN + 1 else 0
    let t := ((s.netTake.setReg 0x32004C (w32 offset)).onTime (fun t => { t with inN, outN })).ptpFreq freq
    exec (.ptpSync port (t1, t2) freq) s = .next (if 4 ≤ outN then t.onTime (fun t => { t with ptp := .locking, inN := 0, outN := 0 }) else t)) ∧
  (∀ (s : Machine.State) (port t1 t2 : Nat) (freq : Int), s.board.time.netNext = [] → s.ptpPort port = true → s.board.time.slave = port →
    s.board.time.ptp = .locking →
    let offset := s.syncOffset port t1 t2
    offset.natAbs ≤ 50 → offset.natAbs ≤ s.fld 0x320040 16 16 * 1000 → 15 ≤ s.board.time.inN →
    let t := (s.setReg 0x32004C (w32 offset)).onTime (fun t => { t with inN := s.board.time.inN + 1, outN := 0 })
    exec (.ptpSync port (t1, t2) freq) s = .next (((t.ptpFreq freq).onTime (fun t =>
      { t with stepPend := none, ptp := .locked, lockT := s.now, inN := 0, outN := 0 })).timeEvt 0)) ∧
  (∀ (s : Machine.State) (port : Nat) (there back : Int), s.ptpPort port = true →
    let a := 0x320054 + 4 * port
    let delay := (((back - s.fld a 0 16) + (there - s.fld a 16 16)) / 2).toNat
    exec (.ptpDelayResp port (there, back)) s = .next (s.onTime (fun t => if port = 0 then { t with delay0 := delay } else { t with delay1 := delay }))) ∧
  (∀ (s : Machine.State) (port : Nat), s.ptpPort port = true → s.bit 0x320040 7 = true →
    exec (.ptpPdelayReq port) s = .next { s with sent := .ptp port 3 :: .ptp port 2 :: s.sent }) ∧
  (∀ (s : Machine.State) (port : Nat), s.ptpPort port = true → s.bit 0x320040 7 = true →
    exec (.ptpDelayReqSend port) s = .next { s with sent := .ptp port 1 :: s.sent }) ∧
  (∀ (s : Machine.State) (port : Nat), s.ptpPort port = true → s.bit 0x320040 7 = false → s.board.time.slave = port →
    exec (.ptpDelayReqSend port) s = .next { s with sent := .ptp port 0 :: s.sent })) ∧
  ((∀ (s : Machine.State), modeUp s.mode.mode = true → (s.board.time.ptp = .locking ∨ s.board.time.ptp = .locked) →
    exec .announceTimeout s = .next ((((s.onTime (fun t =>
      { t with ptp := .holdover, slave := 3, rank0 := none, rank1 := none, holdT := s.now, inN := 0, outN := 0 })).bump 0x32006C 16 16).timeEvt 1).fault
        0x09 0x05)) ∧
  (∀ (s : Machine.State) (ok : Bool), s.board.time.ptp = .holdover → s.board.time.holdT + s.fld 0x320044 0 16 * 1000000000 ≤ s.now →
    exec (.holdmaxExpiry ok) s = .next (if s.bit 0x320040 11 && ok then (s.onTime (fun t => { t with ptp := .mains, mainsT := s.now })).timeEvt 6
      else s.onTime (fun t => { t with ptp := .freerun }))) ∧
  (∀ (s : Machine.State) (d : Int), s.board.time.stepPend = some d → s.execMask = 0 → s.board.time.ptp = .locking →
    ∃ t, exec .backwardStep s = .next t ∧ t.ptp = ((s.ptp : Int) - d).toNat ∧ t.board.time.stepPend = none ∧
      (∃ f, t.col.fifo = s.col.fifo ++ [f] ∧ f.uu = 0x09 ∧ f.cc = 0x06) ∧ t.gathers = s.gathers ∧ t.queues = s.queues ∧
      ∀ c : ChanNo, (t.chan c).loop = (s.chan c).loop ∧ (t.chan c).prog = (s.chan c).prog ∧ (t.chan c).meas.winEnd = none) ∧
  (∀ (s : Machine.State), s.board.ptpValid = true → modeUp s.mode.mode = true → s.pairDue = true →
    exec .elapsedPairStore s = .next (s.onTime (fun t => { t with pair := some s.nextPair, pairLive := true, rcond := !t.xtalBad })) ∧
      s.nextPair.count = s.elapsed ∧ s.nextPair.ptp = s.ptp) ∧
  (∀ (s : Machine.State) (count : Nat), s.board.time.ptp = .mains → s.board.time.mainsT + 600000000000 ≤ s.now →
    let nom : Int := if s.bit 0x320040 12 then 36000 else 30000
    exec (.mainsWindowEnd count) s = .next ((s.onTime (fun t => { t with mainsT := s.now })).ptpFreq
      (s.board.time.freq + rdiv (((count : Int) - nom) * 1000000000) nom))) ∧
  (∀ (s : Machine.State), s.board.time.ptp = .mains →
    exec .mainsRefInvalid s = .next ((s.onTime (fun t => { t with ptp := .freerun })).fault 0x09 0x07)) ∧
  (∀ (s : Machine.State), modeUp s.mode.mode = true → s.bit 0x32005C 0 = true → s.board.ptpValid = true →
    s.board.time.ppsHigh ≠ some (s.ptp / 1000000000 * 1000000000) →
    exec .ppsOut s = .next (s.onTime (fun t => { t with ppsHigh := some (s.ptp / 1000000000 * 1000000000) }))) ∧
  (∀ (s : Machine.State), modeUp s.mode.mode = true → s.bit 0x32005C 1 = true →
    exec .ppsIn s = .next ((s.setReg 0x320060 s.ptp).setReg 0x320064 (s.ptp / 4294967296))))

/-- R80, R563, R564, R612 to R614: in KEEP an enabled source latches its wake; PWROFF, a long press and SHIP end as their rules say.

R80, R556, R593, R638: the supplies of KEEP and of the part come and go. -/
def Obligations.WakesAndSupplies : Prop :=
  ((∀ (s : Machine.State) (src : Fin 7), s.mode.mode = .keep → (src.val = 2 → s.bit 0x050030 31 = true) → (src.val = 3 → s.bit 0x050034 0 = true) →
    (src.val = 5 → s.bit 0x070010 26 = true) → exec (.wakeEvent src) s = .next (s.latchWake src.val).tryWake) ∧
  (∀ (s : Machine.State), s.mode.mode = .keep → s.bit 0x050034 0 = true → exec .wakeIn s = .next (s.latchWake 3).tryWake) ∧
  (∀ (s : Machine.State), s.mode.mode = .keep → exec .button s = .next (s.latchWake 4).tryWake) ∧
  (∀ (s : Machine.State) (ms : Nat), 50 ≤ ms → ms < 8000 → modeWarden s.mode.mode = true → exec (.buttonRelease ms) s = .next (s.powerEvt 9 ms)) ∧
  (∀ (s : Machine.State) (t : Nat), s.board.time.pwroffT = some t → t + s.fld 0x050034 8 8 * 10000000 ≤ s.now →
    exec .pwroffEnd s = .next (s.onTime (fun t => { t with pwroffT := none })).tryWake) ∧
  (∀ (s : Machine.State), s.mode.mode = .ship →
    let t := { s with mode := { s.mode with mode := .keep, prev := .ship, wakecause := 2, history := .keep :: s.mode.history } }
    exec .shipExit s = .next ((t.onPwr (fun p => { p with path := if p.input then .input else .parked })).latchWake 4).tryWake) ∧
  (∀ (s : Machine.State), modeWarden s.mode.mode = true →
    exec .longPress s = .next (((s.collapse 5 3).onPwr (fun p => { p with path := .open_, longT := some (s.collapse 5 3).now })).latchWake 4)) ∧
  (∀ (s : Machine.State), (s.mode.mode = .keep ∨ s.mode.mode = .ship) →
    exec .longPress s = .next ((s.onPwr (fun p => { p with path := .open_, longT := some s.now })).latchWake 4)) ∧
  (∀ (s : Machine.State) (t : Nat), s.board.pwr.longT = some t → t + 500000000 ≤ s.now →
    exec .longPressPathEnd s = .next (s.onPwr (fun p => { p with longT := none, path := if p.input then .input else .parked })).tryWake) ∧
  (∀ (s : Machine.State), s.mode.mode = .ship →
    exec .packShipLow s = .next { s with mode := { s.mode with mode := .off, prev := .ship, history := .off :: s.mode.history } })) ∧
  ((∀ (s : Machine.State) (vin : Bool), s.mode.mode = .off →
    let t := { s with mode := { s.mode with mode := .keep, prev := .off, cause := 1, history := .keep :: s.mode.history } }
    let u := t.onPwr (fun p => { p with input := vin, path := if vin then .input else .parked })
    exec (.vkeepRise vin) s = .next (if vin then (u.latchWake 6).tryWake else u)) ∧
  (∀ (s : Machine.State), s.mode.mode = .keep → s.optM = false →
    ∃ t, exec (.vkeepLoss false) s = .next t ∧ t.mode.mode = .off ∧ t.board.time.valid = false ∧ t.board.time.cal = {} ∧ t.board.time.vkeepLost = true ∧
      t.board.pwr.snap = [] ∧ (∀ x ∈ t.regs, x.1 < 0x050000 ∨ 0x080000 ≤ x.1) ∧ t.rst.latched = false ∧ t.queues = s.queues ∧
      t.leases = s.leases ∧ t.cru = s.cru) ∧
  (∀ (s : Machine.State), modeWarden s.mode.mode = true →
    exec .vinCollapse s = .next (((s.setBit 0x0600A4 7).keepFault 0x0207).collapse 1 2)) ∧
  (∀ (s : Machine.State), s.mode.mode = .off →
    let t := { s with mode := { s.mode with mode := .keep, prev := .off, cause := 1, history := .keep :: s.mode.history }
                      rst := { s.rst with kind := 1, source := 1, warms := 0, fcode := 0, latched := false } }
    exec .vintPowerOn s = .next ((t.onPwr (fun p => { p with input := true, inputT := s.now, path := .input })).latchWake 6).tryWake))

/-- R595 to R601: at a loss of the input with HOLDOK the part outside LEHR and WAKE moves to the pack and enters LEHR; without it the power collapses;
the input's return makes the path RETURNING; an exhausted pack in holdup collapses the power.

R590 to R592: the sequencer drives the next slot, enters BOOT after the last, powers down when a slot fails, and releases the slots one by one. -/
def Obligations.PowerPathAndSequencer : Prop :=
  ((∀ (s : Machine.State) (vin : Nat) (ok : Bool), s.noFatal = true → s.boundaryNow = false → s.vinThere vin = false → vin < s.vinloss →
    (s.board.pwr.path = .input ∨ s.board.pwr.path = .test) → modeUp s.mode.mode = true →
    let a := (s.onPwr (fun p => { p with input := false, rd := { p.rd with vin := vin } })).endTest false false
    let b := a.onPwr (fun p => { p with path := .holdup, packT := a.now })
    let d := if b.board.pwr.chg = .pre ∨ b.board.pwr.chg = .fast ∨ b.board.pwr.chg = .safe then b.chgTo .suspend 6 else b
    let e := if ok then d.powerEvt 0 vin else (d.powerEvt 0 vin).fault 0x03 0x06
    exec (.inputLoss vin ok) s = .next (if s.board.pwr.holdok then (if s.mode.mode = .lehr then e else e.enterLehr 0x12)
      else (e.keepFault 0x0305).collapse 3 2)) ∧
  (∀ (s : Machine.State) (vin : Nat) (ok : Bool), s.noFatal = true → s.boundaryNow = false → s.vinThere vin = false → s.vinloss ≤ vin →
    (s.board.pwr.path = .input ∨ s.board.pwr.path = .test) →
    exec (.inputLoss vin ok) s = .next (s.onPwr (fun p => { p with input := false, rd := { p.rd with vin := vin } }))) ∧
  (∀ (s : Machine.State) (vin : Nat) (ok : Bool), s.noFatal = true → s.boundaryNow = true →
    let t := ({ s.handleMinute with ptp := s.board.time.stamp }).vinFall vin ok
    exec (.inputLoss vin ok) s = .next (if t.ptp = s.board.time.stamp then { t with ptp := s.ptp } else t)) ∧
  (∀ (s : Machine.State) (vin : Nat), s.board.pwr.input = false → s.vinThere vin = true → modeUp s.mode.mode = true →
    let t := s.onPwr (fun p => { p with input := true, inputT := s.now, rd := { p.rd with vin := vin }
                                        path := if p.path = .holdup then .returning else p.path })
    exec (.inputPresent vin) s = .next (t.powerEvt 1 vin).tryWake) ∧
  (∀ (s : Machine.State), s.tryReturn.board.pwr.wdDue = false → exec .pathReturn s = .next s.tryReturn) ∧
  (∀ (s : Machine.State), (s.board.pwr.path = .holdup ∨ s.board.pwr.path = .returning) → s.board.pwr.rd.packv < s.ncell * s.packmin →
    exec .packExhausted s = .next (s.collapse 3 2))) ∧
  ((∀ (s : Machine.State) (k : Nat), s.mode.mode = .wake → s.board.pwr.phase = 1 → s.watchSlot.slotDone = true →
    s.watchSlot.nextSlot (s.board.pwr.slot + 1) = some k → exec .seqSlotDone s = .next (s.watchSlot.runSlot k)) ∧
  (∀ (s : Machine.State), s.mode.mode = .wake → s.board.pwr.phase = 1 → s.watchSlot.slotDone = true →
    s.watchSlot.nextSlot (s.board.pwr.slot + 1) = none → s.watchSlot.railsOk = true →
    let t := s.watchSlot.onPwr (fun p => { p with phase := 0, kickT := s.now, fallback := false, wdDue := false, tshutT := none })
    exec .seqSlotDone s = .next (t.draw.2.enterBoot (some (t.draw.1 % 64)) 4).tryReturn.chgStart) ∧
  (∀ (s : Machine.State), s.mode.mode = .wake → s.board.pwr.phase = 1 → s.fld (0x0600C0 + 4 * s.board.pwr.slot) 5 2 ≠ 0 →
    s.board.pwr.condT = none → s.slotHolds s.board.pwr.slot = false →
    s.board.pwr.slotT + s.fld (0x0600C0 + 4 * s.board.pwr.slot) 24 8 * 1000000 ≤ s.now →
    let t := (((s.setBit 0x0600A4 6).snapshot 2).keepFault 0x0206).toKeep .keep 5 0x0A true
    exec .seqTimeout s = .next ((t.onPwr (fun p => { p with failed := true })).setBit 0x0600A4 6)) ∧
  (∀ (s : Machine.State), s.board.pwr.phase = 2 → (∀ t, s.board.pwr.condT = some t → t + s.fld 0x0600A0 0 8 * 100000 ≤ s.now) →
    exec .powerDownStep s = .next s.powerDownStep))

/-- R583 to R588, R594, R595: PGOOD, hiccup, restart, latch, warning and shutdown of an AUX controller, and an out-of-range rail.

R603 to R610: the pack comes and goes; the charger's states follow its timers, the search and the means, and the watchdog falls back. -/
def Obligations.AuxPackAndChargerEvents : Prop :=
  ((∀ (s : Machine.State) (k : Fin 4), (s.aux k).on = true → (s.aux k).stopped = false → (s.aux k).latched = false →
    exec (.auxPgood k) s = .next (s.onAux k (fun a => { a with pgood := true })).watchSlot) ∧
  (∀ (s : Machine.State) (k : Fin 4), (s.aux k).on = true → (s.aux k).stopped = false → (s.aux k).latched = false →
    let l := s.now :: (s.aux k).hicT.filter (fun t => decide (s.now < t + 1000000000))
    let t := ((s.onAux k (fun a => { a with stopped := true, pgood := false, hicT := l })).setBit (0x06000C + 0x20 * k.val) 4).fault 0x02 0x01
    exec (.auxHiccup k) s = .next (if 3 ≤ l.length then t.auxLatch k else t)) ∧
  (∀ (s : Machine.State) (k : Fin 4) (t : Nat) (r : List Nat), (s.aux k).stopped = true → (s.aux k).hicT = t :: r → t + 10000000 ≤ s.now →
    exec (.auxHiccupRestart k) s = .next (s.onAux k (fun a =>
      { a with stopped := false, onT := s.now, fb0 := s.board.pwr.rd.fb.getD k.val 0 }))) ∧
  (∀ (s : Machine.State) (k : Fin 4) (t : Nat), (s.aux k).on = true → (s.aux k).latched = false → (s.aux k).overT = some t →
    t + s.fld (0x060004 + 0x20 * k.val) 16 7 * 1000000 ≤ s.now →
    exec (.auxSlowLimit k) s = .next ((s.onAux k (fun a => { a with latched := true, stopped := false, pgood := false })).fault 0x02 0x02)) ∧
  (∀ (s : Machine.State) (k : Fin 4) (t : Int), (s.aux k).twarn = false → s.fld 0x0600A8 0 8 * 100 ≤ t → modeWarden s.mode.mode = true →
    exec (.auxTwarn k t) s = .next (((s.onAux k (fun a => { a with twarn := true })).powerEvt 10 k.val).fault 0x02 0x03)) ∧
  (∀ (s : Machine.State) (k : Fin 4) (t : Int), s.fld 0x0600A8 8 8 * 100 ≤ t → modeWarden s.mode.mode = true →
    exec (.auxTshut k t) s = .next ((s.onPwr (fun p =>
      { p with tshutT := some (p.tshutT.getD s.now), rd := { p.rd with tdrv := p.rd.tdrv.set k.val t } })).fault 0x02 0x04)) ∧
  (∀ (s : Machine.State) (t : Nat), s.board.pwr.tshutT = some t → t + 1000000000 ≤ s.now → s.mode.mode = .lockout →
    s.board.pwr.rd.tdrv.any (fun x => decide ((s.fld 0x0600A8 8 8 * 100 : Int) ≤ x)) = true →
    exec .thermalPowerDown s = .next ((s.snapshot 6).toKeep .keep 0x19 0x0A true)) ∧
  (∀ (s : Machine.State) (src : Fin 8), modeUp s.mode.mode = true → src.val < 4 → exec (.railRange src) s = .next (s.fault 0x02 0x05)) ∧
  (∀ (s : Machine.State) (k : Fin 4), modeUp s.mode.mode = true →
    exec (.railRange ⟨k.val + 4, by omega⟩) s = .next ((s.onAux k (fun a => { a with pgood := false })).fault 0x02 0x05)) ∧
  (∀ (s : Machine.State) (r : Readings), modeWarden s.mode.mode = true → s.board.pwr.rdT + 1000000 ≤ s.now →
    let a := (s.onPwr (fun p => { p with rd := r, rdT := s.now })).watchSlot
    let b := (List.finRange 4).foldl (fun u k =>
      let w := 0x20 * k.val
      let mv := r.iout.getD k.val 0 * u.fld (0x060008 + w) 16 16
      let lim := u.fld (0x060004 + w) 8 7 * 10000
      let de := u.bit (0x060000 + w) 8
      u.onAux k (fun x => { x with
        overT := if x.on && decide (lim < mv) then some (x.overT.getD u.now) else none
        de := de && x.on && (if x.de then decide (mv * 10 ≤ lim * 2) else decide (mv * 10 < lim))
        twarn := x.twarn && !decide (r.tdrv.getD k.val 0 < ((u.fld 0x0600A8 0 8 : Int) - u.fld 0x0600A8 16 8) * 100) })) a
    b.syncHoldok.packTick.board.pwr.path ≠ .test →
    exec (.wardenReadingRefresh r) s = .next b.syncHoldok.packTick)) ∧
  ((∀ (s : Machine.State) (v : Nat), s.board.pwr.present = false → 4000 ≤ v → modeUp s.mode.mode = true →
    exec (.packPresent v) s = .next ((s.onPwr (fun p => { p with present := true, rd := { p.rd with packv := v } })).powerEvt 3 v).syncHoldok.chgStart) ∧
  (∀ (s : Machine.State), s.board.pwr.present = true → modeUp s.mode.mode = true →
    exec .packRemoved s = .next ((((s.onPwr (fun p =>
      { p with present := false, ntcBad := false, pack := { p.pack with full := none, emptyMk := false, stale := true } })).powerEvt 4 0).chgTo
        .off 0).syncHoldok)) ∧
  (∀ (s : Machine.State), s.board.pwr.ntcBad = false → modeWarden s.mode.mode = true →
    exec .packNtc s = .next ((((s.onPwr (fun p => { p with ntcBad := true, rd := { p.rd with tpack := none } })).chgTo .fault 5).syncHoldok).fault
      0x03 0x04)) ∧
  (∀ (s : Machine.State) (t : Int), s.board.pwr.chg = .qual → s.board.pwr.chgT + 2000000000 ≤ s.now → s.board.pwr.rd.tpack = some t →
    0 ≤ t → t ≤ 4500 →
    exec .qualEnd s = .next ((s.chgTo (if s.board.pwr.rd.packv < s.ncell * 1000 then .pre else .fast) 0).startSearch)) ∧
  (∀ (s : Machine.State), s.board.pwr.chg = .pre → s.board.pwr.chgT + 1800000000000 ≤ s.now →
    exec .preTimeout s = .next s.chgFault) ∧
  (∀ (s : Machine.State) (vin : Nat), s.board.pwr.chg = .fast → s.fld 0x070004 16 16 ≤ vin → s.board.pwr.searchT = none →
    s.board.pwr.stepT + 100000000 ≤ s.now →
    let pct := if s.board.pwr.fallback then Nat.min 5 (s.fld 0x070004 0 7) else s.fld 0x070004 0 7
    exec (.searchStep vin) s = .next ((s.setSearch (Nat.min (s.packCap * pct / 100) (s.board.pwr.search + s.packCap * 2 / 100))).onPwr (fun p =>
      { p with stepT := s.now }))) ∧
  (∀ (s : Machine.State) (vin : Nat), (s.board.pwr.chg = .pre ∨ s.board.pwr.chg = .fast) → vin < s.fld 0x070004 16 16 →
    exec (.searchStep vin) s = .next ((s.setSearch (s.board.pwr.search - 2 * (s.packCap * 2 / 100))).onPwr (fun p =>
      { p with searchT := some s.now, stepT := s.now }))) ∧
  (∀ (s : Machine.State) (t : Nat), s.board.pwr.searchT = some t → t + 60000000000 ≤ s.now →
    exec .searchHoldEnd s = .next (s.onPwr (fun p => { p with searchT := none }))) ∧
  (∀ (s : Machine.State), (s.board.pwr.chg = .fast ∨ s.board.pwr.chg = .safe) → s.board.pwr.chgT + s.fld 0x07000C 0 10 * 60000000000 ≤ s.now →
    exec .fastmaxExpiry s = .next ((s.chgTo .full 3).fault 0x03 0x01)) ∧
  (∀ (s : Machine.State), modeWarden s.mode.mode = true → s.board.pwr.fallback = false → s.board.pwr.kickT + 40000000000 ≤ s.now →
    s.board.pwr.path = .input →
    let t := (s.onPwr (fun p => { p with fallback := true, contact := false })).setBit 0x070024 15
    let u := if s.board.pwr.chg = .pre ∨ s.board.pwr.chg = .fast then t.chgTo .safe 0 else t
    exec .chargerWatchdog s = .next ((u.powerEvt 7 0).fault 0x03 0x03)) ∧
  (∀ (s : Machine.State), exec (.hldKick 0x4B49) s = .next (s.onPwr (fun p => { p with kickT := s.now, contact := true }))) ∧
  (∀ (s : Machine.State), s.mode.mode = .ready → s.board.pwr.holdok = true → s.board.pwr.chg = .full → s.board.pwr.path = .input →
    exec .packTest s = .next ((s.chgTo .test 0).onPwr (fun p => { p with path := .test }))) ∧
  (∀ (s : Machine.State), s.board.pwr.path = .test → exec .stoptest s = .next (s.endTest false true)))

/-- R604, R606: what one 1 s mean of pack voltage and temperature does to a charger in PRE, FAST or SUSPEND: beyond 60 °C or 1.80 V per cell it goes to
FAULT, beyond 45 °C to SUSPEND; PRE becomes FAST at 1.0 V per cell; FAST becomes FULL on −ΔV once its hold-off has passed. -/
def Obligations.ChargeMeanDecides : Prop :=
  ∀ (s : Machine.State) (v : Nat) (t : Int), modeWarden s.mode.mode = true → s.board.pwr.meanT + 1000000000 ≤ s.now →
    let a := s.onPwr (fun p => { p with meanT := s.now, rd := { p.rd with packv := v, tpack := if p.ntcBad then none else some t }
                                        means := ((v, t) :: p.means).take 61, vMax := Nat.max p.vMax v })
    let b := a.syncHoldok.chgStart
    let p := b.board.pwr
    (p.chg ≠ .off → p.chg ≠ .fault → p.chg ≠ .test → 6000 < t ∨ b.ncell * 1800 < v →
      exec (.chargeMeanUpdate v t) s = .next b.chgFault) ∧
    (t ≤ 6000 → v ≤ b.ncell * 1800 → (s.board.pwr.chg = .pre ∨ s.board.pwr.chg = .fast ∨ s.board.pwr.chg = .safe) → 4500 < t →
      exec (.chargeMeanUpdate v t) s = .next (b.chgTo .suspend 4)) ∧
    (p.chg = .pre → s.board.pwr.chg = .pre → t ≤ 4500 → b.ncell * 1000 ≤ v → v ≤ b.ncell * 1800 →
      exec (.chargeMeanUpdate v t) s = .next (b.chgTo .fast 0)) ∧
    ((p.chg = .fast ∨ p.chg = .safe) → t ≤ 4500 → v ≤ b.ncell * 1800 → p.chgT + b.fld 0x070008 8 8 * 60000000000 ≤ b.now →
      v + b.ncell * b.fld 0x070008 0 5 ≤ p.vMax → exec (.chargeMeanUpdate v t) s = .next ((b.chgTo .full 1).packFull))

/-- R404 to R408, R438, R439: an authenticated datagram in the window moves it on and sets the reply address; an ENTRIES datagram in sequence
places its trains, one out of sequence is counted and answered with the credit, one that fails its checks only counts, and BOOT drops all. -/
def Obligations.DatagramsComplete : Prop :=
  (∀ (s : Machine.State) (d : Datagram) (l : List RawEntry) (x : Session) (q : Queue) (b : RawEntry), s.portUp d.port = true →
    s.mode.mode ≠ .boot → s.authentic d = some x → l.head? = some b → l.length ≤ 15 →
    let a := s.accepted d
    let t := if d.cvalid then a.takeCredit x.tenant d else a
    t.cmdQueueOf x d.queue = some q →
    exec (.tenantDatagram d l) s = .next (if (parseEntry b).tag.seq = q.cack then State.takeTrains4 15 d.queue x.tenant l (t.bump 0x32000C 0 32)
      else (t.bump 0x320014 16 16).sendCredit d.queue)) ∧
  (∀ (s : Machine.State) (d : Datagram) (l : List RawEntry), s.portUp d.port = true → s.mode.mode ≠ .boot → s.authentic d = none →
    exec (.tenantDatagram d l) s = .next (s.bump 0x320014 0 16)) ∧
  (∀ (s : Machine.State) (d : Datagram) (l : List RawEntry), s.portUp d.port = true → s.mode.mode = .boot →
    exec (.tenantDatagram d l) s = .next (s.bump 0x320018 0 32) ∧ exec (.tenantCredit d) s = .next (s.bump 0x320018 0 32)) ∧
  (∀ (s : Machine.State) (d : Datagram) (x : Session), s.portUp d.port = true → s.mode.mode ≠ .boot → s.authentic d = some x →
    let t := (s.accepted d).bump 0x32000C 0 32
    exec (.tenantCredit d) s = .next (if d.cvalid then t.takeCredit x.tenant d else t)) ∧
  (∀ (s : Machine.State) (d : Datagram) (x : Session), s.authentic d = some x → d.dseq < 2 ^ 48 →
    ∃ y, (s.accepted d).session? d.session = some y ∧ y.rxHigh = Nat.max x.rxHigh d.dseq ∧ y.lastRx = s.now ∧ y.port = d.port ∧ y.addr = d.addr ∧
      y.udp = d.udp ∧ (∀ n ∈ y.rxSeen, y.rxHigh ≤ n + 127) ∧ y.fresh d.dseq = false)

/-- R429, R434 to R436, R439, R440: HELLO reserves a session number and answers a CHALLENGE; CONFIRM opens the session or answers REFUSE;
CLOSE, the idle time and the expiries end what they time; BOOT drops and counts a CONFIRM and a CLOSE (R89). -/
def Obligations.SessionsOpenAndClose : Prop :=
  (∀ (s : Machine.State) (addr t keyid n : Nat) (nonceT share : List Byte) (u : Machine.State), s.pllOn = true → s.mode.mode ≠ .boot →
    s.throttles.any (fun x => x.addr == addr && x.till.isSome) = false → helloOk keyid nonceT share = true → s.establish.length < 16 →
    s.pick s.freeSess = (some n, u) →
    let np := Config.freeNat u.draws
    let body := leBytes 1 t ++ leBytes 1 keyid ++ zeros 2 ++ nonceT ++ share
    let signed := if keyid = 15 then Config.signedShare np (body ++ leBytes 16 np) else []
    exec (.hello addr t keyid nonceT share) s = .next { u with
      draws := u.draws + 1, establish := u.establish ++ [{ num := n, tenant := t, keyid, nonceT, nonceP := np, share, addr, since := u.now }]
      sent := .challenge n np signed :: u.sent }) ∧
  (∀ (s : Machine.State) (addr n : Nat) (e : Establish) (ikm salt : List Byte) (x : Tenant), s.pllOn = true → s.mode.mode ≠ .boot →
    s.establish.find? (fun e => e.num == n) = some e →
    s.secretOf e = some (ikm, salt) → s.newSessOk e.tenant = true → s.tenant? e.tenant = some x →
    (s.sessions.filter (fun y => y.tenant == e.tenant)).length < x.qSess →
    ∃ t mac keys, exec (.confirm addr n true) s = .next t ∧
      t.sessions = s.sessions ++ [{ num := n, tenant := e.tenant, keyid := e.keyid, keys, lastRx := s.now, addr }] ∧
      t.sent = .accept n mac :: s.sent ∧ t.establish = s.establish.filter (fun e => e.num != n) ∧ t.throttles = s.throttles) ∧
  (∀ (s : Machine.State) (addr n : Nat) (ok : Bool) (e : Establish), s.pllOn = true → s.mode.mode ≠ .boot →
    s.establish.find? (fun e => e.num == n) = some e →
    (ok = false ∨ s.secretOf e = none) →
    exec (.confirm addr n ok) s = .next ({ s with establish := s.establish.filter (fun e => e.num != n)
                                                  sent := .refuse n (statusCode .authFailed) :: s.sent }.authFail addr)) ∧
  (∀ (s : Machine.State) (addr n : Nat) (ok : Bool) (d : Datagram), s.mode.mode = .boot →
    (s.pllOn = true → exec (.confirm addr n ok) s = .next (s.bump 0x320018 0 32)) ∧
    (s.portUp d.port = true → exec (.close d) s = .next (s.bump 0x320018 0 32))) ∧
  (∀ (s : Machine.State) (d : Datagram), s.portUp d.port = true → s.mode.mode ≠ .boot → d.formOk = true → d.authOk = true →
    (s.session? d.session).isSome →
    exec (.close d) s = .next (s.closeSession d.session)) ∧
  (∀ (s : Machine.State) (n : Nat), exec (.establishmentExpiry n) s = .next { s with
    establish := s.establish.filter (fun e => !(e.num == n && decide (e.since + 1000000000 ≤ s.now))) }) ∧
  (∀ (s : Machine.State) (n : Nat) (x : Session), s.session? n = some x → x.lastRx + s.sessidle * 1000000000 ≤ s.now →
    exec (.sessidleExpiry n) s = .next (s.closeSession n)) ∧
  (∀ (s : Machine.State) (addr : Nat), ∃ t, exec (.authThrottleEnd addr) s = .next t ∧
    t = { s with throttles := t.throttles } ∧ (∀ x ∈ s.throttles, x ∈ t.throttles ∨ (x.addr = addr ∧ ∃ e, x.till = some e ∧ e ≤ s.now)) ∧
    (∀ x ∈ t.throttles, x ∈ s.throttles ∧ ¬ (x.addr = addr ∧ ∃ e, x.till = some e ∧ e ≤ s.now))) ∧
  (∀ (s : Machine.State) (n : Nat) (x : Tenant), s.tenant? n = some x →
    ∃ t, exec (.enrolmentCodeExpiry n) s = .next t ∧ t = { s with tenants := t.tenants } ∧
      ∃ y, t.tenant? n = some y ∧ (∀ c, x.code = some c → y.code = if c.expiry ≤ s.now then none else some c) ∧ (x.code = none → y.code = none))

/-- R89, R403, R404, R423: unsupported frames count, an echo and an address request are answered, BOOT drops datagrams, the links fall and rise.

R408, R409: a due credit is sent, alone or in a completion datagram; entries leave a queue; and they go again from CACK after RETX. -/
def Obligations.FramesLinksAndSending : Prop :=
  ((∀ (s : Machine.State) (p : Nat), s.portUp p = true → exec (.unsupportedFrame p) s = .next (s.bump 0x320010 0 32)) ∧
  (∀ (s : Machine.State) (p a : Nat), s.portUp p = true → s.mode.mode ≠ .boot →
    let l := s.board.echoes.filter (fun e => decide (s.now < e.2 + 1000000000))
    exec (.icmpEcho p a) s = .next (if (l.filter (fun e => e.1 == p)).length < 100 then
      { s.onBoard (fun b => { b with echoes := (p, s.now) :: l }) with sent := .icmpReply p a :: s.sent } else s)) ∧
  (∀ (s : Machine.State) (p : Nat), s.portUp p = true → s.mode.mode ≠ .boot →
    exec (.addressResolution p true) s = .next { s with sent := .addrReply p :: s.sent } ∧ exec (.addressResolution p false) s = .next s) ∧
  (∀ (s : Machine.State), s.mode.mode = .boot → exec .bootDatagramDrop s = .next (s.bump 0x320018 0 32)) ∧
  (∀ (s : Machine.State) (p : Fin 2), s.links.testBit p.val = true →
    let t := { s with links := setBits s.links p.val 1 0 }
    exec (.ethLinkDown p) s = .next (if modeUp s.mode.mode then t.fault 0x09 0x01 else t)) ∧
  (∀ (s : Machine.State) (p : Fin 2), ∃ t, exec (.ethLinkUp p) s = .next t ∧ t = { s with links := t.links } ∧ t.links.testBit p.val = true)) ∧
  ((∀ (s : Machine.State) (q : Nat) (x : Queue), s.queue? q = some x → x.kind = .command → x.creditDue = true → x.creditT + 100000 ≤ s.now →
    (x.pair.bind s.queue? = none → exec (.commandCreditSend q) s = .next (s.sendCredit q)) ∧
    (∀ c, x.pair.bind s.queue? = some c →
      exec (.commandCreditSend q) s = .next (if (takeTrains 15 15 (c.sendable c.sent)).isEmpty ∨ (s.via c).isNone then s.sendCredit q
        else s.sendEntries c.num 15))) ∧
  (∀ (s : Machine.State) (q n : Nat), exec (.entrySend q n) s = .next (s.sendEntries q n)) ∧
  (∀ (s : Machine.State) (q n : Nat) (x : Queue), s.queue? q = some x → s.via x = some n → x.kind ≠ .command →
    let out := (x.sent + 65536 - x.cack) % 65536
    0 < out → x.ackT + s.fld 0x320004 0 8 * 1000000 ≤ s.now →
    exec (.retxExpiry q) s = .next ((datagrams out ((x.sendable x.cack).take out)).foldl (fun u es => u.sendIn n (.entries n q true none es))
      (s.onQueue q (fun y => { y with ackT := s.now })))))

/-- R30, R395, R396, R398 to R401, R454 to R457, R472, R531: the next completion of a command queue enters its completion ring with its
reserved slots given back; the oldest ready record is staged, copied to the partner in sync and placed; the oldest event is placed in each
queue that takes it; a coalesced entry is placed with LOSS for a token. -/
def Obligations.EntriesArePlaced : Prop :=
  (∀ (s : Machine.State) (q : Nat) (r : Reply) (y : Queue), s.stewardOn = true → s.inflight.find? (s.dueIn q) = some r → s.queue? q = some y →
    r.train.length ≤ y.free + r.head.resv → exec (.commandCompletion q) s = .next ((s.writeReply r).onQueue q (fun y => y.takeReply r))) ∧
  (∀ (s : Machine.State) (r : RecIn) (l : List RecIn), s.takeRec [] s.recFifo = some (r, l) → r.periodic = false →
    let a := { s with recFifo := l }
    let b := (if a.stages r then a.stage r.tenant r.train false else a).copyRec r
    exec .recordPlace s = .next (if b.twinMute r = true then b
      else (b.recQueues r).foldl (fun s q => s.recInto q r.train false r.time) (b.countOther (destOf r.tenant)))) ∧
  (∀ (s : Machine.State) (r : RecIn) (l : List RecIn), s.takeRec [] s.recFifo = some (r, l) → r.periodic = true →
    let a := { s with recFifo := l }
    let b := (if a.stages r then a.stage r.tenant r.train true else a).copyRec r
    exec .recordPlace s = .next (if b.twinMute r = true then b else
      match (b.decimate r).2 with
      | some es => (b.recQueues r).foldl (fun s q => s.recInto q es true r.time) (b.decimate r).1
      | none => (b.decimate r).1)) ∧
  (∀ (s : Machine.State) (e : EvtIn) (l : List EvtIn), s.evtFifo = e :: l →
    let t := { s with evtFifo := l }
    exec .eventPlace s = .next ((t.evtQueues e).foldl (fun s q => s.placeEvt e.dest q e.train e.kind e.channel) t)) ∧
  (∀ (s : Machine.State) (n cls : Nat) (x : Tenant) (c : Coal) (q : Queue), s.tenant? n = some x → oldestOf x.coal cls = some c →
    (s.onQueue c.queue Queue.settle).queue? c.queue = some q → x.hasToken cls s.now = true → c.entries.length ≤ q.free →
    let a := (s.onQueue c.queue Queue.settle).onTenant n (fun x => ({ x with coal := x.coal.erase c } : Tenant).takeToken cls s.now)
    let b := a.onQueue c.queue (fun q => { q.push (markLoss c.entries) with losspend := false })
    exec (.coalescedPlace n cls) s = .next ((b.stormCount n cls (fun m => { m with placed := m.placed + 1 })).stormStir n))

/-- R459, R461: the update sets the level of every tenant in turn; the level that its rates call for is the smallest from 0 to 15 with
P / 2^L + N within RECRATE; a storm ends with a summary once it has been calm for STORMQUIET, and the part-wide one with the last of them. -/
def Obligations.DecimationAndStorms : Prop :=
  (∀ s : Machine.State, exec .decimationUpdate s = .next (s.tenants.foldl (fun s t => s.setDecim t) s)) ∧
  (∀ (p n rate : Nat), decimLevel p n rate ≤ 15 ∧
    (∀ l, l < decimLevel p n rate → rate * 2 ^ l < p + n * 2 ^ l) ∧ (p ≤ (rate - n) * 2 ^ 15 → n ≤ rate →
      p + n * 2 ^ decimLevel p n rate ≤ rate * 2 ^ decimLevel p n rate)) ∧
  (∀ (s : Machine.State) (n : Nat) (x : Tenant) (w : Storm), s.tenant? n = some x → x.storm = some w → x.coal.isEmpty → x.decim = 0 →
    w.calmT + s.stormquiet * 100000000 ≤ s.now →
    let t := (s.onTenant n (fun x => { x with storm := none })).stormEvt w n n
    exec (.stormEnd n) s = .next (if t.tenants.any (fun y => y.storm.isSome) then t
      else match t.storm with | some p => ({ t with storm := none }).stormEvt p 255 0 | none => t))

/-- R89, R395, R396, R412 to R415: the oldest train of a claimable command queue is claimed in its turn; READ, WRITE, STATUS, QPUT and QGET of the
local port answer with their words, LSTATUS and CHK; bytes clocked after tRD are the ones that were read; a frame that begins before tWR of the
last WRITE or QPUT has passed is ignored and LSTATUS keeps its value (R705). -/
def Obligations.ClaimAndLocalPort : Prop :=
  (∀ (s : Machine.State) (q : Nat) (f : Finding) (x : Queue) (e : Entry), s.queue? q = some x → x.ring.head? = some e → s.eloawenRuns = true →
    s.claimable x = true → s.claimTurn x = true → exec (.commandClaim q f) s = .next (s.claim x e f)) ∧
  (∀ (s : Machine.State) (head d : List Byte) (k : FrameClk) (trd : Nat), trd ≤ k.gap → s.sends head d k trd = (d ++ [chkByte (head ++ d)], s)) ∧
  (∀ (s : Machine.State) (a n : Nat) (k : Option FrameClk) (f : GetFrame) (ok : Bool) (l : List Word32) (e : List RawEntry), s.localOn = true → s.early = true →
    exec (.localRead a n k) s = .next s.frameIgnored ∧ exec (.localWrite a l ok) s = .next s.frameIgnored ∧
    exec .localStatus s = .next s.frameIgnored ∧ exec (.qput e ok) s = .next s.frameIgnored ∧ exec (.qget f) s = .next s.frameIgnored ∧
    s.frameIgnored.localPort.lstatus = s.localPort.lstatus) ∧
  (∀ (s : Machine.State) (a n : Nat) (k : FrameClk), s.localOn = true → s.early = false → 1 ≤ n → n ≤ 64 → localReach a n = true →
    let r := (s.clocked k).regWords a n
    let o := r.2.sends ([1] ++ leBytes 4 a ++ leBytes 1 n) r.1.flatten k (crossNs a n)
    exec (.localRead a n (some k)) s = .next (o.2.frameEnd 0 o.1 none)) ∧
  (∀ (s : Machine.State) (a n : Nat), s.localOn = true → s.early = false → exec (.localRead a n none) s = .next (s.frameEnd 1 [] none)) ∧
  (∀ (s : Machine.State) (a : Nat) (l : List Word32), s.localOn = true → s.early = false → 1 ≤ l.length → l.length ≤ 64 →
    localReach a l.length = true →
    let r := (s.crossing (crossNs a l.length)).localWords a l
    exec (.localWrite a l true) s = .next (r.1.frameEnd (if r.2 then 3 else 0) [] none)) ∧
  (∀ (s : Machine.State) (a : Nat) (l : List Word32) (ok : Bool), s.localOn = true → s.early = false → (ok = false ∨ l.length = 0 ∨ 64 < l.length) →
    exec (.localWrite a l ok) s = .next ((s.crossing (crossNs a l.length)).frameEnd 1 [] none)) ∧
  (∀ (s : Machine.State), s.localOn = true → s.early = false → s.localPort.getQ = none →
    let o := s.sends [3] (leBytes 1 s.localPort.lstatus) s.localPort.clk 500
    exec .localStatus s = .next (o.2.frameEnd 0 o.1 none)) ∧
  (∀ (s : Machine.State) (q : Nat), s.localOn = true → s.early = false → 500 ≤ s.localPort.clk.gap → s.localPort.getQ = some q →
    s.localPort.lstatus = 0 → exec .localStatus s = .next ((s.freeGet q).frameEnd 0 [0, chkByte [3, 0]] none)) ∧
  (∀ (s : Machine.State) (b : RawEntry) (l : List RawEntry) (q : Queue), s.localOn = true → s.early = false → s.queue? 0 = some q →
    (b :: l).length ≤ 15 → trainCheck (b :: l) 0 = .ok → (b :: l).length ≤ q.free →
    exec (.qput (b :: l) true) s = .next (((s.crossing (2000 + (b :: l).length * 100)).placeTrain 0 ((b :: l).map parseEntry)).frameEnd 0 [] none)) ∧
  (∀ (s : Machine.State) (q : Nat) (k : FrameClk), s.localOn = true → s.early = false → 1 ≤ q → q ≤ 3 →
    (∀ e, (s.queue? q).bind (fun x => x.ring.head?) = some e →
      let o := (s.clocked k).sends ([5] ++ leBytes 4 q) (entryBytes e) k 2000
      exec (.qget ⟨q, k⟩) s = .next (o.2.frameEnd 0 o.1 (some q))) ∧
    ((s.queue? q).bind (fun x => x.ring.head?) = none →
      let o := (s.clocked k).sends ([5] ++ leBytes 4 q) (zeros 64) k 2000
      exec (.qget ⟨q, k⟩) s = .next (o.2.frameEnd 0 o.1 none)))

/-- R418 to R421: START fetches the descriptor at HEAD, STOP waits for the descriptor boundary, POKE runs an idle channel again; a finished
descriptor gets DSTAT, loses OWN and is followed by the next; a bus error halts every channel and latches BUSERR, which a write clears. -/
def Obligations.DmaCompletes : Prop :=
  (∀ (s : Machine.State) (c : Fin 32), s.bit 0x300000 0 = false → (s.dma[c].state = .idle ∨ s.dma[c].state = .stopped) →
    exec (.dmaStart c) s = .next (s.dmaFetch c (s.fld (0x300104 + 0x20 * c.val) 0 16 / 32 * 32))) ∧
  (∀ (s : Machine.State) (c : Fin 32), ∃ t, exec (.dmaStop c) s = .next t ∧ t = { s with dma := t.dma } ∧
    t.dma[c].state = (if s.dma[c].state = .running ∨ s.dma[c].state = .stopping then .stopping else .stopped) ∧
    ∀ k : Fin 32, k ≠ c → t.dma[k] = s.dma[k]) ∧
  (∀ (s : Machine.State) (c : Fin 32), s.bit 0x300000 0 = false → s.dma[c].state = .idle →
    exec (.dmaPoke c) s = .next (s.dmaFetch c s.dma[c].cur)) ∧
  (∀ (s : Machine.State) (c : Fin 32), (s.dma[c].state = .running ∨ s.dma[c].state = .stopping) →
    let o := s.dma[c].cur
    let w := s.cruNum o 4
    let nx := s.cruNum (o + 4) 4 % 65536 / 32 * 32
    let a := ((s.dmaMove o).dmaStat o (bitsOf w 0 24) 0).cruWrite o (leBytes 4 (w % 2 ^ 31))
    let b := a.onDma c (fun d => { d with code := 0, done := (d.done + 1) % 65536 })
    let e := if w.testBit 25 then b.evrPulse (0x140 + c.val) else b
    exec (.dmaDescriptorDone c) s = .next (
      if s.dma[c].state = .stopping then e.onDma c (fun d => { d with state := .stopped, cur := if w.testBit 24 then o else nx })
      else if w.testBit 24 then e.onDma c (fun d => { d with state := .idle }) else e.dmaFetch c nx)) ∧
  (∀ (s : Machine.State) (c : Fin 32) (addr moved : Nat), ∃ t, exec (.dmaBusError c addr moved) s = .next t ∧
    (∀ k : Fin 32, (s.dma[k].state = .running ∨ s.dma[k].state = .stopping) → t.dma[k].state = .halted ∧ t.dma[k].code = if k = c then 1 else 2) ∧
    (∀ k : Fin 32, s.dma[k].state ≠ .running → s.dma[k].state ≠ .stopping → t.dma[k] = s.dma[k])) ∧
  (∀ (s : Machine.State), exec .dmaBuserrClear s = .next (s.setFld 0x300000 0 1 0)) ∧
  (∀ (s : Machine.State) (c : Fin 32) (o : Nat), (s.cruNum (o / 32 * 32 % 65536) 4).testBit 31 = false →
    s.dmaFetch c o = s.onDma c (fun d => { d with cur := o / 32 * 32 % 65536, state := .idle })) ∧
  (∀ (s : Machine.State) (c : Fin 32) (o : Nat), (s.cruNum (o / 32 * 32 % 65536) 4).testBit 31 = true →
    (bitsOf (s.cruNum (o / 32 * 32 % 65536) 4) 0 24 = 0 ∨ bitsOf (s.cruNum (o / 32 * 32 % 65536) 4) 28 3 ≠ 0 ∨
      bitsOf (s.cruNum (o / 32 * 32 % 65536 + 24) 4) 28 4 ≠ 0) → s.dmaFetch c o =
      (s.onDma c (fun d => { d with cur := o / 32 * 32 % 65536, state := .stopped })).fault 0x07 0x02)

/-- R423, R642, R662, R673 to R678: the collector takes the next fault at its input; a lockstep or reference clock loss stops every channel; a
fence's recovery starts after the quiet period, and lifts it or leaves it for FAULT_ACK. -/
def Obligations.FaultsComplete : Prop :=
  (∀ (s : Machine.State) (f : FaultIn), nextFault s.col.fifo = some f →
    exec (.faultTaken none) s = .next (({ s with col := { s.col with fifo := s.col.fifo.erase f } }).takeFault f)) ∧
  (∀ (s : Machine.State) (code arg : Nat), extCode code = true → modeUp s.mode.mode = true →
    let t := (s.extActs code arg).fault (code / 256) (code % 256)
    exec (.faultTaken (some (code, arg))) s = .next (match nextFault t.col.fifo with
      | some f => ({ t with col := { t.col with fifo := t.col.fifo.erase f } }).takeFault f | none => t)) ∧
  (∀ (s : Machine.State), modeUp s.mode.mode = true →
    let t := s.forChans allChans (fun c s => s.hardStop c)
    exec .lockstep s = .next (if t.wdnRestart.mode.mode = .lehr then (t.wdnRestart.keepFault 0x0E01).lehrAbort else t.wdnRestart.fault 0x0E 0x01) ∧
    exec .refclkLost s = .next (if t.clockStop.mode.mode = .lehr then (t.clockStop.keepFault 0x0003).lehrAbort else t.clockStop.fault 0x00 0x03) ∧
    exec .wdnOsc s = .next (((if t.bit 0x020080 1 then t else ((t.setBit 0x020080 1).setBit 0x02008C 2).fault 0x0D 0x07).fault 0x0E 0x04).wdgExpire 4)) ∧
  (∀ (s : Machine.State) (f : Fence) (u t : Nat), s.col.fences.find? (fun f => f.unit == u) = some f → f.quietT = some t → f.recovers = true →
    f.recov = false → t + s.fld 0x04000C 0 10 * 1000000000 ≤ s.now →
    let r := s.onFence u (fun f => { f with recov := true, quietT := none })
    exec (.quietPeriodEnd u) s = .next (match gather? (u - 0x10) with | some g => if 0x10 ≤ u then (r.resetGather g).settle else r | none => r)) ∧
  (∀ (s : Machine.State) (f : Fence) (u : Nat), s.col.fences.find? (fun f => f.unit == u) = some f → f.recov = true →
    (u < 0x10 ∨ 0x18 ≤ u ∨ f.probation = true) →
    exec (.recoveryEnd u false) s = .next (s.onFence u (fun f => { f with recov := false, probation := false, failed := true, quietT := none })).settle) ∧
  (∀ (s : Machine.State) (f : Fence) (u : Nat), s.col.fences.find? (fun f => f.unit == u) = some f → f.recov = true →
    (u < 0x10 ∨ 0x18 ≤ u ∨ f.probation = true) → u ≠ 3 → ¬ (0x40 ≤ u ∧ u < 0x80) →
    exec (.recoveryEnd u true) s = .next (s.liftFence u).settle) ∧
  (∀ (s : Machine.State) (f : Fence) (c : ChanNo), s.col.fences.find? (fun f => f.unit == uChan c) = some f → f.recov = true →
    exec (.recoveryEnd (uChan c) true) s = .next ((s.liftFence (uChan c)).recoverChan c f.cc).settle) ∧
  (∀ (s : Machine.State) (f : Fence), s.col.fences.find? (fun f => f.unit == 3) = some f → f.recov = true → s.board.pwr.present = true →
    s.board.pwr.ntcBad = false →
    let t := s.liftFence 3
    exec (.recoveryEnd 3 true) s = .next ((if t.board.pwr.chg = .fault then t.chgTo .off 0 else t).chgStart).settle) ∧
  (∀ (s : Machine.State) (k : Fin 4), modeUp s.mode.mode = true →
    let t := s.abortClaimed.faultD 0x0D 0x01 (leBytes 1 k.val)
    exec (.coreException ⟨k, false⟩) s = .next t ∧
    exec (.coreException ⟨k, true⟩) s = .next { t with rst := { t.rst with stalled := setBits t.rst.stalled k.val 1 1 } })

/-- R657 to R663: a kick in the window restarts the period with the written PERIOD and WSTART, any other kick expires the watchdog; two key values
within 1 µs clear EN unless LOCK is set; the period, the hard timer and a clock loss end as their rules say.

R651, R665 to R671, R687: a source's input is accepted, an interrupt delivered, claimed into EVR_CLAIM and completed; HKEN locks the house key
in SERVICE. -/
def Obligations.WatchdogsAndRouter : Prop :=
  ((∀ (s : Machine.State) (w : Fin 5), s.bit (wdgA w 0) 0 = true → modeUp s.mode.mode = true →
    (s.wdgOpen w = true →
      let a := match s.wdg[w].newPer with | some p => s.setFld (wdgA w 0) 16 14 p | none => s
      let b := match s.wdg[w].newWin with | some p => a.setFld (wdgA w 0) 8 4 p | none => a
      exec (.wdgKick w 0x4B43) s = .next (b.onWdg w (fun x => { x with base := b.now, newPer := none, newWin := none }))) ∧
    (∀ v, (v ≠ 0x4B43#16 ∨ s.wdgOpen w = false) → exec (.wdgKick w v) s = .next ((s.setBit (wdgA w 0xC) 4).wdgExpire w))) ∧
  (∀ (s : Machine.State) (w : Fin 5) (v : BitVec 16), s.bit (wdgA w 0) 2 = true → exec (.wdgKey w v) s = .next s) ∧
  (∀ (s : Machine.State) (w : Fin 5), s.bit (wdgA w 0) 2 = false →
    exec (.wdgKey w 0x4449) s = .next (s.onWdg w (fun x => { x with keyT := some s.now })) ∧
    (∀ t, s.wdg[w].keyT = some t → t ≤ s.now → s.now ≤ t + 1000 →
      exec (.wdgKey w 0x5341) s = .next ((s.onWdg w (fun x => { x with keyT := none })).setFld (wdgA w 0) 0 1 0)) ∧
    (∀ v, v ≠ 0x4449#16 → v ≠ 0x5341#16 → exec (.wdgKey w v) s = .next (s.onWdg w (fun x => { x with keyT := none })))) ∧
  (∀ (s : Machine.State) (w : Fin 5), exec (.wdgLock w) s = .next (s.setBit (wdgA w 0) 2)) ∧
  (∀ (s : Machine.State) (w : Fin 5), modeUp s.mode.mode = true → s.bit (wdgA w 0) 0 = true → s.wdg[w].base + s.wdgPeriod w ≤ s.now →
    exec (.wdgExpiry w) s = .next (s.wdgExpire w)) ∧
  (∀ (s : Machine.State) (w : Fin 5) (t : Nat), s.wdg[w].hard = some t → t + 64000000 ≤ s.now → modeUp s.mode.mode = true →
    let r := s.onWdg w (fun x => { x with hard := none, trap := false })
    exec (.wdgHard w) s = .next (if w = 4 then (if s.mode.mode = .lehr then (r.keepFault 0x0E03).lehrAbort else (r.keepFault 0x0E03).warmReset 7)
      else (r.fault 0x0D 0x03).coreReset w)) ∧
  (∀ (s : Machine.State) (w : Fin 5), modeUp s.mode.mode = true →
    let r := s.setFld (wdgA w 0) 1 1 (1 - s.fld (wdgA w 0) 1 1)
    exec (.wdgClock w) s = .next (((r.setBit (wdgA w 0xC) 2).fault 0x0D 0x07).wdgExpire w))) ∧
  ((∀ (s : Machine.State) (n : Nat) (level : Bool), exec (.evrSourceAccept n level) s = .next (s.evrAccept n level)) ∧
  (∀ (s : Machine.State) (c : Fin 4), exec (.evrDeliver c) s = .next (s.evrDeliver c.val)) ∧
  (∀ (s : Machine.State) (c : Fin 4), exec (.evrClaim c) s = .next ((s.evrClaim c.val).2.setReg (0x030000 + 0x10 * c.val) (s.evrClaim c.val).1)) ∧
  (∀ (s : Machine.State) (c : Fin 4) (n : Nat), exec (.evrComplete c n) s = .next (s.evrComplete c.val n)) ∧
  (∀ (s : Machine.State) (c : Fin 4) (g : Bool) (x : EvrSrc), s.deliverable c.val g x = true →
    x.pend = true ∧ x.claimed = none ∧ bitsOf (s.srcReg x.id) 0 2 = c.val ∧ (g = false → (s.srcReg x.id).testBit 5 = true)) ∧
  (∀ (s : Machine.State), s.mode.mode = .service → s.nvm.roMask.testBit 0 = false →
    exec .nvmHkctlHken s = .next { s with nvm := { s.nvm with hken := true } }))

/-- R85, R89, R526, R638 to R645, R649, R650, R654, R655: the causes of a warm reset, its hold for the ledger and its release into BOOT; the image
check; the end of BOOT; and a block reset that quiesces and returns. -/
def Obligations.ResetsAndBoot : Prop :=
  (∀ s : Machine.State, exec .resetN s = .next (s.warmReset 4) ∧ exec .brownout s = .next (s.warmReset 5)) ∧
  (∀ s : Machine.State, s.rst.commanded = true → s.rst.commandedT + 10000000 ≤ s.now →
    exec .commandedWarmReset s = .next (({ s with rst := { s.rst with commanded := false } }).warmReset s.rst.commandedSrc)) ∧
  (∀ (s : Machine.State) (tmo : Bool), s.rst.warm = true → s.rst.ledgerQuiesce = true → (tmo = true → s.rst.quiesceT ≤ s.now) →
    exec (.warmResetLedgerQuiesce tmo) s = .next (s.holdLedger tmo)) ∧
  (∀ (s : Machine.State) (st : BitVec 6), s.rst.warm = true → s.rst.ledgerQuiesce = false →
    exec (.warmResetRelease st) s = .next (({ s with rst := { s.rst with warm := false } }).enterBoot (some st.toNat) 0x17)) ∧
  (∀ (s : Machine.State) (g0 g1 : Bool), s.mode.mode = .boot → s.fw = none →
    let ok (n : Nat) : Bool := s.imageOk (s.flash.slot n) (if n = 0 then g0 else g1)
    (ok s.firstSlot = false → ok (1 - s.firstSlot) = false →
      exec (.imageCheck g0 g1) s = .next ((s.fault 0x00 0x01).enterLockout 0x08 0)) ∧
    (ok s.firstSlot = true → (s.acceptImage s.firstSlot).rst.latched = false →
      exec (.imageCheck g0 g1) s = .next (s.acceptImage s.firstSlot)) ∧
    (ok s.firstSlot = true → (s.acceptImage s.firstSlot).rst.latched = true →
      let t := s.acceptImage s.firstSlot
      exec (.imageCheck g0 g1) s = .next ((t.fault (t.rst.fcode / 256) (t.rst.fcode % 256)).enterLockout 0x15 t.rst.fcode)) ∧
    (ok s.firstSlot = false → ok (1 - s.firstSlot) = true → ((s.acceptImage (1 - s.firstSlot)).fault 0x00 0x02).rst.latched = false →
      exec (.imageCheck g0 g1) s = .next ((s.acceptImage (1 - s.firstSlot)).fault 0x00 0x02))) ∧
  (∀ s : Machine.State, s.bootDone = true →
    exec .bootEnd s = .next (if s.optT = false then s.bootOwner
      else if s.board.pair.noForm = true ∨ s.board.pipeIn = true then s.bootTwin
      else if s.board.pair.arb = .none then s.onBoard (fun b => { b with pair := { b.pair with arb := .idle } }) else s)) ∧
  (∀ (s : Machine.State) (k : Nat) (b : BlockReset) (tmo : Bool), s.rst.blocks.find? (fun b => b.block == k) = some b → b.quieted = false →
    (tmo = true → b.at_ + s.quiesceTo k ≤ s.now) →
    let a := if tmo then (if k = 8 then s.fault 0x08 0x09 else s.faultD 0x00 0x04 (leBytes 1 k)) else s
    let c := if k = 8 ∧ tmo = false then a.durable else a
    let d := c.resetBlock k
    let bs := updFirst (fun b => b.block == k) (fun b => { b with quieted := true, at_ := d.now }) d.rst.blocks
    exec (.blockQuiesceDone k tmo) s = .next ({ d with rst := { d.rst with blocks := bs } }).settle) ∧
  (∀ (s : Machine.State) (k : Nat) (b : BlockReset), s.rst.blocks.find? (fun b => b.block == k) = some b → b.quieted = true → b.at_ + 10000 ≤ s.now →
    (∀ g, gather? (k - 0x10) = some g → 0x10 ≤ k → (s.gat g).calibrated = true) →
    exec (.blockResetReturn k) s = .next { s with
      rst := { s.rst with blocks := s.rst.blocks.filter (fun x => x.block != k) }
      inflight := s.inflight ++ (b.head.toList ++ b.more).map (fun h => { head := h, opcode := 0x3A, status := .ok, applied := s.ptp }) })

/-- R478, R489, R496, R498, R503, R505, R510 to R513: recovery runs at BOOT and after a ledger block reset; a tick of SEALINT seals every batch; a
Flush makes batches durable; gaps, reclaim and drive errors act as their rules say. -/
def Obligations.LedgerEvents : Prop :=
  (∀ (s : Machine.State) (l : List DriveFound) (j k : List Nat) (torn : Bool), s.led.st ≠ .discovering →
    exec (.ledgerRecovery l j k torn) s = .next s) ∧
  (∀ (s : Machine.State) (l : List DriveFound) (j k : List Nat) (torn : Bool), s.led.st = .discovering → l.all (fun f => !f.present) = true →
    ∃ t, exec (.ledgerRecovery l j k torn) s = .next t ∧ t.led.running = true ∧ t.led.st = .failed ∧ t.led.perst = false ∧ t.mode = s.mode) ∧
  (∀ (s : Machine.State), s.led.running = true → s.led.isMounted = true →
    s.led.tickT / (Nat.max 1 s.led.sealint * 10000000) ≠ s.ptp / (Nat.max 1 s.led.sealint * 10000000) →
    exec .sealTick s = .next ((s.onLed (fun l => { l with tickT := s.ptp })).sealAll 1)) ∧
  (∀ s : Machine.State, s.led.running = true → s.led.isMounted = true → exec .batchDurable s = .next s.durable) ∧
  (∀ s : Machine.State, s.led.running = true → s.led.isMounted = true → s.led.used < 960 → exec .stagingGap s = .next (s.missGaps 2)) ∧
  (∀ s : Machine.State, s.led.running = true → s.led.isMounted = true → s.board.ptpValid = true → s.stewardOn = true →
    s.led.reclaimT + 60000000000 ≤ s.now →
    let gone := (s.led.segs.filter s.expired).map Seg.num
    exec .ledgerReclaim s = .next (s.onLed (fun l => { gone.foldl Ledger.reclaim l with reclaimT := s.now })).spaceLow.writeOut) ∧
  (∀ (s : Machine.State) (d : Fin 4), (s.led.drive d.val).alive = true →
    exec (.nvmeTimeout d) s = .next ((((s.setBit 0x31001C 2).fault 0x08 0x08).onLed (fun l => l.retry d.val)).driveFail d.val) ∧
    (∀ k, exec (.nvmeError d k false) s = .next ((((s.setBit 0x31001C 0).fault 0x08 0x01).onLed (fun l => l.retry d.val)).driveFail d.val))) ∧
  (∀ (s : Machine.State) (d : Fin 4), exec (.driveLost d) s = .next (s.loseDrive d.val)) ∧
  (∀ s : Machine.State, s.led.drives.any (fun d => d.state == 2) = true →
    ∃ t, exec .resilverDone s = .next t ∧ t.led.drives = s.led.drives.map (fun d => if d.state = 2 then { d with state := 1 } else d) ∧
      t.led.st = if s.led.st = .degraded then t.led.mountSt else s.led.st)

/-- R99, R474, R507, R515, R518, R592, R614: a fetch delivers the records that it takes and ends with its event; LEDGER_INIT initialises an unlabelled
drive set, with INIT_ERASE also a foreign or incomplete one; LEHR writes the resume area, seals, flushes and powers down. -/
def Obligations.FetchInitAndLehr : Prop :=
  (∀ (s : Machine.State) (n : Nat) (f : Fetch) (a : DriveAns), s.led.fetches.head? = some f → f.head.tenant = n →
    s.led.inRange n f.from_ f.to_ f.next = [] → exec (.ledgerFetchBatch n a) s = .next (s.endFetch f .ok)) ∧
  (∀ (s : Machine.State) (n : Nat) (f : Fetch) (b : Batch) (l : List Batch), s.led.fetches.head? = some f → f.head.tenant = n →
    s.led.inRange n f.from_ f.to_ f.next = b :: l →
    exec (.ledgerFetchBatch n .timeout) s = .next ((s.setBit 0x31001C 2).endFetch f .timeout) ∧
    exec (.ledgerFetchBatch n .error) s = .next ((s.setBit 0x31001C 1).endFetch f .media) ∧
    (s.led.readable (b.laddr / 1048576) = true →
      let rs := ((trainsOf b.entries.length b.entries).filter f.takes).filterMap (fetchedRec f.queue)
      let g : Fetch := { f with next := b.bseq + 1, placed := f.placed + rs.length }
      let t := { s with recFifo := s.recFifo ++ rs }.onLed (fun l =>
        ({ l with fetches := l.fetches.drop 1 ++ [g] } : Ledger).fetchFrom (b.laddr / 1048576) (b.laddr / 4096 % 256) b.nblk)
      exec (.ledgerFetchBatch n .ok) s = .next (if l = [] then t.endFetch g .ok else t))) ∧
  (∀ s : Machine.State, s.led.running = true →
    (s.led.st = .unlabelled → exec .ledgerInitInit s = .next s.initLedger) ∧
    (s.led.st ≠ .unlabelled → exec .ledgerInitInit s = .next s) ∧
    ((s.led.st = .foreign ∨ s.led.st = .incomplete) →
      exec .ledgerInitErase s = .next (s.onLed (fun l => (List.range 4).foldl (fun (l : Ledger) d =>
        if (l.drive d).alive then l.sendTo d (.writeZeroes 0 2) else l) l)).initLedger)) ∧
  (∀ s : Machine.State, s.mode.mode = .lehr → s.board.pwr.lehrRest = false → s.execMask = 0 →
    let t := if s.writeResume.led.running then s.writeResume.sealAll 4 else s.writeResume
    exec .lehrRampDone s = .next (t.onPwr (fun p => { p with lehrRest := true, lehrSealT := t.now }))) ∧
  (∀ (s : Machine.State) (fl : Bool), s.mode.mode = .lehr → s.board.pwr.lehrRest = true →
    (fl = true ∨ s.board.pwr.lehrSealT + 1000000000 ≤ s.now) →
    let a := (if fl then s.durable else s).onLed (fun l =>
      { (if l.isMounted then (l.writeShut (if fl then 1 else 3) s.ptp).endQueues else l) with perst := true })
    exec (.lehrDone fl) s = .next ((a.snapshot 4).toKeep (if s.board.pwr.ship then .ship else .keep) 0x14 0x0A true))

/-- R619 to R637, Tables 17-4 and 17-5: GO and ABORT, the start and end of the waiting transfer of highest precedence, lost arbitration, timeouts and
stuck buses, writes to the target, alerts and identity reads.

R625 to R632: a write to OWNADDR fills the empty mailbox and sets RXNEW, a full one sets the overrun; an alert is read when the bus is free;
each distinct identity of a port becomes due once; and an identity read writes the fixture identity of its channels. -/
def Obligations.TrayBusAndTargets : Prop :=
  ((∀ (s : Machine.State) (p : Fin 4), ((s.fld (trA p 8) 0 2 = 1 ∨ s.fld (trA p 8) 0 2 = 2) → exec (.go p) s = .next (s.setBit (trA p 0x84) 3)) ∧
    ((s.fld (trA p 8) 0 2 = 0 ∨ s.fld (trA p 8) 0 2 = 3) →
      exec (.go p) s = .next ((s.setReg (trA p 8) 1).onPort p (fun t => { t with xferReq := true, abort := false })))) ∧
  (∀ (s : Machine.State) (p : Fin 4), ((s.port p).active = some .xfer → exec (.abort p) s = .next (s.onPort p (fun t => { t with abort := true }))) ∧
    ((s.port p).active = none → (s.port p).xferReq = true → exec (.abort p) s = .next (s.xferEnd p 7 []))) ∧
  (∀ (u : Machine.State) (p : Fin 4),
    let s := u.takeCfg p
    u.busFree p = true → s.portOn p = true → s.busLock p = false →
    ((s.port p).alertReq = true → exec (.trayTransferStart p) u = .next ((s.onPort p (fun t => { t with alertReq := false })).onPort p
      (fun t => { t with active := some .alert }))) ∧
    ((s.port p).alertReq = false → (s.port p).xferReq = true →
      exec (.trayTransferStart p) u = .next (((s.onPort p (fun t => { t with xferReq := false })).onPort p
        (fun t => { t with active := some .xfer })).setFld (trA p 8) 0 2 2)) ∧
    (∀ a o l, (s.port p).alertReq = false → (s.port p).xferReq = false → (s.port p).polls = (a, o) :: l →
      exec (.trayTransferStart p) u = .next ((s.onPort p (fun t => { t with polls := l })).onPort p (fun t => { t with active := some (.poll a o) })))) ∧
  (∀ (s : Machine.State) (p : Fin 4) (j : TrayJob), (s.port p).active = some j →
    (∀ r d, exec (.trayTransferEnd p r d) s = .next (s.jobEnd p j r.val d)) ∧
    exec (.trayTimeout p) s = .next (((s.jobEnd p j 4 []).setBit (trA p 0x84) 0).fault 0x04 0x01)) ∧
  (∀ (s : Machine.State) (p : Fin 4) (a : BitVec 7) (l : List Byte), (s.port p).active = some .xfer → (s.port p).losses < 3 →
    let n := (s.port p).losses + 1
    let t := ((((s.bump (trA p 0x84) 16 16).setFld (trA p 8) 16 3 n).mailbox p a.toNat l true).stopSeen p).onPort p (fun t => { t with active := none, losses := n })
    exec (.arbLost p a l) s = .next ((t.setFld (trA p 8) 0 2 1).onPort p (fun t => { t with xferReq := true }))) ∧
  (∀ (s : Machine.State) (p : Fin 4), s.portOn p = true → (s.port p).active = none → s.busLock p = false →
    exec (.trayStuck p true) s = .next (s.stopSeen p) ∧
    exec (.trayStuck p false) s = .next (((s.setBit (trA p 0x84) 1).onPort p (fun t => { t with lockT := s.now })).fault 0x04 0x02)) ∧
  (∀ (s : Machine.State) (p : Fin 4), s.busLock p = true → (s.port p).lockT + 1000000000 ≤ s.now →
    exec (.buslockRetry p true) s = .next ((s.setFld (trA p 0x84) 1 1 0).stopSeen p) ∧
    exec (.buslockRetry p false) s = .next (s.onPort p (fun t => { t with lockT := s.now })))) ∧
  ((∀ (u : Machine.State) (p : Fin 4) (l : List Byte),
    let s := u.atFree p
    s.portOn p = true → (s.port p).active = none → s.bit (trA p 0) 11 = true → l ≠ [] → s.fld (trA p 0) 4 7 < 128 →
    let a := BitVec.ofNat 7 (s.fld (trA p 0) 4 7)
    (s.bit (trA p 0x40) 6 = true → exec (.targetWrite p a l) u = .next ((s.setBit (trA p 0x40) 8).stopSeen p)) ∧
    (s.bit (trA p 0x40) 6 = false →
      exec (.targetWrite p a l) u =
        .next ((((s.putWords (trA p 0x60) (l.take 32)).setFld (trA p 0x40) 0 6 (Nat.min 32 l.length)).setBit (trA p 0x40) 6).stopSeen p))) ∧
  (∀ (s : Machine.State) (p : Fin 4), exec (.rxnewClear p) s = .next (s.setFld (trA p 0x40) 6 1 0)) ∧
  (∀ (u : Machine.State) (p : Fin 4) (a : Option (BitVec 7)),
    let s := u.atFree p
    s.portOn p = true → exec (.alert p a) u = .next (s.alertSeen p (a.map BitVec.toNat)) ∧
    ∀ e, (s.port p).alertT = some e → e + (if (s.port p).round then 100000 else 1000000000) ≤ s.now →
      exec (.alertReread p a) u = .next (s.alertSeen p (a.map BitVec.toNat))) ∧
  (∀ (u : Machine.State) (p : Fin 4),
    let s := u.atFree p
    s.portOn p = true → s.fld (trA p 0) 16 8 ≠ 0 → (s.port p).pollT + 100000000 * s.fld (trA p 0) 16 8 ≤ s.now →
    ∃ t, exec (.idpoll p) u = .next t ∧ t = s.onPort p (fun x => { x with polls := (t.port p).polls, pollT := s.now }) ∧ (s.port p).polls <+: (t.port p).polls ∧
      ∀ c : ChanNo, s.bit (0x080400 + 4 * c.val) 2 = true → s.fld (0x080400 + 4 * c.val) 0 2 = p.val →
        (s.fld (0x080400 + 4 * c.val) 3 7, s.fld (0x080400 + 4 * c.val) 16 8) ∈ (t.port p).polls) ∧
  (∀ (s : Machine.State) (p : Fin 4) (a o : Nat) (v : Option (BitVec 64)), (s.port p).active = some (.poll a o) →
    exec (.identityReadDone p a o v) s = .next (((s.onPort p (fun t => { t with active := none, losses := 0 })).stopSeen p).identityEnd p a o (v.map BitVec.toNat))))

/-- R44, R68, R69, R85, R520, R523, R526, R527, R535, R544 to R547, R550: the interlock balls, contention, heartbeats and their absence, lanes,
arbitration rounds and the loss of the partner. -/
def Obligations.InterlockAndArbitration : Prop :=
  (∀ s : Machine.State,
    let t := (s.onBoard (fun b => { b with pipeIn := true, barred := true, pair := { b.pair with pipeFallT := none } })).settle
    exec .pipeInRise s = .next (if t.mode.mode = .boot ∧ t.pr.arb ≠ .none then (t.onPair (fun p => { p with arb := .none, roll := true })).bootTwin else t)) ∧
  (∀ s : Machine.State,
    let t := (s.onBoard (fun b => { b with fenceIn := true, barred := true })).settle
    exec .fenceInRise s = .next (if s.board.owner = true ∧ t.optT = true then (t.fault 0x0A 0x09).pairEvt 6 else t)) ∧
  (∀ s : Machine.State, s.board.pipeIn = true → exec .pipeInFall s =
    .next (s.fatalFirst.onBoard (fun b => { b with pipeIn := false, pair := { b.pair with pipeFallT := some s.now } })).tryWin.tryTakeover) ∧
  (∀ s : Machine.State, s.board.fenceIn = true →
    exec .fenceInFall s = .next (s.fatalFirst.onBoard (fun b => { b with fenceIn := false })).tryWin.tryTakeover) ∧
  (∀ (s : Machine.State) (t : Nat), s.pr.pipeFallT = some t → s.mode.mode = .twin → s.board.pipeIn = false → s.pr.hbMissed = false →
    (∀ d, (s.passTo (t + 10000)).pr.ho ≠ .due d) → exec .pipeSense s = .next ((s.passTo (t + 10000)).fault 0x0A 0x08)) ∧
  (∀ s : Machine.State, s.optT = true → (s.board.pipeOut && s.board.pipeIn || s.board.fenceOut && s.board.fenceIn) = true → s.pr.deadlock = false →
    s.pr.contend = false →
    let t := s.onBoard (fun b => { b with
      owner := false, pair := { b.pair with contend := true, wasOwner := s.board.owner, won := false, rounds := 0, arb := .idle, ho := .none } })
    exec .contention s = .next ((t.setBit 0x330028 3).fault 0x0A 0x0A).settle) ∧
  (∀ s : Machine.State, s.optT = true → s.pllOn = true → s.mode.mode ≠ .lockout →
    let a := match s.pr.hbSentT with | some t => s.passTo (t + 8000) | none => s
    let t := a.onPair (fun p => { p with hbSeq := (s.pr.hbSeq + 1) % 2 ^ 32, hbSentT := some a.now })
    exec .heartbeatSend s = .next ((maskList 2 t.pr.lanes).foldl (fun u _ => u.sendZl (.heartbeat s.pr.hbSeq s.role s.pr.sync s.pr.mseq)) t)) ∧
  (∀ (s : Machine.State) (f : FrameHead) (k : Fin 2) (n r y m : Nat), s.optT = true → s.pllOn = true → (s.takeFrame f).1 = false →
    exec (.heartbeat f k n r y m) s = .next ((s.takeFrame f).2.onPair (fun p => if k.val = 0 then { p with run0 := 0 } else { p with run1 := 0 }))) ∧
  (∀ (s : Machine.State) (f : FrameHead) (k : Fin 2) (n r y m : Nat), s.optT = true → s.pllOn = true → (s.takeFrame f).1 = true →
    ∃ t, exec (.heartbeat f k n r y m) s = .next t ∧ t.mode = s.mode ∧ t.queues = s.queues ∧ t.leases = s.leases ∧ t.cru = s.cru) ∧
  (∀ (s : Machine.State) (t : Nat), s.noFatal = true → s.pr.hbLast = some t → s.pr.hbMissed = false →
    let u := (s.passTo (t + 24000)).bump 0x330018 0 16
    exec .heartbeatMiss s = .next (u.onPair (fun p => { p with hbMissed := true, reacqT := if p.known then some u.now else none })).tryTakeover) ∧
  (∀ (s : Machine.State) (k : Fin 2), s.pr.lanes.testBit k.val = true →
    let t := s.onPair (fun p => { p with
      lanes := setBits p.lanes k.val 1 0, run0 := if k.val = 0 then 0 else p.run0, run1 := if k.val = 1 then 0 else p.run1 })
    exec (.laneDown k) s = .next (if t.board.linkUp then t.fault 0x0A 0x05
      else
        let u := (t.fault 0x0A 0x04).pairEvt 7
        if u.board.owner then u.onPair (fun p => { p with sync := 0, resyncT := none }) else u.outOfSync)) ∧
  (∀ s : Machine.State, s.pr.noForm = false → s.pr.arb = .idle → exec .arbitrationStart s = .next (s.onPair (fun p => { p with arb := .round, roll := false }))) ∧
  (∀ (s : Machine.State) (l : List Bool), s.pr.noForm = false → s.pr.arb = .round → s.pr.contend = false → s.mode.mode = .boot →
    let t := s.onPair (fun p => { p with arb := .none, roll := true })
    exec (.arbitrationEnd l) s = .next (if arbWon s.arbBits l then t.bootOwner else t.onPair (fun p => { p with arb := .lost t.now }))) ∧
  (∀ s : Machine.State, s.pr.arb ≠ .none → exec .arbitrationRoundVoid s = .next (s.onPair (fun p => { p with arb := .idle, roll := true }))) ∧
  (∀ (s : Machine.State) (t : Nat), s.pr.reacqT = some t →
    let u := (s.passTo (t + s.fld 0x330000 8 8 * 100000000)).onPair (fun p => { p with reacqT := none, lostSeen := true })
    exec .reacqExpiry s = .next ((u.pairEvt 3).fault 0x0A 0x0C))

/-- R521, R524, R528 to R534, R551, Table 14-2: IDENT forms the pair or refuses it; the owner mirrors its state, which the other part applies in
order; resyncs, record copies, epoch marks and acknowledgements. -/
def Obligations.MirrorAndEpoch : Prop :=
  (∀ (s : Machine.State) (f : FrameHead) (i : Ident), s.optT = true → s.pllOn = true → s.board.linkUp = true →
    (f.crcOk = false → exec (.ident f i) s = .next ((s.setBit 0x330028 0).bump 0x330028 16 16)) ∧
    (f.crcOk = true → s.pr.noForm = true → exec (.ident f i) s = .next s) ∧
    (f.crcOk = true → s.pr.noForm = false → i.opt ≠ s.opt → exec (.ident f i) s = .next (s.noPair 0x01)) ∧
    (f.crcOk = true → s.pr.noForm = false → i.opt = s.opt → i.certOk = false → exec (.ident f i) s = .next (s.noPair 0x02)) ∧
    (f.crcOk = true → s.pr.noForm = false → i.opt = s.opt → i.certOk = true → i.mver = 3 → s.pr.pInc = some i.inc → s.pr.lostSeen = false →
      ∃ t, exec (.ident f i) s = .next t ∧ t.board.formed = true ∧ t.pr.known = true ∧ t.pr.pSerial = i.serial ∧ t.pr.unmirrored = false ∧
        t.pr.epoch = s.pr.epoch)) ∧
  (∀ s : Machine.State, s.board.owner = true → s.board.formed = true → s.board.linkUp = true → s.pr.unmirrored = false → s.pr.sync ≠ 0 →
    let new := s.mirrorItems.filter (fun i => !s.pr.lastItems.contains i) ++ s.mirrorBack
    exec .mirrorSend s = .next (if new.isEmpty then s
      else (s.sendZl (.mirror new)).onPair (fun p => { p with lastItems := s.mirrorItems, mseq := p.mseq + 1 }))) ∧
  (∀ (s : Machine.State) (f : FrameHead) (lag : Nat) (l : List MirrorItem), s.follows = true → (s.takeFrame f).1 = true →
    ((s.takeFrame f).2.inOrder 3 f.fseq).1 = true → ((s.takeFrame f).2.inOrder 3 f.fseq).2.pr.sync ≠ 0 →
    let t := ((s.takeFrame f).2.inOrder 3 f.fseq).2.applyItems l
    let n := Nat.min lag 0xFFFF
    exec (.mirror f lag l) s = .next ((t.setFld 0x330014 0 16 n).setFld 0x330014 16 16 (Nat.max n (t.fld 0x330014 16 16)))) ∧
  (∀ (s : Machine.State) (f : FrameHead) (lag : Nat) (l : List MirrorItem), s.follows = true → (s.takeFrame f).1 = false →
    exec (.mirror f lag l) s = .next (s.takeFrame f).2.outOfSync) ∧
  (∀ (s : Machine.State) (f : FrameHead) (l : List MirrorItem), s.follows = true → (s.takeFrame f).1 = true →
    let t := ((s.takeFrame f).2.inOrder 4 f.fseq).2
    exec (.snapshot f l) s = .next ((if t.pr.sync = 1 then t else
      (t.onPair (fun p => { p with sync := 1, resyncT := some t.now, fseqIn := p.fseqIn.filter (fun x => x.1 != 3) })).bump 0x330018 16 16).applyItems l)) ∧
  (∀ s : Machine.State, s.pr.sync = 1 → exec .resyncDone s = .next (s.onPair (fun p => { p with sync := 2, resyncT := none }))) ∧
  (∀ (s : Machine.State) (t : Nat), s.pr.resyncT = some t →
    let u := (s.passTo (t + 10000000000)).fault 0x0A 0x0D
    exec .resyncFail s = .next (if u.board.owner then u.startResync
      else (u.onPair (fun p => { p with resyncT := some u.now })).bump 0x330018 16 16)) ∧
  (∀ (s : Machine.State) (f : FrameHead) (e : Entry) (l : List Entry), s.follows = true → (s.takeFrame f).1 = true →
    let t := ((s.takeFrame f).2.inOrder 6 f.fseq).2
    exec (.reccopy f (e :: l)) s = .next (if t.pr.sync = 2 then t.stage e.tag.tenant (e :: l) (e.tag.kind == 0x60) else t)) ∧
  (∀ s : Machine.State, s.board.owner = true → s.board.formed = true → s.board.linkUp = true →
    let t := match s.pr.markSentT with | some t => s.passTo (t + 1000000) | none => s
    exec .epochmarkSend s = .next ((t.sendZl (.epochMark (t.gat 0).cycle t.ptp)).onPair (fun p => { p with markSentT := some t.now }))) ∧
  (∀ (s : Machine.State) (f : FrameHead) (n : Nat), s.board.owner = false → s.board.formed = true → (s.takeFrame f).1 = true →
    ∃ t, exec (.epochmark f n true) s = .next t ∧ (t.gat 0).cycle = n % 2 ^ 32 ∧ t.pr.epochLock = true ∧ t.pr.markT = some t.now) ∧
  (∀ (s : Machine.State) (t : Nat), s.pr.markT = some t → s.pr.epochLock = true →
    exec .epochUnlock s = .next (((s.passTo (t + 10000000)).onPair (fun p => { p with epochLock := false, markT := none })).fault 0x0A 0x07)) ∧
  (∀ (s : Machine.State) (f : FrameHead) (a b : Nat), s.optT = true → (s.takeFrame f).1 = true →
    exec (.ack f a b) s = .next (((s.takeFrame f).2.inOrder 9 f.fseq).2.onPair
      (fun p => { p with acked := (a, b) :: p.acked.filter (fun x => x.1 != a) })))

/-- R541 to R543, R547, R548, Tables 14-6 and 14-8: each step of a planned handover on either part, its timeouts, and the roll call of a pair in KEEP. -/
def Obligations.HandoverAndRollCall : Prop :=
  (∀ (s : Machine.State) (f : FrameHead) (u : Machine.State), s.takeFrame f = (true, u) →
    let t := (u.inOrder 8 f.fseq).2
    exec (.handoverPrep f) s = .next (if t.follows && t.pr.sync == 2 && t.pr.epochLock then (t.sendZl .hoReady).onPair (fun p => { p with ho := .answered }) else t) ∧
    (∀ h till sAt, t.pr.ho = .prep h till → t.ptp ≤ till →
      let at_ := t.periodStart (Nat.max sAt (t.ptp + 200000))
      exec (.handoverReady f sAt) s = .next ((t.sendZl (.hoTime at_)).onPair (fun p => { p with ho := .timed h at_ })) ∧
        t.ptp + 200000 ≤ at_ ∧ sAt ≤ at_) ∧
    (∀ sAt, t.pr.ho = .answered → exec (.handoverTime f sAt) s = .next (t.onPair (fun p => { p with ho := .due sAt }))) ∧
    (∀ sAt l, t.pr.ho = .due sAt → t.follows = true → exec (.handoverState f l) s = .next (t.applyItems l)) ∧
    (∀ h sAt, s.noFatal = true → t.pr.ho = .given h sAt →
      let a := (t.cancelDeferred.onBoard (fun b => { b with owner := false, pipeOut := false, pair := { b.pair with rcPrimary := false } })).tkStamp
      let b := (if modeGives a.mode.mode then a.enterMode .twin 0x0F 0 else a).settle
      exec (.handoverAck f) s = .next ((((b.pairEvt 1).corrFrom b.evtFifo.length h.corr).endHandover h .ok sAt).dropServed))) ∧
  (∀ (s : Machine.State) (h : CmdHead) (sAt : Nat), s.pr.ho = .timed h sAt →
    let t := s.tickTo (sAt - 1000)
    let items := t.mirrorItems
    exec .handoverPipeRelease s = .next ((t.sendZl (.hoState items)).onBoard (fun b => { b with
      pipeOut := false, pair := { b.pair with ho := .given h sAt, lastItems := items } })) ∧
    exec .handoverTimeout s = .next ((s.tickTo (sAt + 10000)).endHandover h .timeout 0)) ∧
  (∀ (s : Machine.State) (sAt : Nat), s.noFatal = true → s.pr.ho = .due sAt → s.follows = true →
    let a := ((s.tickTo sAt).onBoard (fun b => { b with
      owner := true, barred := false, pipeOut := true, pair := { b.pair with ho := .none, rcPrimary := true } })).tkStamp
    let m := a.enterMode a.workMode 0x10 0
    let d := m.forChans allChans (fun c u =>
      if (u.chan c).loop.st = .released ∧ (u.chan c).loop.before ≠ .released ∧ u.mayDrive c = true then
        (u.onLoop c (fun l => { l with before := .stopped })).setSt c (u.chan c).loop.before .none 0
      else u)
    exec .handoverPipeTake s = .next ((((d.settle.adopt false).freshStorms.pairEvt 2).programEvts 3).sendZl .hoAck)) ∧
  (∀ (s : Machine.State) (h : CmdHead) (d : Nat), s.pr.ho = .prep h d → exec .handoverTimeout s = .next ((s.tickTo d).endHandover h .timeout 0)) ∧
  (∀ (s : Machine.State) (h : CmdHead) (d : Nat), s.pr.ho = .given h d → s.board.pipeIn = false →
    exec .handoverTimeout s = .next (((s.tickTo (d + 10000)).onBoard (fun b => { b with pipeOut := true })).endHandover h .timeout 0)) ∧
  (∀ s : Machine.State, s.rollOn = true →
    (s.pr.rcPrimary = true → s.pr.rcPulse = 0 → exec .rollCallPulse s = .next (s.onPair (fun p => { p with rcPulse := s.now }))) ∧
    exec .rollPulseDetect s = .next (s.onPair (fun p => { p with
      rcMisses := 0, rcSearch := false, rcAbsent := false, rcSkips := 0
      rcCalls := if p.rcPrimary then satAdd 0xFFFF p.rcCalls 1 else p.rcCalls, rcPulse := if p.rcPrimary then p.rcPulse else s.now })) ∧
    (s.pr.rcPrimary = false →
      exec .rollCallReply s = .next ((s.passTo (s.pr.rcPulse + 320 * 1000000000 / 32768)).onPair (fun p => { p with rcCalls := satAdd 0xFFFF p.rcCalls 1 }))) ∧
    (s.pr.rcAbsent = false → exec .rollCallMiss s = .next (s.onPair (fun p => { p with
      rcMisses := Nat.min 3 (p.rcMisses + 1), rcSearch := p.rcSearch || decide (2 ≤ p.rcMisses) }))) ∧
    (s.pr.rcSearch = true → exec .rollCallSearchEnd s = .next (s.onPair (fun p => { p with rcSearch := false, rcAbsent := true, rcSkips := 0 }))))

/-- The block runs the command at the front of its queue with the queue's rest (the model's form, log entry 1); on an empty queue only its two clocks
advance, by 1 ns (DESIGN CHOICE, log entry 1). -/
def Obligations.StepRunsTheFrontCommand : Prop :=
  (∀ (c : Instr) (s : Machine.State) (l : List Instr), s.pending = c :: l → step s = exec c { s with pending := l }) ∧
  (∀ (s : Machine.State), s.pending = [] → step s = .next { s with now := s.now + 1, ptp := s.ptp + 1 })

/-- R638 and the model's choice of reset values (DESIGN CHOICE and DEDUCED, log entry 3): right after reset no command waits, both memories list nothing and are canonical,
the part is in BOOT with no image accepted, no session, lease, queued record or event, every channel is released with CON open and holds no program. -/
def Obligations.ResetState : Prop :=
  let s := Machine.State.reset
  s.memWf = true ∧ s.pending = [] ∧ s.regs = [] ∧ s.cru = [] ∧ s.mode.mode = .boot ∧ s.fw = none ∧ s.sessions = [] ∧ s.leases = [] ∧
  s.recFifo = [] ∧ s.evtFifo = [] ∧ s.inflight = [] ∧ s.waiting = [] ∧
  (∀ c : ChanNo, (s.chan c).loop.st = .released ∧ (s.chan c).loop.con = false ∧ (s.chan c).prog.live = []) ∧
  (∀ k : Fin 32, s.dma[k].state = .idle)

/-- R27: every command and every event answers a next state, but for a register write inside the part to an address outside the fabric map. -/
def Obligations.OnlyOutsideFabricStops : Prop :=
  ∀ (c : Instr) (s : Machine.State), (∃ t, exec c s = .next t) ∨
    (exec c s = .fault .outsideFabric ∧ ∃ a v, c = .registerWrite a v ∧ inFabric a = false)

/-- R4: an absent option is never enabled later. From every state, each command and event leaves the fuses, the serial number and the queue of
commands as they are, and keeps the canonical form of the Crucible bytes and of the register memory. -/
def Obligations.EveryCommandKeepsFusesAndForm : Prop :=
  ∀ (c : Instr) (s t : Machine.State), exec c s = .next t → Keeps s t

/-- The canonical form of both memories and the fuses are invariants of a step, the idle step included; a step takes one command off the queue. -/
def Obligations.StepKeepsCanonicalMemories : Prop :=
  ∀ (s t : Machine.State), s.memWf = true → step s = .next t →
    t.memWf = true ∧ t.opt = s.opt ∧ t.serial = s.serial ∧ t.pending = s.pending.tail

/-- R20, R27: a stored register reads back the low 32 bits written and no other register changes; a byte stored in the Crucible reads back and no
other byte changes; and two canonical memories that read alike are equal. -/
def Obligations.MemoriesReadBack : Prop :=
  (∀ (s : Machine.State) (a w : Nat), regsWf s.regs = true → (s.setReg a w).reg a = w % 2 ^ 32) ∧
  (∀ (s : Machine.State) (a w b : Nat), regsWf s.regs = true → b ≠ a → (s.setReg a w).reg b = s.reg b) ∧
  (∀ (l : List Host.Cell) (a : Nat) (v : Byte), cruWf l = true → cruGet (cruPut a v l) a = v) ∧
  (∀ (l : List Host.Cell) (a b : Nat) (v : Byte), cruWf l = true → b ≠ a → cruGet (cruPut a v l) b = cruGet l b) ∧
  (∀ l m : List Host.Cell, cruWf l = true → cruWf m = true → (∀ a, cruGet l a = cruGet m a) → l = m) ∧
  (∀ s t : Machine.State, regsWf s.regs = true → regsWf t.regs = true → (∀ a, s.reg a = t.reg a) → s.regs = t.regs)

/-- R467: a command that one of the checks 1 to 6 refuses completes with that check's status and INDEX and has no effect of its own: the state it
leaves is the counted one with its completion waiting; a refusal never carries OK. -/
def Obligations.RefusedCommandsChangeNothing : Prop :=
  (∀ (c : Instr) (s : Machine.State) (h : CmdHead) (o : CmdOp) (st : Status) (i : Nat), commandOf c = some (h, o) → s.refuses h o st i = true →
    exec c s = .next ((s.taken h).complete (s.headOf h) o { status := st, index := i })) ∧
  (∀ (s : Machine.State) (h : CmdHead) (o : CmdOp) (st : Status) (i : Nat), s.refusalOf h o = some (st, i) → st.done = false)

/-- R7: a command that belongs to an absent option completes with NOT_PERMITTED and changes nothing; the ledger family needs L, the pair family T,
METER_READ, METER_CLOSE and METER_SCHED need M. -/
def Obligations.AbsentOptionRefuses : Prop :=
  (∀ (c : Instr) (s : Machine.State) (h : CmdHead) (o : CmdOp), commandOf c = some (h, o) → s.takesNow = true →
    (s.counted h).blocked (s.headOf h) o = false → s.optAbsent o = true →
    ∃ i, exec c s = .next ((s.taken h).complete (s.headOf h) o { status := .notPermitted, index := i })) ∧
  (∀ (s : Machine.State) (o : CmdOp), s.optAbsent o = true ↔
    (o.fam = .ledger ∧ s.optL = false) ∨ (o.fam = .pair ∧ s.optT = false) ∨
    (o.fam = .meter ∧ (o.opcode = 0x28 ∨ o.opcode = 0x29 ∨ o.opcode = 0x2B) ∧ s.optM = false))

/-- R46, R450, R467: a client's command that only a lessee may send, on a channel that the client does not lease, is refused and has no effect. -/
def Obligations.ClientsReachOnlyTheirChannels : Prop :=
  ∀ (c : Instr) (s : Machine.State) (h : CmdHead) (o : CmdOp), commandOf c = some (h, o) → o.lesseeOnly = true → packCmd h o = false →
    h.tenant ≠ 0 → (64 ≤ h.channel ∨ s.lessee h.channel ≠ some h.tenant) → s.takesNow = true →
    (s.counted h).blocked (s.headOf h) o = false →
    ∃ st i, st.done = false ∧ exec c s = .next ((s.taken h).complete (s.headOf h) o { status := st, index := i })

/-- R465: a command that its table marks Read changes no state of the part: an accepted one leaves the counted state with its completion waiting. A
read of a register (REG) is left out, since some registers change when they are read (the model's reading of R27 and R465, log entry 41). -/
def Obligations.ReadsChangeNothing : Prop :=
  ∀ (c : Instr) (s : Machine.State) (h : CmdHead) (o : CmdOp), commandOf c = some (h, o) → o.isRead = true →
    (∀ a n, o ≠ .regRead a n) → s.accepts h o = true → ∃ a : Ans, exec c s = .next ((s.taken h).complete (s.headOf h) o a)

/-- R291: after a successful COMMIT the shadow image equals the live image; PROG_WRITE and PROG_LEN write whole steps and the length into the shadow;
PROG_DISCARD makes the shadow equal to the live image again; and none of the editing commands touches what executes. -/
def Obligations.ShadowAndLiveImage : Prop :=
  (∀ (s : Machine.State) (c : ChanNo) (m : Image) (h : CmdHead), (s.chan c).prog.commit = some m → (s.chan c).prog.commitBy = some h →
    (s.chan c).prog.swapBusy m = false → s.stewardOn = true → s.gatOff (gOf c) = false → s.waiting = [] →
    ∃ t, exec (.commitSwap c) s = .next t ∧ (t.chan c).prog.live = m ∧ (t.chan c).prog.shadowImage = m) ∧
  (∀ (s : Machine.State) (h : CmdHead) (c : ChanNo), chan? h.channel = some c → s.accepts h .progDiscard = true →
    ∃ t, exec (.progDiscard h) s = .next t ∧ (t.chan c).prog.shadowImage = (s.chan c).prog.live) ∧
  (∀ (s : Machine.State) (h : CmdHead) (c : ChanNo) (l : List (Nat × StepWord)), chan? h.channel = some c → s.accepts h (.progWrite l) = true →
    ∃ t, exec (.progWrite h l) s = .next t ∧ ((l.map Prod.fst).Nodup → ∀ x ∈ l, (t.chan c).prog.shadow[x.1]? = some x.2)) ∧
  (∀ (s : Machine.State) (h : CmdHead) (c : ChanNo) (n : Nat), chan? h.channel = some c → s.accepts h (.progLen n) = true →
    ∃ t, exec (.progLen h n) s = .next t ∧ (t.chan c).prog.shadowImage.length = n) ∧
  (∀ (i : Instr) (s t : Machine.State) (h : CmdHead), (i = .progDiscard h ∨ (∃ n, i = .progLen h n) ∨ ∃ l, i = .progWrite h l) →
    s.takesNow = true → exec i s = .next t → ∀ c : ChanNo,
      (t.chan c).prog.live = (s.chan c).prog.live ∧ (t.chan c).prog.pc = (s.chan c).prog.pc ∧ (t.chan c).prog.inStep = (s.chan c).prog.inStep ∧
      (t.chan c).prog.vars = (s.chan c).prog.vars ∧ (t.chan c).loop = (s.chan c).loop)

/-- R265, R270, R277 to R280, R287, R292: an image that COMMIT accepts never leads outside itself: no NEXT action, false branch, LOOP exit or
other control step but GOTO and END stands on its last step, and every TARGET that a step uses lies in the image. -/
def Obligations.AcceptedImagesStayInside : Prop :=
  ∀ (m : Image) (z : Bool) (gpio : Nat) (l : Limits), m.check z gpio l = none → ∀ i, i < m.length →
    let w := m.at_ i
    (isWork (stepKind w) = true → (endsItself (stepKind w) = true ∨ ∃ k, k < 4 ∧ slotCond w k ≠ 0 ∧ slotCond w k ≠ 13 ∧ slotAct w k = 0) →
      i + 1 < m.length) ∧
    (isWork (stepKind w) = true → ∀ k, k < 4 → slotCond w k ≠ 0 → slotCond w k ≠ 13 → slotAct w k = 1 → slotTarget w k < m.length) ∧
    (isWork (stepKind w) = false → stepKind w ≠ 0x12 → stepKind w ≠ 0x1F → i + 1 < m.length) ∧
    ((stepKind w = 0x11 ∨ stepKind w = 0x12 ∨ stepKind w = 0x13) → ctlTarget w < m.length) ∧
    (stepKind w = 0x13 → ctlTarget w ≤ i)

/-- R306: the points of a sweep begin at FSTART, end at FSTOP and lie between them, without a gap; with FSTART equal to FSTOP there is one. -/
def Obligations.SweepPointsRunFromStartToStop : Prop :=
  ∀ w : StepWord,
    let fs := bitsOf (slotVal w 2) 0 16
    let fe := bitsOf (slotVal w 2) 16 16
    ∃ n, 1 ≤ n ∧ (∀ i, (eisCode w i).isSome = decide (i < n)) ∧ eisCode w 0 = some fs ∧ eisCode w (n - 1) = some fe ∧
      (∀ i c, eisCode w i = some c → Nat.min fs fe ≤ c ∧ c ≤ Nat.max fs fe) ∧ (fs = fe → n = 1) ∧
      (∀ i c d, eisCode w i = some c → eisCode w (i + 1) = some d → (fs < fe → c < d) ∧ (fe < fs → d < c))

/-- R385, R387: with OWN taken as 0 the sixteen bytes of a tag sum to 0xA5 modulo 256, so that a change of OWN changes no other byte; FIRST stands
exactly on TIDX 0 and LAST exactly on TIDX TCNT − 1, both on a single entry. -/
def Obligations.TagSumAndTrainEnds : Prop :=
  (∀ t : Tag, byteSum (tagBytes t false) = 0xA5) ∧
  (∀ (t : Tag) (i : Nat), i ≠ 1 → (tagBytes t true)[i]? = (tagBytes t false)[i]?) ∧
  (∀ t : Tag, numAt (tagBytes t true) 1 1 = numAt (tagBytes t false) 1 1 + 1) ∧
  (∀ (t : Tag) (own : Bool), (numAt (tagBytes t own) 1 1).testBit 1 = decide (t.tidx = 0) ∧
    (numAt (tagBytes t own) 1 1).testBit 2 = decide (t.tidx + 1 = t.tcnt)) ∧
  (∀ (t : Tag) (own : Bool), t.tidx = 0 → t.tcnt = 1 → (numAt (tagBytes t own) 1 1).testBit 1 = true ∧ (numAt (tagBytes t own) 1 1).testBit 2 = true)

/-- Table 10-4, R384 to R389: an entry written into its 64 bytes reads back as itself, with every field of the tag at every value that it admits, and its
bytes pass the checks of Table 10-7; the part ignores STALE and TWIN when it reads. -/
def Obligations.EntryReadsBackFromItsBytes : Prop :=
  ∀ e : Entry, e.tag.kind < 256 → e.tag.tidx < 256 → e.tag.tcnt < 256 → e.tag.tenant < 256 → e.tag.channel < 256 → e.tag.seq < 65536 →
    e.tag.corr < 2 ^ 32 → e.tag.stepref < 65536 → e.tag.calgen < 256 → e.payload.length = 48 →
    parseEntry (entryBytes e) = { e with tag := { e.tag with stale := false, twin := false } } ∧ (entryBytes e).length = 64 ∧
      rawChk (entryBytes e) = true ∧ rawOwn (entryBytes e) = true ∧ rawEnds (entryBytes e) = true

/-- R378, R393, R406: a command train that finds fewer free slots than TCNT is refused whole with QUOTA: its SEQ values are consumed, no entry of it is
placed, and its completion stands in the paired ring. -/
def Obligations.FullQueueRefusesTheTrainWhole : Prop :=
  ∀ (s : Machine.State) (d : Datagram) (b : RawEntry) (l : List RawEntry) (x : Session) (q r : Queue), s.portUp d.port = true → s.mode.mode ≠ .boot →
    s.authentic d = some x → d.cvalid = false → (b :: l).length ≤ 15 → (s.accepted d).cmdQueueOf x d.queue = some q →
    (parseEntry b).tag.seq = q.cack → (parseEntry b).tag.tcnt = (b :: l).length → trainCheck (b :: l) x.tenant = .ok → q.free < (b :: l).length →
    q.pair.bind (s.accepted d).queue? = some r → r.num ≠ d.queue → 1 ≤ r.free →
    let t := (s.accepted d).bump 0x32000C 0 32
    let n := (b :: l).length
    exec (.tenantDatagram d (b :: l)) s = .next ((t.onQueue r.num (fun c => c.put [t.refusal (parseEntry b) .quota])).onQueue d.queue
      (fun y => { y with cack := (y.cack + n) % 65536, nseq := (y.nseq + n) % 65536, creditDue := true }))

/-- R455: a token bucket never holds more than its cap, the larger of one second of its rate and 16 tokens; it never loses tokens with time, fills to the
cap, and an event takes exactly one token from the bucket of its class. -/
def Obligations.TokenBucketsAreBounded : Prop :=
  (∀ (b : Bucket) (cls ev now : Nat), b.levelAt cls ev now ≤ bucketCap cls ev ∧ 16 * tokenUnit ≤ bucketCap cls ev ∧
    bucketCap cls ev = Nat.max (16 * tokenUnit) (bucketRate cls ev * 1000000000)) ∧
  (∀ (b : Bucket) (cls ev n m : Nat), n ≤ m → b.levelAt cls ev n ≤ b.levelAt cls ev m) ∧
  (∀ (b : Bucket) (cls ev n : Nat), 0 < ev → b.since + 16 * tokenUnit + 1000000000 ≤ n → b.levelAt cls ev n = bucketCap cls ev) ∧
  (∀ (t : Tenant) (cls now : Nat), cls < 3 → t.hasToken cls now = true →
    ((t.takeToken cls now).bucket cls).levelAt cls t.qEvRate now + tokenUnit = (t.bucket cls).levelAt cls t.qEvRate now ∧
    ∀ k, k < 3 → k ≠ cls → (t.takeToken cls now).bucket k = t.bucket k)
end

