-- ==== Sys2Proof/Laws/Commands.lean ====
section
/-! SUPPORT. What one command that runs at once does. -/

namespace Sys2Proof.Machine

open Sys2Proof

theorem State.runWaiting_idle (s : State) (hw : s.waiting = []) : s.runWaiting = s := by
  unfold State.runWaiting
  rw [hw]
  cases s
  cases hw
  rfl

/-- With no F fault waiting none is taken before a command (R81). -/
theorem State.fatalFirst_idle (s : State) (hf : s.noFatal = true) : s.fatalFirst = s := by
  unfold State.fatalFirst
  rw [List.filter_eq_nil_iff.mpr]
  · rfl
  · intro f hm
    have := List.all_eq_true.mp hf f hm
    simpa using this

/-- A command that is taken at once has its place and meets its checks or waits (R86, R396). -/
theorem State.submit_takesNow {s : State} (h : CmdHead) (o : CmdOp) (ht : s.takesNow = true) :
    s.submit h o = (s.counted h).runOrWait (s.headOf h) o := by
  simp only [State.takesNow, Bool.and_eq_true, List.isEmpty_iff] at ht
  obtain ⟨⟨hs, hf⟩, hw⟩ := ht
  unfold State.submit
  rw [if_neg (by rw [hs]; decide), State.fatalFirst_idle s hf, State.runWaiting_idle s hw]
  rfl

/-- An accepted command: its effect on the counted state, then its completion (R467). -/
theorem State.submit_accepted {s : State} {h : CmdHead} {o : CmdOp} (ha : s.accepts h o = true) :
    s.submit h o = (s.caused h ((s.taken h).apply (s.headOf h) o).1).complete (s.headOf h) o ((s.taken h).apply (s.headOf h) o).2 := by
  simp only [State.accepts, Bool.and_eq_true, Bool.not_eq_true', Option.isNone_iff_eq_none] at ha
  obtain ⟨⟨hw, hb⟩, hr⟩ := ha
  rw [State.submit_takesNow h o hw]
  unfold State.runOrWait
  rw [if_neg (by rw [hb]; decide)]
  unfold State.runCmd
  have t : (s.counted h).wakeFor (s.headOf h) = s.taken h := rfl
  rw [t]
  simp only [hr]
  rfl

/-- A refused command: the completion alone, with the status and INDEX of the first check that fails (R467). -/
theorem State.submit_refused {s : State} {h : CmdHead} {o : CmdOp} {st : Status} {i : Nat} (ha : s.refuses h o st i = true) :
    s.submit h o = (s.taken h).complete (s.headOf h) o { status := st, index := i } := by
  simp only [State.refuses, Bool.and_eq_true, Bool.not_eq_true', beq_iff_eq] at ha
  obtain ⟨⟨hw, hb⟩, hr⟩ := ha
  rw [State.submit_takesNow h o hw]
  unfold State.runOrWait
  rw [if_neg (by rw [hb]; decide)]
  unfold State.runCmd
  have t : (s.counted h).wakeFor (s.headOf h) = s.taken h := rfl
  rw [t]
  simp only [hr]

/-- An accepted command whose effect is known: the next state. -/
theorem State.submit_answered {s t : State} {h : CmdHead} {o : CmdOp} {rs : List (List Byte)} (ha : s.accepts h o = true)
    (e : (s.taken h).apply (s.headOf h) o = (t, { results := rs })) :
    (Host.Outcome.next (s.submit h o) : Host.Outcome State Fault Refusal) = .next (s.answered h o t rs) := by
  rw [State.submit_accepted ha, e]
  rfl

/-- An accepted command that completes later leaves its effect alone. -/
theorem State.submit_later {s t : State} {h : CmdHead} {o : CmdOp} (ha : s.accepts h o = true)
    (e : (s.taken h).apply (s.headOf h) o = (t, { later := true })) :
    (Host.Outcome.next (s.submit h o) : Host.Outcome State Fault Refusal) = .next (s.caused h t) := by
  rw [State.submit_accepted ha, e]
  rfl

/-- A region that takes a write takes the effect on the state with its new copy (R683, R687). -/
theorem State.stored_takes {s : State} {region : Nat} (k : State → Done) (h : s.takesNvm region = true) :
    s.stored region k = k (s.copied region) := by
  simp only [State.takesNvm, Bool.and_eq_true, Bool.not_eq_true'] at h
  unfold State.stored
  rw [if_neg (by rw [h.1]; decide), if_pos h.2]
  rfl

end Sys2Proof.Machine
end

