-- ==== Sys2Proof/Laws/Memory.lean ====
section
/-! SUPPORT. The canonical form of the Crucible bytes and of the register list: what reads after a write give, and that every memory
operation keeps the form. -/

namespace Sys2Proof.Machine

open Sys2Proof

/-! ### The Crucible -/

/-- The canonical form, said as an ordering and a condition on each entry. -/
theorem cruWf_iff (l : List Host.Cell) :
    cruWf l = true ↔ l.Pairwise (fun x y => x.1 < y.1) ∧ ∀ x ∈ l, x.2 ≠ 0 := by
  induction l with
  | nil => simp [cruWf]
  | cons x l ih =>
    cases l with
    | nil => simp [cruWf]
    | cons y l =>
      obtain ⟨a, v⟩ := x
      obtain ⟨b, w⟩ := y
      simp only [cruWf, Bool.and_eq_true, bne_iff_ne, ne_eq, decide_eq_true_eq, ih]
      simp only [List.pairwise_cons, List.mem_cons, forall_eq_or_imp]
      constructor
      · rintro ⟨⟨h1, h2⟩, ⟨h3, h4⟩, h5, h6⟩
        exact ⟨⟨⟨h2, fun z hz => lt_trans h2 (h3 z hz)⟩, h3, h4⟩, h1, h5, h6⟩
      · rintro ⟨⟨⟨h2, _⟩, h3, h4⟩, h1, h5, h6⟩
        exact ⟨⟨h1, h2⟩, ⟨h3, h4⟩, h5, h6⟩

/-- An entry after a write is the written one or an old one. -/
theorem mem_cruPut {a : Nat} {v : Byte} {l : List Host.Cell} {x : Host.Cell} (h : x ∈ cruPut a v l) : x = (a, v) ∧ v ≠ 0 ∨ x ∈ l := by
  induction l with
  | nil =>
    unfold cruPut at h
    split at h
    · simp at h
    · simp only [List.mem_singleton] at h; exact .inl ⟨h, ‹_›⟩
  | cons y l ih =>
    obtain ⟨b, w⟩ := y
    unfold cruPut at h
    split at h
    · split at h
      · exact .inr h
      · rcases List.mem_cons.1 h with h | h
        · exact .inl ⟨h, ‹_›⟩
        · exact .inr h
    · split at h
      · split at h
        · exact .inr (List.mem_cons_of_mem _ h)
        · rcases List.mem_cons.1 h with h | h
          · exact .inl ⟨h, ‹_›⟩
          · exact .inr (List.mem_cons_of_mem _ h)
      · rcases List.mem_cons.1 h with h | h
        · exact .inr (h ▸ List.mem_cons_self)
        · rcases ih h with h | h
          · exact .inl h
          · exact .inr (List.mem_cons_of_mem _ h)

/-- A write keeps the Crucible's canonical form. -/
theorem cruPut_wf {a : Nat} {v : Byte} {l : List Host.Cell} (h : cruWf l = true) : cruWf (cruPut a v l) = true := by
  rw [cruWf_iff] at h ⊢
  obtain ⟨hp, hn⟩ := h
  refine ⟨?_, fun x hx => ?_⟩
  · induction l with
    | nil => unfold cruPut; split <;> simp
    | cons y l ih =>
      obtain ⟨b, w⟩ := y
      have hp' := List.pairwise_cons.1 hp
      unfold cruPut
      split
      · split
        · exact hp
        · refine List.pairwise_cons.2 ⟨fun z hz => ?_, hp⟩
          rcases List.mem_cons.1 hz with hz | hz
          · subst hz; assumption
          · exact lt_trans ‹a < b› (hp'.1 z hz)
      · split
        · rename_i hab
          split
          · exact hp'.2
          · exact List.pairwise_cons.2 ⟨fun z hz => hab ▸ hp'.1 z hz, hp'.2⟩
        · refine List.pairwise_cons.2 ⟨fun z hz => ?_, ih hp'.2 (fun x hx => hn x (List.mem_cons_of_mem _ hx))⟩
          rcases mem_cruPut hz with ⟨hz, _⟩ | hz
          · subst hz; simp only; omega
          · exact hp'.1 z hz
  · rcases mem_cruPut hx with ⟨hx, hv⟩ | hx
    · subst hx; exact hv
    · exact hn x hx

/-! ### The register list -/

/-- The canonical form of the register list, said as an ordering and a condition on each entry. -/
theorem regsWf_iff (l : List (Nat × Word32)) :
    regsWf l = true ↔ l.Pairwise (fun x y => x.1 < y.1) ∧ ∀ x ∈ l, x.2.toNat ≠ regReset x.1 := by
  induction l with
  | nil => simp [regsWf]
  | cons x l ih =>
    cases l with
    | nil => simp [regsWf]
    | cons y l =>
      obtain ⟨a, v⟩ := x
      obtain ⟨b, w⟩ := y
      simp only [regsWf, Bool.and_eq_true, bne_iff_ne, ne_eq, decide_eq_true_eq, ih]
      simp only [List.pairwise_cons, List.mem_cons, forall_eq_or_imp]
      constructor
      · rintro ⟨⟨h1, h2⟩, ⟨h3, h4⟩, h5, h6⟩
        exact ⟨⟨⟨h2, fun z hz => lt_trans h2 (h3 z hz)⟩, h3, h4⟩, h1, h5, h6⟩
      · rintro ⟨⟨⟨h2, _⟩, h3, h4⟩, h1, h5, h6⟩
        exact ⟨⟨h1, h2⟩, ⟨h3, h4⟩, h5, h6⟩

/-- An entry after a register write is the written one or an old one. -/
theorem mem_regsPut {a d w : Nat} {l : List (Nat × Word32)} {x : Nat × Word32} (h : x ∈ regsPut a d w l) :
    x = (a, BitVec.ofNat 32 w) ∧ w ≠ d ∨ x ∈ l := by
  induction l with
  | nil =>
    unfold regsPut at h
    split at h
    · simp at h
    · simp only [List.mem_singleton] at h; exact .inl ⟨h, ‹_›⟩
  | cons y l ih =>
    obtain ⟨b, v⟩ := y
    unfold regsPut at h
    split at h
    · split at h
      · exact .inr h
      · rcases List.mem_cons.1 h with h | h
        · exact .inl ⟨h, ‹_›⟩
        · exact .inr h
    · split at h
      · split at h
        · exact .inr (List.mem_cons_of_mem _ h)
        · rcases List.mem_cons.1 h with h | h
          · exact .inl ⟨h, ‹_›⟩
          · exact .inr (List.mem_cons_of_mem _ h)
      · rcases List.mem_cons.1 h with h | h
        · exact .inr (h ▸ List.mem_cons_self)
        · rcases ih h with h | h
          · exact .inl h
          · exact .inr (List.mem_cons_of_mem _ h)

/-- A register write keeps the canonical form. -/
theorem regsPut_wf {a w : Nat} {l : List (Nat × Word32)} (hw : w < 2 ^ 32) (h : regsWf l = true) :
    regsWf (regsPut a (regReset a) w l) = true := by
  rw [regsWf_iff] at h ⊢
  obtain ⟨hp, hn⟩ := h
  refine ⟨?_, fun x hx => ?_⟩
  · induction l with
    | nil => unfold regsPut; split <;> simp
    | cons y l ih =>
      obtain ⟨b, v⟩ := y
      have hp' := List.pairwise_cons.1 hp
      unfold regsPut
      split
      · split
        · exact hp
        · refine List.pairwise_cons.2 ⟨fun z hz => ?_, hp⟩
          rcases List.mem_cons.1 hz with hz | hz
          · subst hz; assumption
          · exact lt_trans ‹a < b› (hp'.1 z hz)
      · split
        · rename_i hab
          split
          · exact hp'.2
          · exact List.pairwise_cons.2 ⟨fun z hz => hab ▸ hp'.1 z hz, hp'.2⟩
        · refine List.pairwise_cons.2 ⟨fun z hz => ?_, ih hp'.2 (fun x hx => hn x (List.mem_cons_of_mem _ hx))⟩
          rcases mem_regsPut hz with ⟨hz, _⟩ | hz
          · subst hz; simp only; omega
          · exact hp'.1 z hz
  · rcases mem_regsPut hx with ⟨hx, hv⟩ | hx
    · subst hx
      simp only [BitVec.toNat_ofNat]
      rw [Nat.mod_eq_of_lt hw]
      exact hv
    · exact hn x hx

/-- Leaving entries out keeps the canonical form. -/
theorem regsWf_filter {l : List (Nat × Word32)} (p : Nat × Word32 → Bool) (h : regsWf l = true) : regsWf (l.filter p) = true := by
  rw [regsWf_iff] at h ⊢
  exact ⟨h.1.filter _, fun x hx => h.2 x (List.mem_filter.1 hx).1⟩

/-- What a reset keeps of the registers is canonical. -/
theorem regsWf_kept {l : List (Nat × Word32)} (h : regsWf l = true) : regsWf (keptRegs l) = true := by
  rw [regsWf_iff] at h ⊢
  obtain ⟨hp, -⟩ := h
  have hk : ∀ x : Nat × Word32, (keptWord x).1 = x.1 := fun x => by unfold keptWord; split <;> rfl
  refine ⟨((hp.filter _).map _ (fun x y hxy => ?_)).filter _, fun x hx => ?_⟩
  · rw [hk, hk]; exact hxy
  · intro he
    have := (List.mem_filter.1 hx).2
    simp only [ne_eq, decide_not, Bool.not_eq_true', decide_eq_false_iff_not] at this
    exact this (by rw [← he]; simp)

end Sys2Proof.Machine
end

