-- ==== Sys2Proof/Laws/Keeps.lean ====
section
/-! SUPPORT. `Keeps` is a preorder and is kept by every plain update: the steps from which every lemma about an operation is built. -/

namespace Sys2Proof.Machine

open Sys2Proof

theorem Keeps.refl (s : State) : Keeps s s := ⟨rfl, rfl, rfl, id, id⟩

theorem Keeps.trans {s t u : State} (h : Keeps s t) (k : Keeps t u) : Keeps s u :=
  ⟨k.opt.trans h.opt, k.serial.trans h.serial, k.pending.trans h.pending, k.cru ∘ h.cru, k.regs ∘ h.regs⟩

/-- An outcome keeps what a state holds: every next state that it answers does. -/
def KeepsOut (s : State) (o : Out) : Prop := ∀ t, o = .next t → Keeps s t

theorem KeepsOut.next {s t : State} (h : Keeps s t) : KeepsOut s (.next t) := fun u e => by cases e; exact h

theorem KeepsOut.fault {s : State} {f : Fault} : KeepsOut s (.fault f) := fun u e => by cases e

/-- A state built from another one field by field. -/
theorem Keeps.mk_iff {s0 s : State}
    {now : Nat} {ptp : Nat} {draws : Nat} {strapRaw : Nat} {strapValid : Bool} {fw : Option (Nat × Nat × Nat)} {mode : ModeSt} {gathers : Vector Gather 8} {chans : Vector Chan 64} {queues : List Queue} {tenants : List Tenant} {sessions : List Session} {establish : List Establish} {throttles : List Throttle} {sent : List Sent} {links : Nat} {localPort : LocalPort} {dma : Vector DmaChan 32} {inflight : List Reply} {waiting : List (CmdHead × CmdOp)} {recFifo : List RecIn} {evtFifo : List EvtIn} {col : Collector} {wdg : Vector Wdg 5} {evr : Evr} {rst : Rst} {nvm : Nvm} {flash : Flash} {leases : List (Nat × Lease)} {barriers : List Barrier} {bal : BalSt} {met : MeterSt} {sessidle : Nat} {stormquiet : Nat} {storm : Option Storm} {calgenCtr : Nat} {board : Board} :
    Keeps s0 (State.mk now ptp draws s.opt s.serial strapRaw strapValid fw mode s.regs gathers chans queues tenants sessions establish throttles sent links localPort dma s.cru inflight waiting recFifo evtFifo col wdg evr rst nvm flash leases barriers bal met sessidle stormquiet storm calgenCtr board s.pending) ↔ Keeps s0 s :=
  ⟨fun h => ⟨h.opt, h.serial, h.pending, h.cru, h.regs⟩, fun h => ⟨h.opt, h.serial, h.pending, h.cru, h.regs⟩⟩

/-- A fold keeps what each of its steps keeps. -/
theorem Keeps.foldl {α : Type} {s0 s : State} {f : State → α → State} {l : List α}
    (hf : ∀ x a, Keeps s0 x → Keeps s0 (f x a)) (h : Keeps s0 s) : Keeps s0 (l.foldl f s) := by
  induction l generalizing s with
  | nil => exact h
  | cons a l ih => exact ih (hf _ _ h)

/-- The same for a fold over a pair whose first part is the state. -/
theorem Keeps.foldl1 {α β : Type} {s0 : State} {p : State × β} {f : State × β → α → State × β} {l : List α}
    (hf : ∀ x a, Keeps s0 x.1 → Keeps s0 (f x a).1) (h : Keeps s0 p.1) : Keeps s0 (l.foldl f p).1 := by
  induction l generalizing p with
  | nil => exact h
  | cons a l ih => exact ih (hf _ _ h)

/-- The same for a fold over a pair whose second part is the state. -/
theorem Keeps.foldl2 {α β : Type} {s0 : State} {p : β × State} {f : β × State → α → β × State} {l : List α}
    (hf : ∀ x a, Keeps s0 x.2 → Keeps s0 (f x a).2) (h : Keeps s0 p.2) : Keeps s0 (l.foldl f p).2 := by
  induction l generalizing p with
  | nil => exact h
  | cons a l ih => exact ih (hf _ _ h)

theorem Keeps.of_fst {β : Type} {s0 s : State} {p : State × β} {b : β} (e : p = (s, b)) (h : Keeps s0 p.1) : Keeps s0 s := by
  subst e; exact h

theorem Keeps.of_snd {β : Type} {s0 s : State} {p : β × State} {b : β} (e : p = (b, s)) (h : Keeps s0 p.2) : Keeps s0 s := by
  subst e; exact h

/-- The one operation that writes a register. -/
theorem State.setReg_keeps {s0 : State} (s : State) (a w : Nat) (h : Keeps s0 s) : Keeps s0 (s.setReg a w) :=
  ⟨h.opt, h.serial, h.pending, h.cru, fun k => regsPut_wf (Nat.mod_lt _ (by decide)) (h.regs k)⟩

/-- One byte written into the Crucible, where its form is kept. -/
theorem Keeps.cruPut {s0 s : State} (a : Nat) (v : Byte) (h : Keeps s0 s) : Keeps s0 { s with cru := Machine.cruPut a v s.cru } :=
  ⟨h.opt, h.serial, h.pending, fun k => cruPut_wf (h.cru k), h.regs⟩

end Sys2Proof.Machine
end

