-- ==== Sys2Proof/Laws/KeepsChannel.lean ====
section
/-! SUPPORT. What the channel operations (registers, NVM copies, modes, channels, converters, programs, EIS, loop, estimator) keep: one lemma per operation (`Keeps`: the fuses, the queue behind the
command, and the canonical form of both memories), for later proofs to cite in place of unfolding it. -/

namespace Sys2Proof.Machine

open Sys2Proof

theorem State.onChan_keeps {s0 : State} (s : State) (a1 a2) (h : Keeps s0 s) : Keeps s0 (State.onChan s a1 a2) := by
  unfold State.onChan
  repeat' first | with_reducible assumption | split | simp only [Keeps.mk_iff]

theorem State.onGat_keeps {s0 : State} (s : State) (a1 a2) (h : Keeps s0 s) : Keeps s0 (State.onGat s a1 a2) := by
  unfold State.onGat
  repeat' first | with_reducible assumption | split | simp only [Keeps.mk_iff]

theorem State.onLoop_keeps {s0 : State} (s : State) (a1 a2) (h : Keeps s0 s) : Keeps s0 (State.onLoop s a1 a2) := by
  unfold State.onLoop
  repeat' first | with_reducible assumption | with_reducible apply State.onChan_keeps

theorem State.onProt_keeps {s0 : State} (s : State) (a1 a2) (h : Keeps s0 s) : Keeps s0 (State.onProt s a1 a2) := by
  unfold State.onProt
  repeat' first | with_reducible assumption | with_reducible apply State.onChan_keeps

theorem State.onMeas_keeps {s0 : State} (s : State) (a1 a2) (h : Keeps s0 s) : Keeps s0 (State.onMeas s a1 a2) := by
  unfold State.onMeas
  repeat' first | with_reducible assumption | with_reducible apply State.onChan_keeps

theorem State.onProg_keeps {s0 : State} (s : State) (a1 a2) (h : Keeps s0 s) : Keeps s0 (State.onProg s a1 a2) := by
  unfold State.onProg
  repeat' first | with_reducible assumption | with_reducible apply State.onChan_keeps

theorem State.onEis_keeps {s0 : State} (s : State) (a1 a2) (h : Keeps s0 s) : Keeps s0 (State.onEis s a1 a2) := by
  unfold State.onEis
  repeat' first | with_reducible assumption | with_reducible apply State.onChan_keeps

theorem State.onEst_keeps {s0 : State} (s : State) (a1 a2) (h : Keeps s0 s) : Keeps s0 (State.onEst s a1 a2) := by
  unfold State.onEst
  repeat' first | with_reducible assumption | with_reducible apply State.onChan_keeps

theorem State.onBoard_keeps {s0 : State} (s : State) (a1) (h : Keeps s0 s) : Keeps s0 (State.onBoard s a1) := by
  unfold State.onBoard
  repeat' first | with_reducible assumption | split | simp only [Keeps.mk_iff]

theorem State.sendZl_keeps {s0 : State} (s : State) (a1) (h : Keeps s0 s) : Keeps s0 (State.sendZl s a1) := by
  unfold State.sendZl
  repeat' first | with_reducible assumption | with_reducible apply State.onBoard_keeps

theorem State.forChans_keeps {s0 : State} (s : State) (a1 a2) (hf : ∀ c x, Keeps s0 x → Keeps s0 (a2 c x)) (h : Keeps s0 s) : Keeps s0 (State.forChans s a1 a2) := by
  exact Keeps.foldl (fun x c => hf c x) h

theorem State.draw_keeps {s0 : State} (s : State) (h : Keeps s0 s) : Keeps s0 (State.draw s).2 := by
  unfold State.draw
  repeat' first | with_reducible assumption | split | simp only [Keeps.mk_iff]

theorem State.pick_keeps {s0 : State} (s : State) (a1) (h : Keeps s0 s) : Keeps s0 (State.pick s a1).2 := by
  unfold State.pick
  repeat' first | with_reducible assumption | with_reducible apply State.draw_keeps

theorem State.tickTo_keeps {s0 : State} (s : State) (a1) (h : Keeps s0 s) : Keeps s0 (State.tickTo s a1) := by
  unfold State.tickTo
  repeat' first | with_reducible assumption | split | simp only [Keeps.mk_iff]

theorem State.passTo_keeps {s0 : State} (s : State) (a1) (h : Keeps s0 s) : Keeps s0 (State.passTo s a1) := by
  unfold State.passTo
  repeat' first | with_reducible assumption | split | simp only [Keeps.mk_iff]

theorem State.setFld_keeps {s0 : State} (s : State) (a1 a2 a3 a4) (h : Keeps s0 s) : Keeps s0 (State.setFld s a1 a2 a3 a4) := by
  unfold State.setFld
  repeat' first | with_reducible assumption | with_reducible apply State.setReg_keeps

theorem State.setBit_keeps {s0 : State} (s : State) (a1 a2) (h : Keeps s0 s) : Keeps s0 (State.setBit s a1 a2) := by
  unfold State.setBit
  repeat' first | with_reducible assumption | with_reducible apply State.setFld_keeps

theorem State.bump_keeps {s0 : State} (s : State) (a1 a2 a3) (h : Keeps s0 s) : Keeps s0 (State.bump s a1 a2 a3) := by
  unfold State.bump
  repeat' first | with_reducible assumption | with_reducible apply State.setFld_keeps

theorem State.bumpWrap_keeps {s0 : State} (s : State) (a1 a2 a3) (h : Keeps s0 s) : Keeps s0 (State.bumpWrap s a1 a2 a3) := by
  unfold State.bumpWrap
  repeat' first | with_reducible assumption | with_reducible apply State.setFld_keeps

theorem State.cfgBusy_keeps {s0 : State} (s : State) (a1) (h : Keeps s0 s) : Keeps s0 (State.cfgBusy s a1) := by
  unfold State.cfgBusy
  repeat' first | with_reducible assumption | with_reducible apply State.setBit_keeps

theorem State.rangeErr_keeps {s0 : State} (s : State) (a1) (h : Keeps s0 s) : Keeps s0 (State.rangeErr s a1) := by
  unfold State.rangeErr
  repeat' first | with_reducible assumption | with_reducible apply State.setBit_keeps

theorem State.alignGather_keeps {s0 : State} (s : State) (a1) (h : Keeps s0 s) : Keeps s0 (State.alignGather s a1) := by
  unfold State.alignGather
  extract_lets x1
  repeat' first | with_reducible assumption | with_reducible apply State.onGat_keeps

theorem State.pushRec_keeps {s0 : State} (s : State) (a1) (h : Keeps s0 s) : Keeps s0 (State.pushRec s a1) := by
  unfold State.pushRec
  repeat' first | with_reducible assumption | split | simp only [Keeps.mk_iff]

theorem State.pushEvt_keeps {s0 : State} (s : State) (a1) (h : Keeps s0 s) : Keeps s0 (State.pushEvt s a1) := by
  unfold State.pushEvt
  repeat' first | with_reducible assumption | split | simp only [Keeps.mk_iff]

theorem State.pushFault_keeps {s0 : State} (s : State) (a1) (h : Keeps s0 s) : Keeps s0 (State.pushFault s a1) := by
  unfold State.pushFault
  extract_lets x1
  repeat' first | with_reducible assumption | split | simp only [Keeps.mk_iff]

theorem State.fault_keeps {s0 : State} (s : State) (a1 a2) (h : Keeps s0 s) : Keeps s0 (State.fault s a1 a2) := by
  unfold State.fault
  repeat' first | with_reducible assumption | with_reducible apply State.pushFault_keeps

theorem State.faultD_keeps {s0 : State} (s : State) (a1 a2 a3) (h : Keeps s0 s) : Keeps s0 (State.faultD s a1 a2 a3) := by
  unfold State.faultD
  repeat' first | with_reducible assumption | with_reducible apply State.pushFault_keeps

theorem State.houseEvt_keeps {s0 : State} (s : State) (a1 a2) (h : Keeps s0 s) : Keeps s0 (State.houseEvt s a1 a2) := by
  unfold State.houseEvt
  repeat' first | with_reducible assumption | with_reducible apply State.pushEvt_keeps

theorem State.powerEvt_keeps {s0 : State} (s : State) (a1 a2) (h : Keeps s0 s) : Keeps s0 (State.powerEvt s a1 a2) := by
  unfold State.powerEvt
  repeat' first | with_reducible assumption | with_reducible apply State.houseEvt_keeps

theorem State.chanEvt_keeps {s0 : State} (s : State) (a1 a2 a3) (h : Keeps s0 s) : Keeps s0 (State.chanEvt s a1 a2 a3) := by
  unfold State.chanEvt
  extract_lets x1 x2
  repeat' first | with_reducible assumption | with_reducible apply State.pushEvt_keeps

theorem State.corrFrom_keeps {s0 : State} (s : State) (a1 a2) (h : Keeps s0 s) : Keeps s0 (State.corrFrom s a1 a2) := by
  unfold State.corrFrom
  repeat' first | with_reducible assumption | split | simp only [Keeps.mk_iff]

theorem State.byCorr_keeps {s0 : State} (s : State) (a1 a2 a3) (hf : ∀ x, Keeps s0 x → Keeps s0 (a3 x)) (h : Keeps s0 s) : Keeps s0 (State.byCorr s a1 a2 a3) := by
  exact State.onLoop_keeps _ _ _ (hf _ (State.onLoop_keeps _ _ _ h))

theorem State.chanRec_keeps {s0 : State} (s : State) (a1 a2 a3 a4 a5 a6) (h : Keeps s0 s) : Keeps s0 (State.chanRec s a1 a2 a3 a4 a5 a6) := by
  unfold State.chanRec
  extract_lets x1
  repeat' first | with_reducible assumption | with_reducible apply State.pushRec_keeps

theorem State.onTenant_keeps {s0 : State} (s : State) (a1 a2) (h : Keeps s0 s) : Keeps s0 (State.onTenant s a1 a2) := by
  unfold State.onTenant
  repeat' first | with_reducible assumption | split | simp only [Keeps.mk_iff]

theorem State.onQueue_keeps {s0 : State} (s : State) (a1 a2) (h : Keeps s0 s) : Keeps s0 (State.onQueue s a1 a2) := by
  unfold State.onQueue
  repeat' first | with_reducible assumption | split | simp only [Keeps.mk_iff]

theorem State.onSession_keeps {s0 : State} (s : State) (a1 a2) (h : Keeps s0 s) : Keeps s0 (State.onSession s a1 a2) := by
  unfold State.onSession
  repeat' first | with_reducible assumption | split | simp only [Keeps.mk_iff]

theorem State.onLease_keeps {s0 : State} (s : State) (a1 a2) (h : Keeps s0 s) : Keeps s0 (State.onLease s a1 a2) := by
  unfold State.onLease
  repeat' first | with_reducible assumption | split | simp only [Keeps.mk_iff]

theorem State.useSpare_keeps {s0 : State} (s : State) (h : Keeps s0 s) : Keeps s0 (State.useSpare s) := by
  unfold State.useSpare
  extract_lets x1 x2 x3
  have kx3 : Keeps s0 x3 := by
    unfold x3
    repeat' first | with_reducible assumption | with_reducible apply State.fault_keeps | split | simp only [Keeps.mk_iff]
  try clear_value x3
  repeat' first | with_reducible assumption | with_reducible apply State.fault_keeps | split

theorem State.retireRow_keeps {s0 : State} (s : State) (a1 a2) (h : Keeps s0 s) : Keeps s0 (State.retireRow s a1 a2).1 := by
  unfold State.retireRow
  extract_lets x1 x2 x3 x4
  have kx3 : Keeps s0 x3 := by
    unfold x3
    repeat' first | with_reducible assumption | with_reducible apply State.fault_keeps | with_reducible apply State.useSpare_keeps
  try clear_value x3
  repeat' first | with_reducible assumption | with_reducible apply State.fault_keeps | with_reducible apply State.useSpare_keeps | split | simp only [Keeps.mk_iff]

theorem State.nvmTry_keeps {s0 : State} (s : State) (a1 a2 a3) (h : Keeps s0 s) : Keeps s0 (State.nvmTry s a1 a2 a3).1 := by
  induction a3 generalizing s with
  | zero => unfold State.nvmTry; exact h
  | succ n ih =>
    unfold State.nvmTry
    split
    · exact Keeps.mk_iff.2 h
    · rename_i n _ _ _
      have k := State.retireRow_keeps _ a1 a2 (Keeps.mk_iff.2 h : Keeps s0 { s with nvm := n })
      split
      · exact ih _ (Keeps.of_fst ‹_› k)
      · exact k

theorem State.nvmWrite_keeps {s0 : State} (s : State) (a1) (h : Keeps s0 s) : Keeps s0 (State.nvmWrite s a1).1 := by
  unfold State.nvmWrite
  repeat' first | with_reducible assumption | with_reducible apply State.nvmTry_keeps

theorem State.rewriteRow_keeps {s0 : State} (s : State) (a1) (h : Keeps s0 s) : Keeps s0 (State.rewriteRow s a1) := by
  unfold State.rewriteRow
  extract_lets x1
  repeat' first | with_reducible assumption | with_reducible apply State.nvmWrite_keeps | split

theorem State.keepNvm_keeps {s0 : State} (s : State) (a1 a2) (hf : ∀ x, Keeps s0 x → Keeps s0 (a2 x)) (h : Keeps s0 s) : Keeps s0 (State.keepNvm s a1 a2) := by
  unfold State.keepNvm
  have k := State.nvmWrite_keeps s a1 h
  dsimp only
  split
  · exact h
  · split
    · exact hf _ k
    · exact k

theorem State.cutWin_keeps {s0 : State} (s : State) (a1 a2) (h : Keeps s0 s) : Keeps s0 (State.cutWin s a1 a2) := by
  unfold State.cutWin
  repeat' first | with_reducible assumption | with_reducible apply State.onMeas_keeps

theorem State.rangeMoved_keeps {s0 : State} (s : State) (a1 a2) (h : Keeps s0 s) : Keeps s0 (State.rangeMoved s a1 a2) := by
  unfold State.rangeMoved
  extract_lets x1
  repeat' first | with_reducible assumption | with_reducible apply State.onGat_keeps | with_reducible apply State.cutWin_keeps | split

theorem State.modeEvt_keeps {s0 : State} (s : State) (h : Keeps s0 s) : Keeps s0 (State.modeEvt s) := by
  unfold State.modeEvt
  repeat' first | with_reducible assumption | with_reducible apply State.pushEvt_keeps

theorem State.viewOne_keeps {s0 : State} (s : State) (a1) (h : Keeps s0 s) : Keeps s0 (State.viewOne s a1) := by
  unfold State.viewOne
  extract_lets x1
  repeat' first | with_reducible assumption | with_reducible apply State.onTenant_keeps | with_reducible apply State.pushEvt_keeps | split

theorem State.syncViews_keeps {s0 : State} (s : State) (h : Keeps s0 s) : Keeps s0 (State.syncViews s) := by
  unfold State.syncViews
  repeat' first | with_reducible assumption | with_reducible apply State.viewOne_keeps | split | simp only [Keeps.mk_iff] | with_reducible refine Keeps.foldl (fun _ _ _ => ?_) ?_

theorem State.enterMode_keeps {s0 : State} (s : State) (a1 a2 a3) (h : Keeps s0 s) : Keeps s0 (State.enterMode s a1 a2 a3) := by
  unfold State.enterMode
  extract_lets x1 x2 x3 x4 x5
  have k4 : Keeps s0 x4 := Keeps.mk_iff.2 h
  have k5 : ∀ n x, Keeps s0 x → Keeps s0 (x5 n x) := fun n x hx => by
    unfold x5
    split
    · exact Keeps.mk_iff.2 hx
    · exact hx
  clear_value x4 x5
  split <;> first | exact k4 | exact k5 _ _ (State.syncViews_keeps _ (k5 _ _ (State.modeEvt_keeps _ k4)))

theorem State.refreshMode_keeps {s0 : State} (s : State) (h : Keeps s0 s) : Keeps s0 (State.refreshMode s) := by
  unfold State.refreshMode
  extract_lets x1 x2
  repeat' first | with_reducible assumption | with_reducible apply State.syncViews_keeps | with_reducible apply State.enterMode_keeps | split

theorem State.exciteOn_keeps {s0 : State} (s : State) (a1) (h : Keeps s0 s) : Keeps s0 (State.exciteOn s a1) := by
  unfold State.exciteOn
  repeat' first | with_reducible assumption | with_reducible apply State.onGat_keeps | with_reducible apply State.onMeas_keeps

theorem State.setSt_keeps {s0 : State} (s : State) (a1 a2 a3 a4) (h : Keeps s0 s) : Keeps s0 (State.setSt s a1 a2 a3 a4) := by
  unfold State.setSt
  extract_lets x1 x2 x3
  have kx2 : Keeps s0 x2 := by
    unfold x2
    repeat' first | with_reducible assumption | with_reducible apply State.onLoop_keeps
  try clear_value x2
  have kx3 : Keeps s0 x3 := by
    unfold x3
    repeat' first | with_reducible assumption | with_reducible apply State.onLoop_keeps | with_reducible apply State.exciteOn_keeps | with_reducible apply State.chanEvt_keeps | split
  try clear_value x3
  repeat' first | with_reducible assumption | with_reducible apply State.onLoop_keeps | with_reducible apply State.exciteOn_keeps | with_reducible apply State.chanEvt_keeps | split

theorem State.withdraw_keeps {s0 : State} (s : State) (a1) (h : Keeps s0 s) : Keeps s0 (State.withdraw s a1) := by
  unfold State.withdraw
  extract_lets x1 x2
  have kx2 : Keeps s0 x2 := by
    unfold x2
    repeat' first | with_reducible assumption | with_reducible apply State.onProg_keeps
  try clear_value x2
  repeat' first | with_reducible assumption | with_reducible apply State.onProg_keeps | split | simp only [Keeps.mk_iff]

theorem State.estEvt_keeps {s0 : State} (s : State) (a1 a2 a3) (h : Keeps s0 s) : Keeps s0 (State.estEvt s a1 a2 a3) := by
  unfold State.estEvt
  repeat' first | with_reducible assumption | with_reducible apply State.chanEvt_keeps

theorem State.fullMark_keeps {s0 : State} (s : State) (a1) (h : Keeps s0 s) : Keeps s0 (State.fullMark s a1) := by
  unfold State.fullMark
  extract_lets x1
  have kx1 : Keeps s0 x1 := by
    unfold x1
    repeat' first | with_reducible assumption | with_reducible apply State.onEst_keeps
  try clear_value x1
  repeat' first | with_reducible assumption | with_reducible apply State.onEst_keeps | with_reducible apply State.estEvt_keeps

theorem State.emptyMark_keeps {s0 : State} (s : State) (a1) (h : Keeps s0 s) : Keeps s0 (State.emptyMark s a1) := by
  unfold State.emptyMark
  extract_lets x1 x2 x3 x4
  have kx3 : Keeps s0 x3 := by
    unfold x3
    repeat' first | with_reducible assumption | with_reducible apply State.onEst_keeps
  try clear_value x3
  have kx4 : Keeps s0 x4 := by
    unfold x4
    repeat' first | with_reducible assumption | with_reducible apply State.onEst_keeps | with_reducible apply State.estEvt_keeps
  try clear_value x4
  repeat' first | with_reducible assumption | with_reducible apply State.onEst_keeps | with_reducible apply State.estEvt_keeps | split

theorem State.clearMarks_keeps {s0 : State} (s : State) (a1) (h : Keeps s0 s) : Keeps s0 (State.clearMarks s a1) := by
  unfold State.clearMarks
  repeat' first | with_reducible assumption | with_reducible apply State.onEst_keeps

theorem State.markEnd_keeps {s0 : State} (s : State) (a1 a2) (h : Keeps s0 s) : Keeps s0 (State.markEnd s a1 a2) := by
  unfold State.markEnd
  extract_lets x1 x2 x3 x4 x5 x6 x7
  have kx6 : Keeps s0 x6 := by
    unfold x6
    repeat' first | with_reducible assumption | with_reducible apply State.onEst_keeps
  try clear_value x6
  repeat' first | with_reducible assumption | with_reducible apply State.onEst_keeps | with_reducible apply State.fullMark_keeps | with_reducible apply State.emptyMark_keeps | split

theorem State.stepEndRec_keeps {s0 : State} (s : State) (a1 a2 a3 a4) (h : Keeps s0 s) : Keeps s0 (State.stepEndRec s a1 a2 a3 a4) := by
  unfold State.stepEndRec
  extract_lets x1 x2 x3 x4 x5 x6
  repeat' first | with_reducible assumption | with_reducible apply State.chanRec_keeps

theorem State.endStep_keeps {s0 : State} (s : State) (a1 a2 a3 a4 a5) (h : Keeps s0 s) : Keeps s0 (State.endStep s a1 a2 a3 a4 a5) := by
  unfold State.endStep
  extract_lets x1 x2 x3 x4 x5 x6 x7 x8 x9
  have kx3 : Keeps s0 x3 := by
    unfold x3
    repeat' first | with_reducible assumption | with_reducible apply State.stepEndRec_keeps
  try clear_value x3
  have kx4 : Keeps s0 x4 := by
    unfold x4
    repeat' first | with_reducible assumption | with_reducible apply State.stepEndRec_keeps | with_reducible apply State.withdraw_keeps
  try clear_value x4
  have kx5 : Keeps s0 x5 := by
    unfold x5
    repeat' first | with_reducible assumption | with_reducible apply State.stepEndRec_keeps | with_reducible apply State.withdraw_keeps | with_reducible apply State.onEis_keeps
  try clear_value x5
  have kx6 : Keeps s0 x6 := by
    unfold x6
    repeat' first | with_reducible assumption | with_reducible apply State.stepEndRec_keeps | with_reducible apply State.withdraw_keeps | with_reducible apply State.onEis_keeps | with_reducible apply State.onProg_keeps | with_reducible apply State.markEnd_keeps
  try clear_value x6
  have kx9 : Keeps s0 x9 := by
    unfold x9
    repeat' first | with_reducible assumption | with_reducible apply State.stepEndRec_keeps | with_reducible apply State.withdraw_keeps | with_reducible apply State.onEis_keeps | with_reducible apply State.onProg_keeps
  try clear_value x9
  repeat' first | with_reducible assumption | with_reducible apply State.stepEndRec_keeps | with_reducible apply State.withdraw_keeps | with_reducible apply State.onEis_keeps | with_reducible apply State.onProg_keeps | with_reducible apply State.markEnd_keeps | with_reducible apply State.onEst_keeps | split

theorem State.endProg_keeps {s0 : State} (s : State) (a1) (h : Keeps s0 s) : Keeps s0 (State.endProg s a1) := by
  unfold State.endProg
  repeat' first | with_reducible assumption | with_reducible apply State.onProg_keeps

theorem State.termFirst_keeps {s0 : State} (s : State) (a1) (h : Keeps s0 s) : Keeps s0 (State.termFirst s a1) := by
  unfold State.termFirst
  repeat' first | with_reducible assumption | with_reducible apply State.endStep_keeps | split

theorem State.finishStop_keeps {s0 : State} (s : State) (a1) (h : Keeps s0 s) : Keeps s0 (State.finishStop s a1) := by
  unfold State.finishStop
  extract_lets x1 x2 x3 x4 x5 x6
  have kx4 : Keeps s0 x4 := by
    unfold x4
    repeat' first | with_reducible assumption | with_reducible apply State.endStep_keeps
  try clear_value x4
  have kx5 : Keeps s0 x5 := by
    unfold x5
    repeat' first | with_reducible assumption | with_reducible apply State.endStep_keeps | with_reducible apply State.onProg_keeps | with_reducible apply State.endProg_keeps | with_reducible refine State.forChans_keeps _ _ _ (fun _ _ _ => ?_) ?_ | with_reducible apply State.onLoop_keeps | with_reducible apply State.onProt_keeps | with_reducible apply State.setSt_keeps | split
  try clear_value x5
  have kx6 : Keeps s0 x6 := by
    unfold x6
    repeat' first | with_reducible assumption | with_reducible apply State.endStep_keeps | with_reducible apply State.onProg_keeps | with_reducible apply State.endProg_keeps | with_reducible refine State.forChans_keeps _ _ _ (fun _ _ _ => ?_) ?_ | with_reducible apply State.onLoop_keeps | with_reducible apply State.onProt_keeps | with_reducible apply State.setSt_keeps
  try clear_value x6
  repeat' first | with_reducible assumption | with_reducible apply State.endStep_keeps | with_reducible apply State.onProg_keeps | with_reducible apply State.endProg_keeps | with_reducible refine State.forChans_keeps _ _ _ (fun _ _ _ => ?_) ?_ | with_reducible apply State.onLoop_keeps

theorem State.rampStop_keeps {s0 : State} (s : State) (a1 a2 a3) (h : Keeps s0 s) : Keeps s0 (State.rampStop s a1 a2 a3) := by
  unfold State.rampStop
  extract_lets x1 x2 x3 x4 x5
  have kx1 : Keeps s0 x1 := by
    unfold x1
    repeat' first | with_reducible assumption | with_reducible apply State.termFirst_keeps
  try clear_value x1
  have kx4 : Keeps s0 x4 := by
    unfold x4
    repeat' first | with_reducible assumption | with_reducible apply State.termFirst_keeps | with_reducible refine State.forChans_keeps _ _ _ (fun _ _ _ => ?_) ?_ | with_reducible apply State.onLoop_keeps | with_reducible apply State.onChan_keeps
  try clear_value x4
  have kx5 : Keeps s0 x5 := by
    unfold x5
    repeat' first | with_reducible assumption | with_reducible apply State.termFirst_keeps | with_reducible refine State.forChans_keeps _ _ _ (fun _ _ _ => ?_) ?_ | with_reducible apply State.onLoop_keeps
  try clear_value x5
  repeat' first | with_reducible assumption | with_reducible apply State.termFirst_keeps | with_reducible refine State.forChans_keeps _ _ _ (fun _ _ _ => ?_) ?_ | with_reducible apply State.onLoop_keeps | with_reducible apply State.onChan_keeps | with_reducible apply State.setSt_keeps | with_reducible apply State.finishStop_keeps | split

theorem State.faultOne_keeps {s0 : State} (s : State) (a1 a2 a3 a4 a5) (h : Keeps s0 s) : Keeps s0 (State.faultOne s a1 a2 a3 a4 a5) := by
  unfold State.faultOne
  extract_lets x1 x2 x3 x4 x5 x6 x7
  have kx4 : Keeps s0 x4 := by
    unfold x4
    repeat' first | with_reducible assumption | with_reducible apply State.onProt_keeps
  try clear_value x4
  have kx5 : Keeps s0 x5 := by
    unfold x5
    repeat' first | with_reducible assumption | with_reducible apply State.onProt_keeps | with_reducible apply State.onLoop_keeps
  try clear_value x5
  have kx6 : Keeps s0 x6 := by
    unfold x6
    repeat' first | with_reducible assumption | with_reducible apply State.onProt_keeps | with_reducible apply State.onLoop_keeps | with_reducible apply State.setSt_keeps | with_reducible apply State.clearMarks_keeps | with_reducible apply State.pushFault_keeps | split
  try clear_value x6
  have kx7 : Keeps s0 x7 := by
    unfold x7
    repeat' first | with_reducible assumption | with_reducible apply State.onProt_keeps | with_reducible apply State.onLoop_keeps | with_reducible apply State.setSt_keeps | with_reducible apply State.clearMarks_keeps
  try clear_value x7
  repeat' first | with_reducible assumption | with_reducible apply State.onProt_keeps | with_reducible apply State.onLoop_keeps | with_reducible apply State.setSt_keeps | with_reducible apply State.clearMarks_keeps | with_reducible apply State.pushFault_keeps | split

theorem State.leaseTrips_keeps {s0 : State} (s : State) (a1 a2) (h : Keeps s0 s) : Keeps s0 (State.leaseTrips s a1 a2) := by
  unfold State.leaseTrips
  extract_lets x1
  have kx1 : Keeps s0 x1 := by
    unfold x1
    repeat' first | with_reducible assumption | with_reducible apply State.setBit_keeps | split
  try clear_value x1
  repeat' first | with_reducible assumption | with_reducible apply State.setBit_keeps | split

theorem State.faultStop_keeps {s0 : State} (s : State) (a1 a2) (h : Keeps s0 s) : Keeps s0 (State.faultStop s a1 a2) := by
  unfold State.faultStop
  extract_lets x1 x2 x3 x4 x5 x6 x7 x8 x9 x10
  have kx8 : Keeps s0 x8 := by
    unfold x8
    repeat' first | with_reducible assumption | with_reducible apply State.termFirst_keeps
  try clear_value x8
  have kx9 : Keeps s0 x9 := by
    unfold x9
    repeat' first | with_reducible assumption | with_reducible apply State.termFirst_keeps | with_reducible apply State.endProg_keeps | with_reducible apply State.endStep_keeps
  try clear_value x9
  have kx10 : Keeps s0 x10 := by
    unfold x10
    repeat' first | with_reducible assumption | with_reducible apply State.termFirst_keeps | with_reducible apply State.endProg_keeps | with_reducible apply State.endStep_keeps | with_reducible apply State.leaseTrips_keeps
  try clear_value x10
  repeat' first | with_reducible assumption | with_reducible apply State.termFirst_keeps | with_reducible apply State.endProg_keeps | with_reducible apply State.endStep_keeps | with_reducible apply State.leaseTrips_keeps | with_reducible apply State.faultOne_keeps | split | simp only [Keeps.mk_iff] | with_reducible refine Keeps.foldl (fun _ _ _ => ?_) ?_

theorem State.faultEvent_keeps {s0 : State} (s : State) (a1 a2) (h : Keeps s0 s) : Keeps s0 (State.faultEvent s a1 a2) := by
  unfold State.faultEvent
  repeat' first | with_reducible assumption | with_reducible apply State.pushFault_keeps | with_reducible apply State.onProt_keeps

theorem State.cancelRetry_keeps {s0 : State} (s : State) (a1 a2) (h : Keeps s0 s) : Keeps s0 (State.cancelRetry s a1 a2) := by
  unfold State.cancelRetry
  extract_lets x1 x2 x3
  have kx3 : Keeps s0 x3 := by
    unfold x3
    repeat' first | with_reducible assumption | with_reducible apply State.endProg_keeps | with_reducible apply State.endStep_keeps
  try clear_value x3
  repeat' first | with_reducible assumption | with_reducible apply State.endProg_keeps | with_reducible apply State.endStep_keeps | with_reducible refine State.forChans_keeps _ _ _ (fun _ _ _ => ?_) ?_ | with_reducible apply State.onProt_keeps | with_reducible apply State.pushFault_keeps | split | simp only

theorem State.hardStop_keeps {s0 : State} (s : State) (a1) (h : Keeps s0 s) : Keeps s0 (State.hardStop s a1) := by
  unfold State.hardStop
  extract_lets x1 x2 x3 x4 x5
  have kx2 : Keeps s0 x2 := by
    unfold x2
    repeat' first | with_reducible assumption | with_reducible apply State.endProg_keeps | with_reducible apply State.endStep_keeps | with_reducible apply State.termFirst_keeps | with_reducible apply State.onLoop_keeps | with_reducible apply State.onProt_keeps | with_reducible apply State.setSt_keeps | split
  try clear_value x2
  have kx3 : Keeps s0 x3 := by
    unfold x3
    repeat' first | with_reducible assumption | with_reducible apply State.endProg_keeps | with_reducible apply State.endStep_keeps | with_reducible apply State.termFirst_keeps | with_reducible apply State.onLoop_keeps
  try clear_value x3
  have kx4 : Keeps s0 x4 := by
    unfold x4
    repeat' first | with_reducible assumption | with_reducible apply State.endProg_keeps | with_reducible apply State.endStep_keeps | with_reducible apply State.termFirst_keeps | with_reducible apply State.onLoop_keeps | with_reducible apply State.onProt_keeps | with_reducible apply State.setSt_keeps | split
  try clear_value x4
  have kx5 : Keeps s0 x5 := by
    unfold x5
    repeat' first | with_reducible assumption | with_reducible apply State.endProg_keeps | with_reducible apply State.endStep_keeps | with_reducible apply State.termFirst_keeps | with_reducible apply State.onLoop_keeps | with_reducible apply State.onProt_keeps
  try clear_value x5
  repeat' first | with_reducible assumption | with_reducible apply State.endProg_keeps | with_reducible apply State.endStep_keeps | with_reducible apply State.termFirst_keeps | with_reducible apply State.onLoop_keeps | with_reducible apply State.onProt_keeps | with_reducible apply State.setSt_keeps | split

theorem State.releaseChan_keeps {s0 : State} (s : State) (a1) (h : Keeps s0 s) : Keeps s0 (State.releaseChan s a1) := by
  unfold State.releaseChan
  extract_lets x1 x2 x3
  have kx2 : Keeps s0 x2 := by
    unfold x2
    repeat' first | with_reducible assumption | with_reducible apply State.withdraw_keeps | with_reducible apply State.onLoop_keeps | with_reducible apply State.setSt_keeps | split
  try clear_value x2
  have kx3 : Keeps s0 x3 := by
    unfold x3
    repeat' first | with_reducible assumption | with_reducible apply State.withdraw_keeps | with_reducible apply State.onLoop_keeps
  try clear_value x3
  repeat' first | with_reducible assumption | with_reducible apply State.withdraw_keeps | with_reducible apply State.onLoop_keeps | with_reducible apply State.setSt_keeps | split

theorem State.driveChan_keeps {s0 : State} (s : State) (a1) (h : Keeps s0 s) : Keeps s0 (State.driveChan s a1) := by
  unfold State.driveChan
  extract_lets x1 x2 x3 x4
  have kx3 : Keeps s0 x3 := by
    unfold x3
    repeat' first | with_reducible assumption | with_reducible apply State.onLoop_keeps
  try clear_value x3
  have kx4 : Keeps s0 x4 := by
    unfold x4
    repeat' first | with_reducible assumption | with_reducible apply State.onLoop_keeps | with_reducible apply State.onProg_keeps | with_reducible apply State.setSt_keeps | split
  try clear_value x4
  repeat' first | with_reducible assumption | with_reducible apply State.onLoop_keeps | with_reducible apply State.onProg_keeps | with_reducible apply State.setSt_keeps | split

theorem State.syncDrive_keeps {s0 : State} (s : State) (h : Keeps s0 s) : Keeps s0 (State.syncDrive s) := by
  unfold State.syncDrive
  repeat' first | with_reducible assumption | with_reducible refine State.forChans_keeps _ _ _ (fun _ _ _ => ?_) ?_ | with_reducible apply State.driveChan_keeps | with_reducible apply State.releaseChan_keeps | split

theorem State.settle_keeps {s0 : State} (s : State) (h : Keeps s0 s) : Keeps s0 (State.settle s) := by
  unfold State.settle
  repeat' first | with_reducible assumption | with_reducible apply State.refreshMode_keeps | with_reducible apply State.syncDrive_keeps

theorem State.syncHold_keeps {s0 : State} (s : State) (a1) (h : Keeps s0 s) : Keeps s0 (State.syncHold s a1) := by
  unfold State.syncHold
  extract_lets x1
  repeat' first | with_reducible assumption | with_reducible apply State.onGat_keeps

theorem State.noSpare_keeps {s0 : State} (s : State) (a1 a2) (h : Keeps s0 s) : Keeps s0 (State.noSpare s a1 a2) := by
  unfold State.noSpare
  repeat' first | with_reducible assumption | with_reducible apply State.syncHold_keeps | with_reducible apply State.fault_keeps | split

theorem State.merr_keeps {s0 : State} (s : State) (a1 a2) (h : Keeps s0 s) : Keeps s0 (State.merr s a1 a2) := by
  unfold State.merr
  repeat' first | with_reducible assumption | with_reducible apply State.setBit_keeps

theorem State.seat_keeps {s0 : State} (s : State) (a1 a2 a3) (h : Keeps s0 s) : Keeps s0 (State.seat s a1 a2 a3) := by
  unfold State.seat
  extract_lets x1 x2 x3 x4 x5
  have kx2 : Keeps s0 x2 := by
    unfold x2
    repeat' first | with_reducible assumption | with_reducible apply State.cutWin_keeps
  try clear_value x2
  have kx3 : Keeps s0 x3 := by
    unfold x3
    repeat' first | with_reducible assumption | with_reducible apply State.cutWin_keeps | with_reducible apply State.onGat_keeps
  try clear_value x3
  have kx4 : Keeps s0 x4 := by
    unfold x4
    repeat' first | with_reducible assumption | with_reducible apply State.cutWin_keeps | with_reducible apply State.onGat_keeps | with_reducible apply State.onChan_keeps
  try clear_value x4
  repeat' first | with_reducible assumption | with_reducible apply State.cutWin_keeps | with_reducible apply State.onGat_keeps | with_reducible apply State.onChan_keeps | with_reducible apply State.onEis_keeps | split

theorem State.takeInputs_keeps {s0 : State} (s : State) (a1) (h : Keeps s0 s) : Keeps s0 (State.takeInputs s a1) := by
  unfold State.takeInputs
  repeat' first | with_reducible assumption | with_reducible apply State.onGat_keeps | with_reducible apply State.seat_keeps | split | simp only | with_reducible refine Keeps.foldl (fun _ _ _ => ?_) ?_

theorem State.roundCheck_keeps {s0 : State} (s : State) (a1 a2) (h : Keeps s0 s) : Keeps s0 (State.roundCheck s a1 a2) := by
  unfold State.roundCheck
  extract_lets x1
  repeat' first | with_reducible assumption | with_reducible apply State.syncHold_keeps | with_reducible apply State.fault_keeps | with_reducible apply State.merr_keeps | with_reducible apply State.onGat_keeps | split

theorem State.trySwap_keeps {s0 : State} (s : State) (a1) (h : Keeps s0 s) : Keeps s0 (State.trySwap s a1) := by
  unfold State.trySwap
  extract_lets x1 x2 x3 x4 x5
  repeat' first | with_reducible assumption | with_reducible apply State.onGat_keeps | split

theorem State.rotate_keeps {s0 : State} (s : State) (a1 a2) (h : Keeps s0 s) : Keeps s0 (State.rotate s a1 a2) := by
  unfold State.rotate
  repeat' first | with_reducible assumption | with_reducible apply State.trySwap_keeps | with_reducible apply State.syncHold_keeps | with_reducible apply State.roundCheck_keeps

theorem State.replaceConv_keeps {s0 : State} (s : State) (a1 a2 a3) (h : Keeps s0 s) : Keeps s0 (State.replaceConv s a1 a2 a3) := by
  unfold State.replaceConv
  repeat' first | with_reducible assumption | with_reducible apply State.onGat_keeps | with_reducible apply State.fault_keeps | with_reducible apply State.faultStop_keeps | split

theorem State.deBegin_keeps {s0 : State} (s : State) (a1 a2) (h : Keeps s0 s) : Keeps s0 (State.deBegin s a1 a2) := by
  unfold State.deBegin
  extract_lets x1 x2 x3 x4 x5 x6
  repeat' first | with_reducible assumption | with_reducible refine State.forChans_keeps _ _ _ (fun _ _ _ => ?_) ?_ | with_reducible apply State.onLoop_keeps

theorem State.arrive_keeps {s0 : State} (s : State) (a1) (h : Keeps s0 s) : Keeps s0 (State.arrive s a1) := by
  unfold State.arrive
  extract_lets x1 x2 x3 x4 x5 x6
  have kx6 : Keeps s0 x6 := by
    unfold x6
    repeat' first | with_reducible assumption | with_reducible apply State.faultStop_keeps | with_reducible apply State.onProg_keeps | split | simp only [Keeps.mk_iff]
  try clear_value x6
  repeat' first | with_reducible assumption | with_reducible apply State.faultStop_keeps | with_reducible apply State.onProg_keeps | split | simp only [Keeps.mk_iff]

theorem State.stepRange_keeps {s0 : State} (s : State) (a1) (h : Keeps s0 s) : Keeps s0 (State.stepRange s a1) := by
  unfold State.stepRange
  repeat' first | with_reducible assumption | with_reducible refine State.forChans_keeps _ _ _ (fun _ _ _ => ?_) ?_ | with_reducible apply State.rangeMoved_keeps | with_reducible apply State.onMeas_keeps

theorem State.toRest_keeps {s0 : State} (s : State) (a1) (h : Keeps s0 s) : Keeps s0 (State.toRest s a1) := by
  unfold State.toRest
  repeat' first | with_reducible assumption | with_reducible refine State.forChans_keeps _ _ _ (fun _ _ _ => ?_) ?_ | with_reducible apply State.setSt_keeps | with_reducible apply State.onLoop_keeps

theorem State.openIdle_keeps {s0 : State} (s : State) (a1) (h : Keeps s0 s) : Keeps s0 (State.openIdle s a1) := by
  unfold State.openIdle
  repeat' first | with_reducible assumption | with_reducible refine State.forChans_keeps _ _ _ (fun _ _ _ => ?_) ?_ | with_reducible apply State.onLoop_keeps

theorem State.stepOn_keeps {s0 : State} (s : State) (a1 a2) (h : Keeps s0 s) : Keeps s0 (State.stepOn s a1 a2) := by
  unfold State.stepOn
  extract_lets x1 x2 x3 x4 x5 x6 x7 x8 x9 x10 x11 x12 x13 x14
  have kx1 : Keeps s0 x1 := by
    unfold x1
    repeat' first | with_reducible assumption | with_reducible apply State.onProg_keeps | with_reducible apply State.faultStop_keeps | with_reducible apply State.toRest_keeps | with_reducible apply State.onChan_keeps | with_reducible apply State.stepRange_keeps | with_reducible apply State.openIdle_keeps | with_reducible apply State.arrive_keeps | with_reducible refine State.forChans_keeps _ _ _ (fun _ _ _ => ?_) ?_ | with_reducible apply State.onLoop_keeps | with_reducible apply State.deBegin_keeps | with_reducible apply State.onEis_keeps | with_reducible apply State.setSt_keeps | split
  try clear_value x1
  have kx8 : Keeps s0 x8 := by
    unfold x8
    repeat' first | with_reducible assumption | with_reducible apply State.onProg_keeps
  try clear_value x8
  have kx12 : Keeps s0 x12 := by
    unfold x12
    repeat' first | with_reducible assumption | with_reducible apply State.onProg_keeps | with_reducible apply State.faultStop_keeps | with_reducible apply State.toRest_keeps | with_reducible apply State.onChan_keeps
  try clear_value x12
  have kx13 : Keeps s0 x13 := by
    unfold x13
    repeat' first | with_reducible assumption | with_reducible apply State.onProg_keeps | with_reducible apply State.faultStop_keeps | with_reducible apply State.toRest_keeps | with_reducible apply State.onChan_keeps | with_reducible apply State.stepRange_keeps
  try clear_value x13
  have kx14 : Keeps s0 x14 := by
    unfold x14
    repeat' first | with_reducible assumption | with_reducible apply State.onProg_keeps | with_reducible apply State.faultStop_keeps | with_reducible apply State.toRest_keeps | with_reducible apply State.onChan_keeps | with_reducible apply State.stepRange_keeps | with_reducible apply State.openIdle_keeps | with_reducible apply State.arrive_keeps | with_reducible refine State.forChans_keeps _ _ _ (fun _ _ _ => ?_) ?_ | with_reducible apply State.onLoop_keeps | with_reducible apply State.deBegin_keeps | with_reducible apply State.onEis_keeps | with_reducible apply State.setSt_keeps | split
  try clear_value x14
  repeat' first | with_reducible assumption | with_reducible apply State.onProg_keeps | with_reducible apply State.faultStop_keeps | with_reducible apply State.toRest_keeps | with_reducible apply State.onChan_keeps | with_reducible apply State.stepRange_keeps | with_reducible apply State.openIdle_keeps | with_reducible apply State.arrive_keeps | with_reducible refine State.forChans_keeps _ _ _ (fun _ _ _ => ?_) ?_ | with_reducible apply State.onLoop_keeps | with_reducible apply State.deBegin_keeps | with_reducible apply State.onEis_keeps | with_reducible apply State.setSt_keeps | split

theorem State.enterWork_keeps {s0 : State} (s : State) (a1 a2) (h : Keeps s0 s) : Keeps s0 (State.enterWork s a1 a2) := by
  unfold State.enterWork
  extract_lets x1 x2 x3
  have kx1 : Keeps s0 x1 := by
    unfold x1
    repeat' first | with_reducible assumption | with_reducible apply State.onProg_keeps
  try clear_value x1
  have kx3 : Keeps s0 x3 := by
    unfold x3
    repeat' first | with_reducible assumption | with_reducible apply State.onProg_keeps | with_reducible apply State.onEst_keeps | with_reducible refine State.forChans_keeps _ _ _ (fun _ _ _ => ?_) ?_ | with_reducible apply State.onLoop_keeps | with_reducible apply State.setSt_keeps | with_reducible apply State.stepOn_keeps | split
  try clear_value x3
  repeat' first | with_reducible assumption | with_reducible apply State.onProg_keeps | with_reducible apply State.onEst_keeps | with_reducible refine State.forChans_keeps _ _ _ (fun _ _ _ => ?_) ?_ | with_reducible apply State.onLoop_keeps | with_reducible apply State.setSt_keeps | with_reducible apply State.stepOn_keeps | split

theorem State.jump_keeps {s0 : State} (s : State) (a1 a2) (h : Keeps s0 s) : Keeps s0 (State.jump s a1 a2) := by
  unfold State.jump
  repeat' first | with_reducible assumption | with_reducible apply State.onProg_keeps

theorem State.markRec_keeps {s0 : State} (s : State) (a1 a2 a3) (h : Keeps s0 s) : Keeps s0 (State.markRec s a1 a2 a3) := by
  unfold State.markRec
  extract_lets x1
  repeat' first | with_reducible assumption | with_reducible apply State.chanRec_keeps

theorem State.chain_keeps {s0 : State} (s : State) (a1 a2 a3) (h : Keeps s0 s) : Keeps s0 (State.chain a1 a2 a3 s) := by
  induction a1 generalizing a2 a3 s with
  | zero => unfold State.chain; exact State.faultStop_keeps _ _ _ h
  | succ n ih =>
    unfold State.chain
    extract_lets x1 x2 x3
    clear_value x3
    repeat' first | with_reducible assumption | with_reducible apply ih | with_reducible apply State.faultStop_keeps | with_reducible apply State.enterWork_keeps | with_reducible apply State.onProg_keeps | with_reducible apply State.jump_keeps | with_reducible apply State.rampStop_keeps | with_reducible apply State.markRec_keeps | split

theorem State.goTo_keeps {s0 : State} (s : State) (a1 a2) (h : Keeps s0 s) : Keeps s0 (State.goTo s a1 a2) := by
  unfold State.goTo
  repeat' first | with_reducible assumption | with_reducible apply State.chain_keeps | with_reducible apply State.onProg_keeps

theorem State.xover_keeps {s0 : State} (s : State) (a1) (h : Keeps s0 s) : Keeps s0 (State.xover s a1).1 := by
  unfold State.xover
  extract_lets x1
  repeat' first | with_reducible assumption | with_reducible apply State.onProt_keeps | split | simp only

theorem State.takeSlot_keeps {s0 : State} (s : State) (a1 a2 a3) (h : Keeps s0 s) : Keeps s0 (State.takeSlot s a1 a2 a3) := by
  unfold State.takeSlot
  extract_lets x1 x2
  repeat' first | with_reducible assumption | with_reducible apply State.xover_keeps | with_reducible apply State.endStep_keeps | with_reducible apply State.faultStop_keeps | with_reducible apply State.goTo_keeps | with_reducible apply State.jump_keeps | with_reducible apply State.rampStop_keeps | split | simp only [Keeps.mk_iff] | with_reducible refine Keeps.foldl (fun _ _ _ => ?_) ?_ | with_reducible refine Keeps.foldl1 (fun _ _ _ => ?_) ?_ | with_reducible refine Keeps.foldl2 (fun _ _ _ => ?_) ?_ | dsimp only | with_reducible refine Keeps.of_fst ‹_ = (_, _)› ?_

theorem State.ownEnd_keeps {s0 : State} (s : State) (a1) (h : Keeps s0 s) : Keeps s0 (State.ownEnd s a1) := by
  unfold State.ownEnd
  extract_lets x1
  repeat' first | with_reducible assumption | with_reducible apply State.xover_keeps | with_reducible apply State.endStep_keeps | with_reducible apply State.faultStop_keeps | with_reducible apply State.goTo_keeps | split | simp only [Keeps.mk_iff] | with_reducible refine Keeps.foldl (fun _ _ _ => ?_) ?_ | with_reducible refine Keeps.foldl1 (fun _ _ _ => ?_) ?_ | with_reducible refine Keeps.foldl2 (fun _ _ _ => ?_) ?_ | dsimp only | with_reducible refine Keeps.of_fst ‹_ = (_, _)› ?_

theorem State.slotOrEnd_keeps {s0 : State} (s : State) (a1) (h : Keeps s0 s) : Keeps s0 (State.slotOrEnd s a1) := by
  unfold State.slotOrEnd
  repeat' first | with_reducible assumption | with_reducible apply State.takeSlot_keeps | with_reducible apply State.ownEnd_keeps | split

theorem State.beginSettle_keeps {s0 : State} (s : State) (a1 a2) (h : Keeps s0 s) : Keeps s0 (State.beginSettle s a1 a2).1 := by
  unfold State.beginSettle
  repeat' first | with_reducible assumption | with_reducible refine State.forChans_keeps _ _ _ (fun _ _ _ => ?_) ?_ | with_reducible apply State.onLoop_keeps | with_reducible apply State.onProt_keeps | with_reducible apply State.setSt_keeps | split

theorem State.firstStep_keeps {s0 : State} (s : State) (a1 a2) (h : Keeps s0 s) : Keeps s0 (State.firstStep s a1 a2) := by
  unfold State.firstStep
  repeat' first | with_reducible assumption | with_reducible apply State.chain_keeps | with_reducible apply State.onProg_keeps

theorem State.sampleRaw_keeps {s0 : State} (s : State) (a1 a2) (h : Keeps s0 s) : Keeps s0 (State.sampleRaw s a1 a2) := by
  unfold State.sampleRaw
  extract_lets x1 x2 x3 x4 x5 x6 x7 x8 x9 x10 x11 x12 x13 x14
  repeat' first | with_reducible assumption | with_reducible apply State.onChan_keeps

theorem State.sampleOne_keeps {s0 : State} (s : State) (a1 a2) (h : Keeps s0 s) : Keeps s0 (State.sampleOne s a1 a2) := by
  unfold State.sampleOne
  extract_lets x1 x2 x3 x4
  have kx2 : Keeps s0 x2 := by
    unfold x2
    repeat' first | with_reducible assumption | with_reducible apply State.rangeMoved_keeps | with_reducible apply State.sampleRaw_keeps
  try clear_value x2
  repeat' first | with_reducible assumption | with_reducible apply State.rangeMoved_keeps | with_reducible apply State.sampleRaw_keeps | with_reducible apply State.onEis_keeps | split

theorem State.pushTotal_keeps {s0 : State} (s : State) (a1) (h : Keeps s0 s) : Keeps s0 (State.pushTotal s a1) := by
  unfold State.pushTotal
  extract_lets x1
  repeat' first | with_reducible assumption | with_reducible apply State.onLoop_keeps

theorem State.integrate_keeps {s0 : State} (s : State) (a1 a2) (h : Keeps s0 s) : Keeps s0 (State.integrate s a1 a2) := by
  unfold State.integrate
  extract_lets x1 x2 x3 x4 x5 x6 x7 x8 x9 x10
  have kx8 : Keeps s0 x8 := by
    unfold x8
    repeat' first | with_reducible assumption | with_reducible refine State.forChans_keeps _ _ _ (fun _ _ _ => ?_) ?_ | with_reducible apply State.onChan_keeps
  try clear_value x8
  repeat' first | with_reducible assumption | with_reducible refine State.forChans_keeps _ _ _ (fun _ _ _ => ?_) ?_ | with_reducible apply State.onChan_keeps

theorem State.countTicks_keeps {s0 : State} (s : State) (a1) (h : Keeps s0 s) : Keeps s0 (State.countTicks s a1) := by
  unfold State.countTicks
  extract_lets x1 x2 x3 x4 x5 x6 x7 x8 x9
  have kx9 : Keeps s0 x9 := by
    unfold x9
    repeat' first | with_reducible assumption | with_reducible refine State.forChans_keeps _ _ _ (fun _ _ _ => ?_) ?_ | with_reducible apply State.onLoop_keeps | with_reducible apply State.onProt_keeps
  try clear_value x9
  repeat' first | with_reducible assumption | with_reducible refine State.forChans_keeps _ _ _ (fun _ _ _ => ?_) ?_ | with_reducible apply State.onLoop_keeps | with_reducible apply State.onProt_keeps | with_reducible apply State.onProg_keeps

theorem State.refCycle_keeps {s0 : State} (s : State) (a1) (h : Keeps s0 s) : Keeps s0 (State.refCycle s a1) := by
  unfold State.refCycle
  extract_lets x1 x2 x3 x4 x5 x6 x7 x8 x9 x10 x11 x12 x13 x14 x15 x16 x17 x18 x19 x20
  have kx20 : Keeps s0 x20 := by
    unfold x20
    repeat' first | with_reducible assumption | with_reducible apply State.onLoop_keeps | with_reducible apply State.onChan_keeps
  try clear_value x20
  repeat' first | with_reducible assumption | with_reducible apply State.onLoop_keeps | with_reducible apply State.onChan_keeps | with_reducible refine State.forChans_keeps _ _ _ (fun _ _ _ => ?_) ?_ | with_reducible apply State.onProt_keeps | split

theorem State.shareCycle_keeps {s0 : State} (s : State) (a1) (h : Keeps s0 s) : Keeps s0 (State.shareCycle s a1) := by
  unfold State.shareCycle
  extract_lets x1 x2 x3 x4 x5 x6 x7
  have kx7 : Keeps s0 x7 := by
    unfold x7
    repeat' first | with_reducible assumption | with_reducible refine State.forChans_keeps _ _ _ (fun _ _ _ => ?_) ?_ | with_reducible apply State.onLoop_keeps
  try clear_value x7
  repeat' first | with_reducible assumption | with_reducible refine State.forChans_keeps _ _ _ (fun _ _ _ => ?_) ?_ | with_reducible apply State.onLoop_keeps

theorem State.deCycle_keeps {s0 : State} (s : State) (a1) (h : Keeps s0 s) : Keeps s0 (State.deCycle s a1) := by
  unfold State.deCycle
  extract_lets x1 x2 x3 x4 x5 x6 x7 x8 x9 x10
  have kx10 : Keeps s0 x10 := by
    unfold x10
    repeat' first | with_reducible assumption | with_reducible apply State.onLoop_keeps
  try clear_value x10
  repeat' first | with_reducible assumption | with_reducible apply State.onLoop_keeps | with_reducible refine State.forChans_keeps _ _ _ (fun _ _ _ => ?_) ?_

theorem State.setDuty_keeps {s0 : State} (s : State) (a1 a2) (h : Keeps s0 s) : Keeps s0 (State.setDuty s a1 a2) := by
  unfold State.setDuty
  extract_lets x1
  repeat' first | with_reducible assumption | with_reducible apply State.draw_keeps | with_reducible apply State.onLoop_keeps | split

theorem State.currentLoop_keeps {s0 : State} (s : State) (a1 a2 a3) (h : Keeps s0 s) : Keeps s0 (State.currentLoop s a1 a2 a3) := by
  unfold State.currentLoop
  extract_lets x1 x2 x3 x4 x5 x6 x7 x8 x9 x10 x11
  repeat' first | with_reducible assumption | with_reducible apply State.onLoop_keeps | with_reducible apply State.setDuty_keeps | split

theorem State.feedForward_keeps {s0 : State} (s : State) (a1) (h : Keeps s0 s) : Keeps s0 (State.feedForward s a1) := by
  unfold State.feedForward
  repeat' first | with_reducible assumption | with_reducible refine State.forChans_keeps _ _ _ (fun _ _ _ => ?_) ?_ | with_reducible apply State.onLoop_keeps | with_reducible apply State.setDuty_keeps

theorem State.updateEst_keeps {s0 : State} (s : State) (a1 a2) (h : Keeps s0 s) : Keeps s0 (State.updateEst s a1 a2) := by
  unfold State.updateEst
  repeat' first | with_reducible assumption | with_reducible apply State.draw_keeps | with_reducible apply State.onEst_keeps

theorem State.wakeEst_keeps {s0 : State} (s : State) (a1) (h : Keeps s0 s) : Keeps s0 (State.wakeEst s a1) := by
  unfold State.wakeEst
  extract_lets x1
  repeat' first | with_reducible assumption | with_reducible apply State.onEst_keeps | with_reducible apply State.updateEst_keeps | split

theorem State.cellChange_keeps {s0 : State} (s : State) (a1 a2) (h : Keeps s0 s) : Keeps s0 (State.cellChange s a1 a2) := by
  unfold State.cellChange
  extract_lets x1 x2
  have kx1 : Keeps s0 x1 := by
    unfold x1
    repeat' first | with_reducible assumption | with_reducible apply State.clearMarks_keeps
  try clear_value x1
  have kx2 : Keeps s0 x2 := by
    unfold x2
    repeat' first | with_reducible assumption | with_reducible apply State.clearMarks_keeps | with_reducible apply State.onEst_keeps
  try clear_value x2
  repeat' first | with_reducible assumption | with_reducible apply State.clearMarks_keeps | with_reducible apply State.onEst_keeps | with_reducible apply State.chanEvt_keeps

end Sys2Proof.Machine
end

