-- ==== Sys2Proof/Laws/KeepsGather.lean ====
section
/-! SUPPORT. What the rows of the Gathers, the estimator, the meters and the time services keep: one lemma per operation (`Keeps`: the fuses, the queue behind the
command, and the canonical form of both memories), for later proofs to cite in place of unfolding it. -/

namespace Sys2Proof.Machine

open Sys2Proof

theorem State.toneCycle_keeps {s0 : State} (s : State) (a1) (h : Keeps s0 s) : Keeps s0 (State.toneCycle s a1) := by
  unfold State.toneCycle
  extract_lets x1 x2 x3 x4 x5
  repeat' first | with_reducible assumption | with_reducible apply State.onEis_keeps | split

theorem State.loopCycle_keeps {s0 : State} (s : State) (a1 a2) (h : Keeps s0 s) : Keeps s0 (State.loopCycle s a1 a2) := by
  unfold State.loopCycle
  extract_lets x1
  have kx1 : Keeps s0 x1 := by
    unfold x1
    repeat' first | with_reducible assumption | with_reducible apply State.shareCycle_keeps | with_reducible apply State.refCycle_keeps | with_reducible apply State.toneCycle_keeps
  try clear_value x1
  repeat' first | with_reducible assumption | with_reducible apply State.shareCycle_keeps | with_reducible apply State.refCycle_keeps | with_reducible apply State.toneCycle_keeps | with_reducible refine State.forChans_keeps _ _ _ (fun _ _ _ => ?_) ?_ | with_reducible apply State.currentLoop_keeps

theorem State.retryStop_keeps {s0 : State} (s : State) (a1 a2) (h : Keeps s0 s) : Keeps s0 (State.retryStop s a1 a2) := by
  unfold State.retryStop
  extract_lets x1 x2 x3 x4 x5 x6
  have kx6 : Keeps s0 x6 := by
    unfold x6
    repeat' first | with_reducible assumption | with_reducible refine State.forChans_keeps _ _ _ (fun _ _ _ => ?_) ?_ | with_reducible apply State.faultOne_keeps | with_reducible apply State.onProt_keeps
  try clear_value x6
  repeat' first | with_reducible assumption | with_reducible refine State.forChans_keeps _ _ _ (fun _ _ _ => ?_) ?_ | with_reducible apply State.faultOne_keeps | with_reducible apply State.onProt_keeps | with_reducible apply State.onProg_keeps

theorem State.ckStop_keeps {s0 : State} (s : State) (a1) (h : Keeps s0 s) : Keeps s0 (State.ckStop s a1) := by
  unfold State.ckStop
  extract_lets x1 x2 x3 x4
  have kx3 : Keeps s0 x3 := by
    unfold x3
    repeat' first | with_reducible assumption | with_reducible refine State.forChans_keeps _ _ _ (fun _ _ _ => ?_) ?_ | with_reducible apply State.onProt_keeps
  try clear_value x3
  repeat' first | with_reducible assumption | with_reducible refine State.forChans_keeps _ _ _ (fun _ _ _ => ?_) ?_ | with_reducible apply State.onProt_keeps | with_reducible apply State.retryStop_keeps | with_reducible apply State.faultStop_keeps | split

theorem State.ssSample_keeps {s0 : State} (s : State) (a1) (h : Keeps s0 s) : Keeps s0 (State.ssSample s a1) := by
  unfold State.ssSample
  repeat' first | with_reducible assumption | with_reducible apply State.onLoop_keeps

theorem State.driveCycle_keeps {s0 : State} (s : State) (a1 a2 a3) (h : Keeps s0 s) : Keeps s0 (State.driveCycle s a1 a2 a3) := by
  unfold State.driveCycle
  extract_lets x1 x2 x3 x4
  have kx3 : Keeps s0 x3 := by
    unfold x3
    repeat' first | with_reducible assumption | with_reducible refine State.forChans_keeps _ _ _ (fun _ _ _ => ?_) ?_ | with_reducible apply State.onLoop_keeps
  try clear_value x3
  have kx4 : Keeps s0 x4 := by
    unfold x4
    repeat' first | with_reducible assumption | with_reducible refine State.forChans_keeps _ _ _ (fun _ _ _ => ?_) ?_ | with_reducible apply State.onLoop_keeps | with_reducible apply State.openIdle_keeps | with_reducible apply State.onProg_keeps | with_reducible apply State.loopCycle_keeps | split
  try clear_value x4
  repeat' first | with_reducible assumption | with_reducible refine State.forChans_keeps _ _ _ (fun _ _ _ => ?_) ?_ | with_reducible apply State.onLoop_keeps | with_reducible apply State.openIdle_keeps | with_reducible apply State.onProg_keeps | with_reducible apply State.loopCycle_keeps | split

theorem State.leaderCycle_keeps {s0 : State} (s : State) (a1) (h : Keeps s0 s) : Keeps s0 (State.leaderCycle s a1) := by
  unfold State.leaderCycle
  extract_lets x1 x2 x3
  have kx2 : Keeps s0 x2 := by
    unfold x2
    repeat' first | with_reducible assumption | with_reducible apply State.ssSample_keeps
  try clear_value x2
  have kx3 : Keeps s0 x3 := by
    unfold x3
    repeat' first | with_reducible assumption | with_reducible apply State.ssSample_keeps | with_reducible apply State.ckStop_keeps | with_reducible apply State.faultStop_keeps | with_reducible apply State.deCycle_keeps | with_reducible apply State.driveCycle_keeps | with_reducible apply State.takeSlot_keeps | split
  try clear_value x3
  repeat' first | with_reducible assumption | with_reducible apply State.ssSample_keeps | with_reducible apply State.ckStop_keeps | with_reducible apply State.faultStop_keeps | with_reducible apply State.deCycle_keeps | with_reducible apply State.driveCycle_keeps | with_reducible apply State.takeSlot_keeps | split

theorem State.nextPeriod_keeps {s0 : State} (s : State) (a1) (h : Keeps s0 s) : Keeps s0 (State.nextPeriod s a1) := by
  unfold State.nextPeriod
  extract_lets x1 x2
  have kx1 : Keeps s0 x1 := by
    unfold x1
    repeat' first | with_reducible assumption | with_reducible apply State.onGat_keeps
  try clear_value x1
  repeat' first | with_reducible assumption | with_reducible apply State.onGat_keeps | with_reducible refine State.forChans_keeps _ _ _ (fun _ _ _ => ?_) ?_ | with_reducible apply State.onLoop_keeps

theorem State.demodCycle_keeps {s0 : State} (s : State) (a1 a2 a3) (h : Keeps s0 s) : Keeps s0 (State.demodCycle s a1 a2 a3) := by
  unfold State.demodCycle
  extract_lets x1 x2 x3 x4 x5 x6 x7
  repeat' first | with_reducible assumption | with_reducible apply State.onEis_keeps | split

theorem State.controlCycle_keeps {s0 : State} (s : State) (a1 a2) (h : Keeps s0 s) : Keeps s0 (State.controlCycle s a1 a2) := by
  unfold State.controlCycle
  extract_lets x1 x2 x3 x4 x5 x6 x7 x8
  have kx1 : Keeps s0 x1 := by
    unfold x1
    repeat' first | with_reducible assumption | with_reducible apply State.nextPeriod_keeps | with_reducible apply State.tickTo_keeps
  try clear_value x1
  have kx3 : Keeps s0 x3 := by
    unfold x3
    repeat' first | with_reducible assumption
  try clear_value x3
  have kx5 : Keeps s0 x5 := by
    unfold x5
    repeat' first | with_reducible assumption | with_reducible apply State.nextPeriod_keeps | with_reducible apply State.tickTo_keeps | with_reducible refine State.forChans_keeps _ _ _ (fun _ _ _ => ?_) ?_ | with_reducible apply State.sampleOne_keeps
  try clear_value x5
  have kx6 : Keeps s0 x6 := by
    unfold x6
    repeat' first | with_reducible assumption | with_reducible apply State.nextPeriod_keeps | with_reducible apply State.tickTo_keeps | with_reducible refine State.forChans_keeps _ _ _ (fun _ _ _ => ?_) ?_ | with_reducible apply State.sampleOne_keeps | with_reducible apply State.integrate_keeps | with_reducible apply State.demodCycle_keeps | with_reducible apply State.countTicks_keeps | with_reducible apply State.pushTotal_keeps | with_reducible apply State.onProg_keeps | with_reducible apply State.refreshMode_keeps | with_reducible apply State.takeInputs_keeps | with_reducible apply State.leaderCycle_keeps | split
  try clear_value x6
  have kx8 : Keeps s0 x8 := by
    unfold x8
    repeat' first | with_reducible assumption | with_reducible apply State.nextPeriod_keeps | with_reducible apply State.tickTo_keeps | with_reducible refine State.forChans_keeps _ _ _ (fun _ _ _ => ?_) ?_ | with_reducible apply State.sampleOne_keeps | with_reducible apply State.integrate_keeps | with_reducible apply State.demodCycle_keeps | with_reducible apply State.countTicks_keeps | with_reducible apply State.pushTotal_keeps | with_reducible apply State.onProg_keeps | with_reducible apply State.refreshMode_keeps | with_reducible apply State.takeInputs_keeps | with_reducible apply State.leaderCycle_keeps | split
  try clear_value x8
  repeat' first | with_reducible assumption | with_reducible apply State.nextPeriod_keeps | with_reducible apply State.tickTo_keeps | with_reducible refine State.forChans_keeps _ _ _ (fun _ _ _ => ?_) ?_ | with_reducible apply State.sampleOne_keeps | with_reducible apply State.integrate_keeps | with_reducible apply State.demodCycle_keeps | with_reducible apply State.countTicks_keeps | with_reducible apply State.pushTotal_keeps | with_reducible apply State.onProg_keeps | with_reducible apply State.refreshMode_keeps | with_reducible apply State.takeInputs_keeps | with_reducible apply State.leaderCycle_keeps | split

theorem execControlCycle_keeps {s0 : State} (s : State) (a1 a2) (h : Keeps s0 s) : KeepsOut s0 (execControlCycle a1 a2 s) := by
  unfold execControlCycle
  repeat' first | with_reducible assumption | with_reducible apply KeepsOut.next | with_reducible exact KeepsOut.fault | with_reducible apply State.controlCycle_keeps

theorem State.goSwitch_keeps {s0 : State} (s : State) (a1) (h : Keeps s0 s) : Keeps s0 (State.goSwitch s a1) := by
  unfold State.goSwitch
  repeat' first | with_reducible assumption | with_reducible apply State.feedForward_keeps | split

theorem State.keepPoint_keeps {s0 : State} (s : State) (a1 a2) (h : Keeps s0 s) : Keeps s0 (State.keepPoint s a1 a2) := by
  unfold State.keepPoint
  repeat' first | with_reducible assumption | with_reducible apply State.onEis_keeps | split

theorem State.takeoverGo_keeps {s0 : State} (s : State) (a1 a2) (h : Keeps s0 s) : Keeps s0 (State.takeoverGo s a1 a2) := by
  unfold State.takeoverGo
  extract_lets x1 x2 x3 x4 x5
  have kx3 : Keeps s0 x3 := by
    unfold x3
    repeat' first | with_reducible assumption | with_reducible refine State.forChans_keeps _ _ _ (fun _ _ _ => ?_) ?_ | with_reducible apply State.setSt_keeps | with_reducible apply State.onLoop_keeps
  try clear_value x3
  have kx4 : Keeps s0 x4 := by
    unfold x4
    repeat' first | with_reducible assumption | with_reducible refine State.forChans_keeps _ _ _ (fun _ _ _ => ?_) ?_ | with_reducible apply State.setSt_keeps | with_reducible apply State.onLoop_keeps
  try clear_value x4
  have kx5 : Keeps s0 x5 := by
    unfold x5
    repeat' first | with_reducible assumption | with_reducible refine State.forChans_keeps _ _ _ (fun _ _ _ => ?_) ?_ | with_reducible apply State.setSt_keeps | with_reducible apply State.onLoop_keeps | with_reducible apply State.onEis_keeps | with_reducible apply State.goSwitch_keeps | split
  try clear_value x5
  repeat' first | with_reducible assumption | with_reducible refine State.forChans_keeps _ _ _ (fun _ _ _ => ?_) ?_ | with_reducible apply State.setSt_keeps | with_reducible apply State.onLoop_keeps | with_reducible apply State.onEis_keeps | with_reducible apply State.goSwitch_keeps

theorem State.settleEnd_keeps {s0 : State} (s : State) (a1 a2) (h : Keeps s0 s) : Keeps s0 (State.settleEnd s a1 a2) := by
  unfold State.settleEnd
  extract_lets x1 x2 x3 x4 x5 x6 x7 x8 x9 x10
  have kx5 : Keeps s0 x5 := by
    unfold x5
    repeat' first | with_reducible assumption | with_reducible refine State.forChans_keeps _ _ _ (fun _ _ _ => ?_) ?_ | with_reducible apply State.onLoop_keeps
  try clear_value x5
  have kx6 : Keeps s0 x6 := by
    unfold x6
    repeat' first | with_reducible assumption | with_reducible refine State.forChans_keeps _ _ _ (fun _ _ _ => ?_) ?_ | with_reducible apply State.onLoop_keeps
  try clear_value x6
  have kx10 : Keeps s0 x10 := by
    unfold x10
    repeat' first | with_reducible assumption | with_reducible refine State.forChans_keeps _ _ _ (fun _ _ _ => ?_) ?_ | with_reducible apply State.onLoop_keeps | with_reducible apply State.faultStop_keeps | with_reducible apply State.firstStep_keeps | with_reducible apply State.stepOn_keeps | with_reducible apply State.takeoverGo_keeps | with_reducible apply State.keepPoint_keeps | with_reducible apply State.onProg_keeps | with_reducible apply State.goSwitch_keeps | split
  try clear_value x10
  repeat' first | with_reducible assumption | with_reducible refine State.forChans_keeps _ _ _ (fun _ _ _ => ?_) ?_ | with_reducible apply State.onLoop_keeps | with_reducible apply State.faultStop_keeps | with_reducible apply State.firstStep_keeps | with_reducible apply State.stepOn_keeps | with_reducible apply State.takeoverGo_keeps | with_reducible apply State.keepPoint_keeps | with_reducible apply State.onProg_keeps | with_reducible apply State.goSwitch_keeps | split

theorem execSettleEnd_keeps {s0 : State} (s : State) (a1 a2) (h : Keeps s0 s) : KeepsOut s0 (execSettleEnd a1 a2 s) := by
  unfold execSettleEnd
  repeat' first | with_reducible assumption | with_reducible apply KeepsOut.next | with_reducible exact KeepsOut.fault | with_reducible apply State.refreshMode_keeps | with_reducible apply State.settleEnd_keeps

theorem execSoftstartEnd_keeps {s0 : State} (s : State) (a1) (h : Keeps s0 s) : KeepsOut s0 (execSoftstartEnd a1 s) := by
  unfold execSoftstartEnd
  extract_lets x1 x2
  repeat' first | with_reducible assumption | with_reducible apply KeepsOut.next | with_reducible exact KeepsOut.fault | with_reducible apply State.xover_keeps | with_reducible refine State.forChans_keeps _ _ _ (fun _ _ _ => ?_) ?_ | with_reducible apply State.setSt_keeps | with_reducible apply State.refreshMode_keeps | with_reducible apply State.faultStop_keeps | split

theorem execRampedStopEnd_keeps {s0 : State} (s : State) (a1) (h : Keeps s0 s) : KeepsOut s0 (execRampedStopEnd a1 s) := by
  unfold execRampedStopEnd
  extract_lets x1 x2
  repeat' first | with_reducible assumption | with_reducible apply KeepsOut.next | with_reducible exact KeepsOut.fault | with_reducible apply State.refreshMode_keeps | with_reducible apply State.finishStop_keeps | split

theorem execTcoffExpiry_keeps {s0 : State} (s : State) (a1) (h : Keeps s0 s) : KeepsOut s0 (execTcoffExpiry a1 s) := by
  unfold execTcoffExpiry
  extract_lets x1
  repeat' first | with_reducible assumption | with_reducible apply KeepsOut.next | with_reducible exact KeepsOut.fault | with_reducible apply State.onLoop_keeps | split

theorem execTakeoverRampEnd_keeps {s0 : State} (s : State) (a1) (h : Keeps s0 s) : KeepsOut s0 (execTakeoverRampEnd a1 s) := by
  unfold execTakeoverRampEnd
  extract_lets x1 x2
  repeat' first | with_reducible assumption | with_reducible apply KeepsOut.next | with_reducible exact KeepsOut.fault | with_reducible refine State.forChans_keeps _ _ _ (fun _ _ _ => ?_) ?_ | with_reducible apply State.onLoop_keeps | split

theorem execPulseLevelChange_keeps {s0 : State} (s : State) (a1) (h : Keeps s0 s) : KeepsOut s0 (execPulseLevelChange a1 s) := by
  unfold execPulseLevelChange
  extract_lets x1 x2 x3 x4 x5 x6
  repeat' first | with_reducible assumption | with_reducible apply KeepsOut.next | with_reducible exact KeepsOut.fault | with_reducible apply State.onProg_keeps | split

theorem execDcirPhaseChange_keeps {s0 : State} (s : State) (a1) (h : Keeps s0 s) : KeepsOut s0 (execDcirPhaseChange a1 s) := by
  unfold execDcirPhaseChange
  extract_lets x1 x2
  repeat' first | with_reducible assumption | with_reducible apply KeepsOut.next | with_reducible exact KeepsOut.fault | with_reducible apply State.onProg_keeps | split

theorem execDcirStepEnd_keeps {s0 : State} (s : State) (a1) (h : Keeps s0 s) : KeepsOut s0 (execDcirStepEnd a1 s) := by
  unfold execDcirStepEnd
  extract_lets x1 x2
  repeat' first | with_reducible assumption | with_reducible apply KeepsOut.next | with_reducible exact KeepsOut.fault | with_reducible apply State.refreshMode_keeps | with_reducible apply State.driveCycle_keeps | with_reducible apply State.slotOrEnd_keeps | split

theorem execSyncRelease_keeps {s0 : State} (s : State) (a1 a2) (h : Keeps s0 s) : KeepsOut s0 (execSyncRelease a1 a2 s) := by
  unfold execSyncRelease
  repeat' first | with_reducible assumption | with_reducible apply KeepsOut.next | with_reducible exact KeepsOut.fault | with_reducible apply State.refreshMode_keeps | with_reducible refine State.forChans_keeps _ _ _ (fun _ _ _ => ?_) ?_ | with_reducible apply State.driveCycle_keeps | with_reducible apply State.slotOrEnd_keeps | split | simp only [Keeps.mk_iff]

theorem execGpioEdge_keeps {s0 : State} (s : State) (a1 a2) (h : Keeps s0 s) : KeepsOut s0 (execGpioEdge a1 a2 s) := by
  unfold execGpioEdge
  extract_lets x1
  repeat' first | with_reducible assumption | with_reducible apply KeepsOut.next | with_reducible exact KeepsOut.fault | with_reducible refine State.forChans_keeps _ _ _ (fun _ _ _ => ?_) ?_ | with_reducible apply State.onProg_keeps | split

theorem execCrackOff_keeps {s0 : State} (s : State) (a1) (h : Keeps s0 s) : KeepsOut s0 (execCrackOff a1 s) := by
  unfold execCrackOff
  extract_lets x1 x2 x3 x4 x5
  have kx4 : Keeps s0 x4 := by
    unfold x4
    repeat' first | with_reducible assumption | with_reducible apply KeepsOut.next | with_reducible exact KeepsOut.fault | with_reducible apply State.onProt_keeps
  try clear_value x4
  have kx5 : Keeps s0 x5 := by
    unfold x5
    repeat' first | with_reducible assumption | with_reducible apply KeepsOut.next | with_reducible exact KeepsOut.fault | with_reducible apply State.onProt_keeps | with_reducible apply State.onChan_keeps
  try clear_value x5
  repeat' first | with_reducible assumption | with_reducible apply KeepsOut.next | with_reducible exact KeepsOut.fault | with_reducible apply State.onProt_keeps | with_reducible apply State.onChan_keeps | with_reducible apply State.onLoop_keeps | split

theorem execCrackOffRetry_keeps {s0 : State} (s : State) (a1) (h : Keeps s0 s) : KeepsOut s0 (execCrackOffRetry a1 s) := by
  unfold execCrackOffRetry
  extract_lets x1 x2 x3
  have kx3 : Keeps s0 x3 := by
    unfold x3
    repeat' first | with_reducible assumption | with_reducible apply KeepsOut.next | with_reducible exact KeepsOut.fault | with_reducible refine State.forChans_keeps _ _ _ (fun _ _ _ => ?_) ?_ | with_reducible apply State.onProt_keeps
  try clear_value x3
  repeat' first | with_reducible assumption | with_reducible apply KeepsOut.next | with_reducible exact KeepsOut.fault | with_reducible refine State.forChans_keeps _ _ _ (fun _ _ _ => ?_) ?_ | with_reducible apply State.onProt_keeps | with_reducible apply State.refreshMode_keeps | with_reducible apply State.beginSettle_keeps | split

theorem execRetryCountReset_keeps {s0 : State} (s : State) (a1) (h : Keeps s0 s) : KeepsOut s0 (execRetryCountReset a1 s) := by
  unfold execRetryCountReset
  repeat' first | with_reducible assumption | with_reducible apply KeepsOut.next | with_reducible exact KeepsOut.fault | with_reducible apply State.onProt_keeps | split

theorem execSlowOvl_keeps {s0 : State} (s : State) (a1) (h : Keeps s0 s) : KeepsOut s0 (execSlowOvl a1 s) := by
  unfold execSlowOvl
  repeat' first | with_reducible assumption | with_reducible apply KeepsOut.next | with_reducible exact KeepsOut.fault | with_reducible apply State.refreshMode_keeps | with_reducible apply State.faultStop_keeps | split

theorem execReverseCell_keeps {s0 : State} (s : State) (a1) (h : Keeps s0 s) : KeepsOut s0 (execReverseCell a1 s) := by
  unfold execReverseCell
  extract_lets x1 x2
  repeat' first | with_reducible assumption | with_reducible apply KeepsOut.next | with_reducible exact KeepsOut.fault | with_reducible apply State.onProt_keeps | with_reducible apply State.refreshMode_keeps | with_reducible apply State.faultStop_keeps | with_reducible apply State.faultEvent_keeps | split

theorem execContactLoss_keeps {s0 : State} (s : State) (a1) (h : Keeps s0 s) : KeepsOut s0 (execContactLoss a1 s) := by
  unfold execContactLoss
  extract_lets x1 x2
  have kx2 : Keeps s0 x2 := by
    unfold x2
    repeat' first | with_reducible assumption | with_reducible apply KeepsOut.next | with_reducible exact KeepsOut.fault | with_reducible apply State.faultStop_keeps | with_reducible apply State.faultEvent_keeps | with_reducible apply State.refreshMode_keeps | with_reducible apply State.cellChange_keeps | split
  try clear_value x2
  repeat' first | with_reducible assumption | with_reducible apply KeepsOut.next | with_reducible exact KeepsOut.fault | with_reducible apply State.faultStop_keeps | with_reducible apply State.faultEvent_keeps | with_reducible apply State.refreshMode_keeps | with_reducible apply State.cellChange_keeps | split

theorem State.cellTemp_keeps {s0 : State} (s : State) (a1 a2) (h : Keeps s0 s) : Keeps s0 (State.cellTemp s a1 a2) := by
  unfold State.cellTemp
  extract_lets x1 x2 x3 x4
  repeat' first | with_reducible assumption | with_reducible apply State.onMeas_keeps

theorem State.stageTemp_keeps {s0 : State} (s : State) (a1 a2) (h : Keeps s0 s) : Keeps s0 (State.stageTemp s a1 a2) := by
  unfold State.stageTemp
  extract_lets x1 x2 x3 x4 x5
  repeat' first | with_reducible assumption | with_reducible apply State.onGat_keeps

theorem State.thermal_keeps {s0 : State} (s : State) (a1) (h : Keeps s0 s) : Keeps s0 (State.thermal s a1) := by
  unfold State.thermal
  extract_lets x1 x2 x3 x4
  have kx4 : Keeps s0 x4 := by
    unfold x4
    repeat' first | with_reducible assumption | with_reducible apply State.onProt_keeps
  try clear_value x4
  repeat' first | with_reducible assumption | with_reducible apply State.onProt_keeps | with_reducible apply State.faultStop_keeps | split

theorem execTemperatureUpdate_keeps {s0 : State} (s : State) (a1 a2 a3) (h : Keeps s0 s) : KeepsOut s0 (execTemperatureUpdate a1 a2 a3 s) := by
  unfold execTemperatureUpdate
  extract_lets x1 x2
  have kx1 : Keeps s0 x1 := by
    unfold x1
    repeat' first | with_reducible assumption | with_reducible apply KeepsOut.next | with_reducible exact KeepsOut.fault | with_reducible refine State.forChans_keeps _ _ _ (fun _ _ _ => ?_) ?_ | with_reducible apply State.cellTemp_keeps
  try clear_value x1
  have kx2 : Keeps s0 x2 := by
    unfold x2
    repeat' first | with_reducible assumption | with_reducible apply KeepsOut.next | with_reducible exact KeepsOut.fault | with_reducible refine State.forChans_keeps _ _ _ (fun _ _ _ => ?_) ?_ | with_reducible apply State.cellTemp_keeps | with_reducible apply State.stageTemp_keeps
  try clear_value x2
  repeat' first | with_reducible assumption | with_reducible apply KeepsOut.next | with_reducible exact KeepsOut.fault | with_reducible refine State.forChans_keeps _ _ _ (fun _ _ _ => ?_) ?_ | with_reducible apply State.cellTemp_keeps | with_reducible apply State.stageTemp_keeps | with_reducible apply State.refreshMode_keeps | with_reducible apply State.thermal_keeps | split

theorem execStgtSensor_keeps {s0 : State} (s : State) (a1) (h : Keeps s0 s) : KeepsOut s0 (execStgtSensor a1 s) := by
  unfold execStgtSensor
  repeat' first | with_reducible assumption | with_reducible apply KeepsOut.next | with_reducible exact KeepsOut.fault | with_reducible apply State.fault_keeps | split

theorem execBusWindow_keeps {s0 : State} (s : State) (a1 a2 a3) (h : Keeps s0 s) : KeepsOut s0 (execBusWindow a1 a2 a3 s) := by
  unfold execBusWindow
  extract_lets x1 x2 x3 x4 x5 x6 x7 x8 x9 x10
  repeat' first | with_reducible assumption | with_reducible apply KeepsOut.next | with_reducible exact KeepsOut.fault | with_reducible apply State.onGat_keeps | split

theorem execBusStop_keeps {s0 : State} (s : State) (a1 a2) (h : Keeps s0 s) : KeepsOut s0 (execBusStop a1 a2 s) := by
  unfold execBusStop
  extract_lets x1
  repeat' first | with_reducible assumption | with_reducible apply KeepsOut.next | with_reducible exact KeepsOut.fault | with_reducible apply State.refreshMode_keeps | with_reducible refine State.forChans_keeps _ _ _ (fun _ _ _ => ?_) ?_ | with_reducible apply State.faultStop_keeps | split

theorem execBusSensor_keeps {s0 : State} (s : State) (a1) (h : Keeps s0 s) : KeepsOut s0 (execBusSensor a1 s) := by
  unfold execBusSensor
  repeat' first | with_reducible assumption | with_reducible apply KeepsOut.next | with_reducible exact KeepsOut.fault | with_reducible apply State.fault_keeps | split

theorem State.sampleRec_keeps {s0 : State} (s : State) (a1 a2 a3 a4) (h : Keeps s0 s) : Keeps s0 (State.sampleRec s a1 a2 a3 a4) := by
  unfold State.sampleRec
  extract_lets x1 x2
  repeat' first | with_reducible assumption | with_reducible apply State.pushRec_keeps

theorem State.winValue_keeps {s0 : State} (s : State) (a1) (h : Keeps s0 s) : Keeps s0 (State.winValue s a1).2 := by
  unfold State.winValue
  repeat' first | with_reducible assumption | with_reducible apply State.draw_keeps | split

theorem State.holdSmp_keeps {s0 : State} (s : State) (a1) (h : Keeps s0 s) : Keeps s0 (State.holdSmp s a1) := by
  unfold State.holdSmp
  repeat' first | with_reducible assumption | with_reducible apply State.onMeas_keeps | split

theorem State.takeSample_keeps {s0 : State} (s : State) (a1 a2 a3) (h : Keeps s0 s) : Keeps s0 (State.takeSample s a1 a2 a3) := by
  unfold State.takeSample
  extract_lets x1 x2
  repeat' first | with_reducible assumption | with_reducible apply State.winValue_keeps | with_reducible apply State.onMeas_keeps | with_reducible apply State.holdSmp_keeps | with_reducible apply State.onEst_keeps | with_reducible apply State.cellChange_keeps | split | simp only | with_reducible refine Keeps.foldl (fun _ _ _ => ?_) ?_ | with_reducible refine Keeps.foldl1 (fun _ _ _ => ?_) ?_ | with_reducible refine Keeps.foldl2 (fun _ _ _ => ?_) ?_ | dsimp only | with_reducible refine Keeps.of_fst ‹_ = (_, _)› ?_ | with_reducible refine Keeps.of_snd ‹_ = (_, _)› ?_

theorem State.twinSample_keeps {s0 : State} (s : State) (a1 a2) (h : Keeps s0 s) : Keeps s0 (State.twinSample s a1 a2) := by
  unfold State.twinSample
  extract_lets x1 x2 x3 x4 x5 x6 x7
  have kx4 : Keeps s0 x4 := by
    unfold x4
    repeat' first | with_reducible assumption | with_reducible apply State.sendZl_keeps
  try clear_value x4
  have kx6 : Keeps s0 x6 := by
    unfold x6
    repeat' first | with_reducible assumption | with_reducible apply State.sendZl_keeps | with_reducible apply State.onLoop_keeps
  try clear_value x6
  repeat' first | with_reducible assumption | with_reducible apply State.sendZl_keeps | with_reducible apply State.onLoop_keeps | with_reducible apply State.pushRec_keeps | split

theorem execOutputSample_keeps {s0 : State} (s : State) (a1 a2 a3 a4) (h : Keeps s0 s) : KeepsOut s0 (execOutputSample a1 a2 a3 a4 s) := by
  unfold execOutputSample
  extract_lets x1 x2
  have kx1 : Keeps s0 x1 := by
    unfold x1
    repeat' first | with_reducible assumption | with_reducible apply KeepsOut.next | with_reducible exact KeepsOut.fault | with_reducible apply State.takeSample_keeps
  try clear_value x1
  repeat' first | with_reducible assumption | with_reducible apply KeepsOut.next | with_reducible exact KeepsOut.fault | with_reducible apply State.takeSample_keeps | with_reducible apply State.twinSample_keeps | with_reducible apply State.sampleRec_keeps | split

theorem execOutrateChange_keeps {s0 : State} (s : State) (a1 a2) (h : Keeps s0 s) : KeepsOut s0 (execOutrateChange a1 a2 s) := by
  unfold execOutrateChange
  repeat' first | with_reducible assumption | with_reducible apply KeepsOut.next | with_reducible exact KeepsOut.fault | with_reducible apply State.onMeas_keeps | with_reducible apply State.setFld_keeps | split

theorem execTwinsample_keeps {s0 : State} (s : State) (a1 a2 a3 a4 a5 a6 a7) (h : Keeps s0 s) : KeepsOut s0 (execTwinsample a1 a2 a3 a4 a5 a6 a7 s) := by
  unfold execTwinsample
  repeat' first | with_reducible assumption | with_reducible apply KeepsOut.next | with_reducible exact KeepsOut.fault | with_reducible apply State.onMeas_keeps

theorem execTwinHoldExpiry_keeps {s0 : State} (s : State) (a1) (h : Keeps s0 s) : KeepsOut s0 (execTwinHoldExpiry a1 s) := by
  unfold execTwinHoldExpiry
  repeat' first | with_reducible assumption | with_reducible apply KeepsOut.next | with_reducible exact KeepsOut.fault | with_reducible apply State.onMeas_keeps | with_reducible apply State.faultEvent_keeps | split | simp only [Keeps.mk_iff]

theorem execPuntySwapStart_keeps {s0 : State} (s : State) (a1) (h : Keeps s0 s) : KeepsOut s0 (execPuntySwapStart a1 s) := by
  unfold execPuntySwapStart
  extract_lets x1 x2 x3
  try clear_value x1
  have kx2 : Keeps s0 x2 := by
    unfold x2
    repeat' first | with_reducible assumption | with_reducible apply KeepsOut.next | with_reducible exact KeepsOut.fault | with_reducible apply State.onGat_keeps
  try clear_value x2
  try clear_value x3
  repeat' first | with_reducible assumption | with_reducible apply KeepsOut.next | with_reducible exact KeepsOut.fault | with_reducible apply State.onGat_keeps | with_reducible apply State.syncHold_keeps | with_reducible apply State.trySwap_keeps | split

theorem execShadowDone_keeps {s0 : State} (s : State) (a1 a2 a3) (h : Keeps s0 s) : KeepsOut s0 (execShadowDone a1 a2 a3 s) := by
  unfold execShadowDone
  extract_lets x1 x2 x3 x4
  have kx4 : Keeps s0 x4 := by
    unfold x4
    repeat' first | with_reducible assumption | with_reducible apply KeepsOut.next | with_reducible exact KeepsOut.fault | with_reducible apply State.onGat_keeps
  try clear_value x4
  repeat' first | with_reducible assumption | with_reducible apply KeepsOut.next | with_reducible exact KeepsOut.fault | with_reducible apply State.onGat_keeps | with_reducible apply State.fault_keeps | with_reducible apply State.merr_keeps | split

theorem execConverterCalDone_keeps {s0 : State} (s : State) (a1 a2 a3 a4) (h : Keeps s0 s) : KeepsOut s0 (execConverterCalDone a1 a2 a3 a4 s) := by
  unfold execConverterCalDone
  extract_lets x1 x2
  repeat' first | with_reducible assumption | with_reducible apply KeepsOut.next | with_reducible exact KeepsOut.fault | with_reducible apply State.onGat_keeps | with_reducible apply State.rotate_keeps | with_reducible apply State.noSpare_keeps | with_reducible apply State.fault_keeps | with_reducible apply State.merr_keeps | split

theorem execReturnShadowDone_keeps {s0 : State} (s : State) (a1 a2) (h : Keeps s0 s) : KeepsOut s0 (execReturnShadowDone a1 a2 s) := by
  unfold execReturnShadowDone
  extract_lets x1
  repeat' first | with_reducible assumption | with_reducible apply KeepsOut.next | with_reducible exact KeepsOut.fault | with_reducible apply State.trySwap_keeps | with_reducible apply State.onGat_keeps | split

theorem execSelfcalDone_keeps {s0 : State} (s : State) (a1 a2 a3 a4 a5) (h : Keeps s0 s) : KeepsOut s0 (execSelfcalDone a1 a2 a3 a4 a5 s) := by
  unfold execSelfcalDone
  extract_lets x1 x2 x3 x4 x5
  have kx4 : Keeps s0 x4 := by
    unfold x4
    repeat' first | with_reducible assumption | with_reducible apply KeepsOut.next | with_reducible exact KeepsOut.fault | with_reducible apply State.onGat_keeps
  try clear_value x4
  have kx5 : Keeps s0 x5 := by
    unfold x5
    repeat' first | with_reducible assumption | with_reducible apply KeepsOut.next | with_reducible exact KeepsOut.fault | with_reducible apply State.onGat_keeps
  try clear_value x5
  repeat' first | with_reducible assumption | with_reducible apply KeepsOut.next | with_reducible exact KeepsOut.fault | with_reducible apply State.onGat_keeps | with_reducible apply State.rotate_keeps | with_reducible apply State.noSpare_keeps | with_reducible apply State.fault_keeps | with_reducible apply State.merr_keeps | split

theorem execSwapAbandon_keeps {s0 : State} (s : State) (a1) (h : Keeps s0 s) : KeepsOut s0 (execSwapAbandon a1 s) := by
  unfold execSwapAbandon
  extract_lets x1 x2 x3 x4 x5 x6
  have kx6 : Keeps s0 x6 := by
    unfold x6
    repeat' first | with_reducible assumption | with_reducible apply KeepsOut.next | with_reducible exact KeepsOut.fault | with_reducible apply State.merr_keeps | with_reducible apply State.onGat_keeps | with_reducible apply State.rotate_keeps | split | simp only [Keeps.mk_iff] | with_reducible refine Keeps.foldl (fun _ _ _ => ?_) ?_
  try clear_value x6
  repeat' first | with_reducible assumption | with_reducible apply KeepsOut.next | with_reducible exact KeepsOut.fault | with_reducible apply State.merr_keeps | with_reducible apply State.onGat_keeps | with_reducible apply State.rotate_keeps | split

theorem execConverterHealthFail_keeps {s0 : State} (s : State) (a1 a2) (h : Keeps s0 s) : KeepsOut s0 (execConverterHealthFail a1 a2 s) := by
  unfold execConverterHealthFail
  extract_lets x1 x2 x3 x4
  have kx4 : Keeps s0 x4 := by
    unfold x4
    repeat' first | with_reducible assumption | with_reducible apply KeepsOut.next | with_reducible exact KeepsOut.fault | with_reducible apply State.merr_keeps | with_reducible apply State.onGat_keeps
  try clear_value x4
  repeat' first | with_reducible assumption | with_reducible apply KeepsOut.next | with_reducible exact KeepsOut.fault | with_reducible apply State.merr_keeps | with_reducible apply State.onGat_keeps | with_reducible apply State.cutWin_keeps | with_reducible apply State.onChan_keeps | with_reducible apply State.onEis_keeps | with_reducible apply State.refreshMode_keeps | with_reducible apply State.rotate_keeps | with_reducible apply State.noSpare_keeps | with_reducible apply State.replaceConv_keeps | split

theorem State.calAtOnce_keeps {s0 : State} (s : State) (a1 a2 a3 a4) (h : Keeps s0 s) : Keeps s0 (State.calAtOnce s a1 a2 a3 a4) := by
  unfold State.calAtOnce
  extract_lets x1 x2
  have kx2 : Keeps s0 x2 := by
    unfold x2
    repeat' first | with_reducible assumption | with_reducible apply State.onGat_keeps | with_reducible apply State.merr_keeps
  try clear_value x2
  repeat' first | with_reducible assumption | with_reducible apply State.onGat_keeps | with_reducible apply State.merr_keeps | with_reducible apply State.replaceConv_keeps | with_reducible apply State.fault_keeps | split

theorem execGatherCalibrationDone_keeps {s0 : State} (s : State) (a1 a2 a3) (h : Keeps s0 s) : KeepsOut s0 (execGatherCalibrationDone a1 a2 a3 s) := by
  unfold execGatherCalibrationDone
  extract_lets x1 x2 x3 x4 x5 x6
  have kx3 : Keeps s0 x3 := by
    unfold x3
    repeat' first | with_reducible assumption | with_reducible apply KeepsOut.next | with_reducible exact KeepsOut.fault | with_reducible apply State.calAtOnce_keeps | with_reducible apply State.onGat_keeps | with_reducible apply State.takeInputs_keeps | with_reducible apply State.settle_keeps | with_reducible apply State.syncHold_keeps | with_reducible apply State.noSpare_keeps | split | simp only [Keeps.mk_iff] | with_reducible refine Keeps.foldl (fun _ _ _ => ?_) ?_
  try clear_value x3
  have kx4 : Keeps s0 x4 := by
    unfold x4
    repeat' first | with_reducible assumption | with_reducible apply KeepsOut.next | with_reducible exact KeepsOut.fault | with_reducible apply State.calAtOnce_keeps | with_reducible apply State.onGat_keeps | with_reducible apply State.takeInputs_keeps
  try clear_value x4
  have kx6 : Keeps s0 x6 := by
    unfold x6
    repeat' first | with_reducible assumption | with_reducible apply KeepsOut.next | with_reducible exact KeepsOut.fault | with_reducible apply State.calAtOnce_keeps | with_reducible apply State.onGat_keeps | with_reducible apply State.takeInputs_keeps | with_reducible apply State.settle_keeps | with_reducible apply State.syncHold_keeps | with_reducible apply State.noSpare_keeps | split | simp only [Keeps.mk_iff]
  try clear_value x6
  repeat' first | with_reducible assumption | with_reducible apply KeepsOut.next | with_reducible exact KeepsOut.fault | with_reducible apply State.calAtOnce_keeps | with_reducible apply State.onGat_keeps | with_reducible apply State.takeInputs_keeps | with_reducible apply State.settle_keeps | with_reducible apply State.syncHold_keeps | with_reducible apply State.noSpare_keeps | split

theorem State.calAck_keeps {s0 : State} (s : State) (a1) (h : Keeps s0 s) : Keeps s0 (State.calAck s a1) := by
  unfold State.calAck
  extract_lets x1 x2
  repeat' first | with_reducible assumption | split | simp only [Keeps.mk_iff]

theorem State.calSwitch_keeps {s0 : State} (s : State) (a1) (h : Keeps s0 s) : Keeps s0 (State.calSwitch s a1) := by
  unfold State.calSwitch
  extract_lets x1 x2 x3
  have kx3 : Keeps s0 x3 := by
    unfold x3
    repeat' first | with_reducible assumption | with_reducible apply State.onMeas_keeps
  try clear_value x3
  repeat' first | with_reducible assumption | with_reducible apply State.onMeas_keeps | with_reducible apply State.pushRec_keeps | with_reducible apply State.calAck_keeps | with_reducible refine State.byCorr_keeps _ _ _ _ (fun _ _ => ?_) ?_ | with_reducible apply State.chanEvt_keeps | split

theorem execCalgenSwitch_keeps {s0 : State} (s : State) (a1) (h : Keeps s0 s) : KeepsOut s0 (execCalgenSwitch a1 s) := by
  unfold execCalgenSwitch
  repeat' first | with_reducible assumption | with_reducible apply KeepsOut.next | with_reducible exact KeepsOut.fault | with_reducible apply State.calSwitch_keeps | split

theorem execChCalselSnap_keeps {s0 : State} (s : State) (a1) (h : Keeps s0 s) : KeepsOut s0 (execChCalselSnap a1 s) := by
  unfold execChCalselSnap
  extract_lets x1
  repeat' first | with_reducible assumption | with_reducible apply KeepsOut.next | with_reducible exact KeepsOut.fault | with_reducible apply State.onMeas_keeps

theorem State.eisPoint_keeps {s0 : State} (s : State) (a1 a2 a3 a4) (h : Keeps s0 s) : Keeps s0 (State.eisPoint s a1 a2 a3 a4) := by
  unfold State.eisPoint
  extract_lets x1 x2 x3 x4 x5
  have kx1 : Keeps s0 x1 := by
    unfold x1
    repeat' first | with_reducible assumption | with_reducible apply State.onEis_keeps
  try clear_value x1
  have kx5 : Keeps s0 x5 := by
    unfold x5
    repeat' first | with_reducible assumption | with_reducible apply State.onEis_keeps
  try clear_value x5
  repeat' first | with_reducible assumption | with_reducible apply State.onEis_keeps | with_reducible refine State.forChans_keeps _ _ _ (fun _ _ _ => ?_) ?_ | split

theorem execEisToneStart_keeps {s0 : State} (s : State) (a1 a2) (h : Keeps s0 s) : KeepsOut s0 (execEisToneStart a1 a2 s) := by
  unfold execEisToneStart
  extract_lets x1 x2 x3
  have kx3 : Keeps s0 x3 := by
    unfold x3
    repeat' first | with_reducible assumption | with_reducible apply KeepsOut.next | with_reducible exact KeepsOut.fault | with_reducible apply State.onEis_keeps | with_reducible apply State.tickTo_keeps
  try clear_value x3
  repeat' first | with_reducible assumption | with_reducible apply KeepsOut.next | with_reducible exact KeepsOut.fault | with_reducible apply State.onEis_keeps | with_reducible apply State.tickTo_keeps | with_reducible apply State.eisPoint_keeps | split

theorem execEisSettleEnd_keeps {s0 : State} (s : State) (a1 a2 a3) (h : Keeps s0 s) : KeepsOut s0 (execEisSettleEnd a1 a2 a3 s) := by
  unfold execEisSettleEnd
  extract_lets x1 x2 x3 x4 x5
  have kx3 : Keeps s0 x3 := by
    unfold x3
    repeat' first | with_reducible assumption | with_reducible apply KeepsOut.next | with_reducible exact KeepsOut.fault | with_reducible apply State.tickTo_keeps
  try clear_value x3
  have kx5 : Keeps s0 x5 := by
    unfold x5
    repeat' first | with_reducible assumption | with_reducible apply KeepsOut.next | with_reducible exact KeepsOut.fault | with_reducible apply State.tickTo_keeps | with_reducible refine State.forChans_keeps _ _ _ (fun _ _ _ => ?_) ?_ | with_reducible apply State.onEis_keeps | split
  try clear_value x5
  repeat' first | with_reducible assumption | with_reducible apply KeepsOut.next | with_reducible exact KeepsOut.fault | with_reducible apply State.tickTo_keeps | with_reducible refine State.forChans_keeps _ _ _ (fun _ _ _ => ?_) ?_ | with_reducible apply State.onEis_keeps | split

theorem execEisWindowEnd_keeps {s0 : State} (s : State) (a1 a2) (h : Keeps s0 s) : KeepsOut s0 (execEisWindowEnd a1 a2 s) := by
  unfold execEisWindowEnd
  extract_lets x1 x2 x3 x4 x5 x6 x7 x8 x9 x10 x11 x12 x13 x14 x15
  have kx10 : Keeps s0 x10 := by
    unfold x10
    repeat' first | with_reducible assumption | with_reducible apply KeepsOut.next | with_reducible exact KeepsOut.fault | with_reducible apply State.tickTo_keeps
  try clear_value x10
  repeat' first | with_reducible assumption | with_reducible apply KeepsOut.next | with_reducible exact KeepsOut.fault | with_reducible apply State.tickTo_keeps | with_reducible apply State.draw_keeps | with_reducible apply State.setBit_keeps | with_reducible apply State.onEis_keeps | with_reducible apply State.chanRec_keeps | with_reducible apply State.bumpWrap_keeps | with_reducible apply State.bump_keeps | with_reducible apply State.eisPoint_keeps | with_reducible apply State.refreshMode_keeps | with_reducible apply State.driveCycle_keeps | with_reducible apply State.slotOrEnd_keeps | split | simp only | with_reducible refine Keeps.foldl (fun _ _ _ => ?_) ?_ | with_reducible refine Keeps.foldl1 (fun _ _ _ => ?_) ?_ | with_reducible refine Keeps.foldl2 (fun _ _ _ => ?_) ?_ | dsimp only | with_reducible refine Keeps.of_fst ‹_ = (_, _)› ?_ | with_reducible refine Keeps.of_snd ‹_ = (_, _)› ?_

theorem State.credit_keeps {s0 : State} (s : State) (a1 a2 a3) (h : Keeps s0 s) : Keeps s0 (State.credit s a1 a2 a3) := by
  unfold State.credit
  repeat' first | with_reducible assumption | split | simp only [Keeps.mk_iff]

theorem State.collectCnt_keeps {s0 : State} (s : State) (a1) (h : Keeps s0 s) : Keeps s0 (State.collectCnt s a1) := by
  unfold State.collectCnt
  repeat' first | with_reducible assumption | with_reducible apply State.onChan_keeps

theorem State.collectMet_keeps {s0 : State} (s : State) (a1) (h : Keeps s0 s) : Keeps s0 (State.collectMet s a1) := by
  unfold State.collectMet
  extract_lets x1
  repeat' first | with_reducible assumption | with_reducible apply State.onChan_keeps | with_reducible apply State.credit_keeps

theorem State.split_keeps {s0 : State} (s : State) (a1) (h : Keeps s0 s) : Keeps s0 (State.split s a1) := by
  unfold State.split
  extract_lets x1
  repeat' first | with_reducible assumption | with_reducible apply State.onChan_keeps

theorem State.collect_keeps {s0 : State} (s : State) (a1) (h : Keeps s0 s) : Keeps s0 (State.collect s a1) := by
  unfold State.collect
  extract_lets x1 x2 x3
  have kx2 : Keeps s0 x2 := by
    unfold x2
    repeat' first | with_reducible assumption | with_reducible apply State.credit_keeps | with_reducible apply State.onChan_keeps | with_reducible apply State.collectMet_keeps | with_reducible apply State.collectCnt_keeps | split | simp only [Keeps.mk_iff] | with_reducible refine Keeps.foldl (fun _ _ _ => ?_) ?_
  try clear_value x2
  have kx3 : Keeps s0 x3 := by
    unfold x3
    repeat' first | with_reducible assumption | with_reducible apply State.credit_keeps | with_reducible apply State.onChan_keeps | with_reducible apply State.collectMet_keeps | with_reducible apply State.collectCnt_keeps | split
  try clear_value x3
  repeat' first | with_reducible assumption | with_reducible apply State.credit_keeps | with_reducible apply State.onChan_keeps | with_reducible apply State.collectMet_keeps | with_reducible apply State.collectCnt_keeps

theorem State.collectOpen_keeps {s0 : State} (s : State) (a1) (h : Keeps s0 s) : Keeps s0 (State.collectOpen s a1) := by
  unfold State.collectOpen
  repeat' first | with_reducible assumption | with_reducible apply State.collectMet_keeps | with_reducible apply State.collectCnt_keeps | split

theorem State.takePiece_keeps {s0 : State} (s : State) (a1 a2) (h : Keeps s0 s) : Keeps s0 (State.takePiece s a1 a2) := by
  unfold State.takePiece
  repeat' first | with_reducible assumption | with_reducible apply State.onChan_keeps | with_reducible apply State.credit_keeps | with_reducible apply State.collectMet_keeps | split

theorem State.tenantRec_keeps {s0 : State} (s : State) (a1 a2 a3) (h : Keeps s0 s) : Keeps s0 (State.tenantRec s a1 a2 a3) := by
  unfold State.tenantRec
  repeat' first | with_reducible assumption | with_reducible apply State.pushRec_keeps

theorem State.closeInterval_keeps {s0 : State} (s : State) (a1) (h : Keeps s0 s) : Keeps s0 (State.closeInterval s a1) := by
  unfold State.closeInterval
  extract_lets x1 x2 x3 x4 x5 x6
  have kx4 : Keeps s0 x4 := by
    unfold x4
    repeat' first | with_reducible assumption | with_reducible apply State.tenantRec_keeps | split | simp only | with_reducible refine Keeps.foldl (fun _ _ _ => ?_) ?_
  try clear_value x4
  repeat' first | with_reducible assumption | with_reducible apply State.tenantRec_keeps | split | simp only [Keeps.mk_iff]

theorem State.openInterval_keeps {s0 : State} (s : State) (a1 a2) (h : Keeps s0 s) : Keeps s0 (State.openInterval s a1 a2) := by
  unfold State.openInterval
  extract_lets x1
  repeat' first | with_reducible assumption | split | simp only [Keeps.mk_iff]

theorem State.tariffRec_keeps {s0 : State} (s : State) (a1 a2 a3 a4 a5) (h : Keeps s0 s) : Keeps s0 (State.tariffRec s a1 a2 a3 a4 a5) := by
  unfold State.tariffRec
  repeat' first | with_reducible assumption | with_reducible apply State.tenantRec_keeps | split | simp only [Keeps.mk_iff] | with_reducible refine Keeps.foldl (fun _ _ _ => ?_) ?_

theorem State.setTariff_keeps {s0 : State} (s : State) (a1 a2 a3 a4 a5 a6) (h : Keeps s0 s) : Keeps s0 (State.setTariff s a1 a2 a3 a4 a5 a6) := by
  unfold State.setTariff
  extract_lets x1 x2 x3 x4 x5
  have kx2 : Keeps s0 x2 := by
    unfold x2
    repeat' first | with_reducible assumption | with_reducible apply State.tariffRec_keeps
  try clear_value x2
  have kx3 : Keeps s0 x3 := by
    unfold x3
    repeat' first | with_reducible assumption | with_reducible apply State.tariffRec_keeps | with_reducible apply State.closeInterval_keeps | with_reducible apply State.openInterval_keeps | split
  try clear_value x3
  have kx5 : Keeps s0 x5 := by
    unfold x5
    repeat' first | with_reducible assumption | with_reducible apply State.tariffRec_keeps | with_reducible apply State.closeInterval_keeps | with_reducible apply State.openInterval_keeps | split | simp only [Keeps.mk_iff]
  try clear_value x5
  repeat' first | with_reducible assumption | with_reducible apply State.tariffRec_keeps | with_reducible apply State.closeInterval_keeps | with_reducible apply State.openInterval_keeps | split

theorem State.findTariff_keeps {s0 : State} (s : State) (a1 a2 a3) (h : Keeps s0 s) : Keeps s0 (State.findTariff s a1 a2 a3) := by
  unfold State.findTariff
  extract_lets x1
  repeat' first | with_reducible assumption | with_reducible apply State.setTariff_keeps | split

theorem State.closeBilling_keeps {s0 : State} (s : State) (h : Keeps s0 s) : Keeps s0 (State.closeBilling s) := by
  unfold State.closeBilling
  extract_lets x1 x2 x3 x4
  have kx2 : Keeps s0 x2 := by
    unfold x2
    repeat' first | with_reducible assumption | with_reducible apply State.tenantRec_keeps | split | simp only [Keeps.mk_iff] | with_reducible refine Keeps.foldl (fun _ _ _ => ?_) ?_
  try clear_value x2
  repeat' first | with_reducible assumption | with_reducible apply State.tenantRec_keeps | split | simp only [Keeps.mk_iff]

theorem State.fireSchedule_keeps {s0 : State} (s : State) (a1 a2) (h : Keeps s0 s) : Keeps s0 (State.fireSchedule s a1 a2) := by
  unfold State.fireSchedule
  repeat' first | with_reducible assumption | with_reducible apply State.setTariff_keeps | split

theorem State.applySched_keeps {s0 : State} (s : State) (h : Keeps s0 s) : Keeps s0 (State.applySched s) := by
  unfold State.applySched
  extract_lets x1 x2
  have kx1 : Keeps s0 x1 := by
    unfold x1
    repeat' first | with_reducible assumption | with_reducible apply State.setReg_keeps | split | simp only [Keeps.mk_iff] | with_reducible refine Keeps.foldl (fun _ _ _ => ?_) ?_
  try clear_value x1
  repeat' first | with_reducible assumption | with_reducible apply State.setReg_keeps | split | simp only [Keeps.mk_iff]

theorem State.minuteBoundary_keeps {s0 : State} (s : State) (a1) (h : Keeps s0 s) : Keeps s0 (State.minuteBoundary s a1) := by
  unfold State.minuteBoundary
  extract_lets x1 x2 x3 x4 x5
  have kx2 : Keeps s0 x2 := by
    unfold x2
    repeat' first | with_reducible assumption | with_reducible apply State.applySched_keeps
  try clear_value x2
  have kx4 : Keeps s0 x4 := by
    unfold x4
    repeat' first | with_reducible assumption | with_reducible apply State.applySched_keeps | with_reducible apply State.openInterval_keeps | with_reducible apply State.closeInterval_keeps | with_reducible apply State.findTariff_keeps | with_reducible apply State.fireSchedule_keeps | with_reducible apply State.closeBilling_keeps | split
  try clear_value x4
  have kx5 : Keeps s0 x5 := by
    unfold x5
    repeat' first | with_reducible assumption | with_reducible apply State.applySched_keeps | with_reducible apply State.openInterval_keeps | with_reducible apply State.closeInterval_keeps | with_reducible apply State.findTariff_keeps | with_reducible apply State.fireSchedule_keeps | with_reducible apply State.closeBilling_keeps | split
  try clear_value x5
  repeat' first | with_reducible assumption | with_reducible apply State.applySched_keeps | with_reducible apply State.openInterval_keeps | with_reducible apply State.closeInterval_keeps | with_reducible apply State.findTariff_keeps | with_reducible apply State.fireSchedule_keeps | with_reducible apply State.closeBilling_keeps | split

theorem State.takePieces_keeps {s0 : State} (s : State) (a1) (h : Keeps s0 s) : Keeps s0 (State.takePieces s a1) := by
  unfold State.takePieces
  extract_lets x1
  have kx1 : Keeps s0 x1 := by
    unfold x1
    repeat' first | with_reducible assumption | with_reducible refine State.forChans_keeps _ _ _ (fun _ _ _ => ?_) ?_ | with_reducible apply State.takePiece_keeps
  try clear_value x1
  repeat' first | with_reducible assumption | with_reducible refine State.forChans_keeps _ _ _ (fun _ _ _ => ?_) ?_ | with_reducible apply State.takePiece_keeps | split | simp only [Keeps.mk_iff]

theorem State.predict_keeps {s0 : State} (s : State) (a1 a2) (h : Keeps s0 s) : Keeps s0 (State.predict s a1 a2) := by
  unfold State.predict
  extract_lets x1
  repeat' first | with_reducible assumption | split | simp only [Keeps.mk_iff]

theorem State.onCal_keeps {s0 : State} (s : State) (a1) (h : Keeps s0 s) : Keeps s0 (State.onCal s a1) := by
  unfold State.onCal
  repeat' first | with_reducible assumption | with_reducible apply State.onBoard_keeps

theorem State.catchUp_keeps {s0 : State} (s : State) (h : Keeps s0 s) : Keeps s0 (State.catchUp s) := by
  unfold State.catchUp
  extract_lets x1 x2 x3 x4 x5
  have kx3 : Keeps s0 x3 := by
    unfold x3
    repeat' first | with_reducible assumption | with_reducible apply State.minuteBoundary_keeps | with_reducible apply State.onCal_keeps | with_reducible apply State.takePieces_keeps | with_reducible apply State.predict_keeps | split | simp only [Keeps.mk_iff] | with_reducible refine Keeps.foldl (fun _ _ _ => ?_) ?_
  try clear_value x3
  have kx4 : Keeps s0 x4 := by
    unfold x4
    repeat' first | with_reducible assumption | with_reducible apply State.minuteBoundary_keeps | with_reducible apply State.onCal_keeps | with_reducible apply State.takePieces_keeps | with_reducible apply State.predict_keeps
  try clear_value x4
  repeat' first | with_reducible assumption | with_reducible apply State.minuteBoundary_keeps | with_reducible apply State.onCal_keeps | with_reducible apply State.takePieces_keeps | with_reducible apply State.predict_keeps | split | simp only [Keeps.mk_iff]

theorem State.handleMinute_keeps {s0 : State} (s : State) (h : Keeps s0 s) : Keeps s0 (State.handleMinute s) := by
  unfold State.handleMinute
  extract_lets x1 x2 x3 x4
  have kx3 : Keeps s0 x3 := by
    unfold x3
    repeat' first | with_reducible assumption | with_reducible apply State.predict_keeps | with_reducible apply State.minuteBoundary_keeps | with_reducible apply State.takePieces_keeps | with_reducible apply State.catchUp_keeps | split | simp only [Keeps.mk_iff]
  try clear_value x3
  repeat' first | with_reducible assumption | with_reducible apply State.predict_keeps | with_reducible apply State.minuteBoundary_keeps | with_reducible apply State.takePieces_keeps | with_reducible apply State.catchUp_keeps | split | simp only [Keeps.mk_iff]

theorem State.collectAll_keeps {s0 : State} (s : State) (h : Keeps s0 s) : Keeps s0 (State.collectAll s) := by
  unfold State.collectAll
  extract_lets x1 x2
  have kx1 : Keeps s0 x1 := by
    unfold x1
    repeat' first | with_reducible assumption | with_reducible refine State.forChans_keeps _ _ _ (fun _ _ _ => ?_) ?_ | with_reducible apply State.onChan_keeps | with_reducible apply State.collect_keeps
  try clear_value x1
  repeat' first | with_reducible assumption | with_reducible refine State.forChans_keeps _ _ _ (fun _ _ _ => ?_) ?_ | with_reducible apply State.onChan_keeps | with_reducible apply State.collect_keeps | split | simp only [Keeps.mk_iff]

theorem State.summerMeters_keeps {s0 : State} (s : State) (a1 a2) (h : Keeps s0 s) : Keeps s0 (State.summerMeters s a1 a2) := by
  unfold State.summerMeters
  extract_lets x1
  have kx1 : Keeps s0 x1 := by
    unfold x1
    repeat' first | with_reducible assumption | with_reducible apply State.openInterval_keeps | with_reducible apply State.closeInterval_keeps | with_reducible apply State.collectAll_keeps
  try clear_value x1
  repeat' first | with_reducible assumption | with_reducible apply State.openInterval_keeps | with_reducible apply State.closeInterval_keeps | with_reducible apply State.collectAll_keeps | with_reducible apply State.setTariff_keeps | split | simp only | with_reducible refine Keeps.foldl (fun _ _ _ => ?_) ?_

theorem execOcvRecord_keeps {s0 : State} (s : State) (a1) (h : Keeps s0 s) : KeepsOut s0 (execOcvRecord a1 s) := by
  unfold execOcvRecord
  extract_lets x1 x2 x3 x4 x5 x6 x7 x8
  have kx6 : Keeps s0 x6 := by
    unfold x6
    repeat' first | with_reducible assumption | with_reducible apply KeepsOut.next | with_reducible exact KeepsOut.fault | with_reducible apply State.onEst_keeps | with_reducible apply State.sampleRec_keeps | with_reducible apply State.estEvt_keeps | split
  try clear_value x6
  have kx8 : Keeps s0 x8 := by
    unfold x8
    repeat' first | with_reducible assumption | with_reducible apply KeepsOut.next | with_reducible exact KeepsOut.fault | with_reducible apply State.onEst_keeps | with_reducible apply State.sampleRec_keeps
  try clear_value x8
  repeat' first | with_reducible assumption | with_reducible apply KeepsOut.next | with_reducible exact KeepsOut.fault | with_reducible apply State.onEst_keeps | with_reducible apply State.sampleRec_keeps | with_reducible apply State.estEvt_keeps | split

theorem execEstimatorUpdate_keeps {s0 : State} (s : State) (a1) (h : Keeps s0 s) : KeepsOut s0 (execEstimatorUpdate a1 s) := by
  unfold execEstimatorUpdate
  extract_lets x1 x2
  repeat' first | with_reducible assumption | with_reducible apply KeepsOut.next | with_reducible exact KeepsOut.fault | with_reducible apply State.onEst_keeps | with_reducible apply State.updateEst_keeps | split

theorem execHibernationEntry_keeps {s0 : State} (s : State) (a1) (h : Keeps s0 s) : KeepsOut s0 (execHibernationEntry a1 s) := by
  unfold execHibernationEntry
  repeat' first | with_reducible assumption | with_reducible apply KeepsOut.next | with_reducible exact KeepsOut.fault | with_reducible apply State.onEst_keeps | split

theorem execOcvCorrection_keeps {s0 : State} (s : State) (a1) (h : Keeps s0 s) : KeepsOut s0 (execOcvCorrection a1 s) := by
  unfold execOcvCorrection
  extract_lets x1 x2
  repeat' first | with_reducible assumption | with_reducible apply KeepsOut.next | with_reducible exact KeepsOut.fault | with_reducible apply State.onEst_keeps | split

theorem execEstimatorRecord_keeps {s0 : State} (s : State) (a1) (h : Keeps s0 s) : KeepsOut s0 (execEstimatorRecord a1 s) := by
  unfold execEstimatorRecord
  extract_lets x1
  have kx1 : Keeps s0 x1 := by
    unfold x1
    repeat' first | with_reducible assumption | with_reducible apply KeepsOut.next | with_reducible exact KeepsOut.fault | with_reducible apply State.chanRec_keeps
  try clear_value x1
  repeat' first | with_reducible assumption | with_reducible apply KeepsOut.next | with_reducible exact KeepsOut.fault | with_reducible apply State.chanRec_keeps | with_reducible apply State.onEst_keeps | split

theorem State.release_keeps {s0 : State} (s : State) (a1) (h : Keeps s0 s) : Keeps s0 (State.release s a1) := by
  unfold State.release
  extract_lets x1 x2
  have kx2 : Keeps s0 x2 := by
    unfold x2
    repeat' first | with_reducible assumption | with_reducible apply State.onProg_keeps
  try clear_value x2
  repeat' first | with_reducible assumption | with_reducible apply State.onProg_keeps | with_reducible apply State.driveCycle_keeps | with_reducible apply State.stepOn_keeps | split

theorem State.releases_keeps {s0 : State} (s : State) (a1 a2 a3) (h : Keeps s0 s) : Keeps s0 (State.releases s a1 a2 a3) := by
  induction a2 generalizing s a3 with
  | nil => unfold State.releases; exact h
  | cons c l ih =>
    unfold State.releases
    extract_lets x1
    split
    · exact ih _ _ (State.release_keeps _ _ h)
    · exact ih _ _ h

theorem State.balance_keeps {s0 : State} (s : State) (a1 a2) (h : Keeps s0 s) : Keeps s0 (State.balance s a1 a2) := by
  unfold State.balance
  extract_lets x1 x2 x3 x4 x5 x6 x7 x8 x9 x10 x11
  have kx10 : Keeps s0 x10 := by
    unfold x10
    repeat' first | with_reducible assumption | with_reducible refine State.forChans_keeps _ _ _ (fun _ _ _ => ?_) ?_ | with_reducible apply State.onChan_keeps
  try clear_value x10
  repeat' first | with_reducible assumption | with_reducible refine State.forChans_keeps _ _ _ (fun _ _ _ => ?_) ?_ | with_reducible apply State.onChan_keeps | split | simp only [Keeps.mk_iff] | with_reducible refine Keeps.foldl (fun _ _ _ => ?_) ?_

theorem execBusBalanceCycle_keeps {s0 : State} (s : State) (a1) (h : Keeps s0 s) : KeepsOut s0 (execBusBalanceCycle a1 s) := by
  unfold execBusBalanceCycle
  extract_lets x1 x2 x3 x4 x5 x6 x7
  have kx2 : Keeps s0 x2 := by
    unfold x2
    repeat' first | with_reducible assumption | with_reducible apply KeepsOut.next | with_reducible exact KeepsOut.fault | with_reducible apply State.fault_keeps | with_reducible apply State.release_keeps | with_reducible refine State.forChans_keeps _ _ _ (fun _ _ _ => ?_) ?_ | with_reducible apply State.onChan_keeps | with_reducible apply State.refreshMode_keeps | with_reducible apply State.releases_keeps | with_reducible apply State.balance_keeps | split | simp only [Keeps.mk_iff] | with_reducible refine Keeps.foldl (fun _ _ _ => ?_) ?_
  try clear_value x2
  have kx3 : Keeps s0 x3 := by
    unfold x3
    repeat' first | with_reducible assumption | with_reducible apply KeepsOut.next | with_reducible exact KeepsOut.fault | with_reducible apply State.fault_keeps | with_reducible apply State.release_keeps | with_reducible refine State.forChans_keeps _ _ _ (fun _ _ _ => ?_) ?_ | with_reducible apply State.onChan_keeps
  try clear_value x3
  have kx7 : Keeps s0 x7 := by
    unfold x7
    repeat' first | with_reducible assumption | with_reducible apply KeepsOut.next | with_reducible exact KeepsOut.fault | with_reducible apply State.fault_keeps | with_reducible apply State.release_keeps | with_reducible refine State.forChans_keeps _ _ _ (fun _ _ _ => ?_) ?_ | with_reducible apply State.onChan_keeps | with_reducible apply State.refreshMode_keeps | with_reducible apply State.releases_keeps
  try clear_value x7
  repeat' first | with_reducible assumption | with_reducible apply KeepsOut.next | with_reducible exact KeepsOut.fault | with_reducible apply State.fault_keeps | with_reducible apply State.release_keeps | with_reducible refine State.forChans_keeps _ _ _ (fun _ _ _ => ?_) ?_ | with_reducible apply State.onChan_keeps | with_reducible apply State.refreshMode_keeps | with_reducible apply State.releases_keeps | with_reducible apply State.balance_keeps | split | simp only [Keeps.mk_iff]

theorem execDefmaxExpiry_keeps {s0 : State} (s : State) (a1) (h : Keeps s0 s) : KeepsOut s0 (execDefmaxExpiry a1 s) := by
  unfold execDefmaxExpiry
  extract_lets x1
  repeat' first | with_reducible assumption | with_reducible apply KeepsOut.next | with_reducible exact KeepsOut.fault | with_reducible apply State.refreshMode_keeps | with_reducible apply State.release_keeps | split

theorem execCounterCollect_keeps {s0 : State} (s : State) (h : Keeps s0 s) : KeepsOut s0 (execCounterCollect s) := by
  unfold execCounterCollect
  repeat' first | with_reducible assumption | with_reducible apply KeepsOut.next | with_reducible exact KeepsOut.fault | with_reducible refine State.forChans_keeps _ _ _ (fun _ _ _ => ?_) ?_ | with_reducible apply State.catchUp_keeps | with_reducible apply State.collectOpen_keeps | split

theorem State.placeCounters_keeps {s0 : State} (s : State) (h : Keeps s0 s) : Keeps s0 (State.placeCounters s).1 := by
  unfold State.placeCounters
  extract_lets x1 x2
  repeat' first | with_reducible assumption | with_reducible apply State.onBoard_keeps | with_reducible apply State.nvmWrite_keeps | split

theorem State.commitCounters_keeps {s0 : State} (s : State) (h : Keeps s0 s) : Keeps s0 (State.commitCounters s) := by
  unfold State.commitCounters
  extract_lets x1 x2 x3
  have kx1 : Keeps s0 x1.1 := by
    unfold x1
    repeat' first | with_reducible assumption | with_reducible apply State.placeCounters_keeps
  try clear_value x1
  have kx2 : Keeps s0 x2 := by
    unfold x2
    repeat' first | with_reducible assumption | with_reducible apply State.placeCounters_keeps | with_reducible refine State.forChans_keeps _ _ _ (fun _ _ _ => ?_) ?_ | with_reducible apply State.onChan_keeps
  try clear_value x2
  repeat' first | with_reducible assumption | with_reducible apply State.placeCounters_keeps | with_reducible refine State.forChans_keeps _ _ _ (fun _ _ _ => ?_) ?_ | with_reducible apply State.onChan_keeps | split | simp only [Keeps.mk_iff]

theorem execMeterNvmCommit_keeps {s0 : State} (s : State) (h : Keeps s0 s) : KeepsOut s0 (execMeterNvmCommit s) := by
  unfold execMeterNvmCommit
  extract_lets x1 x2
  have kx1 : Keeps s0 x1 := by
    unfold x1
    repeat' first | with_reducible assumption | with_reducible apply KeepsOut.next | with_reducible exact KeepsOut.fault | with_reducible apply State.commitCounters_keeps
  try clear_value x1
  repeat' first | with_reducible assumption | with_reducible apply KeepsOut.next | with_reducible exact KeepsOut.fault | with_reducible apply State.commitCounters_keeps | split | simp only [Keeps.mk_iff]

theorem execMeterStampSplit_keeps {s0 : State} (s : State) (a1) (h : Keeps s0 s) : KeepsOut s0 (execMeterStampSplit a1 s) := by
  unfold execMeterStampSplit
  repeat' first | with_reducible assumption | with_reducible apply KeepsOut.next | with_reducible exact KeepsOut.fault | with_reducible apply State.onGat_keeps | with_reducible refine State.forChans_keeps _ _ _ (fun _ _ _ => ?_) ?_ | with_reducible apply State.split_keeps | split

theorem execMinuteBoundary_keeps {s0 : State} (s : State) (h : Keeps s0 s) : KeepsOut s0 (execMinuteBoundary s) := by
  unfold execMinuteBoundary
  repeat' first | with_reducible assumption | with_reducible apply KeepsOut.next | with_reducible exact KeepsOut.fault | with_reducible apply State.handleMinute_keeps

theorem State.onTime_keeps {s0 : State} (s : State) (a1) (h : Keeps s0 s) : Keeps s0 (State.onTime s a1) := by
  unfold State.onTime
  repeat' first | with_reducible assumption | with_reducible apply State.onBoard_keeps

theorem State.timeEvt_keeps {s0 : State} (s : State) (a1) (h : Keeps s0 s) : Keeps s0 (State.timeEvt s a1) := by
  unfold State.timeEvt
  extract_lets x1 x2
  have kx2 : Keeps s0 x2 := by
    unfold x2
    repeat' first | with_reducible assumption | with_reducible apply State.houseEvt_keeps
  try clear_value x2
  repeat' first | with_reducible assumption | with_reducible apply State.houseEvt_keeps | with_reducible apply State.pushEvt_keeps | split | simp only [Keeps.mk_iff] | with_reducible refine Keeps.foldl (fun _ _ _ => ?_) ?_

theorem State.calInvalid_keeps {s0 : State} (s : State) (h : Keeps s0 s) : Keeps s0 (State.calInvalid s) := by
  unfold State.calInvalid
  extract_lets x1
  have kx1 : Keeps s0 x1 := by
    unfold x1
    repeat' first | with_reducible assumption | with_reducible apply State.onTime_keeps
  try clear_value x1
  repeat' first | with_reducible assumption | with_reducible apply State.onTime_keeps | with_reducible apply State.openInterval_keeps | with_reducible apply State.closeInterval_keeps | with_reducible apply State.setTariff_keeps | with_reducible apply State.collectAll_keeps | split

theorem State.latchWake_keeps {s0 : State} (s : State) (a1) (h : Keeps s0 s) : Keeps s0 (State.latchWake s a1) := by
  unfold State.latchWake
  extract_lets x1
  have kx1 : Keeps s0 x1 := by
    unfold x1
    repeat' first | with_reducible assumption | with_reducible apply State.setBit_keeps
  try clear_value x1
  repeat' first | with_reducible assumption | with_reducible apply State.setBit_keeps | with_reducible apply State.onTime_keeps | split

theorem State.fireAlarm_keeps {s0 : State} (s : State) (a1) (h : Keeps s0 s) : Keeps s0 (State.fireAlarm s a1) := by
  unfold State.fireAlarm
  extract_lets x1 x2 x3
  have kx2 : Keeps s0 x2 := by
    unfold x2
    repeat' first | with_reducible assumption | with_reducible apply State.setFld_keeps | with_reducible apply State.onTime_keeps | with_reducible apply State.latchWake_keeps | with_reducible apply State.timeEvt_keeps | split
  try clear_value x2
  have kx3 : Keeps s0 x3 := by
    unfold x3
    repeat' first | with_reducible assumption | with_reducible apply State.setFld_keeps | with_reducible apply State.onTime_keeps | with_reducible apply State.latchWake_keeps | with_reducible apply State.timeEvt_keeps | split
  try clear_value x3
  repeat' first | with_reducible assumption | with_reducible apply State.setFld_keeps | with_reducible apply State.onTime_keeps | with_reducible apply State.latchWake_keeps | with_reducible apply State.timeEvt_keeps | split

theorem State.alarmTick_keeps {s0 : State} (s : State) (a1) (h : Keeps s0 s) : Keeps s0 (State.alarmTick s a1) := by
  unfold State.alarmTick
  extract_lets x1 x2
  repeat' first | with_reducible assumption | with_reducible apply State.fireAlarm_keeps | split

theorem State.rollover_keeps {s0 : State} (s : State) (h : Keeps s0 s) : Keeps s0 (State.rollover s) := by
  unfold State.rollover
  extract_lets x1
  have kx1 : Keeps s0 x1 := by
    unfold x1
    repeat' first | with_reducible assumption | with_reducible apply State.calInvalid_keeps | with_reducible apply State.setBit_keeps
  try clear_value x1
  repeat' first | with_reducible assumption | with_reducible apply State.calInvalid_keeps | with_reducible apply State.setBit_keeps | with_reducible apply State.fault_keeps | with_reducible apply State.onTime_keeps | split

theorem State.summerStep_keeps {s0 : State} (s : State) (h : Keeps s0 s) : Keeps s0 (State.summerStep s) := by
  unfold State.summerStep
  extract_lets x1
  repeat' first | with_reducible assumption | with_reducible apply State.onTime_keeps | with_reducible apply State.rollover_keeps | with_reducible apply State.fireAlarm_keeps | with_reducible apply State.timeEvt_keeps | with_reducible apply State.summerMeters_keeps | with_reducible apply State.corrFrom_keeps | split | simp only [Keeps.mk_iff]

theorem execSecondTick_keeps {s0 : State} (s : State) (a1) (h : Keeps s0 s) : KeepsOut s0 (execSecondTick a1 s) := by
  unfold execSecondTick
  extract_lets x1
  repeat' first | with_reducible assumption | with_reducible apply KeepsOut.next | with_reducible exact KeepsOut.fault | with_reducible apply State.onTime_keeps | with_reducible apply State.rollover_keeps | with_reducible apply State.summerStep_keeps | with_reducible apply State.predict_keeps | with_reducible apply State.alarmTick_keeps | split | simp only [Keeps.mk_iff]

theorem execPeriodicWakeExpiry_keeps {s0 : State} (s : State) (h : Keeps s0 s) : KeepsOut s0 (execPeriodicWakeExpiry s) := by
  unfold execPeriodicWakeExpiry
  extract_lets x1 x2
  have kx2 : Keeps s0 x2 := by
    unfold x2
    repeat' first | with_reducible assumption | with_reducible apply KeepsOut.next | with_reducible exact KeepsOut.fault | with_reducible apply State.onTime_keeps
  try clear_value x2
  repeat' first | with_reducible assumption | with_reducible apply KeepsOut.next | with_reducible exact KeepsOut.fault | with_reducible apply State.onTime_keeps | with_reducible apply State.latchWake_keeps | split

theorem execTrimWindow_keeps {s0 : State} (s : State) (h : Keeps s0 s) : KeepsOut s0 (execTrimWindow s) := by
  unfold execTrimWindow
  repeat' first | with_reducible assumption | with_reducible apply KeepsOut.next | with_reducible exact KeepsOut.fault | with_reducible apply State.onTime_keeps

theorem State.setTrim_keeps {s0 : State} (s : State) (a1) (h : Keeps s0 s) : Keeps s0 (State.setTrim s a1) := by
  unfold State.setTrim
  repeat' first | with_reducible assumption | with_reducible apply State.timeEvt_keeps | with_reducible apply State.setFld_keeps | split

theorem execAutotrim_keeps {s0 : State} (s : State) (a1) (h : Keeps s0 s) : KeepsOut s0 (execAutotrim a1 s) := by
  unfold execAutotrim
  extract_lets x1
  have kx1 : Keeps s0 x1 := by
    unfold x1
    repeat' first | with_reducible assumption | with_reducible apply KeepsOut.next | with_reducible exact KeepsOut.fault | with_reducible apply State.onTime_keeps | with_reducible apply State.setReg_keeps
  try clear_value x1
  repeat' first | with_reducible assumption | with_reducible apply KeepsOut.next | with_reducible exact KeepsOut.fault | with_reducible apply State.onTime_keeps | with_reducible apply State.setReg_keeps | with_reducible apply State.setTrim_keeps | split

theorem execXtalFail_keeps {s0 : State} (s : State) (h : Keeps s0 s) : KeepsOut s0 (execXtalFail s) := by
  unfold execXtalFail
  extract_lets x1 x2
  have kx1 : Keeps s0 x1 := by
    unfold x1
    repeat' first | with_reducible assumption | with_reducible apply KeepsOut.next | with_reducible exact KeepsOut.fault | with_reducible apply State.onTime_keeps
  try clear_value x1
  have kx2 : Keeps s0 x2 := by
    unfold x2
    repeat' first | with_reducible assumption | with_reducible apply KeepsOut.next | with_reducible exact KeepsOut.fault | with_reducible apply State.onTime_keeps | with_reducible apply State.setFld_keeps
  try clear_value x2
  repeat' first | with_reducible assumption | with_reducible apply KeepsOut.next | with_reducible exact KeepsOut.fault | with_reducible apply State.onTime_keeps | with_reducible apply State.setFld_keeps | with_reducible apply State.fault_keeps | with_reducible apply State.calInvalid_keeps | split

theorem State.loadTime_keeps {s0 : State} (s : State) (a1) (h : Keeps s0 s) : Keeps s0 (State.loadTime s a1) := by
  unfold State.loadTime
  extract_lets x1 x2 x3 x4 x5
  have kx3 : Keeps s0 x3 := by
    unfold x3
    repeat' first | with_reducible assumption | with_reducible apply State.closeInterval_keeps | with_reducible apply State.collectAll_keeps | with_reducible apply State.onTime_keeps | with_reducible apply State.findTariff_keeps | with_reducible apply State.openInterval_keeps | with_reducible apply State.timeEvt_keeps | split
  try clear_value x3
  have kx4 : Keeps s0 x4 := by
    unfold x4
    repeat' first | with_reducible assumption | with_reducible apply State.closeInterval_keeps | with_reducible apply State.collectAll_keeps | with_reducible apply State.onTime_keeps
  try clear_value x4
  have kx5 : Keeps s0 x5 := by
    unfold x5
    repeat' first | with_reducible assumption | with_reducible apply State.closeInterval_keeps | with_reducible apply State.collectAll_keeps | with_reducible apply State.onTime_keeps | with_reducible apply State.findTariff_keeps | with_reducible apply State.openInterval_keeps | with_reducible apply State.timeEvt_keeps | split
  try clear_value x5
  repeat' first | with_reducible assumption | with_reducible apply State.closeInterval_keeps | with_reducible apply State.collectAll_keeps | with_reducible apply State.onTime_keeps | with_reducible apply State.findTariff_keeps | with_reducible apply State.openInterval_keeps | with_reducible apply State.timeEvt_keeps

theorem State.loadWday_keeps {s0 : State} (s : State) (a1) (h : Keeps s0 s) : Keeps s0 (State.loadWday s a1) := by
  unfold State.loadWday
  extract_lets x1
  have kx1 : Keeps s0 x1 := by
    unfold x1
    repeat' first | with_reducible assumption | with_reducible apply State.onTime_keeps
  try clear_value x1
  repeat' first | with_reducible assumption | with_reducible apply State.onTime_keeps | with_reducible apply State.findTariff_keeps | with_reducible apply State.collectAll_keeps | split

theorem execKeepLoadTime_keeps {s0 : State} (s : State) (h : Keeps s0 s) : KeepsOut s0 (execKeepLoadTime s) := by
  unfold execKeepLoadTime
  repeat' first | with_reducible assumption | with_reducible apply KeepsOut.next | with_reducible exact KeepsOut.fault | with_reducible apply State.loadTime_keeps | with_reducible apply State.setBit_keeps | split

theorem execKeepLoadWday_keeps {s0 : State} (s : State) (h : Keeps s0 s) : KeepsOut s0 (execKeepLoadWday s) := by
  unfold execKeepLoadWday
  repeat' first | with_reducible assumption | with_reducible apply KeepsOut.next | with_reducible exact KeepsOut.fault | with_reducible apply State.loadWday_keeps

theorem execCalendarReadFreeze_keeps {s0 : State} (s : State) (h : Keeps s0 s) : KeepsOut s0 (execCalendarReadFreeze s) := by
  unfold execCalendarReadFreeze
  repeat' first | with_reducible assumption | with_reducible apply KeepsOut.next | with_reducible exact KeepsOut.fault | with_reducible apply State.onTime_keeps

theorem execKeepYearRead_keeps {s0 : State} (s : State) (h : Keeps s0 s) : KeepsOut s0 (execKeepYearRead s) := by
  unfold execKeepYearRead
  repeat' first | with_reducible assumption | with_reducible apply KeepsOut.next | with_reducible exact KeepsOut.fault | with_reducible apply State.onTime_keeps

theorem execFreezeTimeout_keeps {s0 : State} (s : State) (h : Keeps s0 s) : KeepsOut s0 (execFreezeTimeout s) := by
  unfold execFreezeTimeout
  repeat' first | with_reducible assumption | with_reducible apply KeepsOut.next | with_reducible exact KeepsOut.fault | with_reducible apply State.onTime_keeps | split

theorem State.regrid_keeps {s0 : State} (s : State) (a1) (h : Keeps s0 s) : Keeps s0 (State.regrid a1 s) := by
  unfold State.regrid
  extract_lets x1
  repeat' first | with_reducible assumption | with_reducible apply State.onMeas_keeps

theorem State.ptpStep_keeps {s0 : State} (s : State) (a1) (h : Keeps s0 s) : Keeps s0 (State.ptpStep s a1) := by
  unfold State.ptpStep
  extract_lets x1 x2 x3 x4
  have kx1 : Keeps s0 x1 := by
    unfold x1
    repeat' first | with_reducible assumption | with_reducible refine State.forChans_keeps _ _ _ (fun _ _ _ => ?_) ?_ | with_reducible apply State.regrid_keeps | with_reducible apply State.onTime_keeps | with_reducible apply State.setReg_keeps | with_reducible apply State.fault_keeps | with_reducible apply State.bump_keeps | split | simp only [Keeps.mk_iff]
  try clear_value x1
  have kx2 : Keeps s0 x2 := by
    unfold x2
    repeat' first | with_reducible assumption | with_reducible refine State.forChans_keeps _ _ _ (fun _ _ _ => ?_) ?_ | with_reducible apply State.regrid_keeps
  try clear_value x2
  have kx3 : Keeps s0 x3 := by
    unfold x3
    repeat' first | with_reducible assumption | with_reducible refine State.forChans_keeps _ _ _ (fun _ _ _ => ?_) ?_ | with_reducible apply State.regrid_keeps | with_reducible apply State.onTime_keeps
  try clear_value x3
  have kx4 : Keeps s0 x4 := by
    unfold x4
    repeat' first | with_reducible assumption | with_reducible refine State.forChans_keeps _ _ _ (fun _ _ _ => ?_) ?_ | with_reducible apply State.regrid_keeps | with_reducible apply State.onTime_keeps | with_reducible apply State.setReg_keeps
  try clear_value x4
  repeat' first | with_reducible assumption | with_reducible refine State.forChans_keeps _ _ _ (fun _ _ _ => ?_) ?_ | with_reducible apply State.regrid_keeps | with_reducible apply State.onTime_keeps | with_reducible apply State.setReg_keeps | with_reducible apply State.fault_keeps | with_reducible apply State.bump_keeps

theorem State.ptpFreq_keeps {s0 : State} (s : State) (a1) (h : Keeps s0 s) : Keeps s0 (State.ptpFreq s a1) := by
  unfold State.ptpFreq
  extract_lets x1 x2
  repeat' first | with_reducible assumption | with_reducible apply State.setReg_keeps | with_reducible apply State.onTime_keeps

theorem State.netTake_keeps {s0 : State} (s : State) (h : Keeps s0 s) : Keeps s0 (State.netTake s) := by
  unfold State.netTake
  extract_lets x1
  have kx1 : Keeps s0 x1 := by
    unfold x1
    repeat' first | with_reducible assumption | with_reducible apply State.setReg_keeps | with_reducible apply State.onTime_keeps | split | simp only [Keeps.mk_iff] | with_reducible refine Keeps.foldl (fun _ _ _ => ?_) ?_
  try clear_value x1
  repeat' first | with_reducible assumption | with_reducible apply State.setReg_keeps | with_reducible apply State.onTime_keeps

theorem execPtpSync_keeps {s0 : State} (s : State) (a1 a2 a3) (h : Keeps s0 s) : KeepsOut s0 (execPtpSync a1 a2 a3 s) := by
  unfold execPtpSync
  extract_lets x1 x2 x3 x4 x5 x6 x7 x8 x9 x10 x11
  have kx1 : Keeps s0 x1 := by
    unfold x1
    repeat' first | with_reducible assumption | with_reducible apply KeepsOut.next | with_reducible exact KeepsOut.fault | with_reducible apply State.netTake_keeps | with_reducible apply State.setReg_keeps | with_reducible apply State.onTime_keeps | with_reducible apply State.ptpFreq_keeps | with_reducible apply State.ptpStep_keeps | with_reducible apply State.timeEvt_keeps | split
  try clear_value x1
  have kx4 : Keeps s0 x4 := by
    unfold x4
    repeat' first | with_reducible assumption | with_reducible apply KeepsOut.next | with_reducible exact KeepsOut.fault | with_reducible apply State.netTake_keeps | with_reducible apply State.setReg_keeps
  try clear_value x4
  have kx8 : Keeps s0 x8 := by
    unfold x8
    repeat' first | with_reducible assumption | with_reducible apply KeepsOut.next | with_reducible exact KeepsOut.fault | with_reducible apply State.netTake_keeps | with_reducible apply State.setReg_keeps | with_reducible apply State.onTime_keeps
  try clear_value x8
  have kx9 : Keeps s0 x9 := by
    unfold x9
    repeat' first | with_reducible assumption | with_reducible apply KeepsOut.next | with_reducible exact KeepsOut.fault | with_reducible apply State.netTake_keeps | with_reducible apply State.setReg_keeps | with_reducible apply State.onTime_keeps | with_reducible apply State.ptpFreq_keeps
  try clear_value x9
  have kx11 : Keeps s0 x11 := by
    unfold x11
    repeat' first | with_reducible assumption | with_reducible apply KeepsOut.next | with_reducible exact KeepsOut.fault | with_reducible apply State.netTake_keeps | with_reducible apply State.setReg_keeps | with_reducible apply State.onTime_keeps | with_reducible apply State.ptpFreq_keeps
  try clear_value x11
  repeat' first | with_reducible assumption | with_reducible apply KeepsOut.next | with_reducible exact KeepsOut.fault | with_reducible apply State.netTake_keeps | with_reducible apply State.setReg_keeps | with_reducible apply State.onTime_keeps | with_reducible apply State.ptpFreq_keeps | with_reducible apply State.ptpStep_keeps | with_reducible apply State.timeEvt_keeps | split

theorem execPtpAnnounce_keeps {s0 : State} (s : State) (a1 a2) (h : Keeps s0 s) : KeepsOut s0 (execPtpAnnounce a1 a2 s) := by
  unfold execPtpAnnounce
  repeat' first | with_reducible assumption | with_reducible apply KeepsOut.next | with_reducible exact KeepsOut.fault | with_reducible apply State.onTime_keeps | split

theorem execPtpDelayResp_keeps {s0 : State} (s : State) (a1 a2) (h : Keeps s0 s) : KeepsOut s0 (execPtpDelayResp a1 a2 s) := by
  unfold execPtpDelayResp
  extract_lets x1
  repeat' first | with_reducible assumption | with_reducible apply KeepsOut.next | with_reducible exact KeepsOut.fault | with_reducible apply State.onTime_keeps | split

theorem execPtpPdelayReq_keeps {s0 : State} (s : State) (a1) (h : Keeps s0 s) : KeepsOut s0 (execPtpPdelayReq a1 s) := by
  unfold execPtpPdelayReq
  repeat' first | with_reducible assumption | with_reducible apply KeepsOut.next | with_reducible exact KeepsOut.fault | split | simp only [Keeps.mk_iff]

theorem execPtpDelayReqSend_keeps {s0 : State} (s : State) (a1) (h : Keeps s0 s) : KeepsOut s0 (execPtpDelayReqSend a1 s) := by
  unfold execPtpDelayReqSend
  repeat' first | with_reducible assumption | with_reducible apply KeepsOut.next | with_reducible exact KeepsOut.fault | split | simp only [Keeps.mk_iff]

theorem execAnnounceTimeout_keeps {s0 : State} (s : State) (h : Keeps s0 s) : KeepsOut s0 (execAnnounceTimeout s) := by
  unfold execAnnounceTimeout
  extract_lets x1 x2
  have kx2 : Keeps s0 x2 := by
    unfold x2
    repeat' first | with_reducible assumption | with_reducible apply KeepsOut.next | with_reducible exact KeepsOut.fault | with_reducible apply State.onTime_keeps
  try clear_value x2
  repeat' first | with_reducible assumption | with_reducible apply KeepsOut.next | with_reducible exact KeepsOut.fault | with_reducible apply State.onTime_keeps | with_reducible apply State.fault_keeps | with_reducible apply State.timeEvt_keeps | with_reducible apply State.bump_keeps | split

theorem execHoldmaxExpiry_keeps {s0 : State} (s : State) (a1) (h : Keeps s0 s) : KeepsOut s0 (execHoldmaxExpiry a1 s) := by
  unfold execHoldmaxExpiry
  extract_lets x1
  repeat' first | with_reducible assumption | with_reducible apply KeepsOut.next | with_reducible exact KeepsOut.fault | with_reducible apply State.timeEvt_keeps | with_reducible apply State.onTime_keeps | split

theorem execBackwardStep_keeps {s0 : State} (s : State) (h : Keeps s0 s) : KeepsOut s0 (execBackwardStep s) := by
  unfold execBackwardStep
  repeat' first | with_reducible assumption | with_reducible apply KeepsOut.next | with_reducible exact KeepsOut.fault | with_reducible apply State.ptpStep_keeps | split

theorem execElapsedPairStore_keeps {s0 : State} (s : State) (h : Keeps s0 s) : KeepsOut s0 (execElapsedPairStore s) := by
  unfold execElapsedPairStore
  repeat' first | with_reducible assumption | with_reducible apply KeepsOut.next | with_reducible exact KeepsOut.fault | with_reducible apply State.onTime_keeps | split

theorem execMainsWindowEnd_keeps {s0 : State} (s : State) (a1) (h : Keeps s0 s) : KeepsOut s0 (execMainsWindowEnd a1 s) := by
  unfold execMainsWindowEnd
  extract_lets x1 x2 x3
  have kx3 : Keeps s0 x3 := by
    unfold x3
    repeat' first | with_reducible assumption | with_reducible apply KeepsOut.next | with_reducible exact KeepsOut.fault | with_reducible apply State.onTime_keeps
  try clear_value x3
  repeat' first | with_reducible assumption | with_reducible apply KeepsOut.next | with_reducible exact KeepsOut.fault | with_reducible apply State.onTime_keeps | with_reducible apply State.ptpFreq_keeps | split

theorem execMainsRefInvalid_keeps {s0 : State} (s : State) (h : Keeps s0 s) : KeepsOut s0 (execMainsRefInvalid s) := by
  unfold execMainsRefInvalid
  repeat' first | with_reducible assumption | with_reducible apply KeepsOut.next | with_reducible exact KeepsOut.fault | with_reducible apply State.fault_keeps | with_reducible apply State.onTime_keeps | split

theorem execPpsOut_keeps {s0 : State} (s : State) (h : Keeps s0 s) : KeepsOut s0 (execPpsOut s) := by
  unfold execPpsOut
  extract_lets x1
  repeat' first | with_reducible assumption | with_reducible apply KeepsOut.next | with_reducible exact KeepsOut.fault | with_reducible apply State.onTime_keeps | split

theorem execPpsIn_keeps {s0 : State} (s : State) (h : Keeps s0 s) : KeepsOut s0 (execPpsIn s) := by
  unfold execPpsIn
  repeat' first | with_reducible assumption | with_reducible apply KeepsOut.next | with_reducible exact KeepsOut.fault | with_reducible apply State.setReg_keeps | split

end Sys2Proof.Machine
end

