-- ==== Sys2Proof/Laws/KeepsQueues.lean ====
section
/-! SUPPORT. What the reset, queue, ledger and network operations and their rows keep: one lemma per operation (`Keeps`: the fuses, the queue behind the
command, and the canonical form of both memories), for later proofs to cite in place of unfolding it. -/

namespace Sys2Proof.Machine

open Sys2Proof

theorem State.leaseRegs_keeps {s0 : State} (s : State) (a1 a2) (h : Keeps s0 s) : Keeps s0 (State.leaseRegs s a1 a2) := by
  unfold State.leaseRegs
  extract_lets x1
  have kx1 : Keeps s0 x1 := by
    unfold x1
    repeat' first | with_reducible assumption | with_reducible refine State.forChans_keeps _ _ _ (fun _ _ _ => ?_) ?_ | with_reducible apply State.setReg_keeps
  try clear_value x1
  repeat' first | with_reducible assumption | with_reducible refine State.forChans_keeps _ _ _ (fun _ _ _ => ?_) ?_ | with_reducible apply State.setReg_keeps | with_reducible apply State.setFld_keeps | split

theorem State.startLedger_keeps {s0 : State} (s : State) (h : Keeps s0 s) : Keeps s0 (State.startLedger s) := by
  unfold State.startLedger
  repeat' first | with_reducible assumption | with_reducible apply State.onBoard_keeps

theorem State.cleared_keeps {s0 : State} (s : State) (a1) (h : Keeps s0 s) : Keeps s0 (State.cleared s a1) := by
  exact ⟨h.opt, h.serial, h.pending, fun _ => rfl, fun k => regsWf_kept (h.regs k)⟩

theorem State.onPort_keeps {s0 : State} (s : State) (a1 a2) (h : Keeps s0 s) : Keeps s0 (State.onPort s a1 a2) := by
  unfold State.onPort
  repeat' first | with_reducible assumption | with_reducible apply State.onBoard_keeps

theorem State.takeCfg_keeps {s0 : State} (s : State) (a1) (h : Keeps s0 s) : Keeps s0 (State.takeCfg s a1) := by
  unfold State.takeCfg
  repeat' first | with_reducible assumption | with_reducible apply State.onPort_keeps | with_reducible apply State.setReg_keeps | split

theorem State.xferAborted_keeps {s0 : State} (s : State) (a1) (h : Keeps s0 s) : Keeps s0 (State.xferAborted s a1) := by
  unfold State.xferAborted
  repeat' first | with_reducible assumption | with_reducible apply State.setReg_keeps | split | simp only [Keeps.mk_iff] | with_reducible refine Keeps.foldl (fun _ _ _ => ?_) ?_

theorem State.clearedWarm_keeps {s0 : State} (s : State) (h : Keeps s0 s) : Keeps s0 (State.clearedWarm s) := by
  unfold State.clearedWarm
  extract_lets x1
  repeat' first | with_reducible assumption | with_reducible apply State.onBoard_keeps | with_reducible apply State.xferAborted_keeps | with_reducible apply State.cleared_keeps | with_reducible apply State.takeCfg_keeps | split | simp only [Keeps.mk_iff] | with_reducible refine Keeps.foldl (fun _ _ _ => ?_) ?_

theorem State.onPwr_keeps {s0 : State} (s : State) (a1) (h : Keeps s0 s) : Keeps s0 (State.onPwr s a1) := by
  unfold State.onPwr
  repeat' first | with_reducible assumption | with_reducible apply State.onBoard_keeps

theorem State.snapshot_keeps {s0 : State} (s : State) (a1) (h : Keeps s0 s) : Keeps s0 (State.snapshot s a1) := by
  unfold State.snapshot
  extract_lets x1
  repeat' first | with_reducible assumption | with_reducible apply State.onPwr_keeps

theorem State.keepFault_keeps {s0 : State} (s : State) (a1) (h : Keeps s0 s) : Keeps s0 (State.keepFault s a1) := by
  unfold State.keepFault
  extract_lets x1
  repeat' first | with_reducible assumption | split | simp only [Keeps.mk_iff]

theorem State.selftestEvt_keeps {s0 : State} (s : State) (a1 a2 a3 a4 a5 a6) (h : Keeps s0 s) : Keeps s0 (State.selftestEvt s a1 a2 a3 a4 a5 a6) := by
  unfold State.selftestEvt
  repeat' first | with_reducible assumption | with_reducible apply State.pushEvt_keeps

theorem State.abort_keeps {s0 : State} (s : State) (a1 a2) (h : Keeps s0 s) : Keeps s0 (State.abort s a1 a2) := by
  unfold State.abort
  repeat' first | with_reducible assumption | split | simp only [Keeps.mk_iff]

theorem State.abortCommits_keeps {s0 : State} (s : State) (a1) (h : Keeps s0 s) : Keeps s0 (State.abortCommits s a1) := by
  unfold State.abortCommits
  repeat' first | with_reducible assumption | with_reducible refine State.forChans_keeps _ _ _ (fun _ _ _ => ?_) ?_ | with_reducible apply State.abort_keeps | with_reducible apply State.onProg_keeps | split

theorem State.abortSlot_keeps {s0 : State} (s : State) (a1) (h : Keeps s0 s) : Keeps s0 (State.abortSlot s a1) := by
  unfold State.abortSlot
  extract_lets x1
  repeat' first | with_reducible assumption | with_reducible apply State.selftestEvt_keeps | with_reducible apply State.abort_keeps | split

theorem State.cancelDeferred_keeps {s0 : State} (s : State) (h : Keeps s0 s) : Keeps s0 (State.cancelDeferred s) := by
  unfold State.cancelDeferred
  repeat' first | with_reducible assumption | with_reducible apply State.selftestEvt_keeps | with_reducible apply State.onGat_keeps | split | simp only | with_reducible refine Keeps.foldl (fun _ _ _ => ?_) ?_

theorem State.enterLehr_keeps {s0 : State} (s : State) (a1) (h : Keeps s0 s) : Keeps s0 (State.enterLehr s a1) := by
  unfold State.enterLehr
  extract_lets x1 x2 x3
  have kx1 : Keeps s0 x1 := by
    unfold x1
    repeat' first | with_reducible assumption | with_reducible apply State.cancelDeferred_keeps
  try clear_value x1
  have kx2 : Keeps s0 x2 := by
    unfold x2
    repeat' first | with_reducible assumption | with_reducible apply State.cancelDeferred_keeps | with_reducible apply State.rampStop_keeps | with_reducible apply State.onBoard_keeps | with_reducible apply State.syncViews_keeps | with_reducible apply State.enterMode_keeps | split | simp only [Keeps.mk_iff] | with_reducible refine Keeps.foldl (fun _ _ _ => ?_) ?_
  try clear_value x2
  have kx3 : Keeps s0 x3 := by
    unfold x3
    repeat' first | with_reducible assumption | with_reducible apply State.cancelDeferred_keeps | with_reducible apply State.rampStop_keeps | with_reducible apply State.onBoard_keeps
  try clear_value x3
  repeat' first | with_reducible assumption | with_reducible apply State.cancelDeferred_keeps | with_reducible apply State.rampStop_keeps | with_reducible apply State.onBoard_keeps | with_reducible apply State.syncViews_keeps | with_reducible apply State.enterMode_keeps

theorem State.enterLockout_keeps {s0 : State} (s : State) (a1 a2) (h : Keeps s0 s) : Keeps s0 (State.enterLockout s a1 a2) := by
  unfold State.enterLockout
  extract_lets x1 x2 x3
  have kx1 : Keeps s0 x1 := by
    unfold x1
    repeat' first | with_reducible assumption | with_reducible apply State.cancelDeferred_keeps
  try clear_value x1
  have kx2 : Keeps s0 x2 := by
    unfold x2
    repeat' first | with_reducible assumption | with_reducible apply State.cancelDeferred_keeps | with_reducible refine State.forChans_keeps _ _ _ (fun _ _ _ => ?_) ?_ | with_reducible apply State.hardStop_keeps
  try clear_value x2
  have kx3 : Keeps s0 x3 := by
    unfold x3
    repeat' first | with_reducible assumption | with_reducible apply State.cancelDeferred_keeps | with_reducible refine State.forChans_keeps _ _ _ (fun _ _ _ => ?_) ?_ | with_reducible apply State.hardStop_keeps | with_reducible apply State.onBoard_keeps
  try clear_value x3
  repeat' first | with_reducible assumption | with_reducible apply State.cancelDeferred_keeps | with_reducible refine State.forChans_keeps _ _ _ (fun _ _ _ => ?_) ?_ | with_reducible apply State.hardStop_keeps | with_reducible apply State.onBoard_keeps | with_reducible apply State.syncDrive_keeps | with_reducible apply State.enterMode_keeps

theorem State.driveTarget_keeps {s0 : State} (s : State) (a1 a2) (h : Keeps s0 s) : Keeps s0 (State.driveTarget s a1 a2) := by
  unfold State.driveTarget
  extract_lets x1 x2
  have kx2 : Keeps s0 x2 := by
    unfold x2
    repeat' first | with_reducible assumption | with_reducible apply State.onPwr_keeps
  try clear_value x2
  repeat' first | with_reducible assumption | with_reducible apply State.onPwr_keeps | split

theorem State.watchSlot_keeps {s0 : State} (s : State) (h : Keeps s0 s) : Keeps s0 (State.watchSlot s) := by
  unfold State.watchSlot
  extract_lets x1
  repeat' first | with_reducible assumption | with_reducible apply State.onPwr_keeps | split

theorem State.runSlot_keeps {s0 : State} (s : State) (a1) (h : Keeps s0 s) : Keeps s0 (State.runSlot s a1) := by
  unfold State.runSlot
  repeat' first | with_reducible assumption | with_reducible apply State.watchSlot_keeps | with_reducible apply State.onPwr_keeps | with_reducible apply State.driveTarget_keeps

theorem State.tryWake_keeps {s0 : State} (s : State) (h : Keeps s0 s) : Keeps s0 (State.tryWake s) := by
  unfold State.tryWake
  extract_lets x1 x2 x3 x4 x5 x6 x7 x8
  have kx4 : Keeps s0 x4 := by
    unfold x4
    repeat' first | with_reducible assumption | with_reducible apply State.onTime_keeps
  try clear_value x4
  have kx5 : Keeps s0 x5 := by
    unfold x5
    repeat' first | with_reducible assumption | with_reducible apply State.onTime_keeps | with_reducible apply State.onPwr_keeps | with_reducible apply State.setReg_keeps | with_reducible apply State.runSlot_keeps | split | simp only [Keeps.mk_iff] | with_reducible refine Keeps.foldl (fun _ _ _ => ?_) ?_
  try clear_value x5
  have kx8 : Keeps s0 x8 := by
    unfold x8
    repeat' first | with_reducible assumption | with_reducible apply State.onTime_keeps | with_reducible apply State.onPwr_keeps | with_reducible apply State.setReg_keeps | with_reducible apply State.runSlot_keeps | split | simp only [Keeps.mk_iff]
  try clear_value x8
  repeat' first | with_reducible assumption | with_reducible apply State.onTime_keeps | with_reducible apply State.onPwr_keeps | with_reducible apply State.setReg_keeps | with_reducible apply State.runSlot_keeps | split

theorem State.releasePwron_keeps {s0 : State} (s : State) (h : Keeps s0 s) : Keeps s0 (State.releasePwron s) := by
  unfold State.releasePwron
  repeat' first | with_reducible assumption | with_reducible apply State.onTime_keeps

theorem State.toKeep_keeps {s0 : State} (s : State) (a1 a2 a3 a4) (h : Keeps s0 s) : Keeps s0 (State.toKeep s a1 a2 a3 a4) := by
  unfold State.toKeep
  extract_lets x1 x2 x3 x4 x5 x6 x7 x8 x9 x10
  have kx1 : Keeps s0 x1 := by
    unfold x1
    repeat' first | with_reducible assumption | with_reducible refine State.forChans_keeps _ _ _ (fun _ _ _ => ?_) ?_ | with_reducible apply State.releaseChan_keeps
  try clear_value x1
  have kx5 : Keeps s0 x5 := by
    unfold x5
    repeat' first | with_reducible assumption | with_reducible refine State.forChans_keeps _ _ _ (fun _ _ _ => ?_) ?_ | with_reducible apply State.releaseChan_keeps | with_reducible apply State.cleared_keeps
  try clear_value x5
  have kx7 : Keeps s0 x7 := by
    unfold x7
    repeat' first | with_reducible assumption | with_reducible refine State.forChans_keeps _ _ _ (fun _ _ _ => ?_) ?_ | with_reducible apply State.releaseChan_keeps | with_reducible apply State.cleared_keeps | with_reducible apply State.onTime_keeps | with_reducible apply State.setBit_keeps | with_reducible apply State.onPwr_keeps | with_reducible apply State.releasePwron_keeps | with_reducible apply State.tryWake_keeps | split | simp only [Keeps.mk_iff]
  try clear_value x7
  have kx8 : Keeps s0 x8 := by
    unfold x8
    repeat' first | with_reducible assumption | with_reducible refine State.forChans_keeps _ _ _ (fun _ _ _ => ?_) ?_ | with_reducible apply State.releaseChan_keeps | with_reducible apply State.cleared_keeps | with_reducible apply State.onTime_keeps | with_reducible apply State.setBit_keeps | with_reducible apply State.onPwr_keeps | with_reducible apply State.releasePwron_keeps | with_reducible apply State.tryWake_keeps | split
  try clear_value x8
  have kx9 : Keeps s0 x9 := by
    unfold x9
    repeat' first | with_reducible assumption | with_reducible refine State.forChans_keeps _ _ _ (fun _ _ _ => ?_) ?_ | with_reducible apply State.releaseChan_keeps | with_reducible apply State.cleared_keeps | with_reducible apply State.onTime_keeps | with_reducible apply State.setBit_keeps | with_reducible apply State.onPwr_keeps
  try clear_value x9
  have kx10 : Keeps s0 x10 := by
    unfold x10
    repeat' first | with_reducible assumption | with_reducible refine State.forChans_keeps _ _ _ (fun _ _ _ => ?_) ?_ | with_reducible apply State.releaseChan_keeps | with_reducible apply State.cleared_keeps | with_reducible apply State.onTime_keeps | with_reducible apply State.setBit_keeps | with_reducible apply State.onPwr_keeps | with_reducible apply State.releasePwron_keeps
  try clear_value x10
  repeat' first | with_reducible assumption | with_reducible refine State.forChans_keeps _ _ _ (fun _ _ _ => ?_) ?_ | with_reducible apply State.releaseChan_keeps | with_reducible apply State.cleared_keeps | with_reducible apply State.onTime_keeps | with_reducible apply State.setBit_keeps | with_reducible apply State.onPwr_keeps | with_reducible apply State.releasePwron_keeps | with_reducible apply State.tryWake_keeps | split

theorem State.seedPtp_keeps {s0 : State} (s : State) (h : Keeps s0 s) : Keeps s0 (State.seedPtp s) := by
  unfold State.seedPtp
  extract_lets x1 x2
  have kx1 : Keeps s0 x1 := by
    unfold x1
    repeat' first | with_reducible assumption | with_reducible apply State.onTime_keeps
  try clear_value x1
  have kx2 : Keeps s0 x2 := by
    unfold x2
    repeat' first | with_reducible assumption | with_reducible apply State.onTime_keeps
  try clear_value x2
  repeat' first | with_reducible assumption | with_reducible apply State.onTime_keeps | split | simp only [Keeps.mk_iff]

theorem State.raiseKept_keeps {s0 : State} (s : State) (h : Keeps s0 s) : Keeps s0 (State.raiseKept s) := by
  unfold State.raiseKept
  extract_lets x1 x2 x3 x4 x5 x6 x7
  have kx3 : Keeps s0 x3 := by
    unfold x3
    repeat' first | with_reducible assumption | with_reducible apply State.pushFault_keeps | with_reducible apply State.fault_keeps | with_reducible apply State.onTime_keeps | split | simp only [Keeps.mk_iff]
  try clear_value x3
  have kx4 : Keeps s0 x4 := by
    unfold x4
    repeat' first | with_reducible assumption | with_reducible apply State.pushFault_keeps | with_reducible apply State.fault_keeps | with_reducible apply State.onTime_keeps | split | simp only [Keeps.mk_iff] | with_reducible refine Keeps.foldl (fun _ _ _ => ?_) ?_
  try clear_value x4
  have kx5 : Keeps s0 x5 := by
    unfold x5
    repeat' first | with_reducible assumption | with_reducible apply State.pushFault_keeps | with_reducible apply State.fault_keeps | with_reducible apply State.onTime_keeps | split
  try clear_value x5
  have kx6 : Keeps s0 x6 := by
    unfold x6
    repeat' first | with_reducible assumption | with_reducible apply State.pushFault_keeps | with_reducible apply State.fault_keeps | with_reducible apply State.onTime_keeps | split
  try clear_value x6
  repeat' first | with_reducible assumption | with_reducible apply State.pushFault_keeps | with_reducible apply State.fault_keeps | with_reducible apply State.onTime_keeps | split | simp only [Keeps.mk_iff]

theorem State.rollLoad_keeps {s0 : State} (s : State) (h : Keeps s0 s) : Keeps s0 (State.rollLoad s) := by
  unfold State.rollLoad
  extract_lets x1 x2 x3
  have kx3 : Keeps s0 x3 := by
    unfold x3
    repeat' first | with_reducible assumption | with_reducible apply State.onBoard_keeps | with_reducible apply State.setReg_keeps
  try clear_value x3
  repeat' first | with_reducible assumption | with_reducible apply State.onBoard_keeps | with_reducible apply State.setReg_keeps | with_reducible apply State.houseEvt_keeps | split

theorem State.enterBoot_keeps {s0 : State} (s : State) (a1 a2) (h : Keeps s0 s) : Keeps s0 (State.enterBoot s a1 a2) := by
  unfold State.enterBoot
  repeat' first | with_reducible assumption | with_reducible apply State.draw_keeps | with_reducible apply State.seedPtp_keeps | with_reducible apply State.onBoard_keeps | with_reducible apply State.leaseRegs_keeps | with_reducible apply State.enterMode_keeps | with_reducible apply State.rollLoad_keeps | with_reducible apply State.startLedger_keeps | with_reducible apply State.raiseKept_keeps | split | simp only [Keeps.mk_iff] | with_reducible refine Keeps.foldl (fun _ _ _ => ?_) ?_

theorem State.syncHoldok_keeps {s0 : State} (s : State) (h : Keeps s0 s) : Keeps s0 (State.syncHoldok s) := by
  unfold State.syncHoldok
  extract_lets x1 x2
  have kx2 : Keeps s0 x2 := by
    unfold x2
    repeat' first | with_reducible assumption | with_reducible apply State.onPwr_keeps
  try clear_value x2
  repeat' first | with_reducible assumption | with_reducible apply State.onPwr_keeps | with_reducible apply State.powerEvt_keeps | split

theorem State.chgTo_keeps {s0 : State} (s : State) (a1 a2) (h : Keeps s0 s) : Keeps s0 (State.chgTo s a1 a2) := by
  unfold State.chgTo
  extract_lets x1 x2 x3 x4 x5
  have kx3 : Keeps s0 x3 := by
    unfold x3
    repeat' first | with_reducible assumption | with_reducible apply State.onPwr_keeps
  try clear_value x3
  have kx4 : Keeps s0 x4 := by
    unfold x4
    repeat' first | with_reducible assumption | with_reducible apply State.onPwr_keeps | with_reducible apply State.powerEvt_keeps | with_reducible apply State.syncHoldok_keeps | split
  try clear_value x4
  have kx5 : Keeps s0 x5 := by
    unfold x5
    repeat' first | with_reducible assumption | with_reducible apply State.onPwr_keeps | with_reducible apply State.powerEvt_keeps | with_reducible apply State.syncHoldok_keeps | split
  try clear_value x5
  repeat' first | with_reducible assumption | with_reducible apply State.onPwr_keeps | with_reducible apply State.powerEvt_keeps | with_reducible apply State.syncHoldok_keeps | split

theorem State.setSearch_keeps {s0 : State} (s : State) (a1) (h : Keeps s0 s) : Keeps s0 (State.setSearch s a1) := by
  unfold State.setSearch
  extract_lets x1
  have kx1 : Keeps s0 x1 := by
    unfold x1
    repeat' first | with_reducible assumption | with_reducible apply State.onPwr_keeps
  try clear_value x1
  repeat' first | with_reducible assumption | with_reducible apply State.onPwr_keeps | with_reducible apply State.powerEvt_keeps | split

theorem State.chgStart_keeps {s0 : State} (s : State) (h : Keeps s0 s) : Keeps s0 (State.chgStart s) := by
  unfold State.chgStart
  extract_lets x1
  repeat' first | with_reducible assumption | with_reducible apply State.chgTo_keeps | split

theorem State.startSearch_keeps {s0 : State} (s : State) (h : Keeps s0 s) : Keeps s0 (State.startSearch s) := by
  unfold State.startSearch
  repeat' first | with_reducible assumption | with_reducible apply State.setSearch_keeps

theorem State.endTest_keeps {s0 : State} (s : State) (a1 a2) (h : Keeps s0 s) : Keeps s0 (State.endTest s a1 a2) := by
  unfold State.endTest
  extract_lets x1 x2 x3 x4 x5 x6 x7
  have kx6 : Keeps s0 x6 := by
    unfold x6
    repeat' first | with_reducible assumption | with_reducible apply State.onPwr_keeps
  try clear_value x6
  have kx7 : Keeps s0 x7 := by
    unfold x7
    repeat' first | with_reducible assumption | with_reducible apply State.onPwr_keeps | with_reducible apply State.chgTo_keeps
  try clear_value x7
  repeat' first | with_reducible assumption | with_reducible apply State.onPwr_keeps | with_reducible apply State.chgTo_keeps | with_reducible apply State.powerEvt_keeps | split

theorem State.collapse_keeps {s0 : State} (s : State) (a1 a2) (h : Keeps s0 s) : Keeps s0 (State.collapse s a1 a2) := by
  unfold State.collapse
  extract_lets x1 x2
  have kx2 : Keeps s0 x2 := by
    unfold x2
    repeat' first | with_reducible assumption | with_reducible apply State.snapshot_keeps
  try clear_value x2
  repeat' first | with_reducible assumption | with_reducible apply State.snapshot_keeps | with_reducible apply State.toKeep_keeps | split

theorem State.lehrAbort_keeps {s0 : State} (s : State) (h : Keeps s0 s) : Keeps s0 (State.lehrAbort s) := by
  unfold State.lehrAbort
  extract_lets x1 x2
  have kx1 : Keeps s0 x1 := by
    unfold x1
    repeat' first | with_reducible assumption | with_reducible refine State.forChans_keeps _ _ _ (fun _ _ _ => ?_) ?_ | with_reducible apply State.hardStop_keeps
  try clear_value x1
  have kx2 : Keeps s0 x2 := by
    unfold x2
    repeat' first | with_reducible assumption | with_reducible refine State.forChans_keeps _ _ _ (fun _ _ _ => ?_) ?_ | with_reducible apply State.hardStop_keeps | with_reducible apply State.onBoard_keeps
  try clear_value x2
  repeat' first | with_reducible assumption | with_reducible refine State.forChans_keeps _ _ _ (fun _ _ _ => ?_) ?_ | with_reducible apply State.hardStop_keeps | with_reducible apply State.onBoard_keeps | with_reducible apply State.toKeep_keeps

theorem State.tryReturn_keeps {s0 : State} (s : State) (h : Keeps s0 s) : Keeps s0 (State.tryReturn s) := by
  unfold State.tryReturn
  extract_lets x1 x2 x3 x4 x5
  have kx3 : Keeps s0 x3 := by
    unfold x3
    repeat' first | with_reducible assumption | with_reducible apply State.onPwr_keeps
  try clear_value x3
  have kx4 : Keeps s0 x4 := by
    unfold x4
    repeat' first | with_reducible assumption | with_reducible apply State.onPwr_keeps | with_reducible apply State.powerEvt_keeps | with_reducible apply State.chgTo_keeps | with_reducible apply State.chgStart_keeps | split
  try clear_value x4
  have kx5 : Keeps s0 x5 := by
    unfold x5
    repeat' first | with_reducible assumption | with_reducible apply State.onPwr_keeps | with_reducible apply State.powerEvt_keeps | with_reducible apply State.chgTo_keeps | with_reducible apply State.chgStart_keeps | split
  try clear_value x5
  repeat' first | with_reducible assumption | with_reducible apply State.onPwr_keeps | with_reducible apply State.powerEvt_keeps | with_reducible apply State.chgTo_keeps | with_reducible apply State.chgStart_keeps | split

theorem State.powerDownStep_keeps {s0 : State} (s : State) (h : Keeps s0 s) : Keeps s0 (State.powerDownStep s) := by
  unfold State.powerDownStep
  extract_lets x1 x2
  have kx2 : Keeps s0 x2 := by
    unfold x2
    repeat' first | with_reducible assumption | with_reducible apply State.onPwr_keeps
  try clear_value x2
  repeat' first | with_reducible assumption | with_reducible apply State.onPwr_keeps | with_reducible apply State.driveTarget_keeps | with_reducible apply State.tryWake_keeps | with_reducible apply State.releasePwron_keeps | split

theorem State.stormBegin_keeps {s0 : State} (s : State) (a1) (h : Keeps s0 s) : Keeps s0 (State.stormBegin s a1) := by
  unfold State.stormBegin
  extract_lets x1
  have kx1 : Keeps s0 x1 := by
    unfold x1
    repeat' first | with_reducible assumption | with_reducible apply State.onTenant_keeps
  try clear_value x1
  repeat' first | with_reducible assumption | with_reducible apply State.onTenant_keeps | split | simp only [Keeps.mk_iff]

theorem State.stormCount_keeps {s0 : State} (s : State) (a1 a2 a3) (h : Keeps s0 s) : Keeps s0 (State.stormCount s a1 a2 a3) := by
  unfold State.stormCount
  extract_lets x1
  have kx1 : Keeps s0 x1 := by
    unfold x1
    repeat' first | with_reducible assumption | with_reducible apply State.onTenant_keeps
  try clear_value x1
  repeat' first | with_reducible assumption | with_reducible apply State.onTenant_keeps | split | simp only [Keeps.mk_iff]

theorem State.stormStir_keeps {s0 : State} (s : State) (a1) (h : Keeps s0 s) : Keeps s0 (State.stormStir s a1) := by
  unfold State.stormStir
  repeat' first | with_reducible assumption | with_reducible apply State.onTenant_keeps

theorem State.stormDrop_keeps {s0 : State} (s : State) (a1 a2 a3) (h : Keeps s0 s) : Keeps s0 (State.stormDrop s a1 a2 a3) := by
  unfold State.stormDrop
  repeat' first | with_reducible assumption | with_reducible apply State.fault_keeps | with_reducible apply State.stormCount_keeps | with_reducible apply State.onQueue_keeps

theorem State.coalRoom_keeps {s0 : State} (s : State) (a1) (h : Keeps s0 s) : Keeps s0 (State.coalRoom s a1) := by
  unfold State.coalRoom
  repeat' first | with_reducible assumption | with_reducible apply State.stormDrop_keeps | with_reducible apply State.onTenant_keeps | split

theorem State.coalesce_keeps {s0 : State} (s : State) (a1 a2 a3 a4 a5) (h : Keeps s0 s) : Keeps s0 (State.coalesce s a1 a2 a3 a4 a5) := by
  unfold State.coalesce
  extract_lets x1 x2 x3 x4 x5 x6 x7
  have kx2 : Keeps s0 x2 := by
    unfold x2
    repeat' first | with_reducible assumption | with_reducible apply State.stormBegin_keeps
  try clear_value x2
  have kx3 : Keeps s0 x3 := by
    unfold x3
    repeat' first | with_reducible assumption | with_reducible apply State.stormBegin_keeps | with_reducible apply State.stormCount_keeps
  try clear_value x3
  have kx5 : Keeps s0 x5 := by
    unfold x5
    repeat' first | with_reducible assumption | with_reducible apply State.stormBegin_keeps | with_reducible apply State.stormCount_keeps | with_reducible apply State.onTenant_keeps | with_reducible apply State.coalRoom_keeps
  try clear_value x5
  have kx7 : Keeps s0 x7 := by
    unfold x7
    repeat' first | with_reducible assumption | with_reducible apply State.stormBegin_keeps | with_reducible apply State.stormCount_keeps | with_reducible apply State.onTenant_keeps | with_reducible apply State.coalRoom_keeps | with_reducible apply State.stormDrop_keeps | with_reducible apply State.stormStir_keeps | split
  try clear_value x7
  repeat' first | with_reducible assumption | with_reducible apply State.stormBegin_keeps | with_reducible apply State.stormCount_keeps | with_reducible apply State.onTenant_keeps | with_reducible apply State.coalRoom_keeps | with_reducible apply State.stormDrop_keeps | with_reducible apply State.stormStir_keeps

theorem State.placeEvt_keeps {s0 : State} (s : State) (a1 a2 a3 a4 a5) (h : Keeps s0 s) : Keeps s0 (State.placeEvt s a1 a2 a3 a4 a5) := by
  unfold State.placeEvt
  extract_lets x1 x2 x3 x4 x5 x6
  have kx2 : Keeps s0 x2 := by
    unfold x2
    repeat' first | with_reducible assumption | with_reducible apply State.onQueue_keeps
  try clear_value x2
  have kx4 : Keeps s0 x4 := by
    unfold x4
    repeat' first | with_reducible assumption | with_reducible apply State.onQueue_keeps | with_reducible apply State.onTenant_keeps
  try clear_value x4
  have kx5 : Keeps s0 x5 := by
    unfold x5
    repeat' first | with_reducible assumption | with_reducible apply State.onQueue_keeps | with_reducible apply State.onTenant_keeps | with_reducible apply State.stormCount_keeps
  try clear_value x5
  have kx6 : Keeps s0 x6 := by
    unfold x6
    repeat' first | with_reducible assumption | with_reducible apply State.onQueue_keeps | with_reducible apply State.onTenant_keeps | with_reducible apply State.stormCount_keeps | with_reducible apply State.stormStir_keeps | with_reducible apply State.coalesce_keeps | split
  try clear_value x6
  repeat' first | with_reducible assumption | with_reducible apply State.onQueue_keeps | with_reducible apply State.onTenant_keeps | with_reducible apply State.stormCount_keeps | with_reducible apply State.stormStir_keeps | with_reducible apply State.coalesce_keeps | split

theorem State.closeSession_keeps {s0 : State} (s : State) (a1) (h : Keeps s0 s) : Keeps s0 (State.closeSession s a1) := by
  unfold State.closeSession
  repeat' first | with_reducible assumption | split | simp only [Keeps.mk_iff]

theorem State.sendIn_keeps {s0 : State} (s : State) (a1 a2) (h : Keeps s0 s) : Keeps s0 (State.sendIn s a1 a2) := by
  unfold State.sendIn
  extract_lets x1 x2
  have kx1 : Keeps s0 x1 := by
    unfold x1
    repeat' first | with_reducible assumption | with_reducible apply State.onSession_keeps | with_reducible apply State.closeSession_keeps | split | simp only [Keeps.mk_iff]
  try clear_value x1
  have kx2 : Keeps s0 x2 := by
    unfold x2
    repeat' first | with_reducible assumption | with_reducible apply State.onSession_keeps
  try clear_value x2
  repeat' first | with_reducible assumption | with_reducible apply State.onSession_keeps | with_reducible apply State.closeSession_keeps | split

theorem State.sendCredit_keeps {s0 : State} (s : State) (a1) (h : Keeps s0 s) : Keeps s0 (State.sendCredit s a1) := by
  unfold State.sendCredit
  repeat' first | with_reducible assumption | with_reducible apply State.sendIn_keeps | with_reducible apply State.onQueue_keeps | split

theorem State.sendEntries_keeps {s0 : State} (s : State) (a1 a2) (h : Keeps s0 s) : Keeps s0 (State.sendEntries s a1 a2) := by
  unfold State.sendEntries
  repeat' first | with_reducible assumption | with_reducible apply State.onQueue_keeps | with_reducible apply State.sendIn_keeps | split | simp only

theorem State.takeCredit_keeps {s0 : State} (s : State) (a1 a2) (h : Keeps s0 s) : Keeps s0 (State.takeCredit s a1 a2) := by
  unfold State.takeCredit
  repeat' first | with_reducible assumption | with_reducible apply State.bump_keeps | with_reducible apply State.onQueue_keeps | split

theorem State.onLed_keeps {s0 : State} (s : State) (a1) (h : Keeps s0 s) : Keeps s0 (State.onLed s a1) := by
  unfold State.onLed
  repeat' first | with_reducible assumption | with_reducible apply State.onBoard_keeps

theorem State.onStream_keeps {s0 : State} (s : State) (a1 a2) (h : Keeps s0 s) : Keeps s0 (State.onStream s a1 a2) := by
  unfold State.onStream
  repeat' first | with_reducible assumption | with_reducible apply State.onLed_keeps

theorem State.sealStream_keeps {s0 : State} (s : State) (a1 a2) (h : Keeps s0 s) : Keeps s0 (State.sealStream s a1 a2) := by
  unfold State.sealStream
  extract_lets x1
  repeat' first | with_reducible assumption | with_reducible apply State.onLed_keeps | with_reducible apply State.onStream_keeps | split

theorem State.stageTrain_keeps {s0 : State} (s : State) (a1 a2) (h : Keeps s0 s) : Keeps s0 (State.stageTrain s a1 a2) := by
  unfold State.stageTrain
  extract_lets x1
  have kx1 : Keeps s0 x1 := by
    unfold x1
    repeat' first | with_reducible assumption | with_reducible apply State.sealStream_keeps | with_reducible apply State.onStream_keeps | split
  try clear_value x1
  repeat' first | with_reducible assumption | with_reducible apply State.sealStream_keeps | with_reducible apply State.onStream_keeps

theorem State.stageMiss_keeps {s0 : State} (s : State) (a1) (h : Keeps s0 s) : Keeps s0 (State.stageMiss s a1) := by
  unfold State.stageMiss
  extract_lets x1 x2
  have kx1 : Keeps s0 x1 := by
    unfold x1
    repeat' first | with_reducible assumption | with_reducible apply State.onStream_keeps
  try clear_value x1
  have kx2 : Keeps s0 x2 := by
    unfold x2
    repeat' first | with_reducible assumption | with_reducible apply State.onStream_keeps | with_reducible apply State.setBit_keeps | with_reducible apply State.bump_keeps
  try clear_value x2
  repeat' first | with_reducible assumption | with_reducible apply State.onStream_keeps | with_reducible apply State.setBit_keeps | with_reducible apply State.bump_keeps | with_reducible apply State.fault_keeps | with_reducible apply State.onLed_keeps | split

theorem State.stage_keeps {s0 : State} (s : State) (a1 a2 a3) (h : Keeps s0 s) : Keeps s0 (State.stage s a1 a2 a3) := by
  unfold State.stage
  repeat' first | with_reducible assumption | with_reducible apply State.stageTrain_keeps | with_reducible apply State.stageMiss_keeps | split

theorem State.finishBatch_keeps {s0 : State} (s : State) (a1 a2) (h : Keeps s0 s) : Keeps s0 (State.finishBatch s a1 a2).1 := by
  unfold State.finishBatch
  extract_lets x1 x2 x3 x4 x5 x6 x7 x8 x9 x10
  repeat' first | with_reducible assumption | with_reducible apply State.onLed_keeps | with_reducible apply State.onStream_keeps

theorem State.closeSeg_keeps {s0 : State} (s : State) (a1 a2 a3) (h : Keeps s0 s) : Keeps s0 (State.closeSeg s a1 a2 a3) := by
  unfold State.closeSeg
  repeat' first | with_reducible assumption | with_reducible apply State.onLed_keeps | with_reducible apply State.onStream_keeps | split

theorem State.ledgerEvt_keeps {s0 : State} (s : State) (a1) (h : Keeps s0 s) : Keeps s0 (State.ledgerEvt s a1) := by
  unfold State.ledgerEvt
  repeat' first | with_reducible assumption | with_reducible apply State.houseEvt_keeps

theorem State.spaceLow_keeps {s0 : State} (s : State) (h : Keeps s0 s) : Keeps s0 (State.spaceLow s) := by
  unfold State.spaceLow
  extract_lets x1 x2
  have kx2 : Keeps s0 x2 := by
    unfold x2
    repeat' first | with_reducible assumption | with_reducible apply State.onLed_keeps
  try clear_value x2
  repeat' first | with_reducible assumption | with_reducible apply State.onLed_keeps | with_reducible apply State.ledgerEvt_keeps | split

theorem State.roomFor_keeps {s0 : State} (s : State) (a1 a2 a3) (h : Keeps s0 s) : Keeps s0 (State.roomFor s a1 a2 a3).1 := by
  unfold State.roomFor
  extract_lets x1 x2 x3
  have kx2 : Keeps s0 x2 := by
    unfold x2
    repeat' first | with_reducible assumption | with_reducible apply State.closeSeg_keeps | with_reducible apply State.onStream_keeps | with_reducible apply State.onLed_keeps | with_reducible apply State.spaceLow_keeps | with_reducible apply State.fault_keeps | with_reducible apply State.setBit_keeps | split
  try clear_value x2
  repeat' first | with_reducible assumption | with_reducible apply State.closeSeg_keeps | with_reducible apply State.onStream_keeps | with_reducible apply State.onLed_keeps | with_reducible apply State.spaceLow_keeps | with_reducible apply State.fault_keeps | with_reducible apply State.setBit_keeps | split

theorem State.writeOne_keeps {s0 : State} (s : State) (a1) (h : Keeps s0 s) : Keeps s0 (State.writeOne s a1).1 := by
  unfold State.writeOne
  extract_lets x1 x2
  repeat' first | with_reducible assumption | with_reducible apply State.roomFor_keeps | with_reducible apply State.finishBatch_keeps | with_reducible apply State.onStream_keeps | split | simp only | with_reducible refine Keeps.foldl (fun _ _ _ => ?_) ?_ | with_reducible refine Keeps.foldl1 (fun _ _ _ => ?_) ?_ | with_reducible refine Keeps.foldl2 (fun _ _ _ => ?_) ?_ | dsimp only | with_reducible refine Keeps.of_fst ‹_ = (_, _)› ?_

theorem State.writeOut_keeps {s0 : State} (s : State) (h : Keeps s0 s) : Keeps s0 (State.writeOut s) := by
  unfold State.writeOut
  extract_lets x1 x2 x3
  have kx3 : Keeps s0 x3.1 := by
    unfold x3
    repeat' first | with_reducible assumption | with_reducible apply State.writeOne_keeps | with_reducible apply State.onLed_keeps | split | simp only | with_reducible refine Keeps.foldl (fun _ _ _ => ?_) ?_ | with_reducible refine Keeps.foldl1 (fun _ _ _ => ?_) ?_
  try clear_value x3
  repeat' first | with_reducible assumption | with_reducible apply State.writeOne_keeps | with_reducible apply State.onLed_keeps

theorem State.sealAll_keeps {s0 : State} (s : State) (a1) (h : Keeps s0 s) : Keeps s0 (State.sealAll s a1) := by
  unfold State.sealAll
  extract_lets x1
  have kx1 : Keeps s0 x1 := by
    unfold x1
    repeat' first | with_reducible assumption | with_reducible apply State.onLed_keeps
  try clear_value x1
  repeat' first | with_reducible assumption | with_reducible apply State.onLed_keeps | with_reducible apply State.writeOut_keeps | with_reducible apply State.sealStream_keeps | split | simp only [Keeps.mk_iff] | with_reducible refine Keeps.foldl (fun _ _ _ => ?_) ?_

theorem State.durable_keeps {s0 : State} (s : State) (h : Keeps s0 s) : Keeps s0 (State.durable s) := by
  unfold State.durable
  extract_lets x1 x2 x3 x4 x5 x6
  have kx2 : Keeps s0 x2 := by
    unfold x2
    repeat' first | with_reducible assumption | with_reducible apply State.onStream_keeps | with_reducible apply State.onLed_keeps | split | simp only [Keeps.mk_iff] | with_reducible refine Keeps.foldl (fun _ _ _ => ?_) ?_
  try clear_value x2
  have kx5 : Keeps s0 x5 := by
    unfold x5
    repeat' first | with_reducible assumption | with_reducible apply State.onStream_keeps | with_reducible apply State.onLed_keeps
  try clear_value x5
  have kx6 : Keeps s0 x6 := by
    unfold x6
    repeat' first | with_reducible assumption | with_reducible apply State.onStream_keeps | with_reducible apply State.onLed_keeps | split | simp only [Keeps.mk_iff] | with_reducible refine Keeps.foldl (fun _ _ _ => ?_) ?_
  try clear_value x6
  repeat' first | with_reducible assumption | with_reducible apply State.onStream_keeps | with_reducible apply State.onLed_keeps

theorem State.gap_keeps {s0 : State} (s : State) (a1 a2 a3 a4 a5) (h : Keeps s0 s) : Keeps s0 (State.gap s a1 a2 a3 a4 a5) := by
  unfold State.gap
  extract_lets x1
  repeat' first | with_reducible assumption | with_reducible apply State.bump_keeps | with_reducible apply State.pushRec_keeps | with_reducible apply State.stageTrain_keeps

theorem State.missGaps_keeps {s0 : State} (s : State) (a1) (h : Keeps s0 s) : Keeps s0 (State.missGaps s a1) := by
  unfold State.missGaps
  repeat' first | with_reducible assumption | with_reducible apply State.onStream_keeps | with_reducible apply State.gap_keeps | split | simp only [Keeps.mk_iff] | with_reducible refine Keeps.foldl (fun _ _ _ => ?_) ?_

theorem State.rewriteFrom_keeps {s0 : State} (s : State) (a1 a2) (h : Keeps s0 s) : Keeps s0 (State.rewriteFrom s a1 a2) := by
  unfold State.rewriteFrom
  extract_lets x1 x2
  have kx1 : Keeps s0 x1 := by
    unfold x1
    repeat' first | with_reducible assumption | with_reducible apply State.closeSeg_keeps
  try clear_value x1
  repeat' first | with_reducible assumption | with_reducible apply State.closeSeg_keeps | with_reducible apply State.onStream_keeps | with_reducible apply State.onLed_keeps | split

theorem State.onDrive_keeps {s0 : State} (s : State) (a1 a2) (h : Keeps s0 s) : Keeps s0 (State.onDrive s a1 a2) := by
  unfold State.onDrive
  repeat' first | with_reducible assumption | with_reducible apply State.onLed_keeps

theorem State.loseDrive_keeps {s0 : State} (s : State) (a1) (h : Keeps s0 s) : Keeps s0 (State.loseDrive s a1) := by
  unfold State.loseDrive
  extract_lets x1 x2
  have kx1 : Keeps s0 x1 := by
    unfold x1
    repeat' first | with_reducible assumption | with_reducible apply State.ledgerEvt_keeps | with_reducible apply State.pushFault_keeps | with_reducible apply State.onDrive_keeps
  try clear_value x1
  have kx2 : Keeps s0 x2 := by
    unfold x2
    repeat' first | with_reducible assumption | with_reducible apply State.ledgerEvt_keeps | with_reducible apply State.pushFault_keeps | with_reducible apply State.onDrive_keeps | with_reducible apply State.rewriteFrom_keeps | with_reducible apply State.closeSeg_keeps | with_reducible apply State.writeOut_keeps | with_reducible apply State.onLed_keeps | split | simp only [Keeps.mk_iff] | with_reducible refine Keeps.foldl (fun _ _ _ => ?_) ?_
  try clear_value x2
  repeat' first | with_reducible assumption | with_reducible apply State.ledgerEvt_keeps | with_reducible apply State.pushFault_keeps | with_reducible apply State.onDrive_keeps | with_reducible apply State.rewriteFrom_keeps | with_reducible apply State.closeSeg_keeps | with_reducible apply State.writeOut_keeps | with_reducible apply State.onLed_keeps | split

theorem State.driveFail_keeps {s0 : State} (s : State) (a1) (h : Keeps s0 s) : Keeps s0 (State.driveFail s a1) := by
  unfold State.driveFail
  extract_lets x1 x2 x3 x4
  have kx3 : Keeps s0 x3 := by
    unfold x3
    repeat' first | with_reducible assumption | with_reducible apply State.onDrive_keeps
  try clear_value x3
  have kx4 : Keeps s0 x4 := by
    unfold x4
    repeat' first | with_reducible assumption | with_reducible apply State.onDrive_keeps | with_reducible apply State.onLed_keeps
  try clear_value x4
  repeat' first | with_reducible assumption | with_reducible apply State.onDrive_keeps | with_reducible apply State.onLed_keeps | with_reducible apply State.loseDrive_keeps | split

theorem State.mount_keeps {s0 : State} (s : State) (h : Keeps s0 s) : Keeps s0 (State.mount s) := by
  unfold State.mount
  extract_lets x1
  have kx1 : Keeps s0 x1 := by
    unfold x1
    repeat' first | with_reducible assumption | with_reducible apply State.onLed_keeps
  try clear_value x1
  repeat' first | with_reducible assumption | with_reducible apply State.onLed_keeps | with_reducible apply State.writeOut_keeps | with_reducible apply State.missGaps_keeps

theorem State.initBlocks_keeps {s0 : State} (s : State) (h : Keeps s0 s) : Keeps s0 (State.initBlocks s) := by
  unfold State.initBlocks
  extract_lets x1 x2 x3 x4
  have kx2 : Keeps s0 x2 := by
    unfold x2
    repeat' first | with_reducible assumption | with_reducible apply State.onLed_keeps
  try clear_value x2
  have kx3 : Keeps s0 x3 := by
    unfold x3
    repeat' first | with_reducible assumption | with_reducible apply State.onLed_keeps
  try clear_value x3
  repeat' first | with_reducible assumption | with_reducible apply State.onLed_keeps

theorem State.initLedger_keeps {s0 : State} (s : State) (h : Keeps s0 s) : Keeps s0 (State.initLedger s) := by
  unfold State.initLedger
  repeat' first | with_reducible assumption | with_reducible apply State.draw_keeps | with_reducible apply State.onTenant_keeps | with_reducible apply State.onLed_keeps | with_reducible apply State.mount_keeps | with_reducible apply State.initBlocks_keeps

theorem State.startResilver_keeps {s0 : State} (s : State) (a1) (h : Keeps s0 s) : Keeps s0 (State.startResilver s a1) := by
  unfold State.startResilver
  repeat' first | with_reducible assumption | with_reducible apply State.onLed_keeps | with_reducible apply State.setReg_keeps | with_reducible apply State.onDrive_keeps | split | simp only | with_reducible refine Keeps.foldl (fun _ _ _ => ?_) ?_

theorem State.bootGaps_keeps {s0 : State} (s : State) (a1) (h : Keeps s0 s) : Keeps s0 (State.bootGaps s a1) := by
  unfold State.bootGaps
  extract_lets x1
  repeat' first | with_reducible assumption | with_reducible apply State.sealStream_keeps | with_reducible apply State.gap_keeps | split | simp only [Keeps.mk_iff] | with_reducible refine Keeps.foldl (fun _ _ _ => ?_) ?_

theorem State.takeBootcnt_keeps {s0 : State} (s : State) (h : Keeps s0 s) : Keeps s0 (State.takeBootcnt s) := by
  unfold State.takeBootcnt
  extract_lets x1 x2 x3
  have kx3 : Keeps s0 x3.1 := by
    unfold x3
    repeat' first | with_reducible assumption | with_reducible apply State.nvmWrite_keeps
  try clear_value x3
  repeat' first | with_reducible assumption | with_reducible apply State.nvmWrite_keeps | with_reducible apply State.onLed_keeps

theorem State.recover_keeps {s0 : State} (s : State) (a1 a2) (h : Keeps s0 s) : Keeps s0 (State.recover s a1 a2) := by
  unfold State.recover
  extract_lets x1 x2 x3 x4
  have kx2 : Keeps s0 x2 := by
    unfold x2
    repeat' first | with_reducible assumption | with_reducible apply State.onLed_keeps
  try clear_value x2
  have kx3 : Keeps s0 x3 := by
    unfold x3
    repeat' first | with_reducible assumption | with_reducible apply State.onLed_keeps | with_reducible apply State.fault_keeps | with_reducible apply State.setBit_keeps | with_reducible apply State.bootGaps_keeps | split
  try clear_value x3
  repeat' first | with_reducible assumption | with_reducible apply State.onLed_keeps | with_reducible apply State.fault_keeps | with_reducible apply State.setBit_keeps | with_reducible apply State.bootGaps_keeps

theorem State.remount_keeps {s0 : State} (s : State) (a1) (h : Keeps s0 s) : Keeps s0 (State.remount s a1) := by
  unfold State.remount
  extract_lets x1
  have kx1 : Keeps s0 x1 := by
    unfold x1
    repeat' first | with_reducible assumption | with_reducible apply State.startResilver_keeps
  try clear_value x1
  repeat' first | with_reducible assumption | with_reducible apply State.startResilver_keeps | with_reducible apply State.onLed_keeps

theorem execLedgerRecovery_keeps {s0 : State} (s : State) (a1 a2 a3 a4) (h : Keeps s0 s) : KeepsOut s0 (execLedgerRecovery a1 a2 a3 a4 s) := by
  unfold execLedgerRecovery
  extract_lets x1 x2 x3 x4 x5 x6 x7 x8 x9
  have kx4 : Keeps s0 x4 := by
    unfold x4
    repeat' first | with_reducible assumption | with_reducible apply KeepsOut.next | with_reducible exact KeepsOut.fault | with_reducible apply State.onLed_keeps
  try clear_value x4
  have kx5 : Keeps s0 x5 := by
    unfold x5
    repeat' first | with_reducible assumption | with_reducible apply KeepsOut.next | with_reducible exact KeepsOut.fault | with_reducible apply State.onLed_keeps | with_reducible apply State.pushFault_keeps | with_reducible apply State.setBit_keeps | with_reducible apply State.takeBootcnt_keeps | with_reducible apply State.mount_keeps | with_reducible apply State.recover_keeps | with_reducible apply State.remount_keeps | with_reducible apply State.fault_keeps | split
  try clear_value x5
  have kx7 : Keeps s0 x7 := by
    unfold x7
    repeat' first | with_reducible assumption | with_reducible apply KeepsOut.next | with_reducible exact KeepsOut.fault | with_reducible apply State.onLed_keeps
  try clear_value x7
  have kx8 : Keeps s0 x8 := by
    unfold x8
    repeat' first | with_reducible assumption | with_reducible apply KeepsOut.next | with_reducible exact KeepsOut.fault | with_reducible apply State.onLed_keeps | with_reducible apply State.pushFault_keeps | with_reducible apply State.setBit_keeps | with_reducible apply State.takeBootcnt_keeps | with_reducible apply State.mount_keeps | with_reducible apply State.recover_keeps | with_reducible apply State.remount_keeps | with_reducible apply State.fault_keeps | split
  try clear_value x8
  have kx9 : Keeps s0 x9 := by
    unfold x9
    repeat' first | with_reducible assumption | with_reducible apply KeepsOut.next | with_reducible exact KeepsOut.fault | with_reducible apply State.onLed_keeps
  try clear_value x9
  repeat' first | with_reducible assumption | with_reducible apply KeepsOut.next | with_reducible exact KeepsOut.fault | with_reducible apply State.onLed_keeps | with_reducible apply State.pushFault_keeps | with_reducible apply State.setBit_keeps | with_reducible apply State.takeBootcnt_keeps | with_reducible apply State.mount_keeps | with_reducible apply State.recover_keeps | with_reducible apply State.remount_keeps | with_reducible apply State.fault_keeps | split

theorem execSealTick_keeps {s0 : State} (s : State) (h : Keeps s0 s) : KeepsOut s0 (execSealTick s) := by
  unfold execSealTick
  extract_lets x1
  repeat' first | with_reducible assumption | with_reducible apply KeepsOut.next | with_reducible exact KeepsOut.fault | with_reducible apply State.sealAll_keeps | with_reducible apply State.onLed_keeps | split

theorem execBatchDurable_keeps {s0 : State} (s : State) (h : Keeps s0 s) : KeepsOut s0 (execBatchDurable s) := by
  unfold execBatchDurable
  repeat' first | with_reducible assumption | with_reducible apply KeepsOut.next | with_reducible exact KeepsOut.fault | with_reducible apply State.durable_keeps | split

theorem execStagingGap_keeps {s0 : State} (s : State) (h : Keeps s0 s) : KeepsOut s0 (execStagingGap s) := by
  unfold execStagingGap
  repeat' first | with_reducible assumption | with_reducible apply KeepsOut.next | with_reducible exact KeepsOut.fault | with_reducible apply State.missGaps_keeps | split

theorem execLedgerReclaim_keeps {s0 : State} (s : State) (h : Keeps s0 s) : KeepsOut s0 (execLedgerReclaim s) := by
  unfold execLedgerReclaim
  extract_lets x1 x2
  have kx2 : Keeps s0 x2 := by
    unfold x2
    repeat' first | with_reducible assumption | with_reducible apply KeepsOut.next | with_reducible exact KeepsOut.fault | with_reducible apply State.onLed_keeps
  try clear_value x2
  repeat' first | with_reducible assumption | with_reducible apply KeepsOut.next | with_reducible exact KeepsOut.fault | with_reducible apply State.onLed_keeps | with_reducible apply State.writeOut_keeps | with_reducible apply State.spaceLow_keeps | split

theorem execNvmeTimeout_keeps {s0 : State} (s : State) (a1) (h : Keeps s0 s) : KeepsOut s0 (execNvmeTimeout a1 s) := by
  unfold execNvmeTimeout
  repeat' first | with_reducible assumption | with_reducible apply KeepsOut.next | with_reducible exact KeepsOut.fault | with_reducible apply State.driveFail_keeps | with_reducible apply State.onLed_keeps | with_reducible apply State.fault_keeps | with_reducible apply State.setBit_keeps | split

theorem execNvmeError_keeps {s0 : State} (s : State) (a1 a2 a3) (h : Keeps s0 s) : KeepsOut s0 (execNvmeError a1 a2 a3 s) := by
  unfold execNvmeError
  extract_lets x1 x2 x3
  have kx1 : Keeps s0 x1 := by
    unfold x1
    repeat' first | with_reducible assumption | with_reducible apply KeepsOut.next | with_reducible exact KeepsOut.fault | with_reducible apply State.setBit_keeps
  try clear_value x1
  have kx2 : Keeps s0 x2 := by
    unfold x2
    repeat' first | with_reducible assumption | with_reducible apply KeepsOut.next | with_reducible exact KeepsOut.fault | with_reducible apply State.setBit_keeps | with_reducible apply State.driveFail_keeps
  try clear_value x2
  repeat' first | with_reducible assumption | with_reducible apply KeepsOut.next | with_reducible exact KeepsOut.fault | with_reducible apply State.setBit_keeps | with_reducible apply State.driveFail_keeps | with_reducible apply State.onLed_keeps | with_reducible apply State.fault_keeps | with_reducible apply State.rewriteFrom_keeps | with_reducible apply State.writeOut_keeps | with_reducible apply State.gap_keeps | split

theorem execDriveLost_keeps {s0 : State} (s : State) (a1) (h : Keeps s0 s) : KeepsOut s0 (execDriveLost a1 s) := by
  unfold execDriveLost
  repeat' first | with_reducible assumption | with_reducible apply KeepsOut.next | with_reducible exact KeepsOut.fault | with_reducible apply State.loseDrive_keeps

theorem State.copyTo_keeps {s0 : State} (s : State) (a1) (h : Keeps s0 s) : Keeps s0 (State.copyTo s a1) := by
  unfold State.copyTo
  extract_lets x1 x2 x3
  repeat' first | with_reducible assumption | with_reducible apply State.onLed_keeps | split

theorem execResilverDone_keeps {s0 : State} (s : State) (h : Keeps s0 s) : KeepsOut s0 (execResilverDone s) := by
  unfold execResilverDone
  extract_lets x1 x2 x3
  have kx1 : Keeps s0 x1 := by
    unfold x1
    repeat' first | with_reducible assumption | with_reducible apply KeepsOut.next | with_reducible exact KeepsOut.fault | with_reducible apply State.copyTo_keeps | with_reducible apply State.onLed_keeps | with_reducible apply State.setReg_keeps | with_reducible apply State.ledgerEvt_keeps | split | simp only [Keeps.mk_iff] | with_reducible refine Keeps.foldl (fun _ _ _ => ?_) ?_
  try clear_value x1
  have kx2 : Keeps s0 x2 := by
    unfold x2
    repeat' first | with_reducible assumption | with_reducible apply KeepsOut.next | with_reducible exact KeepsOut.fault | with_reducible apply State.copyTo_keeps | with_reducible apply State.onLed_keeps
  try clear_value x2
  have kx3 : Keeps s0 x3 := by
    unfold x3
    repeat' first | with_reducible assumption | with_reducible apply KeepsOut.next | with_reducible exact KeepsOut.fault | with_reducible apply State.copyTo_keeps | with_reducible apply State.onLed_keeps | with_reducible apply State.setReg_keeps | with_reducible apply State.ledgerEvt_keeps | split | simp only [Keeps.mk_iff] | with_reducible refine Keeps.foldl (fun _ _ _ => ?_) ?_
  try clear_value x3
  repeat' first | with_reducible assumption | with_reducible apply KeepsOut.next | with_reducible exact KeepsOut.fault | with_reducible apply State.copyTo_keeps | with_reducible apply State.onLed_keeps | with_reducible apply State.setReg_keeps | with_reducible apply State.ledgerEvt_keeps | split

theorem State.endFetch_keeps {s0 : State} (s : State) (a1 a2) (h : Keeps s0 s) : Keeps s0 (State.endFetch s a1 a2) := by
  unfold State.endFetch
  extract_lets x1 x2
  have kx1 : Keeps s0 x1 := by
    unfold x1
    repeat' first | with_reducible assumption | with_reducible apply State.onLed_keeps
  try clear_value x1
  have kx2 : Keeps s0 x2 := by
    unfold x2
    repeat' first | with_reducible assumption | with_reducible apply State.onLed_keeps | with_reducible apply State.onQueue_keeps
  try clear_value x2
  repeat' first | with_reducible assumption | with_reducible apply State.onLed_keeps | with_reducible apply State.onQueue_keeps | with_reducible apply State.pushEvt_keeps

theorem execLedgerFetchBatch_keeps {s0 : State} (s : State) (a1 a2) (h : Keeps s0 s) : KeepsOut s0 (execLedgerFetchBatch a1 a2 s) := by
  unfold execLedgerFetchBatch
  repeat' first | with_reducible assumption | with_reducible apply KeepsOut.next | with_reducible exact KeepsOut.fault | with_reducible apply State.endFetch_keeps | with_reducible apply State.setBit_keeps | with_reducible apply State.onLed_keeps | split | simp only [Keeps.mk_iff]

theorem State.ledgerInit_keeps {s0 : State} (s : State) (a1) (h : Keeps s0 s) : Keeps s0 (State.ledgerInit s a1) := by
  unfold State.ledgerInit
  extract_lets x1 x2
  repeat' first | with_reducible assumption | with_reducible apply State.initLedger_keeps | with_reducible apply State.onLed_keeps | split

theorem execLedgerInitInit_keeps {s0 : State} (s : State) (h : Keeps s0 s) : KeepsOut s0 (execLedgerInitInit s) := by
  unfold execLedgerInitInit
  repeat' first | with_reducible assumption | with_reducible apply KeepsOut.next | with_reducible exact KeepsOut.fault | with_reducible apply State.ledgerInit_keeps

theorem execLedgerInitErase_keeps {s0 : State} (s : State) (h : Keeps s0 s) : KeepsOut s0 (execLedgerInitErase s) := by
  unfold execLedgerInitErase
  repeat' first | with_reducible assumption | with_reducible apply KeepsOut.next | with_reducible exact KeepsOut.fault | with_reducible apply State.ledgerInit_keeps

theorem State.resumeEntry_keeps {s0 : State} (s : State) (a1) (h : Keeps s0 s) : Keeps s0 (State.resumeEntry s a1) := by
  unfold State.resumeEntry
  extract_lets x1
  have kx1 : Keeps s0 x1 := by
    unfold x1
    repeat' first | with_reducible assumption | with_reducible apply State.onChan_keeps
  try clear_value x1
  repeat' first | with_reducible assumption | with_reducible apply State.onChan_keeps | with_reducible refine State.keepNvm_keeps _ _ _ (fun _ _ => ?_) ?_ | split

theorem State.writeResume_keeps {s0 : State} (s : State) (h : Keeps s0 s) : Keeps s0 (State.writeResume s) := by
  unfold State.writeResume
  extract_lets x1 x2 x3
  have kx1 : Keeps s0 x1 := by
    unfold x1
    repeat' first | with_reducible assumption | with_reducible refine State.forChans_keeps _ _ _ (fun _ _ _ => ?_) ?_ | with_reducible apply State.resumeEntry_keeps | with_reducible apply State.collect_keeps
  try clear_value x1
  have kx2 : Keeps s0 x2 := by
    unfold x2
    repeat' first | with_reducible assumption | with_reducible refine State.forChans_keeps _ _ _ (fun _ _ _ => ?_) ?_ | with_reducible apply State.resumeEntry_keeps | with_reducible apply State.collect_keeps | with_reducible apply State.commitCounters_keeps
  try clear_value x2
  repeat' first | with_reducible assumption | with_reducible refine State.forChans_keeps _ _ _ (fun _ _ _ => ?_) ?_ | with_reducible apply State.resumeEntry_keeps | with_reducible apply State.collect_keeps | with_reducible apply State.commitCounters_keeps | split | simp only [Keeps.mk_iff]

theorem execLehrRampDone_keeps {s0 : State} (s : State) (h : Keeps s0 s) : KeepsOut s0 (execLehrRampDone s) := by
  unfold execLehrRampDone
  extract_lets x1 x2
  have kx1 : Keeps s0 x1 := by
    unfold x1
    repeat' first | with_reducible assumption | with_reducible apply KeepsOut.next | with_reducible exact KeepsOut.fault | with_reducible apply State.writeResume_keeps
  try clear_value x1
  have kx2 : Keeps s0 x2 := by
    unfold x2
    repeat' first | with_reducible assumption | with_reducible apply KeepsOut.next | with_reducible exact KeepsOut.fault | with_reducible apply State.writeResume_keeps | with_reducible apply State.sealAll_keeps | with_reducible apply State.onPwr_keeps | split
  try clear_value x2
  repeat' first | with_reducible assumption | with_reducible apply KeepsOut.next | with_reducible exact KeepsOut.fault | with_reducible apply State.writeResume_keeps | with_reducible apply State.sealAll_keeps | with_reducible apply State.onPwr_keeps | split

theorem execLehrDone_keeps {s0 : State} (s : State) (a1) (h : Keeps s0 s) : KeepsOut s0 (execLehrDone a1 s) := by
  unfold execLehrDone
  extract_lets x1 x2 x3 x4
  have kx2 : Keeps s0 x2 := by
    unfold x2
    repeat' first | with_reducible assumption | with_reducible apply KeepsOut.next | with_reducible exact KeepsOut.fault | with_reducible apply State.durable_keeps | with_reducible apply State.onLed_keeps | with_reducible apply State.snapshot_keeps | with_reducible apply State.toKeep_keeps | split
  try clear_value x2
  have kx3 : Keeps s0 x3 := by
    unfold x3
    repeat' first | with_reducible assumption | with_reducible apply KeepsOut.next | with_reducible exact KeepsOut.fault | with_reducible apply State.durable_keeps | with_reducible apply State.onLed_keeps
  try clear_value x3
  have kx4 : Keeps s0 x4 := by
    unfold x4
    repeat' first | with_reducible assumption | with_reducible apply KeepsOut.next | with_reducible exact KeepsOut.fault | with_reducible apply State.durable_keeps | with_reducible apply State.onLed_keeps | with_reducible apply State.snapshot_keeps
  try clear_value x4
  repeat' first | with_reducible assumption | with_reducible apply KeepsOut.next | with_reducible exact KeepsOut.fault | with_reducible apply State.durable_keeps | with_reducible apply State.onLed_keeps | with_reducible apply State.snapshot_keeps | with_reducible apply State.toKeep_keeps | split

theorem State.accepted_keeps {s0 : State} (s : State) (a1) (h : Keeps s0 s) : Keeps s0 (State.accepted s a1) := by
  unfold State.accepted
  extract_lets x1
  have kx1 : Keeps s0 x1 := by
    unfold x1
    repeat' first | with_reducible assumption | with_reducible apply State.onSession_keeps
  try clear_value x1
  repeat' first | with_reducible assumption | with_reducible apply State.onSession_keeps | with_reducible apply State.closeSession_keeps | split

theorem State.dropCheck_keeps {s0 : State} (s : State) (h : Keeps s0 s) : Keeps s0 (State.dropCheck s) := by
  unfold State.dropCheck
  repeat' first | with_reducible assumption | with_reducible apply State.bump_keeps

theorem State.dropOrder_keeps {s0 : State} (s : State) (h : Keeps s0 s) : Keeps s0 (State.dropOrder s) := by
  unfold State.dropOrder
  repeat' first | with_reducible assumption | with_reducible apply State.bump_keeps

theorem State.refuseTrain_some_keeps {s0 : State} (s : State) (a1 : Nat) (a2 : Entry) (a3 : Nat) (a4 : Status) (h : Keeps s0 s) (t : State)
    (ht : s.refuseTrain a1 a2 a3 a4 = some t) : Keeps s0 t := by
  unfold State.refuseTrain at ht
  split at ht
  · split at ht
    · cases ht
      exact State.onQueue_keeps _ _ _ (State.onQueue_keeps _ _ _ h)
    · cases ht
  · cases ht

theorem State.placeTrain_keeps {s0 : State} (s : State) (a1 a2) (h : Keeps s0 s) : Keeps s0 (State.placeTrain s a1 a2) := by
  unfold State.placeTrain
  repeat' first | with_reducible assumption | with_reducible apply State.onQueue_keeps

theorem State.takeTrains4_keeps {s0 : State} (s : State) (a1 a2 a3 a4) (h : Keeps s0 s) : Keeps s0 (State.takeTrains4 a1 a2 a3 a4 s) := by
  induction a1 generalizing a4 s with
  | zero => unfold State.takeTrains4; exact h
  | succ k ih =>
    cases a4 with
    | nil => unfold State.takeTrains4; exact h
    | cons b l =>
      unfold State.takeTrains4
      have hr : ∀ e n st, Keeps s0 ((s.refuseTrain a2 e n st).getD s) := fun e n st => by
        cases hx : s.refuseTrain a2 e n st with
        | none => exact h
        | some t => exact State.refuseTrain_some_keeps s _ _ _ _ h t hx
      split
      · extract_lets x1 x2 x3 x4
        split
        · exact State.sendCredit_keeps _ _ (State.dropOrder_keeps _ h)
        · split
          · exact hr _ _ _
          · split
            · exact ih _ _ (State.placeTrain_keeps _ _ _ h)
            · split
              · rename_i hx
                exact ih _ _ (State.refuseTrain_some_keeps s _ _ _ _ h _ hx)
              · exact h
      · exact h

theorem execTenantDatagram_keeps {s0 : State} (s : State) (a1 a2) (h : Keeps s0 s) : KeepsOut s0 (execTenantDatagram a1 a2 s) := by
  unfold execTenantDatagram
  extract_lets x1
  have kx1 : Keeps s0 x1 := by
    unfold x1
    repeat' first | with_reducible assumption | with_reducible apply KeepsOut.next | with_reducible exact KeepsOut.fault | with_reducible apply State.bump_keeps | with_reducible apply State.dropCheck_keeps | with_reducible apply State.accepted_keeps
  try clear_value x1
  repeat' first | with_reducible assumption | with_reducible apply KeepsOut.next | with_reducible exact KeepsOut.fault | with_reducible apply State.bump_keeps | with_reducible apply State.dropCheck_keeps | with_reducible apply State.accepted_keeps | with_reducible apply State.takeCredit_keeps | with_reducible apply State.sendCredit_keeps | with_reducible apply State.dropOrder_keeps | with_reducible apply State.takeTrains4_keeps | split | simp only

theorem execTenantCredit_keeps {s0 : State} (s : State) (a1) (h : Keeps s0 s) : KeepsOut s0 (execTenantCredit a1 s) := by
  unfold execTenantCredit
  extract_lets x1
  have kx1 : Keeps s0 x1 := by
    unfold x1
    repeat' first | with_reducible assumption | with_reducible apply KeepsOut.next | with_reducible exact KeepsOut.fault | with_reducible apply State.bump_keeps | with_reducible apply State.accepted_keeps
  try clear_value x1
  repeat' first | with_reducible assumption | with_reducible apply KeepsOut.next | with_reducible exact KeepsOut.fault | with_reducible apply State.bump_keeps | with_reducible apply State.accepted_keeps | with_reducible apply State.takeCredit_keeps | with_reducible apply State.dropCheck_keeps | split

theorem execHello_keeps {s0 : State} (s : State) (a1 a2 a3 a4 a5) (h : Keeps s0 s) : KeepsOut s0 (execHello a1 a2 a3 a4 a5 s) := by
  unfold execHello
  extract_lets x1
  repeat' first | with_reducible assumption | with_reducible apply KeepsOut.next | with_reducible exact KeepsOut.fault | with_reducible apply State.bump_keeps | with_reducible apply State.dropCheck_keeps | with_reducible apply State.pick_keeps | with_reducible apply State.draw_keeps | split | simp only [Keeps.mk_iff] | with_reducible refine Keeps.foldl (fun _ _ _ => ?_) ?_ | with_reducible refine Keeps.foldl1 (fun _ _ _ => ?_) ?_ | with_reducible refine Keeps.foldl2 (fun _ _ _ => ?_) ?_ | dsimp only | with_reducible refine Keeps.of_fst ‹_ = (_, _)› ?_ | with_reducible refine Keeps.of_snd ‹_ = (_, _)› ?_

theorem State.authFail_keeps {s0 : State} (s : State) (a1) (h : Keeps s0 s) : Keeps s0 (State.authFail s a1) := by
  unfold State.authFail
  extract_lets x1 x2 x3 x4 x5
  have kx5 : Keeps s0 x5 := by
    unfold x5
    repeat' first | with_reducible assumption | with_reducible apply State.fault_keeps | split | simp only [Keeps.mk_iff]
  try clear_value x5
  repeat' first | with_reducible assumption | with_reducible apply State.fault_keeps | split

theorem execConfirm_keeps {s0 : State} (s : State) (a1 a2 a3) (h : Keeps s0 s) : KeepsOut s0 (execConfirm a1 a2 a3 s) := by
  unfold execConfirm
  split
  · exact KeepsOut.next h
  · split
    · exact KeepsOut.next (State.bump_keeps _ _ _ _ h)
    · split
      · extract_lets x1 x2
        have k1 : Keeps s0 x1 := Keeps.mk_iff.2 h
        have k2 : ∀ x st, Keeps s0 x → Keeps s0 (x2 x st) := fun x st hx => Keeps.mk_iff.2 hx
        clear_value x1 x2
        split
        · split
          · exact KeepsOut.next (State.authFail_keeps _ _ (k2 _ _ k1))
          · split
            · exact KeepsOut.next (k2 _ _ k1)
            · split
              · exact KeepsOut.next (k2 _ _ k1)
              · exact KeepsOut.next (Keeps.mk_iff.2 k1)
        · exact KeepsOut.next (State.authFail_keeps _ _ (k2 _ _ k1))
      · exact KeepsOut.next h

theorem execClose_keeps {s0 : State} (s : State) (a1) (h : Keeps s0 s) : KeepsOut s0 (execClose a1 s) := by
  unfold execClose
  repeat' first | with_reducible assumption | with_reducible apply KeepsOut.next | with_reducible exact KeepsOut.fault | with_reducible apply State.bump_keeps | with_reducible apply State.closeSession_keeps | with_reducible apply State.dropCheck_keeps | split

theorem execEstablishmentExpiry_keeps {s0 : State} (s : State) (a1) (h : Keeps s0 s) : KeepsOut s0 (execEstablishmentExpiry a1 s) := by
  unfold execEstablishmentExpiry
  repeat' first | with_reducible assumption | with_reducible apply KeepsOut.next | with_reducible exact KeepsOut.fault | split | simp only [Keeps.mk_iff]

theorem execSessidleExpiry_keeps {s0 : State} (s : State) (a1) (h : Keeps s0 s) : KeepsOut s0 (execSessidleExpiry a1 s) := by
  unfold execSessidleExpiry
  repeat' first | with_reducible assumption | with_reducible apply KeepsOut.next | with_reducible exact KeepsOut.fault | with_reducible apply State.closeSession_keeps | split

theorem execAuthThrottleEnd_keeps {s0 : State} (s : State) (a1) (h : Keeps s0 s) : KeepsOut s0 (execAuthThrottleEnd a1 s) := by
  unfold execAuthThrottleEnd
  repeat' first | with_reducible assumption | with_reducible apply KeepsOut.next | with_reducible exact KeepsOut.fault | split | simp only [Keeps.mk_iff]

theorem execEnrolmentCodeExpiry_keeps {s0 : State} (s : State) (a1) (h : Keeps s0 s) : KeepsOut s0 (execEnrolmentCodeExpiry a1 s) := by
  unfold execEnrolmentCodeExpiry
  repeat' first | with_reducible assumption | with_reducible apply KeepsOut.next | with_reducible exact KeepsOut.fault | with_reducible apply State.onTenant_keeps

theorem execUnsupportedFrame_keeps {s0 : State} (s : State) (a1) (h : Keeps s0 s) : KeepsOut s0 (execUnsupportedFrame a1 s) := by
  unfold execUnsupportedFrame
  repeat' first | with_reducible assumption | with_reducible apply KeepsOut.next | with_reducible exact KeepsOut.fault | with_reducible apply State.bump_keeps | split

theorem execIcmpEcho_keeps {s0 : State} (s : State) (a1 a2) (h : Keeps s0 s) : KeepsOut s0 (execIcmpEcho a1 a2 s) := by
  unfold execIcmpEcho
  extract_lets x1 x2
  have kx2 : Keeps s0 x2 := by
    unfold x2
    repeat' first | with_reducible assumption | with_reducible apply KeepsOut.next | with_reducible exact KeepsOut.fault | with_reducible apply State.onBoard_keeps
  try clear_value x2
  repeat' first | with_reducible assumption | with_reducible apply KeepsOut.next | with_reducible exact KeepsOut.fault | with_reducible apply State.onBoard_keeps | split | simp only [Keeps.mk_iff]

theorem execAddressResolution_keeps {s0 : State} (s : State) (a1 a2) (h : Keeps s0 s) : KeepsOut s0 (execAddressResolution a1 a2 s) := by
  unfold execAddressResolution
  repeat' first | with_reducible assumption | with_reducible apply KeepsOut.next | with_reducible exact KeepsOut.fault | split | simp only [Keeps.mk_iff]

theorem execBootDatagramDrop_keeps {s0 : State} (s : State) (h : Keeps s0 s) : KeepsOut s0 (execBootDatagramDrop s) := by
  unfold execBootDatagramDrop
  repeat' first | with_reducible assumption | with_reducible apply KeepsOut.next | with_reducible exact KeepsOut.fault | with_reducible apply State.bump_keeps | split

theorem execEthLinkDown_keeps {s0 : State} (s : State) (a1) (h : Keeps s0 s) : KeepsOut s0 (execEthLinkDown a1 s) := by
  unfold execEthLinkDown
  extract_lets x1
  have kx1 : Keeps s0 x1 := by
    unfold x1
    repeat' first | with_reducible assumption | with_reducible apply KeepsOut.next | with_reducible exact KeepsOut.fault | with_reducible apply State.fault_keeps | split | simp only [Keeps.mk_iff]
  try clear_value x1
  repeat' first | with_reducible assumption | with_reducible apply KeepsOut.next | with_reducible exact KeepsOut.fault | with_reducible apply State.fault_keeps | split

theorem execEthLinkUp_keeps {s0 : State} (s : State) (a1) (h : Keeps s0 s) : KeepsOut s0 (execEthLinkUp a1 s) := by
  unfold execEthLinkUp
  repeat' first | with_reducible assumption | with_reducible apply KeepsOut.next | with_reducible exact KeepsOut.fault | split | simp only [Keeps.mk_iff]

theorem execCommandCreditSend_keeps {s0 : State} (s : State) (a1) (h : Keeps s0 s) : KeepsOut s0 (execCommandCreditSend a1 s) := by
  unfold execCommandCreditSend
  repeat' first | with_reducible assumption | with_reducible apply KeepsOut.next | with_reducible exact KeepsOut.fault | with_reducible apply State.sendCredit_keeps | with_reducible apply State.sendEntries_keeps | split

theorem execEntrySend_keeps {s0 : State} (s : State) (a1 a2) (h : Keeps s0 s) : KeepsOut s0 (execEntrySend a1 a2 s) := by
  unfold execEntrySend
  repeat' first | with_reducible assumption | with_reducible apply KeepsOut.next | with_reducible exact KeepsOut.fault | with_reducible apply State.sendEntries_keeps

theorem execRetxExpiry_keeps {s0 : State} (s : State) (a1) (h : Keeps s0 s) : KeepsOut s0 (execRetxExpiry a1 s) := by
  unfold execRetxExpiry
  extract_lets x1
  have kx1 : Keeps s0 x1 := by
    unfold x1
    repeat' first | with_reducible assumption | with_reducible apply KeepsOut.next | with_reducible exact KeepsOut.fault | with_reducible apply State.onQueue_keeps
  try clear_value x1
  repeat' first | with_reducible assumption | with_reducible apply KeepsOut.next | with_reducible exact KeepsOut.fault | with_reducible apply State.onQueue_keeps | with_reducible apply State.sendIn_keeps | split | simp only | with_reducible refine Keeps.foldl (fun _ _ _ => ?_) ?_

theorem State.writeReply_keeps {s0 : State} (s : State) (a1) (h : Keeps s0 s) : Keeps s0 (State.writeReply s a1) := by
  unfold State.writeReply
  extract_lets x1
  have kx1 : Keeps s0 x1 := by
    unfold x1
    repeat' first | with_reducible assumption | with_reducible apply State.onQueue_keeps | split | simp only [Keeps.mk_iff]
  try clear_value x1
  repeat' first | with_reducible assumption | with_reducible apply State.onQueue_keeps | split | simp only [Keeps.mk_iff]

theorem execCommandCompletion_keeps {s0 : State} (s : State) (a1) (h : Keeps s0 s) : KeepsOut s0 (execCommandCompletion a1 s) := by
  unfold execCommandCompletion
  repeat' first | with_reducible assumption | with_reducible apply KeepsOut.next | with_reducible exact KeepsOut.fault | with_reducible apply State.onQueue_keeps | with_reducible apply State.writeReply_keeps | split

theorem State.recInto_keeps {s0 : State} (s : State) (a1 a2 a3 a4) (h : Keeps s0 s) : Keeps s0 (State.recInto s a1 a2 a3 a4) := by
  unfold State.recInto
  repeat' first | with_reducible assumption | with_reducible apply State.onQueue_keeps | with_reducible apply State.fault_keeps | split | simp only

theorem State.decimate_keeps {s0 : State} (s : State) (a1) (h : Keeps s0 s) : Keeps s0 (State.decimate s a1).1 := by
  unfold State.decimate
  extract_lets x1
  repeat' first | with_reducible assumption | with_reducible apply State.onTenant_keeps | split

theorem State.countOther_keeps {s0 : State} (s : State) (a1) (h : Keeps s0 s) : Keeps s0 (State.countOther s a1) := by
  unfold State.countOther
  repeat' first | with_reducible assumption | with_reducible apply State.onTenant_keeps

theorem State.copyRec_keeps {s0 : State} (s : State) (a1) (h : Keeps s0 s) : Keeps s0 (State.copyRec s a1) := by
  unfold State.copyRec
  repeat' first | with_reducible assumption | with_reducible apply State.sendZl_keeps | split

theorem execRecordPlace_keeps {s0 : State} (s : State) (h : Keeps s0 s) : KeepsOut s0 (execRecordPlace s) := by
  unfold execRecordPlace
  repeat' first | with_reducible assumption | with_reducible apply KeepsOut.next | with_reducible exact KeepsOut.fault | with_reducible apply State.copyRec_keeps | with_reducible apply State.stage_keeps | with_reducible apply State.decimate_keeps | with_reducible apply State.countOther_keeps | with_reducible apply State.recInto_keeps | split | simp only [Keeps.mk_iff] | with_reducible refine Keeps.foldl (fun _ _ _ => ?_) ?_

theorem execEventPlace_keeps {s0 : State} (s : State) (h : Keeps s0 s) : KeepsOut s0 (execEventPlace s) := by
  unfold execEventPlace
  repeat' first | with_reducible assumption | with_reducible apply KeepsOut.next | with_reducible exact KeepsOut.fault | with_reducible apply State.placeEvt_keeps | split | simp only [Keeps.mk_iff] | with_reducible refine Keeps.foldl (fun _ _ _ => ?_) ?_

theorem execCoalescedPlace_keeps {s0 : State} (s : State) (a1 a2) (h : Keeps s0 s) : KeepsOut s0 (execCoalescedPlace a1 a2 s) := by
  unfold execCoalescedPlace
  repeat' first | with_reducible assumption | with_reducible apply KeepsOut.next | with_reducible exact KeepsOut.fault | with_reducible apply State.onQueue_keeps | with_reducible apply State.onTenant_keeps | with_reducible apply State.stormStir_keeps | with_reducible apply State.stormCount_keeps | split | simp only

theorem State.setDecim_keeps {s0 : State} (s : State) (a1) (h : Keeps s0 s) : Keeps s0 (State.setDecim s a1) := by
  unfold State.setDecim
  extract_lets x1 x2 x3 x4 x5 x6 x7
  have kx5 : Keeps s0 x5 := by
    unfold x5
    repeat' first | with_reducible assumption | with_reducible apply State.onTenant_keeps
  try clear_value x5
  have kx6 : Keeps s0 x6 := by
    unfold x6
    repeat' first | with_reducible assumption | with_reducible apply State.onTenant_keeps | with_reducible apply State.stormStir_keeps | with_reducible apply State.stormBegin_keeps
  try clear_value x6
  have kx7 : Keeps s0 x7 := by
    unfold x7
    repeat' first | with_reducible assumption | with_reducible apply State.onTenant_keeps
  try clear_value x7
  repeat' first | with_reducible assumption | with_reducible apply State.onTenant_keeps | with_reducible apply State.stormStir_keeps | with_reducible apply State.stormBegin_keeps | split | simp only [Keeps.mk_iff]

theorem execDecimationUpdate_keeps {s0 : State} (s : State) (h : Keeps s0 s) : KeepsOut s0 (execDecimationUpdate s) := by
  unfold execDecimationUpdate
  repeat' first | with_reducible assumption | with_reducible apply KeepsOut.next | with_reducible exact KeepsOut.fault | with_reducible apply State.setDecim_keeps | split | simp only [Keeps.mk_iff] | with_reducible refine Keeps.foldl (fun _ _ _ => ?_) ?_

theorem State.stormEvt_keeps {s0 : State} (s : State) (a1 a2 a3) (h : Keeps s0 s) : Keeps s0 (State.stormEvt s a1 a2 a3) := by
  unfold State.stormEvt
  repeat' first | with_reducible assumption | with_reducible apply State.pushEvt_keeps

theorem execStormEnd_keeps {s0 : State} (s : State) (a1) (h : Keeps s0 s) : KeepsOut s0 (execStormEnd a1 s) := by
  unfold execStormEnd
  repeat' first | with_reducible assumption | with_reducible apply KeepsOut.next | with_reducible exact KeepsOut.fault | with_reducible apply State.stormEvt_keeps | with_reducible apply State.onTenant_keeps | split | simp only [Keeps.mk_iff]

end Sys2Proof.Machine
end

