-- ==== Sys2Proof/Laws/KeepsPower.lean ====
section
/-! SUPPORT. What BOOT, the fault collector and the rows of the warden keep: one lemma per operation (`Keeps`: the fuses, the queue behind the
command, and the canonical form of both memories), for later proofs to cite in place of unfolding it. -/

namespace Sys2Proof.Machine

open Sys2Proof

theorem State.bootMeters_keeps {s0 : State} (s : State) (h : Keeps s0 s) : Keeps s0 (State.bootMeters s) := by
  unfold State.bootMeters
  extract_lets x1 x2 x3 x4 x5 x6 x7
  have kx6 : Keeps s0 x6 := by
    unfold x6
    repeat' first | with_reducible assumption | with_reducible apply State.openInterval_keeps | with_reducible apply State.closeInterval_keeps | with_reducible apply State.findTariff_keeps | split | simp only [Keeps.mk_iff]
  try clear_value x6
  have kx7 : Keeps s0 x7 := by
    unfold x7
    repeat' first | with_reducible assumption | with_reducible apply State.openInterval_keeps | with_reducible apply State.closeInterval_keeps | with_reducible apply State.findTariff_keeps | split
  try clear_value x7
  repeat' first | with_reducible assumption | with_reducible apply State.openInterval_keeps | with_reducible apply State.closeInterval_keeps | with_reducible apply State.findTariff_keeps | split

theorem State.bootEst_keeps {s0 : State} (s : State) (h : Keeps s0 s) : Keeps s0 (State.bootEst s) := by
  unfold State.bootEst
  repeat' first | with_reducible assumption | with_reducible refine State.forChans_keeps _ _ _ (fun _ _ _ => ?_) ?_ | with_reducible apply State.cellChange_keeps | split | simp only

theorem State.restoreChan_keeps {s0 : State} (s : State) (a1) (h : Keeps s0 s) : Keeps s0 (State.restoreChan s a1) := by
  unfold State.restoreChan
  extract_lets x1 x2
  have kx2 : Keeps s0 x2 := by
    unfold x2
    repeat' first | with_reducible assumption | with_reducible apply State.onLoop_keeps
  try clear_value x2
  repeat' first | with_reducible assumption | with_reducible apply State.onLoop_keeps | with_reducible apply State.chanEvt_keeps | split

theorem State.copyBack_keeps {s0 : State} (s : State) (h : Keeps s0 s) : Keeps s0 (State.copyBack s) := by
  unfold State.copyBack
  repeat' first | with_reducible assumption | with_reducible apply State.onPwr_keeps | with_reducible apply State.setReg_keeps | split | simp only [Keeps.mk_iff] | with_reducible refine Keeps.foldl (fun _ _ _ => ?_) ?_

theorem State.acceptImage_keeps {s0 : State} (s : State) (a1) (h : Keeps s0 s) : Keeps s0 (State.acceptImage s a1) := by
  unfold State.acceptImage
  extract_lets x1 x2 x3 x4 x5 x6 x7
  have kx3 : Keeps s0 x3 := by
    unfold x3
    repeat' first | with_reducible assumption | with_reducible apply State.alignGather_keeps | with_reducible apply State.bootEst_keeps | with_reducible apply State.bootMeters_keeps | with_reducible apply State.copyBack_keeps | split | simp only [Keeps.mk_iff]
  try clear_value x3
  have kx4 : Keeps s0 x4 := by
    unfold x4
    repeat' first | with_reducible assumption | with_reducible apply State.alignGather_keeps | with_reducible apply State.bootEst_keeps | with_reducible apply State.bootMeters_keeps | with_reducible apply State.copyBack_keeps | split | simp only [Keeps.mk_iff]
  try clear_value x4
  have kx5 : Keeps s0 x5 := by
    unfold x5
    repeat' first | with_reducible assumption | with_reducible apply State.alignGather_keeps | with_reducible apply State.bootEst_keeps | with_reducible apply State.bootMeters_keeps | with_reducible apply State.copyBack_keeps | split | simp only [Keeps.mk_iff] | with_reducible refine Keeps.foldl (fun _ _ _ => ?_) ?_
  try clear_value x5
  have kx6 : Keeps s0 x6 := by
    unfold x6
    repeat' first | with_reducible assumption | with_reducible apply State.alignGather_keeps | with_reducible apply State.bootEst_keeps | with_reducible apply State.bootMeters_keeps | with_reducible apply State.copyBack_keeps
  try clear_value x6
  repeat' first | with_reducible assumption | with_reducible apply State.alignGather_keeps | with_reducible apply State.bootEst_keeps | with_reducible apply State.bootMeters_keeps | with_reducible apply State.copyBack_keeps | split | simp only [Keeps.mk_iff]

theorem State.raiseSecver_keeps {s0 : State} (s : State) (h : Keeps s0 s) : Keeps s0 (State.raiseSecver s) := by
  unfold State.raiseSecver
  extract_lets x1
  repeat' first | with_reducible assumption | with_reducible refine State.keepNvm_keeps _ _ _ (fun _ _ => ?_) ?_ | split | simp only [Keeps.mk_iff]

theorem State.bootOwner_keeps {s0 : State} (s : State) (h : Keeps s0 s) : Keeps s0 (State.bootOwner s) := by
  unfold State.bootOwner
  extract_lets x1 x2
  have kx1 : Keeps s0 x1 := by
    unfold x1
    repeat' first | with_reducible assumption | with_reducible apply State.onBoard_keeps | with_reducible apply State.raiseSecver_keeps
  try clear_value x1
  have kx2 : Keeps s0 x2 := by
    unfold x2
    repeat' first | with_reducible assumption | with_reducible apply State.onBoard_keeps | with_reducible apply State.raiseSecver_keeps | with_reducible refine State.forChans_keeps _ _ _ (fun _ _ _ => ?_) ?_ | with_reducible apply State.restoreChan_keeps
  try clear_value x2
  repeat' first | with_reducible assumption | with_reducible apply State.onBoard_keeps | with_reducible apply State.raiseSecver_keeps | with_reducible refine State.forChans_keeps _ _ _ (fun _ _ _ => ?_) ?_ | with_reducible apply State.restoreChan_keeps | with_reducible apply State.settle_keeps | with_reducible apply State.enterMode_keeps

theorem State.bootTwin_keeps {s0 : State} (s : State) (h : Keeps s0 s) : Keeps s0 (State.bootTwin s) := by
  unfold State.bootTwin
  extract_lets x1
  have kx1 : Keeps s0 x1 := by
    unfold x1
    repeat' first | with_reducible assumption | with_reducible apply State.onBoard_keeps | with_reducible apply State.raiseSecver_keeps
  try clear_value x1
  repeat' first | with_reducible assumption | with_reducible apply State.onBoard_keeps | with_reducible apply State.raiseSecver_keeps | with_reducible apply State.settle_keeps | with_reducible apply State.enterMode_keeps

theorem State.warmReset_keeps {s0 : State} (s : State) (a1) (h : Keeps s0 s) : Keeps s0 (State.warmReset s a1) := by
  unfold State.warmReset
  extract_lets x1 x2 x3 x4 x5 x6 x7 x8 x9 x10 x11
  have kx1 : Keeps s0 x1 := by
    unfold x1
    repeat' first | with_reducible assumption | with_reducible apply State.cancelDeferred_keeps
  try clear_value x1
  have kx2 : Keeps s0 x2 := by
    unfold x2
    repeat' first | with_reducible assumption | with_reducible apply State.cancelDeferred_keeps | with_reducible refine State.forChans_keeps _ _ _ (fun _ _ _ => ?_) ?_ | with_reducible apply State.releaseChan_keeps | with_reducible apply State.collect_keeps
  try clear_value x2
  have kx3 : Keeps s0 x3 := by
    unfold x3
    repeat' first | with_reducible assumption | with_reducible apply State.cancelDeferred_keeps | with_reducible refine State.forChans_keeps _ _ _ (fun _ _ _ => ?_) ?_ | with_reducible apply State.releaseChan_keeps | with_reducible apply State.collect_keeps | with_reducible apply State.sealAll_keeps | with_reducible apply State.clearedWarm_keeps | with_reducible apply State.onBoard_keeps | with_reducible apply State.onLed_keeps | split
  try clear_value x3
  have kx8 : Keeps s0 x8 := by
    unfold x8
    repeat' first | with_reducible assumption | with_reducible apply State.cancelDeferred_keeps | with_reducible refine State.forChans_keeps _ _ _ (fun _ _ _ => ?_) ?_ | with_reducible apply State.releaseChan_keeps | with_reducible apply State.collect_keeps | with_reducible apply State.sealAll_keeps | with_reducible apply State.clearedWarm_keeps
  try clear_value x8
  have kx10 : Keeps s0 x10 := by
    unfold x10
    repeat' first | with_reducible assumption | with_reducible apply State.cancelDeferred_keeps | with_reducible refine State.forChans_keeps _ _ _ (fun _ _ _ => ?_) ?_ | with_reducible apply State.releaseChan_keeps | with_reducible apply State.collect_keeps | with_reducible apply State.sealAll_keeps | with_reducible apply State.clearedWarm_keeps | with_reducible apply State.onBoard_keeps | with_reducible apply State.onLed_keeps | split | simp only [Keeps.mk_iff]
  try clear_value x10
  have kx11 : Keeps s0 x11 := by
    unfold x11
    repeat' first | with_reducible assumption | with_reducible apply State.cancelDeferred_keeps | with_reducible refine State.forChans_keeps _ _ _ (fun _ _ _ => ?_) ?_ | with_reducible apply State.releaseChan_keeps | with_reducible apply State.collect_keeps | with_reducible apply State.sealAll_keeps | with_reducible apply State.clearedWarm_keeps | with_reducible apply State.onBoard_keeps
  try clear_value x11
  repeat' first | with_reducible assumption | with_reducible apply State.cancelDeferred_keeps | with_reducible refine State.forChans_keeps _ _ _ (fun _ _ _ => ?_) ?_ | with_reducible apply State.releaseChan_keeps | with_reducible apply State.collect_keeps | with_reducible apply State.sealAll_keeps | with_reducible apply State.clearedWarm_keeps | with_reducible apply State.onBoard_keeps | with_reducible apply State.onLed_keeps | split

theorem State.holdLedger_keeps {s0 : State} (s : State) (a1) (h : Keeps s0 s) : Keeps s0 (State.holdLedger s a1) := by
  unfold State.holdLedger
  extract_lets x1 x2 x3 x4 x5 x6
  have kx1 : Keeps s0 x1 := by
    unfold x1
    repeat' first | with_reducible assumption | with_reducible apply State.durable_keeps | with_reducible apply State.onLed_keeps | split
  try clear_value x1
  have kx3 : Keeps s0 x3 := by
    unfold x3
    repeat' first | with_reducible assumption | with_reducible apply State.durable_keeps | with_reducible apply State.onLed_keeps | split | simp only [Keeps.mk_iff]
  try clear_value x3
  have kx4 : Keeps s0 x4 := by
    unfold x4
    repeat' first | with_reducible assumption | with_reducible apply State.durable_keeps | with_reducible apply State.onLed_keeps | split
  try clear_value x4
  have kx5 : Keeps s0 x5 := by
    unfold x5
    repeat' first | with_reducible assumption | with_reducible apply State.durable_keeps | with_reducible apply State.onLed_keeps
  try clear_value x5
  repeat' first | with_reducible assumption | with_reducible apply State.durable_keeps | with_reducible apply State.onLed_keeps | split | simp only [Keeps.mk_iff]

theorem State.endSweeps_keeps {s0 : State} (s : State) (a1) (h : Keeps s0 s) : Keeps s0 (State.endSweeps s a1) := by
  unfold State.endSweeps
  repeat' first | with_reducible assumption | with_reducible refine State.forChans_keeps _ _ _ (fun _ _ _ => ?_) ?_ | with_reducible apply State.faultStop_keeps | split

theorem State.quiesce_keeps {s0 : State} (s : State) (a1) (h : Keeps s0 s) : Keeps s0 (State.quiesce s a1) := by
  unfold State.quiesce
  repeat' first | with_reducible assumption | with_reducible apply State.sealAll_keeps | with_reducible apply State.endSweeps_keeps | with_reducible refine State.forChans_keeps _ _ _ (fun _ _ _ => ?_) ?_ | with_reducible apply State.collect_keeps | split | simp only [Keeps.mk_iff] | with_reducible refine Keeps.foldl (fun _ _ _ => ?_) ?_

theorem State.clearRegs_keeps {s0 : State} (s : State) (a1 a2) (h : Keeps s0 s) : Keeps s0 (State.clearRegs s a1 a2) := by
  exact ⟨h.opt, h.serial, h.pending, h.cru, fun k => regsWf_filter _ (h.regs k)⟩

theorem State.resetGather_keeps {s0 : State} (s : State) (a1) (h : Keeps s0 s) : Keeps s0 (State.resetGather s a1) := by
  unfold State.resetGather
  extract_lets x1 x2 x3 x4 x5
  have kx1 : Keeps s0 x1 := by
    unfold x1
    repeat' first | with_reducible assumption | with_reducible apply State.abortSlot_keeps | with_reducible apply State.abortCommits_keeps
  try clear_value x1
  have kx2 : Keeps s0 x2 := by
    unfold x2
    repeat' first | with_reducible assumption | with_reducible apply State.abortSlot_keeps | with_reducible apply State.abortCommits_keeps | with_reducible refine State.forChans_keeps _ _ _ (fun _ _ _ => ?_) ?_ | with_reducible apply State.releaseChan_keeps | with_reducible apply State.withdraw_keeps
  try clear_value x2
  have kx3 : Keeps s0 x3 := by
    unfold x3
    repeat' first | with_reducible assumption | with_reducible apply State.abortSlot_keeps | with_reducible apply State.abortCommits_keeps | with_reducible refine State.forChans_keeps _ _ _ (fun _ _ _ => ?_) ?_ | with_reducible apply State.releaseChan_keeps | with_reducible apply State.withdraw_keeps | with_reducible apply State.clearRegs_keeps
  try clear_value x3
  have kx4 : Keeps s0 x4 := by
    unfold x4
    repeat' first | with_reducible assumption | with_reducible apply State.abortSlot_keeps | with_reducible apply State.abortCommits_keeps | with_reducible refine State.forChans_keeps _ _ _ (fun _ _ _ => ?_) ?_ | with_reducible apply State.releaseChan_keeps | with_reducible apply State.withdraw_keeps | with_reducible apply State.clearRegs_keeps | with_reducible apply State.alignGather_keeps | with_reducible apply State.onGat_keeps
  try clear_value x4
  have kx5 : Keeps s0 x5 := by
    unfold x5
    repeat' first | with_reducible assumption | with_reducible apply State.abortSlot_keeps | with_reducible apply State.abortCommits_keeps | with_reducible refine State.forChans_keeps _ _ _ (fun _ _ _ => ?_) ?_ | with_reducible apply State.releaseChan_keeps | with_reducible apply State.withdraw_keeps | with_reducible apply State.clearRegs_keeps | with_reducible apply State.alignGather_keeps | with_reducible apply State.onGat_keeps | with_reducible apply State.restoreChan_keeps | with_reducible apply State.onChan_keeps
  try clear_value x5
  repeat' first | with_reducible assumption | with_reducible apply State.abortSlot_keeps | with_reducible apply State.abortCommits_keeps | with_reducible refine State.forChans_keeps _ _ _ (fun _ _ _ => ?_) ?_ | with_reducible apply State.releaseChan_keeps | with_reducible apply State.withdraw_keeps | with_reducible apply State.clearRegs_keeps | with_reducible apply State.alignGather_keeps | with_reducible apply State.onGat_keeps | with_reducible apply State.restoreChan_keeps | with_reducible apply State.onChan_keeps | with_reducible apply State.leaseRegs_keeps | split | simp only [Keeps.mk_iff] | with_reducible refine Keeps.foldl (fun _ _ _ => ?_) ?_

theorem State.resetTray_keeps {s0 : State} (s : State) (h : Keeps s0 s) : Keeps s0 (State.resetTray s) := by
  unfold State.resetTray
  extract_lets x1 x2
  have kx2 : Keeps s0 x2 := by
    unfold x2
    repeat' first | with_reducible assumption | with_reducible apply State.clearRegs_keeps | with_reducible apply State.takeCfg_keeps | with_reducible apply State.onBoard_keeps | with_reducible apply State.xferAborted_keeps | split | simp only [Keeps.mk_iff] | with_reducible refine Keeps.foldl (fun _ _ _ => ?_) ?_
  try clear_value x2
  repeat' first | with_reducible assumption | with_reducible apply State.clearRegs_keeps | with_reducible apply State.takeCfg_keeps | with_reducible apply State.onBoard_keeps | with_reducible apply State.xferAborted_keeps

theorem State.resetBlock_keeps {s0 : State} (s : State) (a1) (h : Keeps s0 s) : Keeps s0 (State.resetBlock s a1) := by
  unfold State.resetBlock
  extract_lets x1 x2
  have kx1 : Keeps s0 x1 := by
    unfold x1
    repeat' first | with_reducible assumption | with_reducible apply State.resetTray_keeps | with_reducible apply State.clearRegs_keeps
  try clear_value x1
  have kx2 : Keeps s0 x2 := by
    unfold x2
    repeat' first | with_reducible assumption | with_reducible apply State.resetTray_keeps | with_reducible apply State.clearRegs_keeps | with_reducible apply State.startLedger_keeps | with_reducible apply State.onTime_keeps | with_reducible apply State.onBoard_keeps | with_reducible apply State.resetGather_keeps | split | simp only [Keeps.mk_iff]
  try clear_value x2
  repeat' first | with_reducible assumption | with_reducible apply State.resetTray_keeps | with_reducible apply State.clearRegs_keeps | with_reducible apply State.startLedger_keeps | with_reducible apply State.onTime_keeps | with_reducible apply State.onBoard_keeps | with_reducible apply State.resetGather_keeps | split | simp only [Keeps.mk_iff]

theorem State.onSrc_keeps {s0 : State} (s : State) (a1 a2) (h : Keeps s0 s) : Keeps s0 (State.onSrc s a1 a2) := by
  unfold State.onSrc
  extract_lets x1
  repeat' first | with_reducible assumption | split | simp only [Keeps.mk_iff]

theorem State.evrAccept_keeps {s0 : State} (s : State) (a1 a2) (h : Keeps s0 s) : Keeps s0 (State.evrAccept s a1 a2) := by
  unfold State.evrAccept
  extract_lets x1 x2 x3
  repeat' first | with_reducible assumption | with_reducible apply State.onSrc_keeps | split

theorem State.evrPulse_keeps {s0 : State} (s : State) (a1) (h : Keeps s0 s) : Keeps s0 (State.evrPulse s a1) := by
  unfold State.evrPulse
  repeat' first | with_reducible assumption | with_reducible apply State.evrAccept_keeps | split

theorem State.evrDeliver_keeps {s0 : State} (s : State) (a1) (h : Keeps s0 s) : Keeps s0 (State.evrDeliver s a1) := by
  unfold State.evrDeliver
  repeat' first | with_reducible assumption | with_reducible apply State.draw_keeps | with_reducible apply State.onSrc_keeps | split | simp only [Keeps.mk_iff] | with_reducible refine Keeps.foldl (fun _ _ _ => ?_) ?_ | with_reducible refine Keeps.foldl1 (fun _ _ _ => ?_) ?_ | with_reducible refine Keeps.foldl2 (fun _ _ _ => ?_) ?_ | dsimp only | with_reducible refine Keeps.of_fst ‹_ = (_, _)› ?_ | with_reducible refine Keeps.of_snd ‹_ = (_, _)› ?_

theorem State.evrClaim_keeps {s0 : State} (s : State) (a1) (h : Keeps s0 s) : Keeps s0 (State.evrClaim s a1).2 := by
  unfold State.evrClaim
  extract_lets x1 x2
  have kx2 : Keeps s0 x2 := by
    unfold x2
    repeat' first | with_reducible assumption | with_reducible apply State.onSrc_keeps | split | simp only [Keeps.mk_iff]
  try clear_value x2
  repeat' first | with_reducible assumption | with_reducible apply State.onSrc_keeps | split | simp only

theorem State.evrDone_keeps {s0 : State} (s : State) (a1) (h : Keeps s0 s) : Keeps s0 (State.evrDone s a1) := by
  unfold State.evrDone
  extract_lets x1
  repeat' first | with_reducible assumption | with_reducible apply State.onSrc_keeps

theorem State.evrComplete_keeps {s0 : State} (s : State) (a1 a2) (h : Keeps s0 s) : Keeps s0 (State.evrComplete s a1 a2) := by
  unfold State.evrComplete
  repeat' first | with_reducible assumption | with_reducible apply State.evrDone_keeps | split

theorem State.evrCoreReset_keeps {s0 : State} (s : State) (a1) (h : Keeps s0 s) : Keeps s0 (State.evrCoreReset s a1) := by
  unfold State.evrCoreReset
  extract_lets x1 x2 x3
  have kx3 : Keeps s0 x3 := by
    unfold x3
    repeat' first | with_reducible assumption | with_reducible apply State.evrDone_keeps | split | simp only [Keeps.mk_iff]
  try clear_value x3
  repeat' first | with_reducible assumption | with_reducible apply State.evrDone_keeps | split | simp only [Keeps.mk_iff] | with_reducible refine Keeps.foldl (fun _ _ _ => ?_) ?_

theorem State.onFence_keeps {s0 : State} (s : State) (a1 a2) (h : Keeps s0 s) : Keeps s0 (State.onFence s a1 a2) := by
  unfold State.onFence
  extract_lets x1
  repeat' first | with_reducible assumption | split | simp only [Keeps.mk_iff]

theorem State.reportFault_keeps {s0 : State} (s : State) (a1 a2 a3) (h : Keeps s0 s) : Keeps s0 (State.reportFault s a1 a2 a3) := by
  unfold State.reportFault
  extract_lets x1 x2 x3 x4 x5 x6
  try clear_value x1
  try clear_value x2
  try clear_value x3
  try clear_value x4
  try clear_value x5
  have kx6 : Keeps s0 x6 := by
    unfold x6
    repeat' first | with_reducible assumption | with_reducible apply State.pushRec_keeps
  try clear_value x6
  repeat' first | with_reducible assumption | with_reducible apply State.pushRec_keeps | with_reducible apply State.pushEvt_keeps | split | simp only

theorem State.fenceActs_keeps {s0 : State} (s : State) (a1 a2 a3) (h : Keeps s0 s) : Keeps s0 (State.fenceActs s a1 a2 a3) := by
  unfold State.fenceActs
  repeat' first | with_reducible assumption | with_reducible refine State.forChans_keeps _ _ _ (fun _ _ _ => ?_) ?_ | with_reducible apply State.endProg_keeps | with_reducible apply State.endStep_keeps | with_reducible apply State.setSt_keeps | with_reducible apply State.onLoop_keeps | with_reducible apply State.endSweeps_keeps | with_reducible apply State.onGat_keeps | with_reducible apply State.faultStop_keeps | split

theorem State.fence_keeps {s0 : State} (s : State) (a1) (h : Keeps s0 s) : Keeps s0 (State.fence s a1) := by
  unfold State.fence
  extract_lets x1 x2 x3 x4
  have kx4 : Keeps s0 x4 := by
    unfold x4
    repeat' first | with_reducible assumption | with_reducible apply State.fenceActs_keeps | split | simp only [Keeps.mk_iff]
  try clear_value x4
  repeat' first | with_reducible assumption | with_reducible apply State.fenceActs_keeps | split

theorem State.latchF_keeps {s0 : State} (s : State) (a1) (h : Keeps s0 s) : Keeps s0 (State.latchF s a1) := by
  unfold State.latchF
  extract_lets x1
  repeat' first | with_reducible assumption | split | simp only [Keeps.mk_iff]

theorem State.takeFault_keeps {s0 : State} (s : State) (a1) (h : Keeps s0 s) : Keeps s0 (State.takeFault s a1) := by
  unfold State.takeFault
  extract_lets x1 x2
  repeat' first | with_reducible assumption | with_reducible apply State.onFence_keeps | with_reducible apply State.keepFault_keeps | with_reducible apply State.fence_keeps | with_reducible apply State.latchF_keeps | with_reducible apply State.reportFault_keeps | with_reducible apply State.evrPulse_keeps | with_reducible apply State.settle_keeps | with_reducible apply State.enterLockout_keeps | split | simp only [Keeps.mk_iff]

theorem State.fatalFirst_keeps {s0 : State} (s : State) (h : Keeps s0 s) : Keeps s0 (State.fatalFirst s) := by
  unfold State.fatalFirst
  repeat' first | with_reducible assumption | with_reducible apply State.takeFault_keeps | split | simp only [Keeps.mk_iff] | with_reducible refine Keeps.foldl (fun _ _ _ => ?_) ?_

theorem State.ackFault_keeps {s0 : State} (s : State) (a1) (h : Keeps s0 s) : Keeps s0 (State.ackFault s a1) := by
  unfold State.ackFault
  extract_lets x1 x2
  repeat' first | with_reducible assumption | split | simp only [Keeps.mk_iff]

theorem State.liftFence_keeps {s0 : State} (s : State) (a1) (h : Keeps s0 s) : Keeps s0 (State.liftFence s a1) := by
  unfold State.liftFence
  extract_lets x1
  repeat' first | with_reducible assumption | with_reducible refine State.keepNvm_keeps _ _ _ (fun _ _ => ?_) ?_ | split | simp only [Keeps.mk_iff]

theorem State.onWdg_keeps {s0 : State} (s : State) (a1 a2) (h : Keeps s0 s) : Keeps s0 (State.onWdg s a1 a2) := by
  unfold State.onWdg
  repeat' first | with_reducible assumption | split | simp only [Keeps.mk_iff]

theorem State.stallCore_keeps {s0 : State} (s : State) (a1) (h : Keeps s0 s) : Keeps s0 (State.stallCore s a1) := by
  unfold State.stallCore
  extract_lets x1
  repeat' first | with_reducible assumption | split | simp only [Keeps.mk_iff]

theorem State.wdgExpire_keeps {s0 : State} (s : State) (a1) (h : Keeps s0 s) : Keeps s0 (State.wdgExpire s a1) := by
  unfold State.wdgExpire
  extract_lets x1
  have kx1 : Keeps s0 x1 := by
    unfold x1
    repeat' first | with_reducible assumption | with_reducible apply State.onWdg_keeps
  try clear_value x1
  repeat' first | with_reducible assumption | with_reducible apply State.onWdg_keeps | with_reducible apply State.fault_keeps | with_reducible apply State.stallCore_keeps | split

theorem State.abortClaimed_keeps {s0 : State} (s : State) (h : Keeps s0 s) : Keeps s0 (State.abortClaimed s) := by
  unfold State.abortClaimed
  extract_lets x1 x2 x3
  have kx1 : Keeps s0 x1 := by
    unfold x1
    repeat' first | with_reducible assumption | with_reducible apply State.abort_keeps | with_reducible apply State.abortCommits_keeps | with_reducible apply State.onLed_keeps | with_reducible apply State.onTime_keeps | split | simp only [Keeps.mk_iff] | with_reducible refine Keeps.foldl (fun _ _ _ => ?_) ?_
  try clear_value x1
  have kx2 : Keeps s0 x2 := by
    unfold x2
    repeat' first | with_reducible assumption | with_reducible apply State.abort_keeps | with_reducible apply State.abortCommits_keeps
  try clear_value x2
  have kx3 : Keeps s0 x3 := by
    unfold x3
    repeat' first | with_reducible assumption | with_reducible apply State.abort_keeps | with_reducible apply State.abortCommits_keeps | with_reducible apply State.onLed_keeps | with_reducible apply State.onTime_keeps | split | simp only [Keeps.mk_iff] | with_reducible refine Keeps.foldl (fun _ _ _ => ?_) ?_
  try clear_value x3
  repeat' first | with_reducible assumption | with_reducible apply State.abort_keeps | with_reducible apply State.abortCommits_keeps | with_reducible apply State.onLed_keeps | with_reducible apply State.onTime_keeps | split

theorem State.declareFound_keeps {s0 : State} (s : State) (h : Keeps s0 s) : Keeps s0 (State.declareFound s) := by
  unfold State.declareFound
  repeat' first | with_reducible assumption | with_reducible apply State.cellChange_keeps | with_reducible apply State.onBoard_keeps | split | simp only [Keeps.mk_iff] | with_reducible refine Keeps.foldl (fun _ _ _ => ?_) ?_

theorem State.coreReset_keeps {s0 : State} (s : State) (a1) (h : Keeps s0 s) : Keeps s0 (State.coreReset s a1) := by
  unfold State.coreReset
  extract_lets x1 x2 x3 x4 x5 x6
  have kx1 : Keeps s0 x1 := by
    unfold x1
    repeat' first | with_reducible assumption | with_reducible apply State.evrCoreReset_keeps | with_reducible apply State.abortClaimed_keeps
  try clear_value x1
  have kx3 : Keeps s0 x3 := by
    unfold x3
    repeat' first | with_reducible assumption | with_reducible apply State.evrCoreReset_keeps | with_reducible apply State.abortClaimed_keeps | with_reducible apply State.onWdg_keeps | with_reducible apply State.clearRegs_keeps
  try clear_value x3
  have kx6 : Keeps s0 x6 := by
    unfold x6
    repeat' first | with_reducible assumption | with_reducible apply State.evrCoreReset_keeps | with_reducible apply State.abortClaimed_keeps | with_reducible apply State.onWdg_keeps | with_reducible apply State.clearRegs_keeps | with_reducible apply State.warmReset_keeps | with_reducible apply State.declareFound_keeps | split | simp only [Keeps.mk_iff]
  try clear_value x6
  repeat' first | with_reducible assumption | with_reducible apply State.evrCoreReset_keeps | with_reducible apply State.abortClaimed_keeps | with_reducible apply State.onWdg_keeps | with_reducible apply State.clearRegs_keeps | with_reducible apply State.warmReset_keeps | with_reducible apply State.declareFound_keeps | split

theorem execWakeEvent_keeps {s0 : State} (s : State) (a1) (h : Keeps s0 s) : KeepsOut s0 (execWakeEvent a1 s) := by
  unfold execWakeEvent
  extract_lets x1
  repeat' first | with_reducible assumption | with_reducible apply KeepsOut.next | with_reducible exact KeepsOut.fault | with_reducible apply State.tryWake_keeps | with_reducible apply State.latchWake_keeps | split

theorem execWakeIn_keeps {s0 : State} (s : State) (h : Keeps s0 s) : KeepsOut s0 (execWakeIn s) := by
  unfold execWakeIn
  repeat' first | with_reducible assumption | with_reducible apply KeepsOut.next | with_reducible exact KeepsOut.fault | with_reducible apply State.tryWake_keeps | with_reducible apply State.latchWake_keeps | split

theorem execPwroffEnd_keeps {s0 : State} (s : State) (h : Keeps s0 s) : KeepsOut s0 (execPwroffEnd s) := by
  unfold execPwroffEnd
  repeat' first | with_reducible assumption | with_reducible apply KeepsOut.next | with_reducible exact KeepsOut.fault | with_reducible apply State.tryWake_keeps | with_reducible apply State.onTime_keeps | split

theorem execVkeepRise_keeps {s0 : State} (s : State) (a1) (h : Keeps s0 s) : KeepsOut s0 (execVkeepRise a1 s) := by
  unfold execVkeepRise
  extract_lets x1 x2 x3
  have kx2 : Keeps s0 x2 := by
    unfold x2
    repeat' first | with_reducible assumption | with_reducible apply KeepsOut.next | with_reducible exact KeepsOut.fault | with_reducible apply State.onPwr_keeps | with_reducible apply State.tryWake_keeps | with_reducible apply State.latchWake_keeps | split | simp only [Keeps.mk_iff]
  try clear_value x2
  have kx3 : Keeps s0 x3 := by
    unfold x3
    repeat' first | with_reducible assumption | with_reducible apply KeepsOut.next | with_reducible exact KeepsOut.fault | with_reducible apply State.onPwr_keeps
  try clear_value x3
  repeat' first | with_reducible assumption | with_reducible apply KeepsOut.next | with_reducible exact KeepsOut.fault | with_reducible apply State.onPwr_keeps | with_reducible apply State.tryWake_keeps | with_reducible apply State.latchWake_keeps | split

theorem execVkeepLoss_keeps {s0 : State} (s : State) (a1) (h : Keeps s0 s) : KeepsOut s0 (execVkeepLoss a1 s) := by
  unfold execVkeepLoss
  extract_lets x1 x2 x3 x4 x5 x6 x7
  have kx1 : Keeps s0 x1 := by
    unfold x1
    repeat' first | with_reducible assumption | with_reducible apply KeepsOut.next | with_reducible exact KeepsOut.fault | with_reducible apply State.calInvalid_keeps
  try clear_value x1
  have kx2 : Keeps s0 x2 := by
    unfold x2
    repeat' first | with_reducible assumption | with_reducible apply KeepsOut.next | with_reducible exact KeepsOut.fault | with_reducible apply State.calInvalid_keeps | with_reducible apply State.onTime_keeps
  try clear_value x2
  have kx3 : Keeps s0 x3 := by
    unfold x3
    exact ⟨kx2.opt, kx2.serial, kx2.pending, kx2.cru, fun r => regsWf_filter _ (kx2.regs r)⟩
  try clear_value x3
  have kx4 : Keeps s0 x4 := by
    unfold x4
    repeat' first | with_reducible assumption | with_reducible apply KeepsOut.next | with_reducible exact KeepsOut.fault | with_reducible apply State.calInvalid_keeps | with_reducible apply State.onTime_keeps | with_reducible apply State.onPwr_keeps
  try clear_value x4
  have kx5 : Keeps s0 x5 := by
    unfold x5
    repeat' first | with_reducible assumption | with_reducible apply KeepsOut.next | with_reducible exact KeepsOut.fault | with_reducible apply State.calInvalid_keeps | with_reducible apply State.onTime_keeps | with_reducible apply State.onPwr_keeps | with_reducible apply State.onBoard_keeps
  try clear_value x5
  repeat' first | with_reducible assumption | with_reducible apply KeepsOut.next | with_reducible exact KeepsOut.fault | with_reducible apply State.calInvalid_keeps | with_reducible apply State.onTime_keeps | with_reducible apply State.onPwr_keeps | with_reducible apply State.onBoard_keeps | split | simp only [Keeps.mk_iff]

theorem execButton_keeps {s0 : State} (s : State) (h : Keeps s0 s) : KeepsOut s0 (execButton s) := by
  unfold execButton
  repeat' first | with_reducible assumption | with_reducible apply KeepsOut.next | with_reducible exact KeepsOut.fault | with_reducible apply State.tryWake_keeps | with_reducible apply State.latchWake_keeps | split

theorem execButtonRelease_keeps {s0 : State} (s : State) (a1) (h : Keeps s0 s) : KeepsOut s0 (execButtonRelease a1 s) := by
  unfold execButtonRelease
  repeat' first | with_reducible assumption | with_reducible apply KeepsOut.next | with_reducible exact KeepsOut.fault | with_reducible apply State.powerEvt_keeps | split

theorem execShipExit_keeps {s0 : State} (s : State) (h : Keeps s0 s) : KeepsOut s0 (execShipExit s) := by
  unfold execShipExit
  extract_lets x1 x2 x3
  have kx2 : Keeps s0 x2 := by
    unfold x2
    repeat' first | with_reducible assumption | with_reducible apply KeepsOut.next | with_reducible exact KeepsOut.fault | with_reducible apply State.onPwr_keeps | with_reducible apply State.tryWake_keeps | with_reducible apply State.latchWake_keeps | split | simp only [Keeps.mk_iff]
  try clear_value x2
  have kx3 : Keeps s0 x3 := by
    unfold x3
    repeat' first | with_reducible assumption | with_reducible apply KeepsOut.next | with_reducible exact KeepsOut.fault | with_reducible apply State.onPwr_keeps
  try clear_value x3
  repeat' first | with_reducible assumption | with_reducible apply KeepsOut.next | with_reducible exact KeepsOut.fault | with_reducible apply State.onPwr_keeps | with_reducible apply State.tryWake_keeps | with_reducible apply State.latchWake_keeps | split

theorem execLongPress_keeps {s0 : State} (s : State) (h : Keeps s0 s) : KeepsOut s0 (execLongPress s) := by
  unfold execLongPress
  extract_lets x1 x2
  have kx1 : Keeps s0 x1 := by
    unfold x1
    repeat' first | with_reducible assumption | with_reducible apply KeepsOut.next | with_reducible exact KeepsOut.fault | with_reducible apply State.collapse_keeps | with_reducible apply State.onPwr_keeps | with_reducible apply State.latchWake_keeps | split
  try clear_value x1
  have kx2 : Keeps s0 x2 := by
    unfold x2
    repeat' first | with_reducible assumption | with_reducible apply KeepsOut.next | with_reducible exact KeepsOut.fault | with_reducible apply State.collapse_keeps | with_reducible apply State.onPwr_keeps
  try clear_value x2
  repeat' first | with_reducible assumption | with_reducible apply KeepsOut.next | with_reducible exact KeepsOut.fault | with_reducible apply State.collapse_keeps | with_reducible apply State.onPwr_keeps | with_reducible apply State.latchWake_keeps | split

theorem execLongPressPathEnd_keeps {s0 : State} (s : State) (h : Keeps s0 s) : KeepsOut s0 (execLongPressPathEnd s) := by
  unfold execLongPressPathEnd
  repeat' first | with_reducible assumption | with_reducible apply KeepsOut.next | with_reducible exact KeepsOut.fault | with_reducible apply State.tryWake_keeps | with_reducible apply State.onPwr_keeps | split

theorem execPackShipLow_keeps {s0 : State} (s : State) (h : Keeps s0 s) : KeepsOut s0 (execPackShipLow s) := by
  unfold execPackShipLow
  extract_lets x1
  repeat' first | with_reducible assumption | with_reducible apply KeepsOut.next | with_reducible exact KeepsOut.fault | split | simp only [Keeps.mk_iff]

theorem State.inputLoss_keeps {s0 : State} (s : State) (a1 a2) (h : Keeps s0 s) : Keeps s0 (State.inputLoss s a1 a2) := by
  unfold State.inputLoss
  extract_lets x1 x2 x3 x4 x5 x6 x7 x8 x9
  have kx3 : Keeps s0 x3 := by
    unfold x3
    repeat' first | with_reducible assumption | with_reducible apply State.onPwr_keeps
  try clear_value x3
  have kx5 : Keeps s0 x5 := by
    unfold x5
    repeat' first | with_reducible assumption | with_reducible apply State.onPwr_keeps | with_reducible apply State.endTest_keeps
  try clear_value x5
  have kx6 : Keeps s0 x6 := by
    unfold x6
    repeat' first | with_reducible assumption | with_reducible apply State.onPwr_keeps
  try clear_value x6
  have kx7 : Keeps s0 x7 := by
    unfold x7
    repeat' first | with_reducible assumption | with_reducible apply State.onPwr_keeps | with_reducible apply State.endTest_keeps | with_reducible apply State.chgTo_keeps | with_reducible apply State.powerEvt_keeps | with_reducible apply State.fault_keeps | with_reducible apply State.toKeep_keeps | with_reducible apply State.collapse_keeps | with_reducible apply State.enterLehr_keeps | with_reducible apply State.keepFault_keeps | split
  try clear_value x7
  have kx8 : Keeps s0 x8 := by
    unfold x8
    repeat' first | with_reducible assumption | with_reducible apply State.onPwr_keeps | with_reducible apply State.endTest_keeps | with_reducible apply State.chgTo_keeps | with_reducible apply State.powerEvt_keeps | with_reducible apply State.fault_keeps | with_reducible apply State.toKeep_keeps | with_reducible apply State.collapse_keeps | with_reducible apply State.enterLehr_keeps | with_reducible apply State.keepFault_keeps | split
  try clear_value x8
  have kx9 : Keeps s0 x9 := by
    unfold x9
    repeat' first | with_reducible assumption | with_reducible apply State.onPwr_keeps | with_reducible apply State.endTest_keeps | with_reducible apply State.chgTo_keeps | with_reducible apply State.powerEvt_keeps | with_reducible apply State.fault_keeps | with_reducible apply State.toKeep_keeps | with_reducible apply State.collapse_keeps | with_reducible apply State.enterLehr_keeps | with_reducible apply State.keepFault_keeps | split
  try clear_value x9
  repeat' first | with_reducible assumption | with_reducible apply State.onPwr_keeps | with_reducible apply State.endTest_keeps | with_reducible apply State.chgTo_keeps | with_reducible apply State.powerEvt_keeps | with_reducible apply State.fault_keeps | with_reducible apply State.toKeep_keeps | with_reducible apply State.collapse_keeps | with_reducible apply State.enterLehr_keeps | with_reducible apply State.keepFault_keeps | split

theorem State.vinFall_keeps {s0 : State} (s : State) (a1 a2) (h : Keeps s0 s) : Keeps s0 (State.vinFall s a1 a2) := by
  unfold State.vinFall
  extract_lets x1
  repeat' first | with_reducible assumption | with_reducible apply State.onPwr_keeps | with_reducible apply State.inputLoss_keeps | split

theorem execInputLoss_keeps {s0 : State} (s : State) (a1 a2) (h : Keeps s0 s) : KeepsOut s0 (execInputLoss a1 a2 s) := by
  unfold execInputLoss
  extract_lets x1 x2 x3 x4
  have kx1 : Keeps s0 x1 := by
    unfold x1
    repeat' first | with_reducible assumption | with_reducible apply KeepsOut.next | with_reducible exact KeepsOut.fault | with_reducible apply State.fatalFirst_keeps
  try clear_value x1
  have kx3 : Keeps s0 x3 := by
    unfold x3
    repeat' first | with_reducible assumption | with_reducible apply KeepsOut.next | with_reducible exact KeepsOut.fault | with_reducible apply State.fatalFirst_keeps | with_reducible apply State.vinFall_keeps | with_reducible apply State.handleMinute_keeps
  try clear_value x3
  have kx4 : Keeps s0 x4 := by
    unfold x4
    repeat' first | with_reducible assumption | with_reducible apply KeepsOut.next | with_reducible exact KeepsOut.fault | with_reducible apply State.fatalFirst_keeps | with_reducible apply State.vinFall_keeps | with_reducible apply State.handleMinute_keeps | split | simp only [Keeps.mk_iff]
  try clear_value x4
  repeat' first | with_reducible assumption | with_reducible apply KeepsOut.next | with_reducible exact KeepsOut.fault | with_reducible apply State.fatalFirst_keeps | with_reducible apply State.vinFall_keeps | with_reducible apply State.handleMinute_keeps | split | simp only [Keeps.mk_iff]

theorem execInputPresent_keeps {s0 : State} (s : State) (a1) (h : Keeps s0 s) : KeepsOut s0 (execInputPresent a1 s) := by
  unfold execInputPresent
  extract_lets x1 x2 x3
  have kx1 : Keeps s0 x1 := by
    unfold x1
    repeat' first | with_reducible assumption | with_reducible apply KeepsOut.next | with_reducible exact KeepsOut.fault | with_reducible apply State.onPwr_keeps
  try clear_value x1
  have kx2 : Keeps s0 x2 := by
    unfold x2
    repeat' first | with_reducible assumption | with_reducible apply KeepsOut.next | with_reducible exact KeepsOut.fault | with_reducible apply State.onPwr_keeps | with_reducible apply State.powerEvt_keeps | with_reducible apply State.latchWake_keeps | with_reducible apply State.tryWake_keeps | split
  try clear_value x2
  have kx3 : Keeps s0 x3 := by
    unfold x3
    repeat' first | with_reducible assumption | with_reducible apply KeepsOut.next | with_reducible exact KeepsOut.fault | with_reducible apply State.onPwr_keeps | with_reducible apply State.powerEvt_keeps | with_reducible apply State.latchWake_keeps | with_reducible apply State.tryWake_keeps | split
  try clear_value x3
  repeat' first | with_reducible assumption | with_reducible apply KeepsOut.next | with_reducible exact KeepsOut.fault | with_reducible apply State.onPwr_keeps | with_reducible apply State.powerEvt_keeps | with_reducible apply State.latchWake_keeps | with_reducible apply State.tryWake_keeps | split

theorem execPathReturn_keeps {s0 : State} (s : State) (h : Keeps s0 s) : KeepsOut s0 (execPathReturn s) := by
  unfold execPathReturn
  extract_lets x1 x2
  have kx1 : Keeps s0 x1 := by
    unfold x1
    repeat' first | with_reducible assumption | with_reducible apply KeepsOut.next | with_reducible exact KeepsOut.fault | with_reducible apply State.tryReturn_keeps
  try clear_value x1
  have kx2 : Keeps s0 x2 := by
    unfold x2
    repeat' first | with_reducible assumption | with_reducible apply KeepsOut.next | with_reducible exact KeepsOut.fault | with_reducible apply State.tryReturn_keeps | with_reducible apply State.setBit_keeps | with_reducible apply State.onPwr_keeps
  try clear_value x2
  repeat' first | with_reducible assumption | with_reducible apply KeepsOut.next | with_reducible exact KeepsOut.fault | with_reducible apply State.tryReturn_keeps | with_reducible apply State.setBit_keeps | with_reducible apply State.onPwr_keeps | with_reducible apply State.fault_keeps | with_reducible apply State.powerEvt_keeps | split

theorem execPackExhausted_keeps {s0 : State} (s : State) (h : Keeps s0 s) : KeepsOut s0 (execPackExhausted s) := by
  unfold execPackExhausted
  extract_lets x1
  repeat' first | with_reducible assumption | with_reducible apply KeepsOut.next | with_reducible exact KeepsOut.fault | with_reducible apply State.collapse_keeps | split

theorem execVinCollapse_keeps {s0 : State} (s : State) (h : Keeps s0 s) : KeepsOut s0 (execVinCollapse s) := by
  unfold execVinCollapse
  repeat' first | with_reducible assumption | with_reducible apply KeepsOut.next | with_reducible exact KeepsOut.fault | with_reducible apply State.collapse_keeps | with_reducible apply State.keepFault_keeps | with_reducible apply State.setBit_keeps | split

theorem execVintPowerOn_keeps {s0 : State} (s : State) (h : Keeps s0 s) : KeepsOut s0 (execVintPowerOn s) := by
  unfold execVintPowerOn
  extract_lets x1 x2 x3 x4 x5
  have kx3 : Keeps s0 x3 := by
    unfold x3
    repeat' first | with_reducible assumption | with_reducible apply KeepsOut.next | with_reducible exact KeepsOut.fault | with_reducible apply State.onPwr_keeps | with_reducible apply State.tryWake_keeps | with_reducible apply State.latchWake_keeps | with_reducible apply State.toKeep_keeps | split | simp only [Keeps.mk_iff]
  try clear_value x3
  have kx4 : Keeps s0 x4 := by
    unfold x4
    repeat' first | with_reducible assumption | with_reducible apply KeepsOut.next | with_reducible exact KeepsOut.fault | with_reducible apply State.onPwr_keeps
  try clear_value x4
  have kx5 : Keeps s0 x5 := by
    unfold x5
    repeat' first | with_reducible assumption | with_reducible apply KeepsOut.next | with_reducible exact KeepsOut.fault | with_reducible apply State.onPwr_keeps | with_reducible apply State.tryWake_keeps | with_reducible apply State.latchWake_keeps | with_reducible apply State.toKeep_keeps
  try clear_value x5
  repeat' first | with_reducible assumption | with_reducible apply KeepsOut.next | with_reducible exact KeepsOut.fault | with_reducible apply State.onPwr_keeps | with_reducible apply State.tryWake_keeps | with_reducible apply State.latchWake_keeps | with_reducible apply State.toKeep_keeps | split | simp only [Keeps.mk_iff]

theorem execSeqSlotDone_keeps {s0 : State} (s : State) (h : Keeps s0 s) : KeepsOut s0 (execSeqSlotDone s) := by
  unfold execSeqSlotDone
  extract_lets x1 x2 x3
  have kx1 : Keeps s0 x1 := by
    unfold x1
    repeat' first | with_reducible assumption | with_reducible apply KeepsOut.next | with_reducible exact KeepsOut.fault | with_reducible apply State.watchSlot_keeps
  try clear_value x1
  have kx3 : Keeps s0 x3 := by
    unfold x3
    repeat' first | with_reducible assumption | with_reducible apply KeepsOut.next | with_reducible exact KeepsOut.fault | with_reducible apply State.watchSlot_keeps | with_reducible apply State.runSlot_keeps | with_reducible apply State.onPwr_keeps
  try clear_value x3
  repeat' first | with_reducible assumption | with_reducible apply KeepsOut.next | with_reducible exact KeepsOut.fault | with_reducible apply State.watchSlot_keeps | with_reducible apply State.runSlot_keeps | with_reducible apply State.onPwr_keeps | with_reducible apply State.draw_keeps | with_reducible apply State.enterBoot_keeps | with_reducible apply State.chgStart_keeps | with_reducible apply State.tryReturn_keeps | split

theorem execSeqTimeout_keeps {s0 : State} (s : State) (h : Keeps s0 s) : KeepsOut s0 (execSeqTimeout s) := by
  unfold execSeqTimeout
  extract_lets x1 x2 x3 x4
  have kx3 : Keeps s0 x3 := by
    unfold x3
    repeat' first | with_reducible assumption | with_reducible apply KeepsOut.next | with_reducible exact KeepsOut.fault | with_reducible apply State.keepFault_keeps | with_reducible apply State.snapshot_keeps | with_reducible apply State.setBit_keeps
  try clear_value x3
  have kx4 : Keeps s0 x4 := by
    unfold x4
    repeat' first | with_reducible assumption | with_reducible apply KeepsOut.next | with_reducible exact KeepsOut.fault | with_reducible apply State.keepFault_keeps | with_reducible apply State.snapshot_keeps | with_reducible apply State.setBit_keeps | with_reducible apply State.toKeep_keeps
  try clear_value x4
  repeat' first | with_reducible assumption | with_reducible apply KeepsOut.next | with_reducible exact KeepsOut.fault | with_reducible apply State.keepFault_keeps | with_reducible apply State.snapshot_keeps | with_reducible apply State.setBit_keeps | with_reducible apply State.toKeep_keeps | with_reducible apply State.onPwr_keeps | split

theorem execPowerDownStep_keeps {s0 : State} (s : State) (h : Keeps s0 s) : KeepsOut s0 (execPowerDownStep s) := by
  unfold execPowerDownStep
  extract_lets x1
  repeat' first | with_reducible assumption | with_reducible apply KeepsOut.next | with_reducible exact KeepsOut.fault | with_reducible apply State.powerDownStep_keeps | split

theorem State.onAux_keeps {s0 : State} (s : State) (a1 a2) (h : Keeps s0 s) : Keeps s0 (State.onAux s a1 a2) := by
  unfold State.onAux
  repeat' first | with_reducible assumption | with_reducible apply State.onPwr_keeps

theorem execAuxPgood_keeps {s0 : State} (s : State) (a1) (h : Keeps s0 s) : KeepsOut s0 (execAuxPgood a1 s) := by
  unfold execAuxPgood
  repeat' first | with_reducible assumption | with_reducible apply KeepsOut.next | with_reducible exact KeepsOut.fault | with_reducible apply State.watchSlot_keeps | with_reducible apply State.onAux_keeps | split

theorem State.auxLatch_keeps {s0 : State} (s : State) (a1) (h : Keeps s0 s) : Keeps s0 (State.auxLatch s a1) := by
  unfold State.auxLatch
  repeat' first | with_reducible assumption | with_reducible apply State.fault_keeps | with_reducible apply State.onAux_keeps

theorem execAuxHiccup_keeps {s0 : State} (s : State) (a1) (h : Keeps s0 s) : KeepsOut s0 (execAuxHiccup a1 s) := by
  unfold execAuxHiccup
  extract_lets x1 x2 x3 x4
  have kx3 : Keeps s0 x3 := by
    unfold x3
    repeat' first | with_reducible assumption | with_reducible apply KeepsOut.next | with_reducible exact KeepsOut.fault | with_reducible apply State.setBit_keeps | with_reducible apply State.onAux_keeps
  try clear_value x3
  have kx4 : Keeps s0 x4 := by
    unfold x4
    repeat' first | with_reducible assumption | with_reducible apply KeepsOut.next | with_reducible exact KeepsOut.fault | with_reducible apply State.setBit_keeps | with_reducible apply State.onAux_keeps | with_reducible apply State.fault_keeps
  try clear_value x4
  repeat' first | with_reducible assumption | with_reducible apply KeepsOut.next | with_reducible exact KeepsOut.fault | with_reducible apply State.setBit_keeps | with_reducible apply State.onAux_keeps | with_reducible apply State.fault_keeps | with_reducible apply State.auxLatch_keeps | split

theorem execAuxHiccupRestart_keeps {s0 : State} (s : State) (a1) (h : Keeps s0 s) : KeepsOut s0 (execAuxHiccupRestart a1 s) := by
  unfold execAuxHiccupRestart
  repeat' first | with_reducible assumption | with_reducible apply KeepsOut.next | with_reducible exact KeepsOut.fault | with_reducible apply State.onAux_keeps | split

theorem execAuxSlowLimit_keeps {s0 : State} (s : State) (a1) (h : Keeps s0 s) : KeepsOut s0 (execAuxSlowLimit a1 s) := by
  unfold execAuxSlowLimit
  extract_lets x1
  repeat' first | with_reducible assumption | with_reducible apply KeepsOut.next | with_reducible exact KeepsOut.fault | with_reducible apply State.auxLatch_keeps | split

theorem execAuxTwarn_keeps {s0 : State} (s : State) (a1 a2) (h : Keeps s0 s) : KeepsOut s0 (execAuxTwarn a1 a2 s) := by
  unfold execAuxTwarn
  extract_lets x1
  have kx1 : Keeps s0 x1 := by
    unfold x1
    repeat' first | with_reducible assumption | with_reducible apply KeepsOut.next | with_reducible exact KeepsOut.fault | with_reducible apply State.powerEvt_keeps | with_reducible apply State.onAux_keeps
  try clear_value x1
  repeat' first | with_reducible assumption | with_reducible apply KeepsOut.next | with_reducible exact KeepsOut.fault | with_reducible apply State.powerEvt_keeps | with_reducible apply State.onAux_keeps | with_reducible apply State.fault_keeps | split

theorem execAuxTshut_keeps {s0 : State} (s : State) (a1 a2) (h : Keeps s0 s) : KeepsOut s0 (execAuxTshut a1 a2 s) := by
  unfold execAuxTshut
  extract_lets x1
  have kx1 : Keeps s0 x1 := by
    unfold x1
    repeat' first | with_reducible assumption | with_reducible apply KeepsOut.next | with_reducible exact KeepsOut.fault | with_reducible apply State.onPwr_keeps
  try clear_value x1
  repeat' first | with_reducible assumption | with_reducible apply KeepsOut.next | with_reducible exact KeepsOut.fault | with_reducible apply State.onPwr_keeps | with_reducible apply State.fault_keeps | split

theorem execThermalPowerDown_keeps {s0 : State} (s : State) (h : Keeps s0 s) : KeepsOut s0 (execThermalPowerDown s) := by
  unfold execThermalPowerDown
  extract_lets x1
  repeat' first | with_reducible assumption | with_reducible apply KeepsOut.next | with_reducible exact KeepsOut.fault | with_reducible apply State.toKeep_keeps | with_reducible apply State.snapshot_keeps | split

theorem execRailRange_keeps {s0 : State} (s : State) (a1) (h : Keeps s0 s) : KeepsOut s0 (execRailRange a1 s) := by
  unfold execRailRange
  extract_lets x1
  have kx1 : Keeps s0 x1 := by
    unfold x1
    repeat' first | with_reducible assumption | with_reducible apply KeepsOut.next | with_reducible exact KeepsOut.fault | with_reducible apply State.onAux_keeps | with_reducible apply State.fault_keeps | split
  try clear_value x1
  repeat' first | with_reducible assumption | with_reducible apply KeepsOut.next | with_reducible exact KeepsOut.fault | with_reducible apply State.onAux_keeps | with_reducible apply State.fault_keeps | split

theorem State.packTick_keeps {s0 : State} (s : State) (h : Keeps s0 s) : Keeps s0 (State.packTick s) := by
  unfold State.packTick
  extract_lets x1 x2
  repeat' first | with_reducible assumption | with_reducible apply State.onPwr_keeps

theorem execWardenReadingRefresh_keeps {s0 : State} (s : State) (a1) (h : Keeps s0 s) : KeepsOut s0 (execWardenReadingRefresh a1 s) := by
  unfold execWardenReadingRefresh
  extract_lets x1 x2 x3
  have kx1 : Keeps s0 x1 := by
    unfold x1
    repeat' first | with_reducible assumption | with_reducible apply KeepsOut.next | with_reducible exact KeepsOut.fault | with_reducible apply State.watchSlot_keeps | with_reducible apply State.onPwr_keeps
  try clear_value x1
  have kx2 : Keeps s0 x2 := by
    unfold x2
    repeat' first | with_reducible assumption | with_reducible apply KeepsOut.next | with_reducible exact KeepsOut.fault | with_reducible apply State.watchSlot_keeps | with_reducible apply State.onPwr_keeps | with_reducible apply State.onAux_keeps | with_reducible apply State.packTick_keeps | with_reducible apply State.syncHoldok_keeps | with_reducible apply State.endTest_keeps | split | simp only | with_reducible refine Keeps.foldl (fun _ _ _ => ?_) ?_
  try clear_value x2
  have kx3 : Keeps s0 x3 := by
    unfold x3
    repeat' first | with_reducible assumption | with_reducible apply KeepsOut.next | with_reducible exact KeepsOut.fault | with_reducible apply State.watchSlot_keeps | with_reducible apply State.onPwr_keeps | with_reducible apply State.onAux_keeps | with_reducible apply State.packTick_keeps | with_reducible apply State.syncHoldok_keeps
  try clear_value x3
  repeat' first | with_reducible assumption | with_reducible apply KeepsOut.next | with_reducible exact KeepsOut.fault | with_reducible apply State.watchSlot_keeps | with_reducible apply State.onPwr_keeps | with_reducible apply State.onAux_keeps | with_reducible apply State.packTick_keeps | with_reducible apply State.syncHoldok_keeps | with_reducible apply State.endTest_keeps | split

theorem execPackPresent_keeps {s0 : State} (s : State) (a1) (h : Keeps s0 s) : KeepsOut s0 (execPackPresent a1 s) := by
  unfold execPackPresent
  extract_lets x1 x2
  have kx1 : Keeps s0 x1 := by
    unfold x1
    repeat' first | with_reducible assumption | with_reducible apply KeepsOut.next | with_reducible exact KeepsOut.fault | with_reducible apply State.onPwr_keeps
  try clear_value x1
  have kx2 : Keeps s0 x2 := by
    unfold x2
    repeat' first | with_reducible assumption | with_reducible apply KeepsOut.next | with_reducible exact KeepsOut.fault | with_reducible apply State.onPwr_keeps | with_reducible apply State.powerEvt_keeps | with_reducible apply State.chgStart_keeps | with_reducible apply State.syncHoldok_keeps | split
  try clear_value x2
  repeat' first | with_reducible assumption | with_reducible apply KeepsOut.next | with_reducible exact KeepsOut.fault | with_reducible apply State.onPwr_keeps | with_reducible apply State.powerEvt_keeps | with_reducible apply State.chgStart_keeps | with_reducible apply State.syncHoldok_keeps | split

theorem execPackRemoved_keeps {s0 : State} (s : State) (h : Keeps s0 s) : KeepsOut s0 (execPackRemoved s) := by
  unfold execPackRemoved
  extract_lets x1 x2
  have kx1 : Keeps s0 x1 := by
    unfold x1
    repeat' first | with_reducible assumption | with_reducible apply KeepsOut.next | with_reducible exact KeepsOut.fault | with_reducible apply State.onPwr_keeps
  try clear_value x1
  have kx2 : Keeps s0 x2 := by
    unfold x2
    repeat' first | with_reducible assumption | with_reducible apply KeepsOut.next | with_reducible exact KeepsOut.fault | with_reducible apply State.onPwr_keeps | with_reducible apply State.powerEvt_keeps | with_reducible apply State.syncHoldok_keeps | with_reducible apply State.chgTo_keeps | split
  try clear_value x2
  repeat' first | with_reducible assumption | with_reducible apply KeepsOut.next | with_reducible exact KeepsOut.fault | with_reducible apply State.onPwr_keeps | with_reducible apply State.powerEvt_keeps | with_reducible apply State.syncHoldok_keeps | with_reducible apply State.chgTo_keeps | split

theorem execPackNtc_keeps {s0 : State} (s : State) (h : Keeps s0 s) : KeepsOut s0 (execPackNtc s) := by
  unfold execPackNtc
  extract_lets x1
  have kx1 : Keeps s0 x1 := by
    unfold x1
    repeat' first | with_reducible assumption | with_reducible apply KeepsOut.next | with_reducible exact KeepsOut.fault | with_reducible apply State.onPwr_keeps
  try clear_value x1
  repeat' first | with_reducible assumption | with_reducible apply KeepsOut.next | with_reducible exact KeepsOut.fault | with_reducible apply State.onPwr_keeps | with_reducible apply State.fault_keeps | with_reducible apply State.syncHoldok_keeps | with_reducible apply State.chgTo_keeps | split

theorem execQualEnd_keeps {s0 : State} (s : State) (h : Keeps s0 s) : KeepsOut s0 (execQualEnd s) := by
  unfold execQualEnd
  extract_lets x1
  repeat' first | with_reducible assumption | with_reducible apply KeepsOut.next | with_reducible exact KeepsOut.fault | with_reducible apply State.chgTo_keeps | with_reducible apply State.startSearch_keeps | split

theorem State.chgFault_keeps {s0 : State} (s : State) (h : Keeps s0 s) : Keeps s0 (State.chgFault s) := by
  unfold State.chgFault
  repeat' first | with_reducible assumption | with_reducible apply State.fault_keeps | with_reducible apply State.chgTo_keeps

theorem execPreTimeout_keeps {s0 : State} (s : State) (h : Keeps s0 s) : KeepsOut s0 (execPreTimeout s) := by
  unfold execPreTimeout
  repeat' first | with_reducible assumption | with_reducible apply KeepsOut.next | with_reducible exact KeepsOut.fault | with_reducible apply State.chgFault_keeps | split

theorem execSearchStep_keeps {s0 : State} (s : State) (a1) (h : Keeps s0 s) : KeepsOut s0 (execSearchStep a1 s) := by
  unfold execSearchStep
  extract_lets x1 x2 x3 x4
  repeat' first | with_reducible assumption | with_reducible apply KeepsOut.next | with_reducible exact KeepsOut.fault | with_reducible apply State.onPwr_keeps | with_reducible apply State.setSearch_keeps | split

theorem execSearchHoldEnd_keeps {s0 : State} (s : State) (h : Keeps s0 s) : KeepsOut s0 (execSearchHoldEnd s) := by
  unfold execSearchHoldEnd
  repeat' first | with_reducible assumption | with_reducible apply KeepsOut.next | with_reducible exact KeepsOut.fault | with_reducible apply State.onPwr_keeps | split

theorem State.packFull_keeps {s0 : State} (s : State) (h : Keeps s0 s) : Keeps s0 (State.packFull s) := by
  unfold State.packFull
  repeat' first | with_reducible assumption | with_reducible apply State.onPwr_keeps

theorem execChargeMeanUpdate_keeps {s0 : State} (s : State) (a1 a2) (h : Keeps s0 s) : KeepsOut s0 (execChargeMeanUpdate a1 a2 s) := by
  unfold execChargeMeanUpdate
  extract_lets x1 x2 x3 x4 x5 x6 x7
  try clear_value x1
  have kx2 : Keeps s0 x2 := by
    unfold x2
    repeat' first | with_reducible assumption | with_reducible apply KeepsOut.next | with_reducible exact KeepsOut.fault | with_reducible apply State.onPwr_keeps
  try clear_value x2
  have kx3 : Keeps s0 x3 := by
    unfold x3
    repeat' first | with_reducible assumption | with_reducible apply KeepsOut.next | with_reducible exact KeepsOut.fault | with_reducible apply State.onPwr_keeps | with_reducible apply State.chgStart_keeps | with_reducible apply State.syncHoldok_keeps
  try clear_value x3
  try clear_value x4
  try clear_value x5
  try clear_value x6
  try clear_value x7
  repeat' first | with_reducible assumption | with_reducible apply KeepsOut.next | with_reducible exact KeepsOut.fault | with_reducible apply State.onPwr_keeps | with_reducible apply State.chgStart_keeps | with_reducible apply State.syncHoldok_keeps | with_reducible apply State.chgFault_keeps | with_reducible apply State.chgTo_keeps | with_reducible apply State.packFull_keeps | split

theorem execFastmaxExpiry_keeps {s0 : State} (s : State) (h : Keeps s0 s) : KeepsOut s0 (execFastmaxExpiry s) := by
  unfold execFastmaxExpiry
  repeat' first | with_reducible assumption | with_reducible apply KeepsOut.next | with_reducible exact KeepsOut.fault | with_reducible apply State.fault_keeps | with_reducible apply State.chgTo_keeps | split

theorem execChargerWatchdog_keeps {s0 : State} (s : State) (h : Keeps s0 s) : KeepsOut s0 (execChargerWatchdog s) := by
  unfold execChargerWatchdog
  extract_lets x1 x2 x3
  have kx2 : Keeps s0 x2 := by
    unfold x2
    repeat' first | with_reducible assumption | with_reducible apply KeepsOut.next | with_reducible exact KeepsOut.fault | with_reducible apply State.onPwr_keeps | with_reducible apply State.setBit_keeps
  try clear_value x2
  have kx3 : Keeps s0 x3 := by
    unfold x3
    repeat' first | with_reducible assumption | with_reducible apply KeepsOut.next | with_reducible exact KeepsOut.fault | with_reducible apply State.onPwr_keeps | with_reducible apply State.setBit_keeps | with_reducible apply State.chgTo_keeps | with_reducible apply State.fault_keeps | with_reducible apply State.powerEvt_keeps | split
  try clear_value x3
  repeat' first | with_reducible assumption | with_reducible apply KeepsOut.next | with_reducible exact KeepsOut.fault | with_reducible apply State.onPwr_keeps | with_reducible apply State.setBit_keeps | with_reducible apply State.chgTo_keeps | with_reducible apply State.fault_keeps | with_reducible apply State.powerEvt_keeps | split

theorem execHldKick_keeps {s0 : State} (s : State) (a1) (h : Keeps s0 s) : KeepsOut s0 (execHldKick a1 s) := by
  unfold execHldKick
  repeat' first | with_reducible assumption | with_reducible apply KeepsOut.next | with_reducible exact KeepsOut.fault | with_reducible apply State.onPwr_keeps | split

theorem execPackTest_keeps {s0 : State} (s : State) (h : Keeps s0 s) : KeepsOut s0 (execPackTest s) := by
  unfold execPackTest
  extract_lets x1
  repeat' first | with_reducible assumption | with_reducible apply KeepsOut.next | with_reducible exact KeepsOut.fault | with_reducible apply State.onPwr_keeps | with_reducible apply State.chgTo_keeps | split

theorem execStoptest_keeps {s0 : State} (s : State) (h : Keeps s0 s) : KeepsOut s0 (execStoptest s) := by
  unfold execStoptest
  repeat' first | with_reducible assumption | with_reducible apply KeepsOut.next | with_reducible exact KeepsOut.fault | with_reducible apply State.endTest_keeps | split

end Sys2Proof.Machine
end

