-- ==== Sys2Proof/Laws/KeepsFaults.lean ====
section
/-! SUPPORT. What the rows of the faults and resets, and the DMA engine keep: one lemma per operation (`Keeps`: the fuses, the queue behind the
command, and the canonical form of both memories), for later proofs to cite in place of unfolding it. -/

namespace Sys2Proof.Machine

open Sys2Proof

theorem State.cruUe_keeps {s0 : State} (s : State) (a1) (h : Keeps s0 s) : Keeps s0 (State.cruUe s a1) := by
  unfold State.cruUe
  extract_lets x1
  have kx1 : Keeps s0 x1 := by
    unfold x1
    repeat' first | with_reducible assumption | with_reducible apply State.setFld_keeps | with_reducible apply State.setBit_keeps
  try clear_value x1
  repeat' first | with_reducible assumption | with_reducible apply State.setFld_keeps | with_reducible apply State.setBit_keeps | with_reducible apply State.onQueue_keeps | with_reducible apply State.pick_keeps | split | simp only [Keeps.mk_iff] | with_reducible refine Keeps.foldl (fun _ _ _ => ?_) ?_ | with_reducible refine Keeps.foldl1 (fun _ _ _ => ?_) ?_ | with_reducible refine Keeps.foldl2 (fun _ _ _ => ?_) ?_ | dsimp only | with_reducible refine Keeps.of_fst ‹_ = (_, _)› ?_ | with_reducible refine Keeps.of_snd ‹_ = (_, _)› ?_

theorem State.extActs_keeps {s0 : State} (s : State) (a1 a2) (h : Keeps s0 s) : Keeps s0 (State.extActs s a1 a2) := by
  unfold State.extActs
  extract_lets x1
  repeat' first | with_reducible assumption | with_reducible apply State.useSpare_keeps | with_reducible apply State.setBit_keeps | with_reducible apply State.cruUe_keeps | split | simp only [Keeps.mk_iff]

theorem execFaultTaken_keeps {s0 : State} (s : State) (a1) (h : Keeps s0 s) : KeepsOut s0 (execFaultTaken a1 s) := by
  unfold execFaultTaken
  extract_lets x1 x2
  have kx1 : Keeps s0 x1 := by
    unfold x1
    repeat' first | with_reducible assumption | with_reducible apply KeepsOut.next | with_reducible exact KeepsOut.fault | with_reducible apply State.fault_keeps | with_reducible apply State.extActs_keeps | with_reducible apply State.takeFault_keeps | split
  try clear_value x1
  repeat' first | with_reducible assumption | with_reducible apply KeepsOut.next | with_reducible exact KeepsOut.fault | with_reducible apply State.fault_keeps | with_reducible apply State.extActs_keeps | with_reducible apply State.takeFault_keeps | split | simp only [Keeps.mk_iff]

theorem State.wdnRestart_keeps {s0 : State} (s : State) (h : Keeps s0 s) : Keeps s0 (State.wdnRestart s) := by
  unfold State.wdnRestart
  extract_lets x1
  repeat' first | with_reducible assumption | split | simp only [Keeps.mk_iff]

theorem execLockstep_keeps {s0 : State} (s : State) (h : Keeps s0 s) : KeepsOut s0 (execLockstep s) := by
  unfold execLockstep
  extract_lets x1
  have kx1 : Keeps s0 x1 := by
    unfold x1
    repeat' first | with_reducible assumption | with_reducible apply KeepsOut.next | with_reducible exact KeepsOut.fault | with_reducible apply State.wdnRestart_keeps | with_reducible refine State.forChans_keeps _ _ _ (fun _ _ _ => ?_) ?_ | with_reducible apply State.hardStop_keeps
  try clear_value x1
  repeat' first | with_reducible assumption | with_reducible apply KeepsOut.next | with_reducible exact KeepsOut.fault | with_reducible apply State.wdnRestart_keeps | with_reducible refine State.forChans_keeps _ _ _ (fun _ _ _ => ?_) ?_ | with_reducible apply State.hardStop_keeps | with_reducible apply State.lehrAbort_keeps | with_reducible apply State.keepFault_keeps | with_reducible apply State.fault_keeps | split

theorem State.clockStop_keeps {s0 : State} (s : State) (h : Keeps s0 s) : Keeps s0 (State.clockStop s) := by
  unfold State.clockStop
  extract_lets x1 x2
  have kx2 : Keeps s0 x2 := by
    unfold x2
    repeat' first | with_reducible assumption | with_reducible apply State.onBoard_keeps | split | simp only [Keeps.mk_iff]
  try clear_value x2
  repeat' first | with_reducible assumption | with_reducible apply State.onBoard_keeps

theorem execRefclkLost_keeps {s0 : State} (s : State) (h : Keeps s0 s) : KeepsOut s0 (execRefclkLost s) := by
  unfold execRefclkLost
  extract_lets x1
  have kx1 : Keeps s0 x1 := by
    unfold x1
    repeat' first | with_reducible assumption | with_reducible apply KeepsOut.next | with_reducible exact KeepsOut.fault | with_reducible apply State.clockStop_keeps | with_reducible refine State.forChans_keeps _ _ _ (fun _ _ _ => ?_) ?_ | with_reducible apply State.hardStop_keeps
  try clear_value x1
  repeat' first | with_reducible assumption | with_reducible apply KeepsOut.next | with_reducible exact KeepsOut.fault | with_reducible apply State.clockStop_keeps | with_reducible refine State.forChans_keeps _ _ _ (fun _ _ _ => ?_) ?_ | with_reducible apply State.hardStop_keeps | with_reducible apply State.lehrAbort_keeps | with_reducible apply State.keepFault_keeps | with_reducible apply State.fault_keeps | split

theorem execWdnOsc_keeps {s0 : State} (s : State) (h : Keeps s0 s) : KeepsOut s0 (execWdnOsc s) := by
  unfold execWdnOsc
  extract_lets x1 x2
  have kx1 : Keeps s0 x1 := by
    unfold x1
    repeat' first | with_reducible assumption | with_reducible apply KeepsOut.next | with_reducible exact KeepsOut.fault | with_reducible refine State.forChans_keeps _ _ _ (fun _ _ _ => ?_) ?_ | with_reducible apply State.hardStop_keeps
  try clear_value x1
  have kx2 : Keeps s0 x2 := by
    unfold x2
    repeat' first | with_reducible assumption | with_reducible apply KeepsOut.next | with_reducible exact KeepsOut.fault | with_reducible refine State.forChans_keeps _ _ _ (fun _ _ _ => ?_) ?_ | with_reducible apply State.hardStop_keeps | with_reducible apply State.fault_keeps | with_reducible apply State.setBit_keeps | with_reducible apply State.wdgExpire_keeps | split
  try clear_value x2
  repeat' first | with_reducible assumption | with_reducible apply KeepsOut.next | with_reducible exact KeepsOut.fault | with_reducible refine State.forChans_keeps _ _ _ (fun _ _ _ => ?_) ?_ | with_reducible apply State.hardStop_keeps | with_reducible apply State.fault_keeps | with_reducible apply State.setBit_keeps | with_reducible apply State.wdgExpire_keeps | split

theorem execQuietPeriodEnd_keeps {s0 : State} (s : State) (a1) (h : Keeps s0 s) : KeepsOut s0 (execQuietPeriodEnd a1 s) := by
  unfold execQuietPeriodEnd
  extract_lets x1
  have kx1 : Keeps s0 x1 := by
    unfold x1
    repeat' first | with_reducible assumption | with_reducible apply KeepsOut.next | with_reducible exact KeepsOut.fault | with_reducible apply State.onFence_keeps
  try clear_value x1
  repeat' first | with_reducible assumption | with_reducible apply KeepsOut.next | with_reducible exact KeepsOut.fault | with_reducible apply State.onFence_keeps | with_reducible apply State.settle_keeps | with_reducible apply State.resetGather_keeps | split

theorem State.recoverChan_keeps {s0 : State} (s : State) (a1 a2) (h : Keeps s0 s) : Keeps s0 (State.recoverChan s a1 a2) := by
  unfold State.recoverChan
  extract_lets x1
  have kx1 : Keeps s0 x1 := by
    unfold x1
    repeat' first | with_reducible assumption | with_reducible apply State.onLoop_keeps
  try clear_value x1
  repeat' first | with_reducible assumption | with_reducible apply State.onLoop_keeps | with_reducible apply State.setSt_keeps | split

theorem execRecoveryEnd_keeps {s0 : State} (s : State) (a1 a2) (h : Keeps s0 s) : KeepsOut s0 (execRecoveryEnd a1 a2 s) := by
  unfold execRecoveryEnd
  extract_lets x1
  have kx1 : Keeps s0 x1 := by
    unfold x1
    repeat' first | with_reducible assumption | with_reducible apply KeepsOut.next | with_reducible exact KeepsOut.fault | with_reducible apply State.liftFence_keeps
  try clear_value x1
  repeat' first | with_reducible assumption | with_reducible apply KeepsOut.next | with_reducible exact KeepsOut.fault | with_reducible apply State.liftFence_keeps | with_reducible apply State.recoverChan_keeps | with_reducible apply State.chgStart_keeps | with_reducible apply State.chgTo_keeps | with_reducible apply State.settle_keeps | with_reducible apply State.onFence_keeps | split

theorem execWdgKick_keeps {s0 : State} (s : State) (a1 a2) (h : Keeps s0 s) : KeepsOut s0 (execWdgKick a1 a2 s) := by
  unfold execWdgKick
  extract_lets x1 x2 x3
  have kx2 : Keeps s0 x2 := by
    unfold x2
    repeat' first | with_reducible assumption | with_reducible apply KeepsOut.next | with_reducible exact KeepsOut.fault | with_reducible apply State.setFld_keeps | with_reducible apply State.onWdg_keeps | with_reducible apply State.wdgExpire_keeps | with_reducible apply State.setBit_keeps | split
  try clear_value x2
  have kx3 : Keeps s0 x3 := by
    unfold x3
    repeat' first | with_reducible assumption | with_reducible apply KeepsOut.next | with_reducible exact KeepsOut.fault | with_reducible apply State.setFld_keeps | with_reducible apply State.onWdg_keeps | with_reducible apply State.wdgExpire_keeps | with_reducible apply State.setBit_keeps | split
  try clear_value x3
  repeat' first | with_reducible assumption | with_reducible apply KeepsOut.next | with_reducible exact KeepsOut.fault | with_reducible apply State.setFld_keeps | with_reducible apply State.onWdg_keeps | with_reducible apply State.wdgExpire_keeps | with_reducible apply State.setBit_keeps | split

theorem execWdgKey_keeps {s0 : State} (s : State) (a1 a2) (h : Keeps s0 s) : KeepsOut s0 (execWdgKey a1 a2 s) := by
  unfold execWdgKey
  extract_lets x1 x2
  have kx2 : Keeps s0 x2 := by
    unfold x2
    repeat' first | with_reducible assumption | with_reducible apply KeepsOut.next | with_reducible exact KeepsOut.fault | with_reducible apply State.onWdg_keeps
  try clear_value x2
  repeat' first | with_reducible assumption | with_reducible apply KeepsOut.next | with_reducible exact KeepsOut.fault | with_reducible apply State.onWdg_keeps | with_reducible apply State.setFld_keeps | split

theorem execWdgLock_keeps {s0 : State} (s : State) (a1) (h : Keeps s0 s) : KeepsOut s0 (execWdgLock a1 s) := by
  unfold execWdgLock
  repeat' first | with_reducible assumption | with_reducible apply KeepsOut.next | with_reducible exact KeepsOut.fault | with_reducible apply State.setBit_keeps

theorem execWdgExpiry_keeps {s0 : State} (s : State) (a1) (h : Keeps s0 s) : KeepsOut s0 (execWdgExpiry a1 s) := by
  unfold execWdgExpiry
  repeat' first | with_reducible assumption | with_reducible apply KeepsOut.next | with_reducible exact KeepsOut.fault | with_reducible apply State.wdgExpire_keeps | split

theorem execWdgHard_keeps {s0 : State} (s : State) (a1) (h : Keeps s0 s) : KeepsOut s0 (execWdgHard a1 s) := by
  unfold execWdgHard
  extract_lets x1 x2
  have kx1 : Keeps s0 x1 := by
    unfold x1
    repeat' first | with_reducible assumption | with_reducible apply KeepsOut.next | with_reducible exact KeepsOut.fault | with_reducible apply State.onWdg_keeps
  try clear_value x1
  have kx2 : Keeps s0 x2 := by
    unfold x2
    repeat' first | with_reducible assumption | with_reducible apply KeepsOut.next | with_reducible exact KeepsOut.fault | with_reducible apply State.onWdg_keeps | with_reducible apply State.keepFault_keeps
  try clear_value x2
  repeat' first | with_reducible assumption | with_reducible apply KeepsOut.next | with_reducible exact KeepsOut.fault | with_reducible apply State.onWdg_keeps | with_reducible apply State.keepFault_keeps | with_reducible apply State.lehrAbort_keeps | with_reducible apply State.warmReset_keeps | with_reducible apply State.coreReset_keeps | with_reducible apply State.fault_keeps | split

theorem execWdgClock_keeps {s0 : State} (s : State) (a1) (h : Keeps s0 s) : KeepsOut s0 (execWdgClock a1 s) := by
  unfold execWdgClock
  extract_lets x1
  have kx1 : Keeps s0 x1 := by
    unfold x1
    repeat' first | with_reducible assumption | with_reducible apply KeepsOut.next | with_reducible exact KeepsOut.fault | with_reducible apply State.setFld_keeps
  try clear_value x1
  repeat' first | with_reducible assumption | with_reducible apply KeepsOut.next | with_reducible exact KeepsOut.fault | with_reducible apply State.setFld_keeps | with_reducible apply State.wdgExpire_keeps | with_reducible apply State.fault_keeps | with_reducible apply State.setBit_keeps | split

theorem execCoreException_keeps {s0 : State} (s : State) (a1) (h : Keeps s0 s) : KeepsOut s0 (execCoreException a1 s) := by
  unfold execCoreException
  extract_lets x1
  have kx1 : Keeps s0 x1 := by
    unfold x1
    repeat' first | with_reducible assumption | with_reducible apply KeepsOut.next | with_reducible exact KeepsOut.fault | with_reducible apply State.faultD_keeps | with_reducible apply State.abortClaimed_keeps
  try clear_value x1
  repeat' first | with_reducible assumption | with_reducible apply KeepsOut.next | with_reducible exact KeepsOut.fault | with_reducible apply State.faultD_keeps | with_reducible apply State.abortClaimed_keeps | with_reducible apply State.stallCore_keeps | split

theorem execEvrSourceAccept_keeps {s0 : State} (s : State) (a1 a2) (h : Keeps s0 s) : KeepsOut s0 (execEvrSourceAccept a1 a2 s) := by
  unfold execEvrSourceAccept
  repeat' first | with_reducible assumption | with_reducible apply KeepsOut.next | with_reducible exact KeepsOut.fault | with_reducible apply State.evrAccept_keeps

theorem execEvrDeliver_keeps {s0 : State} (s : State) (a1) (h : Keeps s0 s) : KeepsOut s0 (execEvrDeliver a1 s) := by
  unfold execEvrDeliver
  repeat' first | with_reducible assumption | with_reducible apply KeepsOut.next | with_reducible exact KeepsOut.fault | with_reducible apply State.evrDeliver_keeps

theorem execEvrClaim_keeps {s0 : State} (s : State) (a1) (h : Keeps s0 s) : KeepsOut s0 (execEvrClaim a1 s) := by
  unfold execEvrClaim
  repeat' first | with_reducible assumption | with_reducible apply KeepsOut.next | with_reducible exact KeepsOut.fault | with_reducible apply State.evrClaim_keeps | with_reducible apply State.setReg_keeps

theorem execEvrComplete_keeps {s0 : State} (s : State) (a1 a2) (h : Keeps s0 s) : KeepsOut s0 (execEvrComplete a1 a2 s) := by
  unfold execEvrComplete
  repeat' first | with_reducible assumption | with_reducible apply KeepsOut.next | with_reducible exact KeepsOut.fault | with_reducible apply State.evrComplete_keeps

theorem execNvmHkctlHken_keeps {s0 : State} (s : State) (h : Keeps s0 s) : KeepsOut s0 (execNvmHkctlHken s) := by
  unfold execNvmHkctlHken
  extract_lets x1
  repeat' first | with_reducible assumption | with_reducible apply KeepsOut.next | with_reducible exact KeepsOut.fault | split | simp only [Keeps.mk_iff]

theorem execResetN_keeps {s0 : State} (s : State) (h : Keeps s0 s) : KeepsOut s0 (execResetN s) := by
  unfold execResetN
  repeat' first | with_reducible assumption | with_reducible apply KeepsOut.next | with_reducible exact KeepsOut.fault | with_reducible apply State.warmReset_keeps

theorem execBrownout_keeps {s0 : State} (s : State) (h : Keeps s0 s) : KeepsOut s0 (execBrownout s) := by
  unfold execBrownout
  repeat' first | with_reducible assumption | with_reducible apply KeepsOut.next | with_reducible exact KeepsOut.fault | with_reducible apply State.warmReset_keeps

theorem execCommandedWarmReset_keeps {s0 : State} (s : State) (h : Keeps s0 s) : KeepsOut s0 (execCommandedWarmReset s) := by
  unfold execCommandedWarmReset
  extract_lets x1
  repeat' first | with_reducible assumption | with_reducible apply KeepsOut.next | with_reducible exact KeepsOut.fault | with_reducible apply State.warmReset_keeps | split | simp only [Keeps.mk_iff]

theorem execWarmResetLedgerQuiesce_keeps {s0 : State} (s : State) (a1) (h : Keeps s0 s) : KeepsOut s0 (execWarmResetLedgerQuiesce a1 s) := by
  unfold execWarmResetLedgerQuiesce
  repeat' first | with_reducible assumption | with_reducible apply KeepsOut.next | with_reducible exact KeepsOut.fault | with_reducible apply State.holdLedger_keeps | split

theorem execWarmResetRelease_keeps {s0 : State} (s : State) (a1) (h : Keeps s0 s) : KeepsOut s0 (execWarmResetRelease a1 s) := by
  unfold execWarmResetRelease
  extract_lets x1
  repeat' first | with_reducible assumption | with_reducible apply KeepsOut.next | with_reducible exact KeepsOut.fault | with_reducible apply State.enterBoot_keeps | split | simp only [Keeps.mk_iff]

theorem execImageCheck_keeps {s0 : State} (s : State) (a1 a2) (h : Keeps s0 s) : KeepsOut s0 (execImageCheck a1 a2 s) := by
  unfold execImageCheck
  extract_lets x1 x2 x3 x4
  have kx4 : Keeps s0 x4 := by
    unfold x4
    repeat' first | with_reducible assumption | with_reducible apply KeepsOut.next | with_reducible exact KeepsOut.fault | with_reducible apply State.enterLockout_keeps | with_reducible apply State.fault_keeps | with_reducible apply State.acceptImage_keeps | split
  try clear_value x4
  repeat' first | with_reducible assumption | with_reducible apply KeepsOut.next | with_reducible exact KeepsOut.fault | with_reducible apply State.enterLockout_keeps | with_reducible apply State.fault_keeps | with_reducible apply State.acceptImage_keeps | split

theorem execBootEnd_keeps {s0 : State} (s : State) (h : Keeps s0 s) : KeepsOut s0 (execBootEnd s) := by
  unfold execBootEnd
  repeat' first | with_reducible assumption | with_reducible apply KeepsOut.next | with_reducible exact KeepsOut.fault | with_reducible apply State.bootOwner_keeps | with_reducible apply State.bootTwin_keeps | with_reducible apply State.onBoard_keeps | split

theorem execBlockQuiesceDone_keeps {s0 : State} (s : State) (a1 a2) (h : Keeps s0 s) : KeepsOut s0 (execBlockQuiesceDone a1 a2 s) := by
  unfold execBlockQuiesceDone
  extract_lets x1 x2 x3 x4
  have kx1 : Keeps s0 x1 := by
    unfold x1
    repeat' first | with_reducible assumption | with_reducible apply KeepsOut.next | with_reducible exact KeepsOut.fault | with_reducible apply State.fault_keeps | with_reducible apply State.faultD_keeps | with_reducible apply State.durable_keeps | with_reducible apply State.resetBlock_keeps | with_reducible apply State.settle_keeps | split
  try clear_value x1
  have kx2 : Keeps s0 x2 := by
    unfold x2
    repeat' first | with_reducible assumption | with_reducible apply KeepsOut.next | with_reducible exact KeepsOut.fault | with_reducible apply State.fault_keeps | with_reducible apply State.faultD_keeps | with_reducible apply State.durable_keeps | with_reducible apply State.resetBlock_keeps | with_reducible apply State.settle_keeps | split
  try clear_value x2
  have kx3 : Keeps s0 x3 := by
    unfold x3
    repeat' first | with_reducible assumption | with_reducible apply KeepsOut.next | with_reducible exact KeepsOut.fault | with_reducible apply State.fault_keeps | with_reducible apply State.faultD_keeps | with_reducible apply State.durable_keeps | with_reducible apply State.resetBlock_keeps
  try clear_value x3
  repeat' first | with_reducible assumption | with_reducible apply KeepsOut.next | with_reducible exact KeepsOut.fault | with_reducible apply State.fault_keeps | with_reducible apply State.faultD_keeps | with_reducible apply State.durable_keeps | with_reducible apply State.resetBlock_keeps | with_reducible apply State.settle_keeps | split | simp only [Keeps.mk_iff]

theorem execBlockResetReturn_keeps {s0 : State} (s : State) (a1) (h : Keeps s0 s) : KeepsOut s0 (execBlockResetReturn a1 s) := by
  unfold execBlockResetReturn
  extract_lets x1 x2
  repeat' first | with_reducible assumption | with_reducible apply KeepsOut.next | with_reducible exact KeepsOut.fault | split | simp only [Keeps.mk_iff]

theorem State.cruPoke_keeps {s0 : State} (s : State) (a1 a2) (h : Keeps s0 s) : Keeps s0 (State.cruPoke s a1 a2) := by
  unfold State.cruPoke
  split
  · split
    · exact h
    · exact State.onQueue_keeps _ _ _ h
  · split
    · exact Keeps.cruPut _ _ h
    · exact h

theorem State.cruWrite_keeps {s0 : State} (s : State) (a1 a2) (h : Keeps s0 s) : Keeps s0 (State.cruWrite s a1 a2) := by
  unfold State.cruWrite
  repeat' first | with_reducible assumption | with_reducible apply State.cruPoke_keeps | split | simp only [Keeps.mk_iff] | with_reducible refine Keeps.foldl (fun _ _ _ => ?_) ?_

theorem State.onDma_keeps {s0 : State} (s : State) (a1 a2) (h : Keeps s0 s) : Keeps s0 (State.onDma s a1 a2) := by
  unfold State.onDma
  repeat' first | with_reducible assumption | split | simp only [Keeps.mk_iff]

theorem State.dmaFetch_keeps {s0 : State} (s : State) (a1 a2) (h : Keeps s0 s) : Keeps s0 (State.dmaFetch s a1 a2) := by
  unfold State.dmaFetch
  extract_lets x1 x2 x3
  repeat' first | with_reducible assumption | with_reducible apply State.onDma_keeps | with_reducible apply State.fault_keeps | split

theorem State.dmaStart_keeps {s0 : State} (s : State) (a1) (h : Keeps s0 s) : Keeps s0 (State.dmaStart s a1) := by
  unfold State.dmaStart
  extract_lets x1
  repeat' first | with_reducible assumption | with_reducible apply State.dmaFetch_keeps | split

theorem State.dmaStop_keeps {s0 : State} (s : State) (a1) (h : Keeps s0 s) : Keeps s0 (State.dmaStop s a1) := by
  unfold State.dmaStop
  repeat' first | with_reducible assumption | with_reducible apply State.onDma_keeps

theorem State.dmaPoke_keeps {s0 : State} (s : State) (a1) (h : Keeps s0 s) : Keeps s0 (State.dmaPoke s a1) := by
  unfold State.dmaPoke
  repeat' first | with_reducible assumption | with_reducible apply State.dmaFetch_keeps | split

theorem State.dmaClear_keeps {s0 : State} (s : State) (h : Keeps s0 s) : Keeps s0 (State.dmaClear s) := by
  unfold State.dmaClear
  repeat' first | with_reducible assumption | with_reducible apply State.setFld_keeps

theorem execDmaStart_keeps {s0 : State} (s : State) (a1) (h : Keeps s0 s) : KeepsOut s0 (execDmaStart a1 s) := by
  unfold execDmaStart
  repeat' first | with_reducible assumption | with_reducible apply KeepsOut.next | with_reducible exact KeepsOut.fault | with_reducible apply State.dmaStart_keeps

theorem execDmaStop_keeps {s0 : State} (s : State) (a1) (h : Keeps s0 s) : KeepsOut s0 (execDmaStop a1 s) := by
  unfold execDmaStop
  repeat' first | with_reducible assumption | with_reducible apply KeepsOut.next | with_reducible exact KeepsOut.fault | with_reducible apply State.dmaStop_keeps

theorem execDmaPoke_keeps {s0 : State} (s : State) (a1) (h : Keeps s0 s) : KeepsOut s0 (execDmaPoke a1 s) := by
  unfold execDmaPoke
  repeat' first | with_reducible assumption | with_reducible apply KeepsOut.next | with_reducible exact KeepsOut.fault | with_reducible apply State.dmaPoke_keeps

theorem State.dmaMove_keeps {s0 : State} (s : State) (a1) (h : Keeps s0 s) : Keeps s0 (State.dmaMove s a1) := by
  unfold State.dmaMove
  extract_lets x1 x2 x3 x4 x5 x6 x7
  repeat' first | with_reducible assumption | with_reducible apply State.draw_keeps | with_reducible apply State.cruWrite_keeps | split

theorem State.dmaStat_keeps {s0 : State} (s : State) (a1 a2 a3) (h : Keeps s0 s) : Keeps s0 (State.dmaStat s a1 a2 a3) := by
  unfold State.dmaStat
  repeat' first | with_reducible assumption | with_reducible apply State.cruWrite_keeps

theorem execDmaDescriptorDone_keeps {s0 : State} (s : State) (a1) (h : Keeps s0 s) : KeepsOut s0 (execDmaDescriptorDone a1 s) := by
  unfold execDmaDescriptorDone
  extract_lets x1 x2 x3 x4 x5 x6 x7 x8
  have kx5 : Keeps s0 x5 := by
    unfold x5
    repeat' first | with_reducible assumption | with_reducible apply KeepsOut.next | with_reducible exact KeepsOut.fault | with_reducible apply State.dmaMove_keeps
  try clear_value x5
  have kx6 : Keeps s0 x6 := by
    unfold x6
    repeat' first | with_reducible assumption | with_reducible apply KeepsOut.next | with_reducible exact KeepsOut.fault | with_reducible apply State.dmaMove_keeps | with_reducible apply State.cruWrite_keeps | with_reducible apply State.dmaStat_keeps
  try clear_value x6
  have kx7 : Keeps s0 x7 := by
    unfold x7
    repeat' first | with_reducible assumption | with_reducible apply KeepsOut.next | with_reducible exact KeepsOut.fault | with_reducible apply State.dmaMove_keeps | with_reducible apply State.cruWrite_keeps | with_reducible apply State.dmaStat_keeps | with_reducible apply State.onDma_keeps
  try clear_value x7
  have kx8 : Keeps s0 x8 := by
    unfold x8
    repeat' first | with_reducible assumption | with_reducible apply KeepsOut.next | with_reducible exact KeepsOut.fault | with_reducible apply State.dmaMove_keeps | with_reducible apply State.cruWrite_keeps | with_reducible apply State.dmaStat_keeps | with_reducible apply State.onDma_keeps | with_reducible apply State.evrPulse_keeps | with_reducible apply State.dmaFetch_keeps | split
  try clear_value x8
  repeat' first | with_reducible assumption | with_reducible apply KeepsOut.next | with_reducible exact KeepsOut.fault | with_reducible apply State.dmaMove_keeps | with_reducible apply State.cruWrite_keeps | with_reducible apply State.dmaStat_keeps | with_reducible apply State.onDma_keeps | with_reducible apply State.evrPulse_keeps | with_reducible apply State.dmaFetch_keeps | split

theorem execDmaBusError_keeps {s0 : State} (s : State) (a1 a2 a3) (h : Keeps s0 s) : KeepsOut s0 (execDmaBusError a1 a2 a3 s) := by
  unfold execDmaBusError
  extract_lets x1 x2 x3
  have k1 : Keeps s0 x1 := by
    refine Keeps.foldl (fun t k ht => ?_) h
    dsimp only
    split
    · have kd := State.draw_keeps t ht
      generalize t.draw = q at kd ⊢
      obtain ⟨n, u⟩ := q
      exact State.onDma_keeps _ _ _ (State.dmaStat_keeps _ _ _ _ kd)
    · exact ht
  clear_value x1
  exact KeepsOut.next (State.fault_keeps _ _ _ (State.evrPulse_keeps _ _ (State.setReg_keeps _ _ _ (State.setReg_keeps _ _ _
    (State.bump_keeps _ _ _ _ (State.setFld_keeps _ _ _ _ _ (State.setBit_keeps _ _ _ k1)))))))

theorem execDmaBuserrClear_keeps {s0 : State} (s : State) (h : Keeps s0 s) : KeepsOut s0 (execDmaBuserrClear s) := by
  unfold execDmaBuserrClear
  repeat' first | with_reducible assumption | with_reducible apply KeepsOut.next | with_reducible exact KeepsOut.fault | with_reducible apply State.dmaClear_keeps

end Sys2Proof.Machine
end

