-- ==== Sys2Proof/Laws/KeepsPair.lean ====
section
/-! SUPPORT. What the tray, the pair, and register access keep: one lemma per operation (`Keeps`: the fuses, the queue behind the
command, and the canonical form of both memories), for later proofs to cite in place of unfolding it. -/

namespace Sys2Proof.Machine

open Sys2Proof

theorem State.atFree_keeps {s0 : State} (s : State) (a1) (h : Keeps s0 s) : Keeps s0 (State.atFree s a1) := by
  unfold State.atFree
  repeat' first | with_reducible assumption | with_reducible apply State.takeCfg_keeps | split

theorem State.busUsed_keeps {s0 : State} (s : State) (a1 a2) (h : Keeps s0 s) : Keeps s0 (State.busUsed s a1 a2) := by
  unfold State.busUsed
  repeat' first | with_reducible assumption | with_reducible apply State.onPort_keeps

theorem State.stopSeen_keeps {s0 : State} (s : State) (a1) (h : Keeps s0 s) : Keeps s0 (State.stopSeen s a1) := by
  unfold State.stopSeen
  repeat' first | with_reducible assumption | with_reducible apply State.busUsed_keeps

theorem State.putWords_keeps {s0 : State} (s : State) (a1 a2) (h : Keeps s0 s) : Keeps s0 (State.putWords s a1 a2) := by
  unfold State.putWords
  repeat' first | with_reducible assumption | with_reducible apply State.setReg_keeps | split | simp only [Keeps.mk_iff] | with_reducible refine Keeps.foldl (fun _ _ _ => ?_) ?_

theorem State.xferEnd_keeps {s0 : State} (s : State) (a1 a2 a3) (h : Keeps s0 s) : Keeps s0 (State.xferEnd s a1 a2 a3) := by
  unfold State.xferEnd
  extract_lets x1 x2
  have kx1 : Keeps s0 x1 := by
    unfold x1
    repeat' first | with_reducible assumption | with_reducible apply State.putWords_keeps | with_reducible apply State.setReg_keeps | with_reducible apply State.onPort_keeps | split
  try clear_value x1
  have kx2 : Keeps s0 x2 := by
    unfold x2
    repeat' first | with_reducible assumption | with_reducible apply State.putWords_keeps | with_reducible apply State.setReg_keeps
  try clear_value x2
  repeat' first | with_reducible assumption | with_reducible apply State.putWords_keeps | with_reducible apply State.setReg_keeps | with_reducible apply State.onPort_keeps

theorem State.alertRead_keeps {s0 : State} (s : State) (a1 a2) (h : Keeps s0 s) : Keeps s0 (State.alertRead s a1 a2) := by
  unfold State.alertRead
  extract_lets x1
  repeat' first | with_reducible assumption | with_reducible apply State.draw_keeps | with_reducible apply State.setFld_keeps | with_reducible apply State.bump_keeps | with_reducible apply State.onPort_keeps | with_reducible apply State.setBit_keeps | split

theorem State.declareChange_keeps {s0 : State} (s : State) (a1 a2) (h : Keeps s0 s) : Keeps s0 (State.declareChange s a1 a2) := by
  unfold State.declareChange
  repeat' first | with_reducible assumption | with_reducible apply State.cellChange_keeps | with_reducible apply State.onBoard_keeps | split

theorem State.fixOne_keeps {s0 : State} (s : State) (a1 a2 a3) (h : Keeps s0 s) : Keeps s0 (State.fixOne s a1 a2 a3) := by
  unfold State.fixOne
  extract_lets x1 x2 x3 x4 x5
  have kx4 : Keeps s0 x4 := by
    unfold x4
    repeat' first | with_reducible assumption | with_reducible apply State.setReg_keeps
  try clear_value x4
  have kx5 : Keeps s0 x5 := by
    unfold x5
    repeat' first | with_reducible assumption | with_reducible apply State.setReg_keeps | with_reducible apply State.setFld_keeps
  try clear_value x5
  repeat' first | with_reducible assumption | with_reducible apply State.setReg_keeps | with_reducible apply State.setFld_keeps | with_reducible apply State.declareChange_keeps | split

theorem State.identityEnd_keeps {s0 : State} (s : State) (a1 a2 a3 a4) (h : Keeps s0 s) : Keeps s0 (State.identityEnd s a1 a2 a3 a4) := by
  unfold State.identityEnd
  extract_lets x1 x2 x3 x4 x5 x6 x7
  have kx6 : Keeps s0 x6 := by
    unfold x6
    repeat' first | with_reducible assumption | with_reducible refine State.forChans_keeps _ _ _ (fun _ _ _ => ?_) ?_ | with_reducible apply State.fixOne_keeps | with_reducible apply State.onPort_keeps
  try clear_value x6
  have kx7 : Keeps s0 x7 := by
    unfold x7
    repeat' first | with_reducible assumption | with_reducible refine State.forChans_keeps _ _ _ (fun _ _ _ => ?_) ?_ | with_reducible apply State.fixOne_keeps | with_reducible apply State.onPort_keeps | with_reducible apply State.setFld_keeps
  try clear_value x7
  repeat' first | with_reducible assumption | with_reducible refine State.forChans_keeps _ _ _ (fun _ _ _ => ?_) ?_ | with_reducible apply State.fixOne_keeps | with_reducible apply State.onPort_keeps | with_reducible apply State.setFld_keeps | with_reducible apply State.fault_keeps | with_reducible apply State.setBit_keeps | split

theorem State.jobEnd_keeps {s0 : State} (s : State) (a1 a2 a3 a4) (h : Keeps s0 s) : Keeps s0 (State.jobEnd s a1 a2 a3 a4) := by
  unfold State.jobEnd
  extract_lets x1
  have kx1 : Keeps s0 x1 := by
    unfold x1
    repeat' first | with_reducible assumption | with_reducible apply State.busUsed_keeps | with_reducible apply State.onPort_keeps
  try clear_value x1
  repeat' first | with_reducible assumption | with_reducible apply State.busUsed_keeps | with_reducible apply State.onPort_keeps | with_reducible apply State.xferEnd_keeps | with_reducible apply State.alertRead_keeps | with_reducible apply State.identityEnd_keeps | split

theorem State.nextJob_keeps {s0 : State} (s : State) (a1) (h : Keeps s0 s) : Keeps s0 (State.nextJob s a1).2 := by
  unfold State.nextJob
  extract_lets x1
  repeat' first | with_reducible assumption | with_reducible apply State.onPort_keeps | split

theorem State.alertSeen_keeps {s0 : State} (s : State) (a1 a2) (h : Keeps s0 s) : Keeps s0 (State.alertSeen s a1 a2) := by
  unfold State.alertSeen
  extract_lets x1
  have kx1 : Keeps s0 x1 := by
    unfold x1
    repeat' first | with_reducible assumption | with_reducible apply State.setBit_keeps
  try clear_value x1
  repeat' first | with_reducible assumption | with_reducible apply State.setBit_keeps | with_reducible apply State.onPort_keeps | with_reducible apply State.stopSeen_keeps | with_reducible apply State.alertRead_keeps | split

theorem State.mailbox_keeps {s0 : State} (s : State) (a1 a2 a3 a4) (h : Keeps s0 s) : Keeps s0 (State.mailbox s a1 a2 a3 a4) := by
  unfold State.mailbox
  extract_lets x1 x2 x3
  have kx2 : Keeps s0 x2 := by
    unfold x2
    repeat' first | with_reducible assumption | with_reducible apply State.setBit_keeps | with_reducible apply State.putWords_keeps
  try clear_value x2
  have kx3 : Keeps s0 x3 := by
    unfold x3
    repeat' first | with_reducible assumption | with_reducible apply State.setBit_keeps | with_reducible apply State.putWords_keeps | with_reducible apply State.setFld_keeps
  try clear_value x3
  repeat' first | with_reducible assumption | with_reducible apply State.setBit_keeps | with_reducible apply State.putWords_keeps | with_reducible apply State.setFld_keeps | split

theorem execGo_keeps {s0 : State} (s : State) (a1) (h : Keeps s0 s) : KeepsOut s0 (execGo a1 s) := by
  unfold execGo
  extract_lets x1
  repeat' first | with_reducible assumption | with_reducible apply KeepsOut.next | with_reducible exact KeepsOut.fault | with_reducible apply State.setBit_keeps | with_reducible apply State.onPort_keeps | with_reducible apply State.setReg_keeps | split

theorem execAbort_keeps {s0 : State} (s : State) (a1) (h : Keeps s0 s) : KeepsOut s0 (execAbort a1 s) := by
  unfold execAbort
  extract_lets x1
  repeat' first | with_reducible assumption | with_reducible apply KeepsOut.next | with_reducible exact KeepsOut.fault | with_reducible apply State.onPort_keeps | with_reducible apply State.xferEnd_keeps | split

theorem execTrayTransferStart_keeps {s0 : State} (s : State) (a1) (h : Keeps s0 s) : KeepsOut s0 (execTrayTransferStart a1 s) := by
  unfold execTrayTransferStart
  extract_lets x1
  have kx1 : Keeps s0 x1 := by
    unfold x1
    repeat' first | with_reducible assumption | with_reducible apply KeepsOut.next | with_reducible exact KeepsOut.fault | with_reducible apply State.atFree_keeps
  try clear_value x1
  repeat' first | with_reducible assumption | with_reducible apply KeepsOut.next | with_reducible exact KeepsOut.fault | with_reducible apply State.atFree_keeps | with_reducible apply State.nextJob_keeps | with_reducible apply State.jobEnd_keeps | with_reducible apply State.onPort_keeps | with_reducible apply State.setFld_keeps | split | simp only [Keeps.mk_iff] | with_reducible refine Keeps.foldl (fun _ _ _ => ?_) ?_ | with_reducible refine Keeps.foldl1 (fun _ _ _ => ?_) ?_ | with_reducible refine Keeps.foldl2 (fun _ _ _ => ?_) ?_ | dsimp only | with_reducible refine Keeps.of_fst ‹_ = (_, _)› ?_ | with_reducible refine Keeps.of_snd ‹_ = (_, _)› ?_

theorem execTrayTransferEnd_keeps {s0 : State} (s : State) (a1 a2 a3) (h : Keeps s0 s) : KeepsOut s0 (execTrayTransferEnd a1 a2 a3 s) := by
  unfold execTrayTransferEnd
  repeat' first | with_reducible assumption | with_reducible apply KeepsOut.next | with_reducible exact KeepsOut.fault | with_reducible apply State.jobEnd_keeps | split

theorem execArbLost_keeps {s0 : State} (s : State) (a1 a2 a3) (h : Keeps s0 s) : KeepsOut s0 (execArbLost a1 a2 a3 s) := by
  unfold execArbLost
  extract_lets x1 x2
  have kx2 : Keeps s0 x2 := by
    unfold x2
    repeat' first | with_reducible assumption | with_reducible apply KeepsOut.next | with_reducible exact KeepsOut.fault | with_reducible apply State.bump_keeps
  try clear_value x2
  repeat' first | with_reducible assumption | with_reducible apply KeepsOut.next | with_reducible exact KeepsOut.fault | with_reducible apply State.bump_keeps | with_reducible apply State.setFld_keeps | with_reducible apply State.stopSeen_keeps | with_reducible apply State.mailbox_keeps | with_reducible apply State.jobEnd_keeps | with_reducible apply State.onPort_keeps | split

theorem execTrayTimeout_keeps {s0 : State} (s : State) (a1) (h : Keeps s0 s) : KeepsOut s0 (execTrayTimeout a1 s) := by
  unfold execTrayTimeout
  repeat' first | with_reducible assumption | with_reducible apply KeepsOut.next | with_reducible exact KeepsOut.fault | with_reducible apply State.fault_keeps | with_reducible apply State.setBit_keeps | with_reducible apply State.jobEnd_keeps | split

theorem execTrayStuck_keeps {s0 : State} (s : State) (a1 a2) (h : Keeps s0 s) : KeepsOut s0 (execTrayStuck a1 a2 s) := by
  unfold execTrayStuck
  repeat' first | with_reducible assumption | with_reducible apply KeepsOut.next | with_reducible exact KeepsOut.fault | with_reducible apply State.stopSeen_keeps | with_reducible apply State.fault_keeps | with_reducible apply State.onPort_keeps | with_reducible apply State.setBit_keeps | split

theorem execBuslockRetry_keeps {s0 : State} (s : State) (a1 a2) (h : Keeps s0 s) : KeepsOut s0 (execBuslockRetry a1 a2 s) := by
  unfold execBuslockRetry
  repeat' first | with_reducible assumption | with_reducible apply KeepsOut.next | with_reducible exact KeepsOut.fault | with_reducible apply State.stopSeen_keeps | with_reducible apply State.setFld_keeps | with_reducible apply State.onPort_keeps | split

theorem execTargetWrite_keeps {s0 : State} (s : State) (a1 a2 a3) (h : Keeps s0 s) : KeepsOut s0 (execTargetWrite a1 a2 a3 s) := by
  unfold execTargetWrite
  extract_lets x1
  have kx1 : Keeps s0 x1 := by
    unfold x1
    repeat' first | with_reducible assumption | with_reducible apply KeepsOut.next | with_reducible exact KeepsOut.fault | with_reducible apply State.atFree_keeps
  try clear_value x1
  repeat' first | with_reducible assumption | with_reducible apply KeepsOut.next | with_reducible exact KeepsOut.fault | with_reducible apply State.atFree_keeps | with_reducible apply State.stopSeen_keeps | with_reducible apply State.mailbox_keeps | split

theorem execRxnewClear_keeps {s0 : State} (s : State) (a1) (h : Keeps s0 s) : KeepsOut s0 (execRxnewClear a1 s) := by
  unfold execRxnewClear
  repeat' first | with_reducible assumption | with_reducible apply KeepsOut.next | with_reducible exact KeepsOut.fault | with_reducible apply State.setFld_keeps

theorem execAlert_keeps {s0 : State} (s : State) (a1 a2) (h : Keeps s0 s) : KeepsOut s0 (execAlert a1 a2 s) := by
  unfold execAlert
  extract_lets x1
  have kx1 : Keeps s0 x1 := by
    unfold x1
    repeat' first | with_reducible assumption | with_reducible apply KeepsOut.next | with_reducible exact KeepsOut.fault | with_reducible apply State.atFree_keeps
  try clear_value x1
  repeat' first | with_reducible assumption | with_reducible apply KeepsOut.next | with_reducible exact KeepsOut.fault | with_reducible apply State.atFree_keeps | with_reducible apply State.alertSeen_keeps | split

theorem execAlertReread_keeps {s0 : State} (s : State) (a1 a2) (h : Keeps s0 s) : KeepsOut s0 (execAlertReread a1 a2 s) := by
  unfold execAlertReread
  extract_lets x1 x2
  have kx1 : Keeps s0 x1 := by
    unfold x1
    repeat' first | with_reducible assumption | with_reducible apply KeepsOut.next | with_reducible exact KeepsOut.fault | with_reducible apply State.atFree_keeps
  try clear_value x1
  repeat' first | with_reducible assumption | with_reducible apply KeepsOut.next | with_reducible exact KeepsOut.fault | with_reducible apply State.atFree_keeps | with_reducible apply State.alertSeen_keeps | split

theorem execIdpoll_keeps {s0 : State} (s : State) (a1) (h : Keeps s0 s) : KeepsOut s0 (execIdpoll a1 s) := by
  unfold execIdpoll
  extract_lets x1 x2
  have kx1 : Keeps s0 x1 := by
    unfold x1
    repeat' first | with_reducible assumption | with_reducible apply KeepsOut.next | with_reducible exact KeepsOut.fault | with_reducible apply State.atFree_keeps
  try clear_value x1
  repeat' first | with_reducible assumption | with_reducible apply KeepsOut.next | with_reducible exact KeepsOut.fault | with_reducible apply State.atFree_keeps | with_reducible apply State.onPort_keeps | split

theorem execIdentityReadDone_keeps {s0 : State} (s : State) (a1 a2 a3 a4) (h : Keeps s0 s) : KeepsOut s0 (execIdentityReadDone a1 a2 a3 a4 s) := by
  unfold execIdentityReadDone
  repeat' first | with_reducible assumption | with_reducible apply KeepsOut.next | with_reducible exact KeepsOut.fault | with_reducible apply State.identityEnd_keeps | with_reducible apply State.stopSeen_keeps | with_reducible apply State.onPort_keeps | split

theorem State.onPair_keeps {s0 : State} (s : State) (a1) (h : Keeps s0 s) : Keeps s0 (State.onPair s a1) := by
  unfold State.onPair
  repeat' first | with_reducible assumption | with_reducible apply State.onBoard_keeps

theorem State.pairEvt_keeps {s0 : State} (s : State) (a1) (h : Keeps s0 s) : Keeps s0 (State.pairEvt s a1) := by
  unfold State.pairEvt
  repeat' first | with_reducible assumption | with_reducible apply State.houseEvt_keeps

theorem State.takeFrame_keeps {s0 : State} (s : State) (a1) (h : Keeps s0 s) : Keeps s0 (State.takeFrame s a1).2 := by
  unfold State.takeFrame
  repeat' first | with_reducible assumption | with_reducible apply State.bump_keeps | with_reducible apply State.setBit_keeps | split

theorem State.inOrder_keeps {s0 : State} (s : State) (a1 a2) (h : Keeps s0 s) : Keeps s0 (State.inOrder s a1 a2).2 := by
  unfold State.inOrder
  extract_lets x1
  repeat' first | with_reducible assumption | with_reducible apply State.onPair_keeps

theorem State.outOfSync_keeps {s0 : State} (s : State) (h : Keeps s0 s) : Keeps s0 (State.outOfSync s) := by
  unfold State.outOfSync
  extract_lets x1 x2
  have kx2 : Keeps s0 x2 := by
    unfold x2
    repeat' first | with_reducible assumption | with_reducible apply State.onPair_keeps
  try clear_value x2
  repeat' first | with_reducible assumption | with_reducible apply State.onPair_keeps | with_reducible apply State.fault_keeps | split

theorem State.mirrorTenant_keeps {s0 : State} (s : State) (a1) (h : Keeps s0 s) : Keeps s0 (State.mirrorTenant s a1).1 := by
  unfold State.mirrorTenant
  extract_lets x1
  repeat' first | with_reducible assumption | with_reducible apply State.draw_keeps | split

theorem State.applyItem_keeps {s0 : State} (s : State) (a1) (h : Keeps s0 s) : Keeps s0 (State.applyItem s a1) := by
  unfold State.applyItem
  repeat' first | with_reducible assumption | with_reducible apply State.onChan_keeps | with_reducible apply State.onGat_keeps | with_reducible refine State.forChans_keeps _ _ _ (fun _ _ _ => ?_) ?_ | with_reducible apply State.onMeas_keeps | with_reducible apply State.onEst_keeps | with_reducible apply State.setReg_keeps | with_reducible apply State.mirrorTenant_keeps | with_reducible apply State.onPair_keeps | split | simp only [Keeps.mk_iff] | with_reducible refine Keeps.foldl (fun _ _ _ => ?_) ?_ | with_reducible refine Keeps.foldl1 (fun _ _ _ => ?_) ?_ | with_reducible refine Keeps.foldl2 (fun _ _ _ => ?_) ?_ | dsimp only | with_reducible refine Keeps.of_fst ‹_ = (_, _)› ?_

theorem State.applyItems_keeps {s0 : State} (s : State) (a1) (h : Keeps s0 s) : Keeps s0 (State.applyItems s a1) := by
  unfold State.applyItems
  repeat' first | with_reducible assumption | with_reducible apply State.applyItem_keeps | split | simp only [Keeps.mk_iff] | with_reducible refine Keeps.foldl (fun _ _ _ => ?_) ?_

theorem State.startResync_keeps {s0 : State} (s : State) (h : Keeps s0 s) : Keeps s0 (State.startResync s) := by
  unfold State.startResync
  extract_lets x1 x2
  have kx2 : Keeps s0 x2 := by
    unfold x2
    repeat' first | with_reducible assumption | with_reducible apply State.sendZl_keeps
  try clear_value x2
  repeat' first | with_reducible assumption | with_reducible apply State.sendZl_keeps | with_reducible apply State.bump_keeps | with_reducible apply State.onPair_keeps | split

theorem State.resumeOne_keeps {s0 : State} (s : State) (a1 a2) (h : Keeps s0 s) : Keeps s0 (State.resumeOne s a1 a2) := by
  unfold State.resumeOne
  extract_lets x1 x2 x3 x4 x5
  repeat' first | with_reducible assumption | with_reducible refine State.forChans_keeps _ _ _ (fun _ _ _ => ?_) ?_ | with_reducible apply State.setSt_keeps | with_reducible apply State.onLoop_keeps | with_reducible apply State.takeoverGo_keeps | with_reducible apply State.driveChan_keeps | split

theorem State.resumeAll_keeps {s0 : State} (s : State) (a1) (h : Keeps s0 s) : Keeps s0 (State.resumeAll s a1) := by
  unfold State.resumeAll
  repeat' first | with_reducible assumption | with_reducible apply State.resumeOne_keeps | split | simp only [Keeps.mk_iff] | with_reducible refine Keeps.foldl (fun _ _ _ => ?_) ?_

theorem State.programEvts_keeps {s0 : State} (s : State) (a1) (h : Keeps s0 s) : Keeps s0 (State.programEvts s a1) := by
  unfold State.programEvts
  repeat' first | with_reducible assumption | with_reducible apply State.chanEvt_keeps | split | simp only | with_reducible refine Keeps.foldl (fun _ _ _ => ?_) ?_

theorem State.adopt_keeps {s0 : State} (s : State) (a1) (h : Keeps s0 s) : Keeps s0 (State.adopt s a1) := by
  unfold State.adopt
  extract_lets x1 x2 x3 x4
  have kx4 : Keeps s0 x4 := by
    unfold x4
    repeat' first | with_reducible assumption | with_reducible apply State.onPair_keeps | split | simp only [Keeps.mk_iff]
  try clear_value x4
  repeat' first | with_reducible assumption | with_reducible apply State.onPair_keeps

theorem State.freshStorms_keeps {s0 : State} (s : State) (h : Keeps s0 s) : Keeps s0 (State.freshStorms s) := by
  unfold State.freshStorms
  repeat' first | with_reducible assumption | split | simp only [Keeps.mk_iff]

theorem State.tkStamp_keeps {s0 : State} (s : State) (h : Keeps s0 s) : Keeps s0 (State.tkStamp s) := by
  unfold State.tkStamp
  repeat' first | with_reducible assumption | with_reducible apply State.setReg_keeps

theorem State.takeover_keeps {s0 : State} (s : State) (a1) (h : Keeps s0 s) : Keeps s0 (State.takeover s a1) := by
  unfold State.takeover
  extract_lets x1 x2 x3 x4 x5 x6 x7 x8 x9
  have kx3 : Keeps s0 x3 := by
    unfold x3
    repeat' first | with_reducible assumption | with_reducible apply State.onBoard_keeps
  try clear_value x3
  have kx4 : Keeps s0 x4 := by
    unfold x4
    repeat' first | with_reducible assumption | with_reducible apply State.onBoard_keeps | with_reducible apply State.tkStamp_keeps
  try clear_value x4
  have kx5 : Keeps s0 x5 := by
    unfold x5
    repeat' first | with_reducible assumption | with_reducible apply State.onBoard_keeps | with_reducible apply State.tkStamp_keeps | with_reducible refine State.forChans_keeps _ _ _ (fun _ _ _ => ?_) ?_ | with_reducible apply State.onProt_keeps | with_reducible apply State.onLoop_keeps | with_reducible apply State.endProg_keeps | with_reducible apply State.enterMode_keeps | with_reducible apply State.resumeAll_keeps | with_reducible apply State.settle_keeps | with_reducible apply State.freshStorms_keeps | with_reducible apply State.adopt_keeps | with_reducible apply State.programEvts_keeps | with_reducible apply State.pairEvt_keeps | split | simp only
  try clear_value x5
  have kx6 : Keeps s0 x6 := by
    unfold x6
    repeat' first | with_reducible assumption | with_reducible apply State.onBoard_keeps | with_reducible apply State.tkStamp_keeps | with_reducible refine State.forChans_keeps _ _ _ (fun _ _ _ => ?_) ?_ | with_reducible apply State.onProt_keeps | with_reducible apply State.onLoop_keeps | with_reducible apply State.endProg_keeps | with_reducible apply State.enterMode_keeps
  try clear_value x6
  have kx7 : Keeps s0 x7 := by
    unfold x7
    repeat' first | with_reducible assumption | with_reducible apply State.onBoard_keeps | with_reducible apply State.tkStamp_keeps | with_reducible refine State.forChans_keeps _ _ _ (fun _ _ _ => ?_) ?_ | with_reducible apply State.onProt_keeps | with_reducible apply State.onLoop_keeps | with_reducible apply State.endProg_keeps | with_reducible apply State.enterMode_keeps | with_reducible apply State.resumeAll_keeps | with_reducible apply State.settle_keeps | with_reducible apply State.freshStorms_keeps | with_reducible apply State.adopt_keeps | with_reducible apply State.programEvts_keeps | with_reducible apply State.pairEvt_keeps | split
  try clear_value x7
  have kx8 : Keeps s0 x8 := by
    unfold x8
    repeat' first | with_reducible assumption | with_reducible apply State.onBoard_keeps | with_reducible apply State.tkStamp_keeps | with_reducible refine State.forChans_keeps _ _ _ (fun _ _ _ => ?_) ?_ | with_reducible apply State.onProt_keeps | with_reducible apply State.onLoop_keeps | with_reducible apply State.endProg_keeps | with_reducible apply State.enterMode_keeps | with_reducible apply State.resumeAll_keeps | with_reducible apply State.settle_keeps
  try clear_value x8
  have kx9 : Keeps s0 x9 := by
    unfold x9
    repeat' first | with_reducible assumption | with_reducible apply State.onBoard_keeps | with_reducible apply State.tkStamp_keeps | with_reducible refine State.forChans_keeps _ _ _ (fun _ _ _ => ?_) ?_ | with_reducible apply State.onProt_keeps | with_reducible apply State.onLoop_keeps | with_reducible apply State.endProg_keeps | with_reducible apply State.enterMode_keeps | with_reducible apply State.resumeAll_keeps | with_reducible apply State.settle_keeps | with_reducible apply State.freshStorms_keeps | with_reducible apply State.adopt_keeps
  try clear_value x9
  repeat' first | with_reducible assumption | with_reducible apply State.onBoard_keeps | with_reducible apply State.tkStamp_keeps | with_reducible refine State.forChans_keeps _ _ _ (fun _ _ _ => ?_) ?_ | with_reducible apply State.onProt_keeps | with_reducible apply State.onLoop_keeps | with_reducible apply State.endProg_keeps | with_reducible apply State.enterMode_keeps | with_reducible apply State.resumeAll_keeps | with_reducible apply State.settle_keeps | with_reducible apply State.freshStorms_keeps | with_reducible apply State.adopt_keeps | with_reducible apply State.programEvts_keeps | with_reducible apply State.pairEvt_keeps

theorem State.tryTakeover_keeps {s0 : State} (s : State) (h : Keeps s0 s) : Keeps s0 (State.tryTakeover s) := by
  unfold State.tryTakeover
  extract_lets x1 x2
  repeat' first | with_reducible assumption | with_reducible apply State.takeover_keeps | split

theorem State.tryWin_keeps {s0 : State} (s : State) (h : Keeps s0 s) : Keeps s0 (State.tryWin s) := by
  unfold State.tryWin
  extract_lets x1 x2 x3
  have kx2 : Keeps s0 x2 := by
    unfold x2
    repeat' first | with_reducible assumption | with_reducible apply State.onBoard_keeps
  try clear_value x2
  repeat' first | with_reducible assumption | with_reducible apply State.onBoard_keeps | with_reducible apply State.settle_keeps | with_reducible apply State.resumeAll_keeps | with_reducible apply State.takeover_keeps | split

theorem State.loseContention_keeps {s0 : State} (s : State) (h : Keeps s0 s) : Keeps s0 (State.loseContention s) := by
  unfold State.loseContention
  extract_lets x1 x2 x3
  have kx2 : Keeps s0 x2 := by
    unfold x2
    repeat' first | with_reducible assumption | with_reducible apply State.cancelDeferred_keeps
  try clear_value x2
  have kx3 : Keeps s0 x3 := by
    unfold x3
    repeat' first | with_reducible assumption | with_reducible apply State.cancelDeferred_keeps | with_reducible apply State.onBoard_keeps
  try clear_value x3
  repeat' first | with_reducible assumption | with_reducible apply State.cancelDeferred_keeps | with_reducible apply State.onBoard_keeps | with_reducible apply State.settle_keeps | with_reducible apply State.enterMode_keeps | split

theorem State.winContention_keeps {s0 : State} (s : State) (h : Keeps s0 s) : Keeps s0 (State.winContention s) := by
  unfold State.winContention
  repeat' first | with_reducible assumption | with_reducible apply State.tryWin_keeps | with_reducible apply State.onPair_keeps

theorem State.endHandover_keeps {s0 : State} (s : State) (a1 a2 a3) (h : Keeps s0 s) : Keeps s0 (State.endHandover s a1 a2 a3) := by
  unfold State.endHandover
  extract_lets x1
  have kx1 : Keeps s0 x1 := by
    unfold x1
    repeat' first | with_reducible assumption | with_reducible apply State.onPair_keeps
  try clear_value x1
  repeat' first | with_reducible assumption | with_reducible apply State.onPair_keeps | split | simp only [Keeps.mk_iff]

theorem State.dropServed_keeps {s0 : State} (s : State) (h : Keeps s0 s) : Keeps s0 (State.dropServed s) := by
  unfold State.dropServed
  extract_lets x1 x2 x3 x4
  repeat' first | with_reducible assumption | split | simp only [Keeps.mk_iff]

theorem execPipeInRise_keeps {s0 : State} (s : State) (h : Keeps s0 s) : KeepsOut s0 (execPipeInRise s) := by
  unfold execPipeInRise
  extract_lets x1 x2
  have kx1 : Keeps s0 x1 := by
    unfold x1
    repeat' first | with_reducible assumption | with_reducible apply KeepsOut.next | with_reducible exact KeepsOut.fault | with_reducible apply State.onBoard_keeps
  try clear_value x1
  have kx2 : Keeps s0 x2 := by
    unfold x2
    repeat' first | with_reducible assumption | with_reducible apply KeepsOut.next | with_reducible exact KeepsOut.fault | with_reducible apply State.onBoard_keeps | with_reducible apply State.settle_keeps
  try clear_value x2
  repeat' first | with_reducible assumption | with_reducible apply KeepsOut.next | with_reducible exact KeepsOut.fault | with_reducible apply State.onBoard_keeps | with_reducible apply State.settle_keeps | with_reducible apply State.bootTwin_keeps | with_reducible apply State.onPair_keeps | split

theorem execFenceInRise_keeps {s0 : State} (s : State) (h : Keeps s0 s) : KeepsOut s0 (execFenceInRise s) := by
  unfold execFenceInRise
  extract_lets x1 x2
  have kx2 : Keeps s0 x2 := by
    unfold x2
    repeat' first | with_reducible assumption | with_reducible apply KeepsOut.next | with_reducible exact KeepsOut.fault | with_reducible apply State.settle_keeps | with_reducible apply State.onBoard_keeps
  try clear_value x2
  repeat' first | with_reducible assumption | with_reducible apply KeepsOut.next | with_reducible exact KeepsOut.fault | with_reducible apply State.settle_keeps | with_reducible apply State.onBoard_keeps | with_reducible apply State.pairEvt_keeps | with_reducible apply State.fault_keeps | split

theorem execPipeInFall_keeps {s0 : State} (s : State) (h : Keeps s0 s) : KeepsOut s0 (execPipeInFall s) := by
  unfold execPipeInFall
  repeat' first | with_reducible assumption | with_reducible apply KeepsOut.next | with_reducible exact KeepsOut.fault | with_reducible apply State.tryTakeover_keeps | with_reducible apply State.tryWin_keeps | with_reducible apply State.onBoard_keeps | with_reducible apply State.fatalFirst_keeps | split

theorem execFenceInFall_keeps {s0 : State} (s : State) (h : Keeps s0 s) : KeepsOut s0 (execFenceInFall s) := by
  unfold execFenceInFall
  repeat' first | with_reducible assumption | with_reducible apply KeepsOut.next | with_reducible exact KeepsOut.fault | with_reducible apply State.tryTakeover_keeps | with_reducible apply State.tryWin_keeps | with_reducible apply State.onBoard_keeps | with_reducible apply State.fatalFirst_keeps | split

theorem execPipeSense_keeps {s0 : State} (s : State) (h : Keeps s0 s) : KeepsOut s0 (execPipeSense s) := by
  unfold execPipeSense
  repeat' first | with_reducible assumption | with_reducible apply KeepsOut.next | with_reducible exact KeepsOut.fault | with_reducible apply State.passTo_keeps | with_reducible apply State.fault_keeps | split | simp only

theorem execContention_keeps {s0 : State} (s : State) (h : Keeps s0 s) : KeepsOut s0 (execContention s) := by
  unfold execContention
  extract_lets x1 x2 x3
  have kx3 : Keeps s0 x3 := by
    unfold x3
    repeat' first | with_reducible assumption | with_reducible apply KeepsOut.next | with_reducible exact KeepsOut.fault | with_reducible apply State.onBoard_keeps
  try clear_value x3
  repeat' first | with_reducible assumption | with_reducible apply KeepsOut.next | with_reducible exact KeepsOut.fault | with_reducible apply State.onBoard_keeps | with_reducible apply State.settle_keeps | with_reducible apply State.fault_keeps | with_reducible apply State.setBit_keeps | with_reducible apply State.onPair_keeps | with_reducible apply State.winContention_keeps | with_reducible apply State.loseContention_keeps | split

theorem execHeartbeatSend_keeps {s0 : State} (s : State) (h : Keeps s0 s) : KeepsOut s0 (execHeartbeatSend s) := by
  unfold execHeartbeatSend
  extract_lets x1 x2 x3 x4
  have kx3 : Keeps s0 x3 := by
    unfold x3
    repeat' first | with_reducible assumption | with_reducible apply KeepsOut.next | with_reducible exact KeepsOut.fault | with_reducible apply State.passTo_keeps | with_reducible apply State.onPair_keeps | with_reducible apply State.sendZl_keeps | split
  try clear_value x3
  have kx4 : Keeps s0 x4 := by
    unfold x4
    repeat' first | with_reducible assumption | with_reducible apply KeepsOut.next | with_reducible exact KeepsOut.fault | with_reducible apply State.passTo_keeps | with_reducible apply State.onPair_keeps
  try clear_value x4
  repeat' first | with_reducible assumption | with_reducible apply KeepsOut.next | with_reducible exact KeepsOut.fault | with_reducible apply State.passTo_keeps | with_reducible apply State.onPair_keeps | with_reducible apply State.sendZl_keeps | split | simp only [Keeps.mk_iff] | with_reducible refine Keeps.foldl (fun _ _ _ => ?_) ?_

theorem State.linkCame_keeps {s0 : State} (s : State) (a1) (h : Keeps s0 s) : Keeps s0 (State.linkCame s a1) := by
  unfold State.linkCame
  extract_lets x1
  have kx1 : Keeps s0 x1 := by
    unfold x1
    repeat' first | with_reducible assumption | with_reducible apply State.sendZl_keeps
  try clear_value x1
  repeat' first | with_reducible assumption | with_reducible apply State.sendZl_keeps | with_reducible apply State.startResync_keeps | with_reducible apply State.pairEvt_keeps | with_reducible apply State.onPair_keeps | split

theorem execHeartbeat_keeps {s0 : State} (s : State) (a1 a2 a3 a4 a5 a6) (h : Keeps s0 s) : KeepsOut s0 (execHeartbeat a1 a2 a3 a4 a5 a6 s) := by
  unfold execHeartbeat
  split
  · exact KeepsOut.next h
  · split
    rename_i ok t hq
    have kt := Keeps.of_snd hq (State.takeFrame_keeps s a1 h)
    extract_lets x1 x2 x3 x4 x5 x6 x7 x8 x9
    have k2 : ∀ x n, Keeps s0 x → Keeps s0 (x2 x n) := fun x n hx => State.onPair_keeps _ _ hx
    clear_value x2
    have k5 : Keeps s0 x5 := by
      unfold x5
      split
      · exact kt
      · split
        · exact State.onPair_keeps _ _ (k2 _ _ kt)
        · exact k2 _ _ kt
    clear_value x5
    have k6 : Keeps s0 x6 := by
      unfold x6
      split
      · exact State.linkCame_keeps _ _ k5
      · exact k5
    clear_value x6
    have k7 : Keeps s0 x7 := State.inOrder_keeps _ _ _ k6
    clear_value x7
    have k8 : Keeps s0 x8 := State.onPair_keeps _ _ k7
    clear_value x8
    have k9 : Keeps s0 x9 := by
      unfold x9
      split
      · exact State.startResync_keeps _ k8
      · exact k8
    clear_value x9
    split
    · exact KeepsOut.next (k2 _ _ kt)
    · split
      · exact KeepsOut.next (State.onBoard_keeps _ _ k9)
      · exact KeepsOut.next k9

theorem execHeartbeatMiss_keeps {s0 : State} (s : State) (h : Keeps s0 s) : KeepsOut s0 (execHeartbeatMiss s) := by
  unfold execHeartbeatMiss
  extract_lets x1
  have kx1 : Keeps s0 x1 := by
    unfold x1
    repeat' first | with_reducible assumption | with_reducible apply KeepsOut.next | with_reducible exact KeepsOut.fault | with_reducible apply State.fatalFirst_keeps
  try clear_value x1
  repeat' first | with_reducible assumption | with_reducible apply KeepsOut.next | with_reducible exact KeepsOut.fault | with_reducible apply State.fatalFirst_keeps | with_reducible apply State.tryTakeover_keeps | with_reducible apply State.bump_keeps | with_reducible apply State.passTo_keeps | with_reducible apply State.onPair_keeps | split

theorem execLaneDown_keeps {s0 : State} (s : State) (a1) (h : Keeps s0 s) : KeepsOut s0 (execLaneDown a1 s) := by
  unfold execLaneDown
  extract_lets x1 x2
  have kx1 : Keeps s0 x1 := by
    unfold x1
    repeat' first | with_reducible assumption | with_reducible apply KeepsOut.next | with_reducible exact KeepsOut.fault | with_reducible apply State.onPair_keeps
  try clear_value x1
  have kx2 : Keeps s0 x2 := by
    unfold x2
    repeat' first | with_reducible assumption | with_reducible apply KeepsOut.next | with_reducible exact KeepsOut.fault | with_reducible apply State.onPair_keeps | with_reducible apply State.fault_keeps | with_reducible apply State.pairEvt_keeps
  try clear_value x2
  repeat' first | with_reducible assumption | with_reducible apply KeepsOut.next | with_reducible exact KeepsOut.fault | with_reducible apply State.onPair_keeps | with_reducible apply State.fault_keeps | with_reducible apply State.pairEvt_keeps | with_reducible apply State.outOfSync_keeps | split

theorem State.noPair_keeps {s0 : State} (s : State) (a1) (h : Keeps s0 s) : Keeps s0 (State.noPair s a1) := by
  unfold State.noPair
  extract_lets x1
  have kx1 : Keeps s0 x1 := by
    unfold x1
    repeat' first | with_reducible assumption | with_reducible apply State.fault_keeps | with_reducible apply State.onBoard_keeps
  try clear_value x1
  repeat' first | with_reducible assumption | with_reducible apply State.fault_keeps | with_reducible apply State.onBoard_keeps | with_reducible apply State.bootTwin_keeps | with_reducible apply State.onPair_keeps | split

theorem State.sendResume_keeps {s0 : State} (s : State) (h : Keeps s0 s) : Keeps s0 (State.sendResume s) := by
  unfold State.sendResume
  repeat' first | with_reducible assumption | with_reducible apply State.sendZl_keeps | split

theorem execIdent_keeps {s0 : State} (s : State) (a1 a2) (h : Keeps s0 s) : KeepsOut s0 (execIdent a1 a2 s) := by
  unfold execIdent
  extract_lets x1 x2 x3 x4 x5 x6 x7
  have kx4 : Keeps s0 x4 := by
    unfold x4
    repeat' first | with_reducible assumption | with_reducible apply KeepsOut.next | with_reducible exact KeepsOut.fault | with_reducible apply State.bump_keeps | with_reducible apply State.setBit_keeps | with_reducible apply State.noPair_keeps | with_reducible apply State.onBoard_keeps
  try clear_value x4
  have kx5 : Keeps s0 x5 := by
    unfold x5
    repeat' first | with_reducible assumption | with_reducible apply KeepsOut.next | with_reducible exact KeepsOut.fault | with_reducible apply State.bump_keeps | with_reducible apply State.setBit_keeps | with_reducible apply State.noPair_keeps | with_reducible apply State.onBoard_keeps | with_reducible apply State.fault_keeps | with_reducible apply State.onPair_keeps | with_reducible refine State.keepNvm_keeps _ _ _ (fun _ _ => ?_) ?_ | with_reducible apply State.pairEvt_keeps | with_reducible apply State.startResync_keeps | with_reducible apply State.sendResume_keeps | split
  try clear_value x5
  have kx6 : Keeps s0 x6 := by
    unfold x6
    repeat' first | with_reducible assumption | with_reducible apply KeepsOut.next | with_reducible exact KeepsOut.fault | with_reducible apply State.bump_keeps | with_reducible apply State.setBit_keeps | with_reducible apply State.noPair_keeps | with_reducible apply State.onBoard_keeps | with_reducible apply State.fault_keeps | with_reducible apply State.onPair_keeps | with_reducible refine State.keepNvm_keeps _ _ _ (fun _ _ => ?_) ?_
  try clear_value x6
  have kx7 : Keeps s0 x7 := by
    unfold x7
    repeat' first | with_reducible assumption | with_reducible apply KeepsOut.next | with_reducible exact KeepsOut.fault | with_reducible apply State.bump_keeps | with_reducible apply State.setBit_keeps | with_reducible apply State.noPair_keeps | with_reducible apply State.onBoard_keeps | with_reducible apply State.fault_keeps | with_reducible apply State.onPair_keeps | with_reducible refine State.keepNvm_keeps _ _ _ (fun _ _ => ?_) ?_ | with_reducible apply State.pairEvt_keeps | with_reducible apply State.startResync_keeps | with_reducible apply State.sendResume_keeps | split
  try clear_value x7
  repeat' first | with_reducible assumption | with_reducible apply KeepsOut.next | with_reducible exact KeepsOut.fault | with_reducible apply State.bump_keeps | with_reducible apply State.setBit_keeps | with_reducible apply State.noPair_keeps | with_reducible apply State.onBoard_keeps | with_reducible apply State.fault_keeps | with_reducible apply State.onPair_keeps | with_reducible refine State.keepNvm_keeps _ _ _ (fun _ _ => ?_) ?_ | with_reducible apply State.pairEvt_keeps | with_reducible apply State.startResync_keeps | with_reducible apply State.sendResume_keeps | split

theorem execMirrorSend_keeps {s0 : State} (s : State) (h : Keeps s0 s) : KeepsOut s0 (execMirrorSend s) := by
  unfold execMirrorSend
  extract_lets x1 x2
  repeat' first | with_reducible assumption | with_reducible apply KeepsOut.next | with_reducible exact KeepsOut.fault | with_reducible apply State.onPair_keeps | with_reducible apply State.sendZl_keeps | split

theorem execMirror_keeps {s0 : State} (s : State) (a1 a2 a3) (h : Keeps s0 s) : KeepsOut s0 (execMirror a1 a2 a3 s) := by
  unfold execMirror
  extract_lets x1
  repeat' first | with_reducible assumption | with_reducible apply KeepsOut.next | with_reducible exact KeepsOut.fault | with_reducible apply State.takeFrame_keeps | with_reducible apply State.outOfSync_keeps | with_reducible apply State.inOrder_keeps | with_reducible apply State.applyItems_keeps | with_reducible apply State.setFld_keeps | split | simp only [Keeps.mk_iff] | with_reducible refine Keeps.foldl (fun _ _ _ => ?_) ?_ | with_reducible refine Keeps.foldl1 (fun _ _ _ => ?_) ?_ | with_reducible refine Keeps.foldl2 (fun _ _ _ => ?_) ?_ | dsimp only | with_reducible refine Keeps.of_fst ‹_ = (_, _)› ?_ | with_reducible refine Keeps.of_snd ‹_ = (_, _)› ?_

theorem execSnapshot_keeps {s0 : State} (s : State) (a1 a2) (h : Keeps s0 s) : KeepsOut s0 (execSnapshot a1 a2 s) := by
  unfold execSnapshot
  repeat' first | with_reducible assumption | with_reducible apply KeepsOut.next | with_reducible exact KeepsOut.fault | with_reducible apply State.takeFrame_keeps | with_reducible apply State.applyItems_keeps | with_reducible apply State.inOrder_keeps | with_reducible apply State.bump_keeps | with_reducible apply State.onPair_keeps | split | simp only [Keeps.mk_iff] | with_reducible refine Keeps.foldl (fun _ _ _ => ?_) ?_ | with_reducible refine Keeps.foldl1 (fun _ _ _ => ?_) ?_ | with_reducible refine Keeps.foldl2 (fun _ _ _ => ?_) ?_ | dsimp only | with_reducible refine Keeps.of_fst ‹_ = (_, _)› ?_ | with_reducible refine Keeps.of_snd ‹_ = (_, _)› ?_

theorem execResyncDone_keeps {s0 : State} (s : State) (h : Keeps s0 s) : KeepsOut s0 (execResyncDone s) := by
  unfold execResyncDone
  repeat' first | with_reducible assumption | with_reducible apply KeepsOut.next | with_reducible exact KeepsOut.fault | with_reducible apply State.onPair_keeps | split

theorem execResyncFail_keeps {s0 : State} (s : State) (h : Keeps s0 s) : KeepsOut s0 (execResyncFail s) := by
  unfold execResyncFail
  repeat' first | with_reducible assumption | with_reducible apply KeepsOut.next | with_reducible exact KeepsOut.fault | with_reducible apply State.fault_keeps | with_reducible apply State.passTo_keeps | with_reducible apply State.startResync_keeps | with_reducible apply State.bump_keeps | with_reducible apply State.onPair_keeps | split | simp only

theorem execReccopy_keeps {s0 : State} (s : State) (a1 a2) (h : Keeps s0 s) : KeepsOut s0 (execReccopy a1 a2 s) := by
  unfold execReccopy
  repeat' first | with_reducible assumption | with_reducible apply KeepsOut.next | with_reducible exact KeepsOut.fault | with_reducible apply State.takeFrame_keeps | with_reducible apply State.inOrder_keeps | with_reducible apply State.stage_keeps | split | simp only | with_reducible refine Keeps.foldl (fun _ _ _ => ?_) ?_ | with_reducible refine Keeps.foldl1 (fun _ _ _ => ?_) ?_ | with_reducible refine Keeps.foldl2 (fun _ _ _ => ?_) ?_ | dsimp only | with_reducible refine Keeps.of_fst ‹_ = (_, _)› ?_ | with_reducible refine Keeps.of_snd ‹_ = (_, _)› ?_

theorem execEpochmarkSend_keeps {s0 : State} (s : State) (h : Keeps s0 s) : KeepsOut s0 (execEpochmarkSend s) := by
  unfold execEpochmarkSend
  extract_lets x1
  have kx1 : Keeps s0 x1 := by
    unfold x1
    repeat' first | with_reducible assumption | with_reducible apply KeepsOut.next | with_reducible exact KeepsOut.fault | with_reducible apply State.passTo_keeps | with_reducible apply State.onPair_keeps | with_reducible apply State.sendZl_keeps | split
  try clear_value x1
  repeat' first | with_reducible assumption | with_reducible apply KeepsOut.next | with_reducible exact KeepsOut.fault | with_reducible apply State.passTo_keeps | with_reducible apply State.onPair_keeps | with_reducible apply State.sendZl_keeps | split

theorem execEpochmark_keeps {s0 : State} (s : State) (a1 a2 a3) (h : Keeps s0 s) : KeepsOut s0 (execEpochmark a1 a2 a3 s) := by
  unfold execEpochmark
  repeat' first | with_reducible assumption | with_reducible apply KeepsOut.next | with_reducible exact KeepsOut.fault | with_reducible apply State.takeFrame_keeps | with_reducible apply State.onGat_keeps | with_reducible apply State.onPair_keeps | with_reducible apply State.inOrder_keeps | split | simp only [Keeps.mk_iff] | with_reducible refine Keeps.foldl (fun _ _ _ => ?_) ?_ | with_reducible refine Keeps.foldl1 (fun _ _ _ => ?_) ?_ | with_reducible refine Keeps.foldl2 (fun _ _ _ => ?_) ?_ | dsimp only | with_reducible refine Keeps.of_fst ‹_ = (_, _)› ?_ | with_reducible refine Keeps.of_snd ‹_ = (_, _)› ?_

theorem execEpochUnlock_keeps {s0 : State} (s : State) (h : Keeps s0 s) : KeepsOut s0 (execEpochUnlock s) := by
  unfold execEpochUnlock
  repeat' first | with_reducible assumption | with_reducible apply KeepsOut.next | with_reducible exact KeepsOut.fault | with_reducible apply State.fault_keeps | with_reducible apply State.onPair_keeps | with_reducible apply State.passTo_keeps | split

theorem execAck_keeps {s0 : State} (s : State) (a1 a2 a3) (h : Keeps s0 s) : KeepsOut s0 (execAck a1 a2 a3 s) := by
  unfold execAck
  repeat' first | with_reducible assumption | with_reducible apply KeepsOut.next | with_reducible exact KeepsOut.fault | with_reducible apply State.takeFrame_keeps | with_reducible apply State.onPair_keeps | with_reducible apply State.inOrder_keeps | split | simp only [Keeps.mk_iff] | with_reducible refine Keeps.foldl (fun _ _ _ => ?_) ?_ | with_reducible refine Keeps.foldl1 (fun _ _ _ => ?_) ?_ | with_reducible refine Keeps.foldl2 (fun _ _ _ => ?_) ?_ | dsimp only | with_reducible refine Keeps.of_fst ‹_ = (_, _)› ?_ | with_reducible refine Keeps.of_snd ‹_ = (_, _)› ?_

theorem State.hoFrame_keeps {s0 : State} (s : State) (a1 a2) (hf : ∀ x, Keeps s0 x → Keeps s0 (a2 x)) (h : Keeps s0 s) : KeepsOut s0 (State.hoFrame s a1 a2) := by
  unfold State.hoFrame
  have k := State.takeFrame_keeps s a1 h
  dsimp only
  split
  · exact KeepsOut.next (hf _ (State.inOrder_keeps _ _ _ k))
  · exact KeepsOut.next k

theorem execHandoverPrep_keeps {s0 : State} (s : State) (a1) (h : Keeps s0 s) : KeepsOut s0 (execHandoverPrep a1 s) := by
  unfold execHandoverPrep
  repeat' first | with_reducible assumption | with_reducible apply KeepsOut.next | with_reducible exact KeepsOut.fault | with_reducible refine State.hoFrame_keeps _ _ _ (fun _ _ => ?_) ?_ | with_reducible apply State.onPair_keeps | with_reducible apply State.sendZl_keeps | split

theorem execHandoverReady_keeps {s0 : State} (s : State) (a1 a2) (h : Keeps s0 s) : KeepsOut s0 (execHandoverReady a1 a2 s) := by
  unfold execHandoverReady
  repeat' first | with_reducible assumption | with_reducible apply KeepsOut.next | with_reducible exact KeepsOut.fault | with_reducible refine State.hoFrame_keeps _ _ _ (fun _ _ => ?_) ?_ | with_reducible apply State.onPair_keeps | with_reducible apply State.sendZl_keeps | split

theorem execHandoverTime_keeps {s0 : State} (s : State) (a1 a2) (h : Keeps s0 s) : KeepsOut s0 (execHandoverTime a1 a2 s) := by
  unfold execHandoverTime
  repeat' first | with_reducible assumption | with_reducible apply KeepsOut.next | with_reducible exact KeepsOut.fault | with_reducible refine State.hoFrame_keeps _ _ _ (fun _ _ => ?_) ?_ | with_reducible apply State.onPair_keeps | split

theorem execHandoverState_keeps {s0 : State} (s : State) (a1 a2) (h : Keeps s0 s) : KeepsOut s0 (execHandoverState a1 a2 s) := by
  unfold execHandoverState
  repeat' first | with_reducible assumption | with_reducible apply KeepsOut.next | with_reducible exact KeepsOut.fault | with_reducible refine State.hoFrame_keeps _ _ _ (fun _ _ => ?_) ?_ | with_reducible apply State.applyItems_keeps | split

theorem execHandoverPipeRelease_keeps {s0 : State} (s : State) (h : Keeps s0 s) : KeepsOut s0 (execHandoverPipeRelease s) := by
  unfold execHandoverPipeRelease
  repeat' first | with_reducible assumption | with_reducible apply KeepsOut.next | with_reducible exact KeepsOut.fault | with_reducible apply State.tickTo_keeps | with_reducible apply State.sendZl_keeps | with_reducible apply State.onBoard_keeps | split

theorem execHandoverPipeTake_keeps {s0 : State} (s : State) (h : Keeps s0 s) : KeepsOut s0 (execHandoverPipeTake s) := by
  unfold execHandoverPipeTake
  extract_lets x1
  have kx1 : Keeps s0 x1 := by
    unfold x1
    repeat' first | with_reducible assumption | with_reducible apply KeepsOut.next | with_reducible exact KeepsOut.fault | with_reducible apply State.fatalFirst_keeps
  try clear_value x1
  repeat' first | with_reducible assumption | with_reducible apply KeepsOut.next | with_reducible exact KeepsOut.fault | with_reducible apply State.fatalFirst_keeps | with_reducible apply State.tickTo_keeps | with_reducible apply State.onBoard_keeps | with_reducible apply State.tkStamp_keeps | with_reducible apply State.enterMode_keeps | with_reducible refine State.forChans_keeps _ _ _ (fun _ _ _ => ?_) ?_ | with_reducible apply State.setSt_keeps | with_reducible apply State.onLoop_keeps | with_reducible apply State.freshStorms_keeps | with_reducible apply State.adopt_keeps | with_reducible apply State.settle_keeps | with_reducible apply State.sendZl_keeps | with_reducible apply State.programEvts_keeps | with_reducible apply State.pairEvt_keeps | split | simp only

theorem execHandoverAck_keeps {s0 : State} (s : State) (a1) (h : Keeps s0 s) : KeepsOut s0 (execHandoverAck a1 s) := by
  unfold execHandoverAck
  repeat' first | with_reducible assumption | with_reducible apply KeepsOut.next | with_reducible exact KeepsOut.fault | with_reducible refine State.hoFrame_keeps _ _ _ (fun _ _ => ?_) ?_ | with_reducible apply State.fatalFirst_keeps | with_reducible apply State.cancelDeferred_keeps | with_reducible apply State.onBoard_keeps | with_reducible apply State.tkStamp_keeps | with_reducible apply State.settle_keeps | with_reducible apply State.enterMode_keeps | with_reducible apply State.pairEvt_keeps | with_reducible apply State.corrFrom_keeps | with_reducible apply State.endHandover_keeps | with_reducible apply State.dropServed_keeps | split

theorem execHandoverTimeout_keeps {s0 : State} (s : State) (h : Keeps s0 s) : KeepsOut s0 (execHandoverTimeout s) := by
  unfold execHandoverTimeout
  repeat' first | with_reducible assumption | with_reducible apply KeepsOut.next | with_reducible exact KeepsOut.fault | with_reducible apply State.endHandover_keeps | with_reducible apply State.tickTo_keeps | with_reducible apply State.onBoard_keeps | with_reducible apply State.onPair_keeps | split

theorem execArbitrationStart_keeps {s0 : State} (s : State) (h : Keeps s0 s) : KeepsOut s0 (execArbitrationStart s) := by
  unfold execArbitrationStart
  repeat' first | with_reducible assumption | with_reducible apply KeepsOut.next | with_reducible exact KeepsOut.fault | with_reducible apply State.onPair_keeps | with_reducible apply State.passTo_keeps | split

theorem execArbitrationEnd_keeps {s0 : State} (s : State) (a1) (h : Keeps s0 s) : KeepsOut s0 (execArbitrationEnd a1 s) := by
  unfold execArbitrationEnd
  extract_lets x1 x2 x3
  have kx2 : Keeps s0 x2 := by
    unfold x2
    repeat' first | with_reducible assumption | with_reducible apply KeepsOut.next | with_reducible exact KeepsOut.fault | with_reducible apply State.onPair_keeps
  try clear_value x2
  have kx3 : Keeps s0 x3 := by
    unfold x3
    repeat' first | with_reducible assumption | with_reducible apply KeepsOut.next | with_reducible exact KeepsOut.fault | with_reducible apply State.onPair_keeps
  try clear_value x3
  repeat' first | with_reducible assumption | with_reducible apply KeepsOut.next | with_reducible exact KeepsOut.fault | with_reducible apply State.onPair_keeps | with_reducible apply State.winContention_keeps | with_reducible apply State.loseContention_keeps | with_reducible apply State.bootOwner_keeps | split

theorem execArbitrationRoundVoid_keeps {s0 : State} (s : State) (h : Keeps s0 s) : KeepsOut s0 (execArbitrationRoundVoid s) := by
  unfold execArbitrationRoundVoid
  repeat' first | with_reducible assumption | with_reducible apply KeepsOut.next | with_reducible exact KeepsOut.fault | with_reducible apply State.onPair_keeps | split

theorem execReacqExpiry_keeps {s0 : State} (s : State) (h : Keeps s0 s) : KeepsOut s0 (execReacqExpiry s) := by
  unfold execReacqExpiry
  repeat' first | with_reducible assumption | with_reducible apply KeepsOut.next | with_reducible exact KeepsOut.fault | with_reducible apply State.passTo_keeps | with_reducible apply State.onPair_keeps | with_reducible apply State.fault_keeps | with_reducible apply State.pairEvt_keeps | split

theorem execRollCallPulse_keeps {s0 : State} (s : State) (h : Keeps s0 s) : KeepsOut s0 (execRollCallPulse s) := by
  unfold execRollCallPulse
  extract_lets x1
  have kx1 : Keeps s0 x1 := by
    unfold x1
    repeat' first | with_reducible assumption | with_reducible apply KeepsOut.next | with_reducible exact KeepsOut.fault | with_reducible apply State.passTo_keeps | with_reducible apply State.onPair_keeps | split
  try clear_value x1
  repeat' first | with_reducible assumption | with_reducible apply KeepsOut.next | with_reducible exact KeepsOut.fault | with_reducible apply State.passTo_keeps | with_reducible apply State.onPair_keeps | split

theorem execRollPulseDetect_keeps {s0 : State} (s : State) (h : Keeps s0 s) : KeepsOut s0 (execRollPulseDetect s) := by
  unfold execRollPulseDetect
  repeat' first | with_reducible assumption | with_reducible apply KeepsOut.next | with_reducible exact KeepsOut.fault | with_reducible apply State.onPair_keeps | split

theorem execRollCallReply_keeps {s0 : State} (s : State) (h : Keeps s0 s) : KeepsOut s0 (execRollCallReply s) := by
  unfold execRollCallReply
  extract_lets x1
  have kx1 : Keeps s0 x1 := by
    unfold x1
    repeat' first | with_reducible assumption | with_reducible apply KeepsOut.next | with_reducible exact KeepsOut.fault | with_reducible apply State.passTo_keeps
  try clear_value x1
  repeat' first | with_reducible assumption | with_reducible apply KeepsOut.next | with_reducible exact KeepsOut.fault | with_reducible apply State.passTo_keeps | with_reducible apply State.onPair_keeps | split

theorem execRollCallMiss_keeps {s0 : State} (s : State) (h : Keeps s0 s) : KeepsOut s0 (execRollCallMiss s) := by
  unfold execRollCallMiss
  repeat' first | with_reducible assumption | with_reducible apply KeepsOut.next | with_reducible exact KeepsOut.fault | with_reducible apply State.onPair_keeps | split

theorem execRollCallSearchEnd_keeps {s0 : State} (s : State) (h : Keeps s0 s) : KeepsOut s0 (execRollCallSearchEnd s) := by
  unfold execRollCallSearchEnd
  repeat' first | with_reducible assumption | with_reducible apply KeepsOut.next | with_reducible exact KeepsOut.fault | with_reducible apply State.onPair_keeps | split

theorem outState_keeps {s0 : State} (s : State) (a1) (ho : KeepsOut s0 a1) (h : Keeps s0 s) : Keeps s0 (outState a1 s) := by
  unfold outState
  split
  · exact ho _ rfl
  · exact h

theorem State.freezeRead_keeps {s0 : State} (s : State) (a1) (h : Keeps s0 s) : Keeps s0 (State.freezeRead s a1) := by
  unfold State.freezeRead
  repeat' first | with_reducible assumption | with_reducible refine outState_keeps _ _ ?_ ?_ | with_reducible apply execCalendarReadFreeze_keeps | with_reducible apply execKeepYearRead_keeps | split

theorem State.chanReadActs_keeps {s0 : State} (s : State) (a1 a2) (h : Keeps s0 s) : Keeps s0 (State.chanReadActs s a1 a2) := by
  unfold State.chanReadActs
  repeat' first | with_reducible assumption | with_reducible apply State.onProt_keeps | with_reducible apply State.onMeas_keeps | split

theorem State.readActs_keeps {s0 : State} (s : State) (a1) (h : Keeps s0 s) : Keeps s0 (State.readActs s a1) := by
  unfold State.readActs
  extract_lets x1 x2
  repeat' first | with_reducible assumption | with_reducible apply State.evrClaim_keeps | with_reducible apply State.onSrc_keeps | with_reducible apply State.freezeRead_keeps | with_reducible apply State.onTime_keeps | with_reducible apply State.chanReadActs_keeps | with_reducible apply State.setReg_keeps | split

theorem State.regRead_keeps {s0 : State} (s : State) (a1) (h : Keeps s0 s) : Keeps s0 (State.regRead s a1).2 := by
  unfold State.regRead
  repeat' first | with_reducible assumption | with_reducible apply State.readActs_keeps

theorem State.cfgErr_keeps {s0 : State} (s : State) (a1) (h : Keeps s0 s) : Keeps s0 (State.cfgErr s a1) := by
  unfold State.cfgErr
  extract_lets x1
  repeat' first | with_reducible assumption | with_reducible apply State.setBit_keeps | with_reducible apply State.rangeErr_keeps | split

theorem State.writeWdg_keeps {s0 : State} (s : State) (a1 a2 a3 a4) (h : Keeps s0 s) : Keeps s0 (State.writeWdg s a1 a2 a3 a4) := by
  unfold State.writeWdg
  extract_lets x1 x2 x3 x4
  have kx3 : Keeps s0 x3 := by
    unfold x3
    repeat' first | with_reducible assumption | with_reducible refine outState_keeps _ _ ?_ ?_ | with_reducible apply execWdgKick_keeps | with_reducible apply execWdgKey_keeps | with_reducible apply State.onWdg_keeps | with_reducible apply State.setBit_keeps | with_reducible apply State.setFld_keeps | with_reducible apply State.setReg_keeps | split
  try clear_value x3
  have kx4 : Keeps s0 x4 := by
    unfold x4
    repeat' first | with_reducible assumption | with_reducible refine outState_keeps _ _ ?_ ?_ | with_reducible apply execWdgKick_keeps | with_reducible apply execWdgKey_keeps | with_reducible apply State.onWdg_keeps | with_reducible apply State.setBit_keeps | with_reducible apply State.setFld_keeps | with_reducible apply State.setReg_keeps | split
  try clear_value x4
  repeat' first | with_reducible assumption | with_reducible refine outState_keeps _ _ ?_ ?_ | with_reducible apply execWdgKick_keeps | with_reducible apply execWdgKey_keeps | with_reducible apply State.onWdg_keeps | with_reducible apply State.setBit_keeps | with_reducible apply State.setFld_keeps | with_reducible apply State.setReg_keeps | split

theorem State.writeEvr_keeps {s0 : State} (s : State) (a1 a2 a3) (h : Keeps s0 s) : Keeps s0 (State.writeEvr s a1 a2 a3) := by
  unfold State.writeEvr
  extract_lets x1 x2 x3 x4
  have kx4 : Keeps s0 x4 := by
    unfold x4
    repeat' first | with_reducible assumption | with_reducible apply State.evrComplete_keeps | with_reducible apply State.setReg_keeps
  try clear_value x4
  repeat' first | with_reducible assumption | with_reducible apply State.evrComplete_keeps | with_reducible apply State.setReg_keeps | with_reducible apply State.onSrc_keeps | split

theorem State.writeKeep_keeps {s0 : State} (s : State) (a1 a2 a3) (h : Keeps s0 s) : Keeps s0 (State.writeKeep s a1 a2 a3) := by
  unfold State.writeKeep
  extract_lets x1 x2 x3
  have kx2 : Keeps s0 x2 := by
    unfold x2
    repeat' first | with_reducible assumption | with_reducible refine outState_keeps _ _ ?_ ?_ | with_reducible apply execKeepLoadTime_keeps | with_reducible apply execKeepLoadWday_keeps | with_reducible apply State.setFld_keeps | with_reducible apply State.setTrim_keeps | with_reducible apply State.setReg_keeps | with_reducible apply State.onTime_keeps | split
  try clear_value x2
  have kx3 : Keeps s0 x3 := by
    unfold x3
    repeat' first | with_reducible assumption | with_reducible refine outState_keeps _ _ ?_ ?_ | with_reducible apply execKeepLoadTime_keeps | with_reducible apply execKeepLoadWday_keeps | with_reducible apply State.setFld_keeps | with_reducible apply State.setTrim_keeps | with_reducible apply State.setReg_keeps
  try clear_value x3
  repeat' first | with_reducible assumption | with_reducible refine outState_keeps _ _ ?_ ?_ | with_reducible apply execKeepLoadTime_keeps | with_reducible apply execKeepLoadWday_keeps | with_reducible apply State.setFld_keeps | with_reducible apply State.setTrim_keeps | with_reducible apply State.setReg_keeps | with_reducible apply State.onTime_keeps | split

theorem State.writePwr_keeps {s0 : State} (s : State) (a1 a2 a3) (h : Keeps s0 s) : Keeps s0 (State.writePwr s a1 a2 a3) := by
  unfold State.writePwr
  extract_lets x1 x2 x3
  repeat' first | with_reducible assumption | with_reducible apply State.setReg_keeps | with_reducible apply State.onPwr_keeps | split

theorem State.copyReg_keeps {s0 : State} (s : State) (a1 a2) (h : Keeps s0 s) : Keeps s0 (State.copyReg s a1 a2) := by
  unfold State.copyReg
  extract_lets x1
  repeat' first | with_reducible assumption | split | simp only [Keeps.mk_iff]

theorem State.writeHld_keeps {s0 : State} (s : State) (a1 a2 a3) (h : Keeps s0 s) : Keeps s0 (State.writeHld s a1 a2 a3) := by
  unfold State.writeHld
  extract_lets x1 x2 x3 x4 x5
  have kx2 : Keeps s0 x2 := by
    unfold x2
    repeat' first | with_reducible assumption | with_reducible refine outState_keeps _ _ ?_ ?_ | with_reducible apply execHldKick_keeps | with_reducible apply State.setReg_keeps
  try clear_value x2
  have kx3 : Keeps s0 x3 := by
    unfold x3
    repeat' first | with_reducible assumption | with_reducible refine outState_keeps _ _ ?_ ?_ | with_reducible apply execHldKick_keeps | with_reducible apply State.setReg_keeps | with_reducible apply State.chgStart_keeps
  try clear_value x3
  have kx4 : Keeps s0 x4 := by
    unfold x4
    repeat' first | with_reducible assumption | with_reducible refine outState_keeps _ _ ?_ ?_ | with_reducible apply execHldKick_keeps | with_reducible apply State.setReg_keeps | with_reducible apply State.chgStart_keeps | with_reducible apply execPackTest_keeps | with_reducible apply execStoptest_keeps | with_reducible apply State.onPwr_keeps | with_reducible apply State.chgTo_keeps | split
  try clear_value x4
  have kx5 : Keeps s0 x5 := by
    unfold x5
    repeat' first | with_reducible assumption | with_reducible refine outState_keeps _ _ ?_ ?_ | with_reducible apply execHldKick_keeps | with_reducible apply State.setReg_keeps | with_reducible apply State.chgStart_keeps | with_reducible apply execPackTest_keeps | with_reducible apply execStoptest_keeps | with_reducible apply State.onPwr_keeps
  try clear_value x5
  repeat' first | with_reducible assumption | with_reducible refine outState_keeps _ _ ?_ ?_ | with_reducible apply execHldKick_keeps | with_reducible apply State.setReg_keeps | with_reducible apply State.chgStart_keeps | with_reducible apply execPackTest_keeps | with_reducible apply execStoptest_keeps | with_reducible apply State.onPwr_keeps | with_reducible apply State.chgTo_keeps | split

theorem State.writeTray_keeps {s0 : State} (s : State) (a1 a2 a3) (h : Keeps s0 s) : Keeps s0 (State.writeTray s a1 a2 a3) := by
  unfold State.writeTray
  extract_lets x1 x2 x3 x4 x5 x6
  have kx5 : Keeps s0 x5 := by
    unfold x5
    repeat' first | with_reducible assumption | with_reducible apply State.setFld_keeps | with_reducible apply State.setReg_keeps
  try clear_value x5
  have kx6 : Keeps s0 x6 := by
    unfold x6
    repeat' first | with_reducible assumption | with_reducible apply State.setFld_keeps | with_reducible apply State.setReg_keeps | with_reducible apply State.atFree_keeps | with_reducible apply State.onPort_keeps | with_reducible apply State.setBit_keeps | with_reducible refine outState_keeps _ _ ?_ ?_ | with_reducible apply execGo_keeps | with_reducible apply execAbort_keeps | split
  try clear_value x6
  repeat' first | with_reducible assumption | with_reducible apply State.setFld_keeps | with_reducible apply State.setReg_keeps | with_reducible apply State.atFree_keeps | with_reducible apply State.onPort_keeps | with_reducible apply State.setBit_keeps | with_reducible refine outState_keeps _ _ ?_ ?_ | with_reducible apply execGo_keeps | with_reducible apply execAbort_keeps | split

theorem State.writeNvm_keeps {s0 : State} (s : State) (a1 a2 a3) (h : Keeps s0 s) : Keeps s0 (State.writeNvm s a1 a2 a3) := by
  unfold State.writeNvm
  repeat' first | with_reducible assumption | with_reducible refine outState_keeps _ _ ?_ ?_ | with_reducible apply execNvmHkctlHken_keeps | with_reducible apply State.setReg_keeps | split

theorem State.emptyFollowers_keeps {s0 : State} (s : State) (a1) (h : Keeps s0 s) : Keeps s0 (State.emptyFollowers s a1) := by
  unfold State.emptyFollowers
  repeat' first | with_reducible assumption | with_reducible refine State.forChans_keeps _ _ _ (fun _ _ _ => ?_) ?_ | with_reducible apply State.onProg_keeps | split

theorem State.writeGather_keeps {s0 : State} (s : State) (a1 a2 a3 a4) (h : Keeps s0 s) : Keeps s0 (State.writeGather s a1 a2 a3 a4) := by
  unfold State.writeGather
  extract_lets x1 x2 x3 x4 x5 x6 x7
  have kx6 : Keeps s0 x6 := by
    unfold x6
    repeat' first | with_reducible assumption | with_reducible apply State.setFld_keeps | with_reducible apply State.setReg_keeps
  try clear_value x6
  have kx7 : Keeps s0 x7 := by
    unfold x7
    repeat' first | with_reducible assumption | with_reducible apply State.setFld_keeps | with_reducible apply State.setReg_keeps
  try clear_value x7
  repeat' first | with_reducible assumption | with_reducible apply State.setFld_keeps | with_reducible apply State.setReg_keeps | with_reducible apply State.onMeas_keeps | with_reducible refine outState_keeps _ _ ?_ ?_ | with_reducible apply execChCalselSnap_keeps | with_reducible apply State.alignGather_keeps | with_reducible apply State.emptyFollowers_keeps | with_reducible apply State.syncHold_keeps | split

theorem State.writeDma_keeps {s0 : State} (s : State) (a1 a2 a3) (h : Keeps s0 s) : Keeps s0 (State.writeDma s a1 a2 a3) := by
  unfold State.writeDma
  extract_lets x1 x2 x3 x4
  have kx3 : Keeps s0 x3 := by
    unfold x3
    repeat' first | with_reducible assumption | with_reducible apply State.dmaClear_keeps | with_reducible apply State.dmaStart_keeps | with_reducible apply State.dmaStop_keeps | with_reducible apply State.dmaPoke_keeps | with_reducible apply State.setReg_keeps | split
  try clear_value x3
  have kx4 : Keeps s0 x4 := by
    unfold x4
    repeat' first | with_reducible assumption | with_reducible apply State.dmaClear_keeps | with_reducible apply State.dmaStart_keeps | with_reducible apply State.dmaStop_keeps | with_reducible apply State.dmaPoke_keeps | with_reducible apply State.setReg_keeps | split
  try clear_value x4
  repeat' first | with_reducible assumption | with_reducible apply State.dmaClear_keeps | with_reducible apply State.dmaStart_keeps | with_reducible apply State.dmaStop_keeps | with_reducible apply State.dmaPoke_keeps | with_reducible apply State.setReg_keeps | split

theorem State.writeInit_keeps {s0 : State} (s : State) (a1) (h : Keeps s0 s) : Keeps s0 (State.writeInit s a1) := by
  unfold State.writeInit
  extract_lets x1 x2
  have kx2 : Keeps s0 x2 := by
    unfold x2
    repeat' first | with_reducible assumption | with_reducible apply State.onLed_keeps
  try clear_value x2
  repeat' first | with_reducible assumption | with_reducible apply State.onLed_keeps | with_reducible refine outState_keeps _ _ ?_ ?_ | with_reducible apply execLedgerInitInit_keeps | with_reducible apply execLedgerInitErase_keeps | split

theorem State.writeSched_keeps {s0 : State} (s : State) (a1 a2) (h : Keeps s0 s) : Keeps s0 (State.writeSched s a1 a2) := by
  unfold State.writeSched
  extract_lets x1
  repeat' first | with_reducible assumption | split | simp only [Keeps.mk_iff]

theorem State.writeNet_keeps {s0 : State} (s : State) (a1 a2 a3) (h : Keeps s0 s) : Keeps s0 (State.writeNet s a1 a2 a3) := by
  unfold State.writeNet
  extract_lets x1
  repeat' first | with_reducible assumption | with_reducible apply State.onTime_keeps | with_reducible apply State.setReg_keeps | split

theorem State.writeOk_keeps {s0 : State} (s : State) (a1 a2 a3) (h : Keeps s0 s) : Keeps s0 (State.writeOk s a1 a2 a3) := by
  unfold State.writeOk
  extract_lets x1
  repeat' first | with_reducible assumption | with_reducible apply State.writeWdg_keeps | with_reducible apply State.writeEvr_keeps | with_reducible apply State.writeKeep_keeps | with_reducible apply State.copyReg_keeps | with_reducible apply State.writePwr_keeps | with_reducible apply State.writeHld_keeps | with_reducible apply State.writeTray_keeps | with_reducible apply State.writeNvm_keeps | with_reducible apply State.writeSched_keeps | with_reducible apply State.setReg_keeps | with_reducible apply State.writeDma_keeps | with_reducible apply State.writeNet_keeps | with_reducible apply State.writeInit_keeps | with_reducible apply State.writeGather_keeps | split

theorem State.regWrite_keeps {s0 : State} (s : State) (a1 a2) (h : Keeps s0 s) : Keeps s0 (State.regWrite s a1 a2) := by
  unfold State.regWrite
  extract_lets x1 x2
  repeat' first | with_reducible assumption | with_reducible apply State.cruWrite_keeps | with_reducible apply State.cfgBusy_keeps | with_reducible apply State.rangeErr_keeps | with_reducible apply State.writeOk_keeps | with_reducible apply State.cfgErr_keeps | split | simp only

end Sys2Proof.Machine
end

