-- ==== Sys2Proof/Laws/KeepsCommands.lean ====
section
/-! SUPPORT. What every command, from its checks to its completion, and the local port keep: one lemma per operation (`Keeps`: the fuses, the queue behind the
command, and the canonical form of both memories), for later proofs to cite in place of unfolding it. -/

namespace Sys2Proof.Machine

open Sys2Proof

theorem State.ok_keeps {s0 : State} (s : State) (h : Keeps s0 s) : Keeps s0 (State.ok s).1 := by
  unfold State.ok
  repeat' first | with_reducible assumption

theorem State.okWith_keeps {s0 : State} (s : State) (a1) (h : Keeps s0 s) : Keeps s0 (State.okWith s a1).1 := by
  unfold State.okWith
  repeat' first | with_reducible assumption

theorem State.no_keeps {s0 : State} (s : State) (a1) (h : Keeps s0 s) : Keeps s0 (State.no s a1).1 := by
  unfold State.no
  repeat' first | with_reducible assumption

theorem State.noAt_keeps {s0 : State} (s : State) (a1 a2) (h : Keeps s0 s) : Keeps s0 (State.noAt s a1 a2).1 := by
  unfold State.noAt
  repeat' first | with_reducible assumption

theorem State.later_keeps {s0 : State} (s : State) (h : Keeps s0 s) : Keeps s0 (State.later s).1 := by
  unfold State.later
  repeat' first | with_reducible assumption

theorem State.doIdentify_keeps {s0 : State} (s : State) (h : Keeps s0 s) : Keeps s0 (State.doIdentify s).1 := by
  unfold State.doIdentify
  repeat' first | with_reducible assumption | with_reducible apply State.okWith_keeps

theorem State.doStatus_keeps {s0 : State} (s : State) (a1) (h : Keeps s0 s) : Keeps s0 (State.doStatus s a1).1 := by
  unfold State.doStatus
  extract_lets x1 x2
  repeat' first | with_reducible assumption | with_reducible apply State.okWith_keeps

theorem State.repack_keeps {s0 : State} (s : State) (h : Keeps s0 s) : Keeps s0 (State.repack s) := by
  unfold State.repack
  extract_lets x1
  repeat' first | with_reducible assumption | split | simp only [Keeps.mk_iff]

theorem State.newBase_keeps {s0 : State} (s : State) (a1) (h : Keeps s0 s) : Keeps s0 (State.newBase s a1).2 := by
  unfold State.newBase
  extract_lets x1
  have kx1 : Keeps s0 x1 := by
    unfold x1
    repeat' first | with_reducible assumption | with_reducible apply State.repack_keeps | with_reducible apply State.pick_keeps | split
  try clear_value x1
  repeat' first | with_reducible assumption | with_reducible apply State.repack_keeps | with_reducible apply State.pick_keeps

theorem State.doQCreate_keeps {s0 : State} (s : State) (a1 a2 a3 a4 a5 a6) (h : Keeps s0 s) : Keeps s0 (State.doQCreate s a1 a2 a3 a4 a5 a6).1 := by
  unfold State.doQCreate
  extract_lets x1 x2
  repeat' first | with_reducible assumption | with_reducible apply State.no_keeps | with_reducible apply State.pick_keeps | with_reducible apply State.newBase_keeps | with_reducible apply State.onTenant_keeps | with_reducible apply State.okWith_keeps | split | simp only [Keeps.mk_iff]

theorem State.mapLeases_keeps {s0 : State} (s : State) (a1) (h : Keeps s0 s) : Keeps s0 (State.mapLeases s a1) := by
  unfold State.mapLeases
  repeat' first | with_reducible assumption | split | simp only [Keeps.mk_iff]

theorem State.forgetQueue_keeps {s0 : State} (s : State) (a1) (h : Keeps s0 s) : Keeps s0 (State.forgetQueue s a1) := by
  unfold State.forgetQueue
  extract_lets x1 x2
  have kx2 : Keeps s0 x2 := by
    unfold x2
    repeat' first | with_reducible assumption | with_reducible apply State.mapLeases_keeps | split | simp only [Keeps.mk_iff]
  try clear_value x2
  repeat' first | with_reducible assumption | with_reducible apply State.mapLeases_keeps

theorem State.dropQueue_keeps {s0 : State} (s : State) (a1) (h : Keeps s0 s) : Keeps s0 (State.dropQueue s a1) := by
  unfold State.dropQueue
  extract_lets x1
  have kx1 : Keeps s0 x1 := by
    unfold x1
    repeat' first | with_reducible assumption | with_reducible apply State.forgetQueue_keeps
  try clear_value x1
  repeat' first | with_reducible assumption | with_reducible apply State.forgetQueue_keeps | with_reducible apply State.onQueue_keeps | split | simp only [Keeps.mk_iff]

theorem State.doQDelete_keeps {s0 : State} (s : State) (a1 a2) (h : Keeps s0 s) : Keeps s0 (State.doQDelete s a1 a2).1 := by
  unfold State.doQDelete
  extract_lets x1
  repeat' first | with_reducible assumption | with_reducible apply State.no_keeps | with_reducible apply State.ok_keeps | with_reducible apply State.dropQueue_keeps | split

theorem State.doQBind_keeps {s0 : State} (s : State) (a1 a2) (h : Keeps s0 s) : Keeps s0 (State.doQBind s a1 a2).1 := by
  unfold State.doQBind
  extract_lets x1
  have kx1 : Keeps s0 x1 := by
    unfold x1
    repeat' first | with_reducible assumption | with_reducible apply State.onQueue_keeps
  try clear_value x1
  repeat' first | with_reducible assumption | with_reducible apply State.onQueue_keeps | with_reducible apply State.okWith_keeps

theorem State.doQRoute_keeps {s0 : State} (s : State) (a1 a2) (h : Keeps s0 s) : Keeps s0 (State.doQRoute s a1 a2).1 := by
  unfold State.doQRoute
  repeat' first | with_reducible assumption | with_reducible apply State.ok_keeps | with_reducible apply State.mapLeases_keeps

theorem State.stored_keeps {s0 : State} (s : State) (a1 a2) (hf : ∀ x, Keeps s0 x → Keeps s0 (a2 x).1) (h : Keeps s0 s) : Keeps s0 (State.stored s a1 a2).1 := by
  unfold State.stored
  have k := State.nvmWrite_keeps s a1 h
  dsimp only
  split
  · exact State.no_keeps _ _ h
  · split
    · exact hf _ k
    · exact State.no_keeps _ _ k

theorem State.keyDue_keeps {s0 : State} (s : State) (a1 a2) (h : Keeps s0 s) : Keeps s0 (State.keyDue s a1 a2) := by
  unfold State.keyDue
  repeat' first | with_reducible assumption | with_reducible apply State.onStream_keeps | split

theorem State.doKeyWrite_keeps {s0 : State} (s : State) (a1 a2 a3) (h : Keeps s0 s) : Keeps s0 (State.doKeyWrite s a1 a2 a3).1 := by
  unfold State.doKeyWrite
  repeat' first | with_reducible assumption | with_reducible apply State.no_keeps | with_reducible refine State.stored_keeps _ _ _ (fun _ _ => ?_) ?_ | with_reducible apply State.onTenant_keeps | with_reducible apply State.keyDue_keeps | with_reducible apply State.ok_keeps | with_reducible apply State.closeSession_keeps | split

theorem State.doKeyClear_keeps {s0 : State} (s : State) (a1 a2) (h : Keeps s0 s) : Keeps s0 (State.doKeyClear s a1 a2).1 := by
  unfold State.doKeyClear
  extract_lets x1
  repeat' first | with_reducible assumption | with_reducible apply State.no_keeps | with_reducible refine State.stored_keeps _ _ _ (fun _ _ => ?_) ?_ | with_reducible apply State.ok_keeps | with_reducible apply State.keyDue_keeps | with_reducible apply State.onTenant_keeps | split | simp only

theorem State.drawKeys_keeps {s0 : State} (s : State) (h : Keeps s0 s) : Keeps s0 s.drawKeys.2.2 :=
  State.draw_keeps _ (State.draw_keeps _ h)

theorem State.doTenantCreate_keeps {s0 : State} (s : State) (a1) (h : Keeps s0 s) : Keeps s0 (State.doTenantCreate s a1).1 := by
  unfold State.doTenantCreate
  split
  · split
    · exact State.no_keeps _ _ h
    · refine State.stored_keeps _ _ _ (fun s h => ?_) h
      have k := State.drawKeys_keeps s h
      generalize s.drawKeys = q at k ⊢
      obtain ⟨code, key, u⟩ := q
      exact State.okWith_keeps _ _ (State.onTenant_keeps _ _ _ (State.keyDue_keeps _ _ _ (Keeps.mk_iff.2 k)))
  · exact State.no_keeps _ _ h

theorem State.closeSessions_keeps {s0 : State} (s : State) (a1) (h : Keeps s0 s) : Keeps s0 (State.closeSessions s a1) := by
  unfold State.closeSessions
  extract_lets x1 x2
  have kx2 : Keeps s0 x2 := by
    unfold x2
    repeat' first | with_reducible assumption | with_reducible apply State.closeSession_keeps | split | simp only [Keeps.mk_iff] | with_reducible refine Keeps.foldl (fun _ _ _ => ?_) ?_
  try clear_value x2
  repeat' first | with_reducible assumption | with_reducible apply State.closeSession_keeps | split | simp only [Keeps.mk_iff]

theorem State.doSuspend_keeps {s0 : State} (s : State) (a1) (h : Keeps s0 s) : Keeps s0 (State.doSuspend s a1).1 := by
  unfold State.doSuspend
  repeat' first | with_reducible assumption | with_reducible apply State.no_keeps | with_reducible refine State.stored_keeps _ _ _ (fun _ _ => ?_) ?_ | with_reducible apply State.ok_keeps | with_reducible apply State.closeSessions_keeps | with_reducible apply State.onTenant_keeps | split

theorem State.doResumeTenant_keeps {s0 : State} (s : State) (a1) (h : Keeps s0 s) : Keeps s0 (State.doResumeTenant s a1).1 := by
  unfold State.doResumeTenant
  repeat' first | with_reducible assumption | with_reducible apply State.no_keeps | with_reducible refine State.stored_keeps _ _ _ (fun _ _ => ?_) ?_ | with_reducible apply State.ok_keeps | with_reducible apply State.onTenant_keeps | split

theorem State.doRemove_keeps {s0 : State} (s : State) (a1) (h : Keeps s0 s) : Keeps s0 (State.doRemove s a1).1 := by
  unfold State.doRemove
  repeat' first | with_reducible assumption | with_reducible apply State.no_keeps | with_reducible refine State.stored_keeps _ _ _ (fun _ _ => ?_) ?_ | with_reducible apply State.onLed_keeps | with_reducible apply State.closeSessions_keeps | with_reducible apply State.ok_keeps | split | simp only [Keeps.mk_iff]

theorem State.doReenrol_keeps {s0 : State} (s : State) (a1 a2) (h : Keeps s0 s) : Keeps s0 (State.doReenrol s a1 a2).1 := by
  unfold State.doReenrol
  split
  · exact State.no_keeps _ _ h
  · refine State.stored_keeps _ _ _ (fun s h => ?_) h
    have k := State.drawKeys_keeps s h
    generalize s.drawKeys = q at k ⊢
    obtain ⟨code, key, u⟩ := q
    exact State.okWith_keeps _ _ (State.closeSessions_keeps _ _ (State.keyDue_keeps _ _ _ (State.onTenant_keeps _ _ _ k)))

theorem State.doQuota_keeps {s0 : State} (s : State) (a1 a2) (h : Keeps s0 s) : Keeps s0 (State.doQuota s a1 a2).1 := by
  unfold State.doQuota
  extract_lets x1
  repeat' first | with_reducible assumption | with_reducible apply State.no_keeps | with_reducible refine State.stored_keeps _ _ _ (fun _ _ => ?_) ?_ | with_reducible apply State.ok_keeps | with_reducible apply State.onTenant_keeps | split | simp only

theorem State.doTenantRead_keeps {s0 : State} (s : State) (a1) (h : Keeps s0 s) : Keeps s0 (State.doTenantRead s a1).1 := by
  unfold State.doTenantRead
  repeat' first | with_reducible assumption | with_reducible apply State.okWith_keeps | split

theorem State.leaseEvt_keeps {s0 : State} (s : State) (a1 a2 a3 a4) (h : Keeps s0 s) : Keeps s0 (State.leaseEvt s a1 a2 a3 a4) := by
  unfold State.leaseEvt
  repeat' first | with_reducible assumption | with_reducible apply State.pushEvt_keeps

theorem State.leaseEndEvt_keeps {s0 : State} (s : State) (a1 a2 a3 a4 a5) (h : Keeps s0 s) : Keeps s0 (State.leaseEndEvt s a1 a2 a3 a4 a5) := by
  unfold State.leaseEndEvt
  repeat' first | with_reducible assumption | with_reducible apply State.pushEvt_keeps

theorem State.revokeStop_keeps {s0 : State} (s : State) (a1 a2) (h : Keeps s0 s) : Keeps s0 (State.revokeStop s a1 a2) := by
  unfold State.revokeStop
  extract_lets x1 x2
  have kx2 : Keeps s0 x2 := by
    unfold x2
    repeat' first | with_reducible assumption | with_reducible apply State.rampStop_keeps | with_reducible apply State.endProg_keeps
  try clear_value x2
  repeat' first | with_reducible assumption | with_reducible apply State.rampStop_keeps | with_reducible apply State.endProg_keeps | with_reducible refine State.forChans_keeps _ _ _ (fun _ _ _ => ?_) ?_ | with_reducible apply State.setSt_keeps | with_reducible apply State.onLoop_keeps | with_reducible apply State.cancelRetry_keeps | split

theorem State.discardChan_keeps {s0 : State} (s : State) (a1) (h : Keeps s0 s) : Keeps s0 (State.discardChan s a1) := by
  unfold State.discardChan
  extract_lets x1 x2 x3
  have kx2 : Keeps s0 x2 := by
    unfold x2
    repeat' first | with_reducible assumption | with_reducible apply State.onProg_keeps
  try clear_value x2
  have kx3 : Keeps s0 x3 := by
    unfold x3
    repeat' first | with_reducible assumption | with_reducible apply State.onProg_keeps | with_reducible apply State.onLoop_keeps
  try clear_value x3
  repeat' first | with_reducible assumption | with_reducible apply State.onProg_keeps | with_reducible apply State.onLoop_keeps | with_reducible apply State.onChan_keeps

theorem State.dropSlot_keeps {s0 : State} (s : State) (a1 a2) (h : Keeps s0 s) : Keeps s0 (State.dropSlot s a1 a2) := by
  unfold State.dropSlot
  repeat' first | with_reducible assumption | with_reducible apply State.setFld_keeps | split | simp only | with_reducible refine Keeps.foldl (fun _ _ _ => ?_) ?_

theorem State.endLease_keeps {s0 : State} (s : State) (a1 a2 a3) (h : Keeps s0 s) : Keeps s0 (State.endLease s a1 a2 a3).2 := by
  unfold State.endLease
  extract_lets x1 x2 x3 x4 x5 x6 x7
  have kx2 : Keeps s0 x2 := by
    unfold x2
    repeat' first | with_reducible assumption | with_reducible refine State.forChans_keeps _ _ _ (fun _ _ _ => ?_) ?_ | with_reducible apply State.collect_keeps
  try clear_value x2
  have kx4 : Keeps s0 x4 := by
    unfold x4
    repeat' first | with_reducible assumption | with_reducible refine State.forChans_keeps _ _ _ (fun _ _ _ => ?_) ?_ | with_reducible apply State.collect_keeps | with_reducible apply State.revokeStop_keeps | with_reducible apply State.discardChan_keeps | with_reducible apply State.dropSlot_keeps | with_reducible apply State.leaseEndEvt_keeps | split
  try clear_value x4
  have kx5 : Keeps s0 x5 := by
    unfold x5
    repeat' first | with_reducible assumption | with_reducible refine State.forChans_keeps _ _ _ (fun _ _ _ => ?_) ?_ | with_reducible apply State.collect_keeps | with_reducible apply State.revokeStop_keeps | with_reducible apply State.discardChan_keeps
  try clear_value x5
  have kx6 : Keeps s0 x6 := by
    unfold x6
    repeat' first | with_reducible assumption | with_reducible refine State.forChans_keeps _ _ _ (fun _ _ _ => ?_) ?_ | with_reducible apply State.collect_keeps | with_reducible apply State.revokeStop_keeps | with_reducible apply State.discardChan_keeps | with_reducible apply State.dropSlot_keeps
  try clear_value x6
  have kx7 : Keeps s0 x7 := by
    unfold x7
    repeat' first | with_reducible assumption | with_reducible refine State.forChans_keeps _ _ _ (fun _ _ _ => ?_) ?_ | with_reducible apply State.collect_keeps | with_reducible apply State.revokeStop_keeps | with_reducible apply State.discardChan_keeps | with_reducible apply State.dropSlot_keeps | with_reducible apply State.leaseEndEvt_keeps | split | simp only [Keeps.mk_iff]
  try clear_value x7
  repeat' first | with_reducible assumption | with_reducible refine State.forChans_keeps _ _ _ (fun _ _ _ => ?_) ?_ | with_reducible apply State.collect_keeps | with_reducible apply State.revokeStop_keeps | with_reducible apply State.discardChan_keeps | with_reducible apply State.dropSlot_keeps | with_reducible apply State.leaseEndEvt_keeps

theorem State.newLease_keeps {s0 : State} (s : State) (a1 a2 a3) (h : Keeps s0 s) : Keeps s0 (State.newLease s a1 a2 a3) := by
  unfold State.newLease
  extract_lets x1 x2 x3 x4 x5 x6
  have kx4 : Keeps s0 x4 := by
    unfold x4
    repeat' first | with_reducible assumption | with_reducible apply State.leaseRegs_keeps | with_reducible refine State.forChans_keeps _ _ _ (fun _ _ _ => ?_) ?_ | with_reducible apply State.onChan_keeps | with_reducible apply State.leaseEvt_keeps | split | simp only [Keeps.mk_iff]
  try clear_value x4
  have kx5 : Keeps s0 x5 := by
    unfold x5
    repeat' first | with_reducible assumption | with_reducible apply State.leaseRegs_keeps
  try clear_value x5
  have kx6 : Keeps s0 x6 := by
    unfold x6
    repeat' first | with_reducible assumption | with_reducible apply State.leaseRegs_keeps | with_reducible refine State.forChans_keeps _ _ _ (fun _ _ _ => ?_) ?_ | with_reducible apply State.onChan_keeps
  try clear_value x6
  repeat' first | with_reducible assumption | with_reducible apply State.leaseRegs_keeps | with_reducible refine State.forChans_keeps _ _ _ (fun _ _ _ => ?_) ?_ | with_reducible apply State.onChan_keeps | with_reducible apply State.leaseEvt_keeps

theorem State.doGrant_keeps {s0 : State} (s : State) (a1 a2) (h : Keeps s0 s) : Keeps s0 (State.doGrant s a1 a2).1 := by
  unfold State.doGrant
  extract_lets x1
  repeat' first | with_reducible assumption | with_reducible apply State.no_keeps | with_reducible refine State.stored_keeps _ _ _ (fun _ _ => ?_) ?_ | with_reducible apply State.endLease_keeps | with_reducible refine State.forChans_keeps _ _ _ (fun _ _ _ => ?_) ?_ | with_reducible apply State.collect_keeps | with_reducible apply State.ok_keeps | with_reducible apply State.settle_keeps | with_reducible apply State.newLease_keeps | split | simp only [Keeps.mk_iff] | with_reducible refine Keeps.foldl (fun _ _ _ => ?_) ?_

theorem State.doModify_keeps {s0 : State} (s : State) (a1 a2) (h : Keeps s0 s) : Keeps s0 (State.doModify s a1 a2).1 := by
  unfold State.doModify
  repeat' first | with_reducible assumption | with_reducible refine State.stored_keeps _ _ _ (fun _ _ => ?_) ?_ | with_reducible apply State.onLease_keeps | with_reducible refine State.forChans_keeps _ _ _ (fun _ _ _ => ?_) ?_ | with_reducible apply State.setReg_keeps | with_reducible apply State.ok_keeps | with_reducible apply State.leaseEvt_keeps

theorem State.doLeaseEnd_keeps {s0 : State} (s : State) (a1) (h : Keeps s0 s) : Keeps s0 (State.doLeaseEnd s a1).1 := by
  unfold State.doLeaseEnd
  repeat' first | with_reducible assumption | with_reducible apply State.no_keeps | with_reducible refine State.stored_keeps _ _ _ (fun _ _ => ?_) ?_ | with_reducible apply State.endLease_keeps | with_reducible apply State.okWith_keeps | with_reducible apply State.settle_keeps | split | simp only

theorem State.doLeaseRead_keeps {s0 : State} (s : State) (a1) (h : Keeps s0 s) : Keeps s0 (State.doLeaseRead s a1).1 := by
  unfold State.doLeaseRead
  repeat' first | with_reducible assumption | with_reducible apply State.okWith_keeps | with_reducible apply State.no_keeps | split

theorem State.doProgWrite_keeps {s0 : State} (s : State) (a1 a2) (h : Keeps s0 s) : Keeps s0 (State.doProgWrite s a1 a2).1 := by
  unfold State.doProgWrite
  repeat' first | with_reducible assumption | with_reducible apply State.ok_keeps | with_reducible apply State.onProg_keeps

theorem State.doProgLen_keeps {s0 : State} (s : State) (a1 a2) (h : Keeps s0 s) : Keeps s0 (State.doProgLen s a1 a2).1 := by
  unfold State.doProgLen
  repeat' first | with_reducible assumption | with_reducible apply State.ok_keeps | with_reducible apply State.onProg_keeps

theorem State.doProgRead_keeps {s0 : State} (s : State) (a1 a2 a3 a4) (h : Keeps s0 s) : Keeps s0 (State.doProgRead s a1 a2 a3 a4).1 := by
  unfold State.doProgRead
  extract_lets x1 x2
  repeat' first | with_reducible assumption

theorem State.doDiscard_keeps {s0 : State} (s : State) (a1) (h : Keeps s0 s) : Keeps s0 (State.doDiscard s a1).1 := by
  unfold State.doDiscard
  repeat' first | with_reducible assumption | with_reducible apply State.ok_keeps | with_reducible apply State.onProg_keeps

theorem State.doCommit_keeps {s0 : State} (s : State) (a1 a2 a3) (h : Keeps s0 s) : Keeps s0 (State.doCommit s a1 a2 a3).1 := by
  unfold State.doCommit
  extract_lets x1
  repeat' first | with_reducible assumption | with_reducible apply State.noAt_keeps | with_reducible apply State.okWith_keeps | with_reducible apply State.later_keeps | with_reducible apply State.onProg_keeps | split

theorem State.doVarWrite_keeps {s0 : State} (s : State) (a1 a2) (h : Keeps s0 s) : Keeps s0 (State.doVarWrite s a1 a2).1 := by
  unfold State.doVarWrite
  repeat' first | with_reducible assumption | with_reducible apply State.ok_keeps | with_reducible apply State.onProg_keeps

theorem State.doVarRead_keeps {s0 : State} (s : State) (a1) (h : Keeps s0 s) : Keeps s0 (State.doVarRead s a1).1 := by
  unfold State.doVarRead
  repeat' first | with_reducible assumption | with_reducible apply State.okWith_keeps

theorem State.doSignal_keeps {s0 : State} (s : State) (a1 a2) (h : Keeps s0 s) : Keeps s0 (State.doSignal s a1 a2).1 := by
  unfold State.doSignal
  extract_lets x1
  repeat' first | with_reducible assumption | with_reducible apply State.ok_keeps | with_reducible apply State.onProg_keeps | split | simp only | with_reducible refine Keeps.foldl (fun _ _ _ => ?_) ?_

theorem State.chanDone_keeps {s0 : State} (s : State) (a1) (h : Keeps s0 s) : Keeps s0 (State.chanDone s a1).1 := by
  unfold State.chanDone
  extract_lets x1
  have kx1 : Keeps s0 x1 := by
    unfold x1
    repeat' first | with_reducible assumption | with_reducible apply State.refreshMode_keeps
  try clear_value x1
  repeat' first | with_reducible assumption | with_reducible apply State.refreshMode_keeps | with_reducible apply State.okWith_keeps

theorem State.releasedNo_keeps {s0 : State} (s : State) (a1) (h : Keeps s0 s) : Keeps s0 (State.releasedNo s a1).1 := by
  unfold State.releasedNo
  repeat' first | with_reducible assumption | with_reducible apply State.no_keeps

theorem State.startChan_keeps {s0 : State} (s : State) (a1 a2 a3) (h : Keeps s0 s) : Keeps s0 (State.startChan s a1 a2 a3) := by
  unfold State.startChan
  extract_lets x1 x2
  have kx1 : Keeps s0 x1 := by
    unfold x1
    repeat' first | with_reducible assumption | with_reducible apply State.faultStop_keeps | with_reducible apply State.onProg_keeps
  try clear_value x1
  have kx2 : Keeps s0 x2.1 := by
    unfold x2
    repeat' first | with_reducible assumption | with_reducible apply State.faultStop_keeps | with_reducible apply State.onProg_keeps | with_reducible apply State.beginSettle_keeps
  try clear_value x2
  repeat' first | with_reducible assumption | with_reducible apply State.faultStop_keeps | with_reducible apply State.onProg_keeps | with_reducible apply State.beginSettle_keeps | with_reducible apply State.goSwitch_keeps | with_reducible apply State.firstStep_keeps | split

theorem State.lehrRamp_keeps {s0 : State} (s : State) (a1) (h : Keeps s0 s) : Keeps s0 (State.lehrRamp s a1) := by
  unfold State.lehrRamp
  repeat' first | with_reducible assumption | with_reducible apply State.rampStop_keeps | split

theorem State.doStart_keeps {s0 : State} (s : State) (a1 a2 a3) (h : Keeps s0 s) : Keeps s0 (State.doStart s a1 a2 a3).1 := by
  unfold State.doStart
  extract_lets x1
  repeat' first | with_reducible assumption | with_reducible apply State.releasedNo_keeps | with_reducible apply State.no_keeps | with_reducible apply State.chanDone_keeps | with_reducible apply State.lehrRamp_keeps | with_reducible apply State.startChan_keeps | split

theorem State.dropPaused_keeps {s0 : State} (s : State) (a1) (h : Keeps s0 s) : Keeps s0 (State.dropPaused s a1) := by
  unfold State.dropPaused
  extract_lets x1
  have kx1 : Keeps s0 x1 := by
    unfold x1
    repeat' first | with_reducible assumption | with_reducible apply State.onChan_keeps | with_reducible apply State.endProg_keeps
  try clear_value x1
  repeat' first | with_reducible assumption | with_reducible apply State.onChan_keeps | with_reducible apply State.endProg_keeps | with_reducible refine State.forChans_keeps _ _ _ (fun _ _ _ => ?_) ?_ | with_reducible apply State.setSt_keeps

theorem State.openCon_keeps {s0 : State} (s : State) (a1) (h : Keeps s0 s) : Keeps s0 (State.openCon s a1) := by
  unfold State.openCon
  repeat' first | with_reducible assumption | with_reducible refine State.forChans_keeps _ _ _ (fun _ _ _ => ?_) ?_ | with_reducible apply State.onLoop_keeps

theorem State.doStop_keeps {s0 : State} (s : State) (a1 a2) (h : Keeps s0 s) : Keeps s0 (State.doStop s a1 a2).1 := by
  unfold State.doStop
  extract_lets x1
  repeat' first | with_reducible assumption | with_reducible apply State.releasedNo_keeps | with_reducible apply State.chanDone_keeps | with_reducible apply State.openCon_keeps | with_reducible apply State.rampStop_keeps | with_reducible refine State.byCorr_keeps _ _ _ _ (fun _ _ => ?_) ?_ | with_reducible apply State.dropPaused_keeps | with_reducible apply State.cancelRetry_keeps | split

theorem State.doPause_keeps {s0 : State} (s : State) (a1 a2) (h : Keeps s0 s) : Keeps s0 (State.doPause s a1 a2).1 := by
  unfold State.doPause
  repeat' first | with_reducible assumption | with_reducible apply State.releasedNo_keeps | with_reducible apply State.chanDone_keeps | with_reducible apply State.rampStop_keeps | with_reducible apply State.no_keeps | split

theorem State.restartStep_keeps {s0 : State} (s : State) (a1) (h : Keeps s0 s) : Keeps s0 (State.restartStep s a1) := by
  unfold State.restartStep
  extract_lets x1
  have kx1 : Keeps s0 x1 := by
    unfold x1
    repeat' first | with_reducible assumption | with_reducible apply State.onProg_keeps
  try clear_value x1
  repeat' first | with_reducible assumption | with_reducible apply State.onProg_keeps | with_reducible apply State.onEst_keeps | split

theorem State.resumeChan_keeps {s0 : State} (s : State) (a1 a2 a3) (h : Keeps s0 s) : Keeps s0 (State.resumeChan s a1 a2 a3) := by
  unfold State.resumeChan
  extract_lets x1 x2
  have kx1 : Keeps s0 x1 := by
    unfold x1
    repeat' first | with_reducible assumption | with_reducible apply State.onChan_keeps
  try clear_value x1
  have kx2 : Keeps s0 x2 := by
    unfold x2
    repeat' first | with_reducible assumption | with_reducible apply State.onChan_keeps | with_reducible apply State.restartStep_keeps | with_reducible apply State.beginSettle_keeps | split
  try clear_value x2
  repeat' first | with_reducible assumption | with_reducible apply State.onChan_keeps | with_reducible apply State.restartStep_keeps | with_reducible apply State.beginSettle_keeps | split

theorem State.doResume_keeps {s0 : State} (s : State) (a1 a2 a3) (h : Keeps s0 s) : Keeps s0 (State.doResume s a1 a2 a3).1 := by
  unfold State.doResume
  repeat' first | with_reducible assumption | with_reducible apply State.releasedNo_keeps | with_reducible apply State.chanDone_keeps | with_reducible apply State.lehrRamp_keeps | with_reducible apply State.resumeChan_keeps | with_reducible apply State.no_keeps | split

theorem State.clearChan_keeps {s0 : State} (s : State) (a1) (h : Keeps s0 s) : Keeps s0 (State.clearChan s a1) := by
  unfold State.clearChan
  extract_lets x1
  have kx1 : Keeps s0 x1 := by
    unfold x1
    repeat' first | with_reducible assumption | with_reducible apply State.endProg_keeps
  try clear_value x1
  repeat' first | with_reducible assumption | with_reducible apply State.endProg_keeps | with_reducible refine State.forChans_keeps _ _ _ (fun _ _ _ => ?_) ?_ | with_reducible apply State.onLoop_keeps | with_reducible apply State.setSt_keeps | with_reducible apply State.onProt_keeps

theorem State.doClear_keeps {s0 : State} (s : State) (a1 a2) (h : Keeps s0 s) : Keeps s0 (State.doClear s a1 a2).1 := by
  unfold State.doClear
  extract_lets x1
  repeat' first | with_reducible assumption | with_reducible apply State.releasedNo_keeps | with_reducible apply State.chanDone_keeps | with_reducible apply State.no_keeps | with_reducible refine State.byCorr_keeps _ _ _ _ (fun _ _ => ?_) ?_ | with_reducible apply State.clearChan_keeps | split

theorem State.measCfgOne_keeps {s0 : State} (s : State) (a1 a2 a3 a4 a5 a6) (h : Keeps s0 s) : Keeps s0 (State.measCfgOne s a1 a2 a3 a4 a5 a6) := by
  unfold State.measCfgOne
  extract_lets x1 x2
  have kx2 : Keeps s0 x2 := by
    unfold x2
    repeat' first | with_reducible assumption | with_reducible apply State.onMeas_keeps | with_reducible apply State.setFld_keeps | split
  try clear_value x2
  repeat' first | with_reducible assumption | with_reducible apply State.onMeas_keeps | with_reducible apply State.setFld_keeps | split

theorem State.doMeasCfg_keeps {s0 : State} (s : State) (a1 a2 a3 a4 a5 a6) (h : Keeps s0 s) : Keeps s0 (State.doMeasCfg s a1 a2 a3 a4 a5 a6).1 := by
  unfold State.doMeasCfg
  extract_lets x1 x2
  have kx2 : Keeps s0 x2 := by
    unfold x2
    repeat' first | with_reducible assumption | with_reducible refine State.forChans_keeps _ _ _ (fun _ _ _ => ?_) ?_ | with_reducible apply State.measCfgOne_keeps
  try clear_value x2
  repeat' first | with_reducible assumption | with_reducible refine State.forChans_keeps _ _ _ (fun _ _ _ => ?_) ?_ | with_reducible apply State.measCfgOne_keeps | with_reducible apply State.okWith_keeps

theorem State.doMeasRead_keeps {s0 : State} (s : State) (a1) (h : Keeps s0 s) : Keeps s0 (State.doMeasRead s a1).1 := by
  unfold State.doMeasRead
  extract_lets x1
  repeat' first | with_reducible assumption | with_reducible apply State.okWith_keeps

theorem State.doCoefRead_keeps {s0 : State} (s : State) (a1 a2 a3) (h : Keeps s0 s) : Keeps s0 (State.doCoefRead s a1 a2 a3).1 := by
  unfold State.doCoefRead
  extract_lets x1 x2
  repeat' first | with_reducible assumption | with_reducible apply State.okWith_keeps

theorem State.doChRead_keeps {s0 : State} (s : State) (a1) (h : Keeps s0 s) : Keeps s0 (State.doChRead s a1).1 := by
  unfold State.doChRead
  repeat' first | with_reducible assumption | with_reducible apply State.okWith_keeps

theorem State.onEstAt_keeps {s0 : State} (s : State) (a1 a2) (h : Keeps s0 s) : Keeps s0 (State.onEstAt s a1 a2) := by
  unfold State.onEstAt
  repeat' first | with_reducible assumption | with_reducible apply State.onEst_keeps | with_reducible apply State.onPwr_keeps | split

theorem State.doEstSet_keeps {s0 : State} (s : State) (a1 a2) (h : Keeps s0 s) : Keeps s0 (State.doEstSet s a1 a2).1 := by
  unfold State.doEstSet
  repeat' first | with_reducible assumption | with_reducible apply State.ok_keeps | with_reducible apply State.onEstAt_keeps

theorem State.doOcvTable_keeps {s0 : State} (s : State) (a1 a2) (h : Keeps s0 s) : Keeps s0 (State.doOcvTable s a1 a2).1 := by
  unfold State.doOcvTable
  repeat' first | with_reducible assumption | with_reducible apply State.ok_keeps | with_reducible apply State.onEstAt_keeps

theorem State.doEstRead_keeps {s0 : State} (s : State) (a1 a2) (h : Keeps s0 s) : Keeps s0 (State.doEstRead s a1 a2).1 := by
  unfold State.doEstRead
  extract_lets x1 x2 x3
  repeat' first | with_reducible assumption | with_reducible apply State.okWith_keeps

theorem State.doRelearn_keeps {s0 : State} (s : State) (a1) (h : Keeps s0 s) : Keeps s0 (State.doRelearn s a1).1 := by
  unfold State.doRelearn
  extract_lets x1 x2
  have kx2 : Keeps s0 x2 := by
    unfold x2
    repeat' first | with_reducible assumption | with_reducible apply State.onEstAt_keeps
  try clear_value x2
  repeat' first | with_reducible assumption | with_reducible apply State.onEstAt_keeps | with_reducible apply State.ok_keeps | with_reducible apply State.estEvt_keeps | split

theorem State.doCounterRead_keeps {s0 : State} (s : State) (a1 a2) (h : Keeps s0 s) : Keeps s0 (State.doCounterRead s a1 a2).1 := by
  unfold State.doCounterRead
  extract_lets x1 x2
  repeat' first | with_reducible assumption | with_reducible apply State.okWith_keeps

theorem State.doMeterRead_keeps {s0 : State} (s : State) (a1) (h : Keeps s0 s) : Keeps s0 (State.doMeterRead s a1).1 := by
  unfold State.doMeterRead
  extract_lets x1 x2
  repeat' first | with_reducible assumption | with_reducible apply State.okWith_keeps

theorem State.doMeterClose_keeps {s0 : State} (s : State) (h : Keeps s0 s) : Keeps s0 (State.doMeterClose s).1 := by
  unfold State.doMeterClose
  repeat' first | with_reducible assumption | with_reducible apply State.ok_keeps | with_reducible apply State.closeBilling_keeps

theorem State.doMeterLimits_keeps {s0 : State} (s : State) (a1 a2) (h : Keeps s0 s) : Keeps s0 (State.doMeterLimits s a1 a2).1 := by
  unfold State.doMeterLimits
  repeat' first | with_reducible assumption | with_reducible refine State.stored_keeps _ _ _ (fun _ _ => ?_) ?_ | with_reducible apply State.ok_keeps | with_reducible apply State.setReg_keeps

theorem State.doMeterSched_keeps {s0 : State} (s : State) (a1 a2) (h : Keeps s0 s) : Keeps s0 (State.doMeterSched s a1 a2).1 := by
  unfold State.doMeterSched
  repeat' first | with_reducible assumption | with_reducible refine State.stored_keeps _ _ _ (fun _ _ => ?_) ?_ | with_reducible apply State.ok_keeps | with_reducible apply State.writeSched_keeps | split | simp only | with_reducible refine Keeps.foldl (fun _ _ _ => ?_) ?_

theorem State.doLedgerRead_keeps {s0 : State} (s : State) (a1) (h : Keeps s0 s) : Keeps s0 (State.doLedgerRead s a1).1 := by
  unfold State.doLedgerRead
  extract_lets x1 x2 x3 x4 x5 x6
  repeat' first | with_reducible assumption | with_reducible apply State.okWith_keeps

theorem State.doLedgerFetch_keeps {s0 : State} (s : State) (a1 a2 a3 a4 a5 a6) (h : Keeps s0 s) : Keeps s0 (State.doLedgerFetch s a1 a2 a3 a4 a5 a6).1 := by
  unfold State.doLedgerFetch
  extract_lets x1 x2
  have kx2 : Keeps s0 x2 := by
    unfold x2
    repeat' first | with_reducible assumption | with_reducible apply State.no_keeps | with_reducible apply State.onLed_keeps
  try clear_value x2
  repeat' first | with_reducible assumption | with_reducible apply State.no_keeps | with_reducible apply State.onLed_keeps | with_reducible apply State.onQueue_keeps | split

theorem State.doLedgerRetain_keeps {s0 : State} (s : State) (a1 a2) (h : Keeps s0 s) : Keeps s0 (State.doLedgerRetain s a1 a2).1 := by
  unfold State.doLedgerRetain
  extract_lets x1
  repeat' first | with_reducible assumption | with_reducible refine State.stored_keeps _ _ _ (fun _ _ => ?_) ?_ | with_reducible apply State.ok_keeps | with_reducible apply State.onLed_keeps

theorem State.doLedgerSeal_keeps {s0 : State} (s : State) (a1) (h : Keeps s0 s) : Keeps s0 (State.doLedgerSeal s a1).1 := by
  unfold State.doLedgerSeal
  extract_lets x1 x2 x3 x4 x5
  have kx3 : Keeps s0 x3 := by
    unfold x3
    repeat' first | with_reducible assumption | with_reducible apply State.no_keeps | with_reducible apply State.onTenant_keeps | with_reducible apply State.writeOut_keeps | with_reducible apply State.sealStream_keeps
  try clear_value x3
  repeat' first | with_reducible assumption | with_reducible apply State.no_keeps | with_reducible apply State.onTenant_keeps | with_reducible apply State.writeOut_keeps | with_reducible apply State.sealStream_keeps | with_reducible apply State.okWith_keeps | with_reducible apply State.later_keeps | with_reducible apply State.onLed_keeps | split

theorem State.doPairRead_keeps {s0 : State} (s : State) (h : Keeps s0 s) : Keeps s0 (State.doPairRead s).1 := by
  unfold State.doPairRead
  extract_lets x1
  repeat' first | with_reducible assumption | with_reducible apply State.okWith_keeps

theorem State.doHandover_keeps {s0 : State} (s : State) (a1 a2) (h : Keeps s0 s) : Keeps s0 (State.doHandover s a1 a2).1 := by
  unfold State.doHandover
  repeat' first | with_reducible assumption | with_reducible apply State.no_keeps | with_reducible apply State.later_keeps | with_reducible apply State.onPair_keeps | with_reducible apply State.sendZl_keeps | split

theorem State.doTimeRead_keeps {s0 : State} (s : State) (a1) (h : Keeps s0 s) : Keeps s0 (State.doTimeRead s a1).1 := by
  unfold State.doTimeRead
  extract_lets x1 x2 x3
  repeat' first | with_reducible assumption | with_reducible apply State.okWith_keeps

theorem State.doTimeSet_keeps {s0 : State} (s : State) (a1 a2 a3) (h : Keeps s0 s) : Keeps s0 (State.doTimeSet s a1 a2 a3).1 := by
  unfold State.doTimeSet
  extract_lets x1
  have kx1 : Keeps s0 x1 := by
    unfold x1
    repeat' first | with_reducible assumption | with_reducible apply State.loadTime_keeps | with_reducible apply State.ok_keeps | with_reducible apply State.loadWday_keeps | split
  try clear_value x1
  repeat' first | with_reducible assumption | with_reducible apply State.loadTime_keeps | with_reducible apply State.ok_keeps | with_reducible apply State.loadWday_keeps | split

theorem State.doSummer_keeps {s0 : State} (s : State) (a1 a2) (h : Keeps s0 s) : Keeps s0 (State.doSummer s a1 a2).1 := by
  unfold State.doSummer
  repeat' first | with_reducible assumption | with_reducible apply State.no_keeps | with_reducible apply State.later_keeps | with_reducible apply State.onTime_keeps | split

theorem State.doWakeSet_keeps {s0 : State} (s : State) (a1 a2 a3 a4) (h : Keeps s0 s) : Keeps s0 (State.doWakeSet s a1 a2 a3 a4).1 := by
  unfold State.doWakeSet
  repeat' first | with_reducible assumption | with_reducible apply State.ok_keeps | with_reducible apply State.onTime_keeps | with_reducible apply State.setFld_keeps | with_reducible apply State.setReg_keeps | split

theorem State.doCalTrim_keeps {s0 : State} (s : State) (a1) (h : Keeps s0 s) : Keeps s0 (State.doCalTrim s a1).1 := by
  unfold State.doCalTrim
  repeat' first | with_reducible assumption | with_reducible apply State.ok_keeps | with_reducible apply State.setTrim_keeps

theorem State.doPowerRead_keeps {s0 : State} (s : State) (h : Keeps s0 s) : Keeps s0 (State.doPowerRead s).1 := by
  unfold State.doPowerRead
  extract_lets x1
  repeat' first | with_reducible assumption | with_reducible apply State.okWith_keeps

theorem State.doShip_keeps {s0 : State} (s : State) (h : Keeps s0 s) : Keeps s0 (State.doShip s).1 := by
  unfold State.doShip
  repeat' first | with_reducible assumption | with_reducible apply State.no_keeps | with_reducible apply State.ok_keeps | with_reducible apply State.settle_keeps | with_reducible apply State.enterLehr_keeps | split

theorem State.doWarmReset_keeps {s0 : State} (s : State) (a1) (h : Keeps s0 s) : Keeps s0 (State.doWarmReset s a1).1 := by
  unfold State.doWarmReset
  extract_lets x1
  repeat' first | with_reducible assumption | with_reducible apply State.ok_keeps | split | simp only [Keeps.mk_iff]

theorem State.doBlockReset_keeps {s0 : State} (s : State) (a1 a2) (h : Keeps s0 s) : Keeps s0 (State.doBlockReset s a1 a2).1 := by
  unfold State.doBlockReset
  extract_lets x1 x2 x3 x4 x5
  have kx3 : Keeps s0 x3 := by
    unfold x3
    repeat' first | with_reducible assumption | with_reducible apply State.no_keeps | with_reducible apply State.later_keeps | with_reducible apply State.quiesce_keeps | split | simp only [Keeps.mk_iff]
  try clear_value x3
  have kx5 : Keeps s0 x5 := by
    unfold x5
    repeat' first | with_reducible assumption | with_reducible apply State.no_keeps | with_reducible apply State.later_keeps | with_reducible apply State.quiesce_keeps | split | simp only [Keeps.mk_iff]
  try clear_value x5
  repeat' first | with_reducible assumption | with_reducible apply State.no_keeps | with_reducible apply State.later_keeps | with_reducible apply State.quiesce_keeps | split

theorem State.doEnter_keeps {s0 : State} (s : State) (h : Keeps s0 s) : Keeps s0 (State.doEnter s).1 := by
  unfold State.doEnter
  repeat' first | with_reducible assumption | with_reducible apply State.no_keeps | with_reducible apply State.ok_keeps | with_reducible apply State.settle_keeps | with_reducible apply State.enterMode_keeps | split

theorem State.doExit_keeps {s0 : State} (s : State) (h : Keeps s0 s) : Keeps s0 (State.doExit s).1 := by
  unfold State.doExit
  repeat' first | with_reducible assumption | with_reducible apply State.no_keeps | with_reducible apply State.ok_keeps | with_reducible apply State.settle_keeps | with_reducible apply State.enterMode_keeps | split

theorem State.doHouseClear_keeps {s0 : State} (s : State) (h : Keeps s0 s) : Keeps s0 (State.doHouseClear s).1 := by
  unfold State.doHouseClear
  extract_lets x1 x2 x3 x4
  have kx2 : Keeps s0 x2 := by
    unfold x2
    repeat' first | with_reducible assumption | with_reducible apply State.onPair_keeps | with_reducible apply State.ok_keeps | with_reducible apply State.settle_keeps | with_reducible apply State.enterMode_keeps | split | simp only [Keeps.mk_iff]
  try clear_value x2
  have kx3 : Keeps s0 x3 := by
    unfold x3
    repeat' first | with_reducible assumption | with_reducible apply State.onPair_keeps | with_reducible apply State.ok_keeps | with_reducible apply State.settle_keeps | with_reducible apply State.enterMode_keeps | split | simp only [Keeps.mk_iff]
  try clear_value x3
  have kx4 : Keeps s0 x4 := by
    unfold x4
    repeat' first | with_reducible assumption | with_reducible apply State.onPair_keeps
  try clear_value x4
  repeat' first | with_reducible assumption | with_reducible apply State.onPair_keeps | with_reducible apply State.ok_keeps | with_reducible apply State.settle_keeps | with_reducible apply State.enterMode_keeps

theorem State.doFaultAck_keeps {s0 : State} (s : State) (a1) (h : Keeps s0 s) : Keeps s0 (State.doFaultAck s a1).1 := by
  unfold State.doFaultAck
  repeat' first | with_reducible assumption | with_reducible apply State.ok_keeps | with_reducible apply State.settle_keeps | with_reducible apply State.ackFault_keeps

theorem State.doSelftest_keeps {s0 : State} (s : State) (a1 a2 a3) (h : Keeps s0 s) : Keeps s0 (State.doSelftest s a1 a2 a3).1 := by
  unfold State.doSelftest
  extract_lets x1
  repeat' first | with_reducible assumption | with_reducible apply State.later_keeps | with_reducible apply State.onGat_keeps | with_reducible apply State.refreshMode_keeps | split

theorem State.doRefcheck_keeps {s0 : State} (s : State) (a1 a2) (h : Keeps s0 s) : Keeps s0 (State.doRefcheck s a1 a2).1 := by
  unfold State.doRefcheck
  extract_lets x1
  have kx1 : Keeps s0 x1 := by
    unfold x1
    repeat' first | with_reducible assumption | with_reducible apply State.okWith_keeps | with_reducible apply State.refreshMode_keeps | with_reducible apply State.syncHold_keeps | with_reducible apply State.onGat_keeps | with_reducible apply State.fault_keeps | with_reducible apply State.merr_keeps
  try clear_value x1
  repeat' first | with_reducible assumption | with_reducible apply State.okWith_keeps | with_reducible apply State.refreshMode_keeps | with_reducible apply State.syncHold_keeps | with_reducible apply State.onGat_keeps | with_reducible apply State.fault_keeps | with_reducible apply State.merr_keeps | split

theorem State.unretire_keeps {s0 : State} (s : State) (a1 a2 a3) (h : Keeps s0 s) : Keeps s0 (State.unretire s a1 a2 a3) := by
  unfold State.unretire
  extract_lets x1 x2
  have k1 : Keeps s0 x1 := State.onGat_keeps _ _ _ h
  have k2 : ∀ b x, Keeps s0 x → Keeps s0 (x2 b x) := fun b x hx => by
    unfold x2
    dsimp only
    split
    · exact State.onGat_keeps _ _ _ (State.seat_keeps _ _ _ _ hx)
    · exact hx
  split
  · exact State.onGat_keeps _ _ _ k1
  · exact k2 _ _ (k2 _ _ k1)

theorem State.doRetest_keeps {s0 : State} (s : State) (a1 a2 a3 a4) (h : Keeps s0 s) : Keeps s0 (State.doRetest s a1 a2 a3 a4).1 := by
  unfold State.doRetest
  repeat' first | with_reducible assumption | with_reducible refine State.stored_keeps _ _ _ (fun _ _ => ?_) ?_ | with_reducible apply State.okWith_keeps | with_reducible apply State.trySwap_keeps | with_reducible apply State.syncHold_keeps | with_reducible apply State.unretire_keeps | split

theorem State.doNvmStat_keeps {s0 : State} (s : State) (h : Keeps s0 s) : Keeps s0 (State.doNvmStat s).1 := by
  unfold State.doNvmStat
  repeat' first | with_reducible assumption | with_reducible apply State.okWith_keeps

theorem State.doNvmScrub_keeps {s0 : State} (s : State) (h : Keeps s0 s) : Keeps s0 (State.doNvmScrub s).1 := by
  unfold State.doNvmScrub
  extract_lets x1
  repeat' first | with_reducible assumption | with_reducible apply State.ok_keeps | with_reducible apply State.rewriteRow_keeps | split | simp only [Keeps.mk_iff] | with_reducible refine Keeps.foldl (fun _ _ _ => ?_) ?_

theorem State.doSetTimes_keeps {s0 : State} (s : State) (a1 a2) (h : Keeps s0 s) : Keeps s0 (State.doSetTimes s a1 a2).1 := by
  unfold State.doSetTimes
  extract_lets x1
  repeat' first | with_reducible assumption | with_reducible apply State.okWith_keeps | with_reducible refine State.stored_keeps _ _ _ (fun _ _ => ?_) ?_ | split | simp only [Keeps.mk_iff]

theorem State.calSend_keeps {s0 : State} (s : State) (a1 a2 a3 a4) (h : Keeps s0 s) : Keeps s0 (State.calSend s a1 a2 a3 a4) := by
  unfold State.calSend
  extract_lets x1
  have kx1 : Keeps s0 x1 := by
    unfold x1
    repeat' first | with_reducible assumption | with_reducible apply State.onMeas_keeps
  try clear_value x1
  repeat' first | with_reducible assumption | with_reducible apply State.onMeas_keeps | with_reducible apply State.calSwitch_keeps | split

theorem State.doCalWrite_keeps {s0 : State} (s : State) (a1 a2) (h : Keeps s0 s) : Keeps s0 (State.doCalWrite s a1 a2).1 := by
  unfold State.doCalWrite
  extract_lets x1 x2
  repeat' first | with_reducible assumption | with_reducible apply State.okWith_keeps | with_reducible refine State.stored_keeps _ _ _ (fun _ _ => ?_) ?_ | with_reducible apply State.later_keeps | with_reducible refine State.forChans_keeps _ _ _ (fun _ _ _ => ?_) ?_ | with_reducible apply State.calSend_keeps | split | simp only [Keeps.mk_iff]

theorem State.doFwData_keeps {s0 : State} (s : State) (a1 a2) (h : Keeps s0 s) : Keeps s0 (State.doFwData s a1 a2).1 := by
  unfold State.doFwData
  extract_lets x1 x2 x3
  repeat' first | with_reducible assumption | with_reducible apply State.ok_keeps | split | simp only [Keeps.mk_iff]

theorem State.doFwFinish_keeps {s0 : State} (s : State) (a1) (h : Keeps s0 s) : Keeps s0 (State.doFwFinish s a1).1 := by
  unfold State.doFwFinish
  extract_lets x1 x2
  repeat' first | with_reducible assumption | with_reducible apply State.ok_keeps | with_reducible apply State.no_keeps | split | simp only [Keeps.mk_iff]

theorem State.doFwAbandon_keeps {s0 : State} (s : State) (h : Keeps s0 s) : Keeps s0 (State.doFwAbandon s).1 := by
  unfold State.doFwAbandon
  repeat' first | with_reducible assumption | with_reducible apply State.ok_keeps | split | simp only [Keeps.mk_iff]

theorem State.regWords_keeps {s0 : State} (s : State) (a1 a2) (h : Keeps s0 s) : Keeps s0 (State.regWords s a1 a2).2 := by
  induction a2 with
  | zero => unfold State.regWords; exact h
  | succ n ih =>
    unfold State.regWords
    exact State.regRead_keeps _ _ ih

theorem State.doRegRead_keeps {s0 : State} (s : State) (a1 a2) (h : Keeps s0 s) : Keeps s0 (State.doRegRead s a1 a2).1 := by
  unfold State.doRegRead
  extract_lets x1
  have kx1 : Keeps s0 x1.2 := by
    unfold x1
    repeat' first | with_reducible assumption | with_reducible apply State.noAt_keeps | with_reducible apply State.regWords_keeps
  try clear_value x1
  repeat' first | with_reducible assumption | with_reducible apply State.noAt_keeps | with_reducible apply State.regWords_keeps | with_reducible apply State.okWith_keeps | split

theorem State.writeWords_keeps {s0 : State} (s : State) (a1 a2) (h : Keeps s0 s) : Keeps s0 (State.writeWords s a1 a2).2 := by
  induction a2 generalizing s a1 with
  | nil => unfold State.writeWords; exact h
  | cons v l ih =>
    unfold State.writeWords
    refine ih _ _ (State.regRead_keeps _ _ ?_)
    split
    · exact State.regWrite_keeps _ _ _ h
    · exact h

theorem State.doRegWrite_keeps {s0 : State} (s : State) (a1 a2) (h : Keeps s0 s) : Keeps s0 (State.doRegWrite s a1 a2).1 := by
  unfold State.doRegWrite
  extract_lets x1
  repeat' first | with_reducible assumption | with_reducible apply State.writeWords_keeps | with_reducible apply State.okWith_keeps | with_reducible apply State.noAt_keeps | with_reducible refine State.stored_keeps _ _ _ (fun _ _ => ?_) ?_ | split

theorem onChanOf_keeps {s0 : State} (s : State) (a1 a2) (hf : ∀ c, Keeps s0 (a2 c).1) (h : Keeps s0 s) : Keeps s0 (onChanOf s a1 a2).1 := by
  unfold onChanOf
  split
  · exact hf _
  · exact State.no_keeps _ _ h

theorem onGatOf_keeps {s0 : State} (s : State) (a1 a2) (hf : ∀ g, Keeps s0 (a2 g).1) (h : Keeps s0 s) : Keeps s0 (onGatOf s a1 a2).1 := by
  unfold onGatOf
  split
  · exact hf _
  · exact State.no_keeps _ _ h

theorem State.apply_keeps {s0 : State} (s : State) (a1 a2) (h : Keeps s0 s) : Keeps s0 (State.apply s a1 a2).1 := by
  unfold State.apply
  extract_lets x1
  repeat' first | with_reducible assumption | with_reducible refine onChanOf_keeps _ _ _ (fun _ => ?_) ?_ | with_reducible apply State.doIdentify_keeps | with_reducible apply State.doStatus_keeps | with_reducible apply State.doQCreate_keeps | with_reducible apply State.doQDelete_keeps | with_reducible apply State.doQBind_keeps | with_reducible apply State.doQRoute_keeps | with_reducible apply State.doKeyWrite_keeps | with_reducible apply State.doKeyClear_keeps | with_reducible apply State.doTenantCreate_keeps | with_reducible apply State.doSuspend_keeps | with_reducible apply State.doResumeTenant_keeps | with_reducible apply State.doRemove_keeps | with_reducible apply State.doReenrol_keeps | with_reducible apply State.doQuota_keeps | with_reducible apply State.doGrant_keeps | with_reducible apply State.doModify_keeps | with_reducible apply State.doLeaseEnd_keeps | with_reducible apply State.doLeaseRead_keeps | with_reducible apply State.doTenantRead_keeps | with_reducible apply State.doProgWrite_keeps | with_reducible apply State.doProgLen_keeps | with_reducible apply State.doProgRead_keeps | with_reducible apply State.doDiscard_keeps | with_reducible apply State.doCommit_keeps | with_reducible apply State.doVarWrite_keeps | with_reducible apply State.doVarRead_keeps | with_reducible apply State.doSignal_keeps | with_reducible apply State.doStart_keeps | with_reducible apply State.doStop_keeps | with_reducible apply State.doPause_keeps | with_reducible apply State.doResume_keeps | with_reducible apply State.doClear_keeps | with_reducible apply State.doMeasCfg_keeps | with_reducible apply State.doMeasRead_keeps | with_reducible apply State.doCoefRead_keeps | with_reducible apply State.doChRead_keeps | with_reducible apply State.doEstSet_keeps | with_reducible apply State.doOcvTable_keeps | with_reducible apply State.doEstRead_keeps | with_reducible apply State.doRelearn_keeps | with_reducible apply State.doCounterRead_keeps | with_reducible apply State.doMeterRead_keeps | with_reducible apply State.doMeterClose_keeps | with_reducible apply State.doMeterLimits_keeps | with_reducible apply State.doMeterSched_keeps | with_reducible apply State.doLedgerRead_keeps | with_reducible apply State.doLedgerFetch_keeps | with_reducible apply State.doLedgerRetain_keeps | with_reducible apply State.doLedgerSeal_keeps | with_reducible apply State.doPairRead_keeps | with_reducible apply State.doHandover_keeps | with_reducible apply State.doTimeRead_keeps | with_reducible apply State.doTimeSet_keeps | with_reducible apply State.doSummer_keeps | with_reducible apply State.doWakeSet_keeps | with_reducible apply State.doCalTrim_keeps | with_reducible apply State.doPowerRead_keeps | with_reducible apply State.doShip_keeps | with_reducible apply State.doWarmReset_keeps | with_reducible apply State.doBlockReset_keeps | with_reducible apply State.doEnter_keeps | with_reducible apply State.doExit_keeps | with_reducible apply State.doHouseClear_keeps | with_reducible apply State.doFaultAck_keeps | with_reducible refine onGatOf_keeps _ _ _ (fun _ => ?_) ?_ | with_reducible apply State.doSelftest_keeps | with_reducible apply State.doRefcheck_keeps | with_reducible apply State.doRetest_keeps | with_reducible apply State.doNvmStat_keeps | with_reducible apply State.doNvmScrub_keeps | with_reducible apply State.doSetTimes_keeps | with_reducible apply State.doCalWrite_keeps | with_reducible apply State.doFwData_keeps | with_reducible apply State.doFwFinish_keeps | with_reducible apply State.doFwAbandon_keeps | with_reducible apply State.doRegRead_keeps | with_reducible apply State.doRegWrite_keeps | with_reducible apply State.no_keeps | with_reducible apply State.noAt_keeps | split

theorem State.complete_keeps {s0 : State} (s : State) (a1 a2 a3) (h : Keeps s0 s) : Keeps s0 (State.complete s a1 a2 a3) := by
  unfold State.complete
  repeat' first | with_reducible assumption | split | simp only [Keeps.mk_iff]

theorem State.wakeFor_keeps {s0 : State} (s : State) (a1) (h : Keeps s0 s) : Keeps s0 (State.wakeFor s a1) := by
  unfold State.wakeFor
  repeat' first | with_reducible assumption | with_reducible apply State.wakeEst_keeps | split

theorem State.byCommand_keeps {s0 : State} (s : State) (a1 a2) (h : Keeps s0 s) : Keeps s0 (State.byCommand s a1 a2) := by
  unfold State.byCommand
  extract_lets x1 x2
  have kx2 : Keeps s0 x2 := by
    unfold x2
    repeat' first | with_reducible assumption | with_reducible apply State.corrFrom_keeps
  try clear_value x2
  repeat' first | with_reducible assumption | with_reducible apply State.corrFrom_keeps | split | simp only [Keeps.mk_iff]

theorem State.runCmd_keeps {s0 : State} (s : State) (a1 a2) (h : Keeps s0 s) : Keeps s0 (State.runCmd s a1 a2) := by
  unfold State.runCmd
  extract_lets x1 x2
  have kx1 : Keeps s0 x1 := by
    unfold x1
    repeat' first | with_reducible assumption | with_reducible apply State.wakeFor_keeps
  try clear_value x1
  have kx2 : Keeps s0 x2.1 := by
    unfold x2
    repeat' first | with_reducible assumption | with_reducible apply State.wakeFor_keeps | with_reducible apply State.complete_keeps | with_reducible apply State.apply_keeps
  try clear_value x2
  repeat' first | with_reducible assumption | with_reducible apply State.wakeFor_keeps | with_reducible apply State.complete_keeps | with_reducible apply State.apply_keeps | with_reducible apply State.byCommand_keeps | split

theorem State.runOrWait_keeps {s0 : State} (s : State) (a1 a2) (h : Keeps s0 s) : Keeps s0 (State.runOrWait s a1 a2) := by
  unfold State.runOrWait
  repeat' first | with_reducible assumption | with_reducible apply State.runCmd_keeps | split | simp only [Keeps.mk_iff]

theorem State.runWaiting_keeps {s0 : State} (s : State) (h : Keeps s0 s) : Keeps s0 (State.runWaiting s) := by
  unfold State.runWaiting
  repeat' first | with_reducible assumption | with_reducible apply State.runOrWait_keeps | split | simp only [Keeps.mk_iff] | with_reducible refine Keeps.foldl (fun _ _ _ => ?_) ?_

theorem State.submit_keeps {s0 : State} (s : State) (a1 a2) (h : Keeps s0 s) : Keeps s0 (State.submit s a1 a2) := by
  unfold State.submit
  extract_lets x1 x2 x3
  have kx1 : Keeps s0 x1 := by
    unfold x1
    repeat' first | with_reducible assumption | with_reducible apply State.runWaiting_keeps | with_reducible apply State.fatalFirst_keeps
  try clear_value x1
  have kx3 : Keeps s0 x3 := by
    unfold x3
    repeat' first | with_reducible assumption | with_reducible apply State.runWaiting_keeps | with_reducible apply State.fatalFirst_keeps | with_reducible apply State.onQueue_keeps
  try clear_value x3
  repeat' first | with_reducible assumption | with_reducible apply State.runWaiting_keeps | with_reducible apply State.fatalFirst_keeps | with_reducible apply State.onQueue_keeps | with_reducible apply State.runOrWait_keeps | split

theorem execCommitSwap_keeps {s0 : State} (s : State) (a1) (h : Keeps s0 s) : KeepsOut s0 (execCommitSwap a1 s) := by
  unfold execCommitSwap
  extract_lets x1 x2
  have kx2 : Keeps s0 x2 := by
    unfold x2
    repeat' first | with_reducible assumption | with_reducible apply KeepsOut.next | with_reducible exact KeepsOut.fault | with_reducible apply State.onProg_keeps
  try clear_value x2
  repeat' first | with_reducible assumption | with_reducible apply KeepsOut.next | with_reducible exact KeepsOut.fault | with_reducible apply State.onProg_keeps | with_reducible apply State.runWaiting_keeps | with_reducible apply State.complete_keeps | with_reducible apply State.onGat_keeps | split

theorem execCommitBufferDrain_keeps {s0 : State} (s : State) (a1) (h : Keeps s0 s) : KeepsOut s0 (execCommitBufferDrain a1 s) := by
  unfold execCommitBufferDrain
  repeat' first | with_reducible assumption | with_reducible apply KeepsOut.next | with_reducible exact KeepsOut.fault | with_reducible apply State.runWaiting_keeps | with_reducible apply State.onGat_keeps

theorem execDeferredSelftestRun_keeps {s0 : State} (s : State) (a1) (h : Keeps s0 s) : KeepsOut s0 (execDeferredSelftestRun a1 s) := by
  unfold execDeferredSelftestRun
  extract_lets x1
  repeat' first | with_reducible assumption | with_reducible apply KeepsOut.next | with_reducible exact KeepsOut.fault | with_reducible apply State.refreshMode_keeps | with_reducible apply State.onGat_keeps | split

theorem State.testResult_keeps {s0 : State} (s : State) (a1 a2 a3 a4) (h : Keeps s0 s) : Keeps s0 (State.testResult s a1 a2 a3 a4) := by
  unfold State.testResult
  extract_lets x1
  have kx1 : Keeps s0 x1 := by
    unfold x1
    repeat' first | with_reducible assumption | with_reducible apply State.onGat_keeps
  try clear_value x1
  repeat' first | with_reducible assumption | with_reducible apply State.onGat_keeps | with_reducible apply State.onProt_keeps | with_reducible apply State.fault_keeps | split | simp only | with_reducible refine Keeps.foldl (fun _ _ _ => ?_) ?_

theorem execSelftestSlotEnd_keeps {s0 : State} (s : State) (a1 a2 a3) (h : Keeps s0 s) : KeepsOut s0 (execSelftestSlotEnd a1 a2 a3 s) := by
  unfold execSelftestSlotEnd
  extract_lets x1
  repeat' first | with_reducible assumption | with_reducible apply KeepsOut.next | with_reducible exact KeepsOut.fault | with_reducible apply State.onGat_keeps | with_reducible apply State.testResult_keeps | with_reducible apply State.selftestEvt_keeps | with_reducible apply State.complete_keeps | split

theorem execRegisterWrite_keeps {s0 : State} (s : State) (a1 a2) (h : Keeps s0 s) : KeepsOut s0 (execRegisterWrite a1 a2 s) := by
  unfold execRegisterWrite
  repeat' first | with_reducible assumption | with_reducible apply KeepsOut.next | with_reducible exact KeepsOut.fault | with_reducible apply State.regWrite_keeps | split

theorem execIdentify_keeps {s0 : State} (s : State) (a1) (h : Keeps s0 s) : KeepsOut s0 (execIdentify a1 s) := by
  unfold execIdentify
  repeat' first | with_reducible assumption | with_reducible apply KeepsOut.next | with_reducible exact KeepsOut.fault | with_reducible apply State.submit_keeps

theorem execStatus_keeps {s0 : State} (s : State) (a1) (h : Keeps s0 s) : KeepsOut s0 (execStatus a1 s) := by
  unfold execStatus
  repeat' first | with_reducible assumption | with_reducible apply KeepsOut.next | with_reducible exact KeepsOut.fault | with_reducible apply State.submit_keeps

theorem execQCreate_keeps {s0 : State} (s : State) (a1 a2 a3 a4 a5 a6) (h : Keeps s0 s) : KeepsOut s0 (execQCreate a1 a2 a3 a4 a5 a6 s) := by
  unfold execQCreate
  repeat' first | with_reducible assumption | with_reducible apply KeepsOut.next | with_reducible exact KeepsOut.fault | with_reducible apply State.submit_keeps

theorem execQDelete_keeps {s0 : State} (s : State) (a1 a2) (h : Keeps s0 s) : KeepsOut s0 (execQDelete a1 a2 s) := by
  unfold execQDelete
  repeat' first | with_reducible assumption | with_reducible apply KeepsOut.next | with_reducible exact KeepsOut.fault | with_reducible apply State.submit_keeps

theorem execQBind_keeps {s0 : State} (s : State) (a1 a2) (h : Keeps s0 s) : KeepsOut s0 (execQBind a1 a2 s) := by
  unfold execQBind
  repeat' first | with_reducible assumption | with_reducible apply KeepsOut.next | with_reducible exact KeepsOut.fault | with_reducible apply State.submit_keeps

theorem execQRoute_keeps {s0 : State} (s : State) (a1 a2 a3) (h : Keeps s0 s) : KeepsOut s0 (execQRoute a1 a2 a3 s) := by
  unfold execQRoute
  repeat' first | with_reducible assumption | with_reducible apply KeepsOut.next | with_reducible exact KeepsOut.fault | with_reducible apply State.submit_keeps

theorem execKeyWrite_keeps {s0 : State} (s : State) (a1 a2 a3) (h : Keeps s0 s) : KeepsOut s0 (execKeyWrite a1 a2 a3 s) := by
  unfold execKeyWrite
  repeat' first | with_reducible assumption | with_reducible apply KeepsOut.next | with_reducible exact KeepsOut.fault | with_reducible apply State.submit_keeps

theorem execKeyClear_keeps {s0 : State} (s : State) (a1 a2) (h : Keeps s0 s) : KeepsOut s0 (execKeyClear a1 a2 s) := by
  unfold execKeyClear
  repeat' first | with_reducible assumption | with_reducible apply KeepsOut.next | with_reducible exact KeepsOut.fault | with_reducible apply State.submit_keeps

theorem execTenantCreate_keeps {s0 : State} (s : State) (a1 a2) (h : Keeps s0 s) : KeepsOut s0 (execTenantCreate a1 a2 s) := by
  unfold execTenantCreate
  repeat' first | with_reducible assumption | with_reducible apply KeepsOut.next | with_reducible exact KeepsOut.fault | with_reducible apply State.submit_keeps

theorem execTenantSuspend_keeps {s0 : State} (s : State) (a1 a2) (h : Keeps s0 s) : KeepsOut s0 (execTenantSuspend a1 a2 s) := by
  unfold execTenantSuspend
  repeat' first | with_reducible assumption | with_reducible apply KeepsOut.next | with_reducible exact KeepsOut.fault | with_reducible apply State.submit_keeps

theorem execTenantResume_keeps {s0 : State} (s : State) (a1 a2) (h : Keeps s0 s) : KeepsOut s0 (execTenantResume a1 a2 s) := by
  unfold execTenantResume
  repeat' first | with_reducible assumption | with_reducible apply KeepsOut.next | with_reducible exact KeepsOut.fault | with_reducible apply State.submit_keeps

theorem execTenantRemove_keeps {s0 : State} (s : State) (a1 a2) (h : Keeps s0 s) : KeepsOut s0 (execTenantRemove a1 a2 s) := by
  unfold execTenantRemove
  repeat' first | with_reducible assumption | with_reducible apply KeepsOut.next | with_reducible exact KeepsOut.fault | with_reducible apply State.submit_keeps

theorem execTenantReenrol_keeps {s0 : State} (s : State) (a1 a2 a3) (h : Keeps s0 s) : KeepsOut s0 (execTenantReenrol a1 a2 a3 s) := by
  unfold execTenantReenrol
  repeat' first | with_reducible assumption | with_reducible apply KeepsOut.next | with_reducible exact KeepsOut.fault | with_reducible apply State.submit_keeps

theorem execQuotaSet_keeps {s0 : State} (s : State) (a1 a2 a3) (h : Keeps s0 s) : KeepsOut s0 (execQuotaSet a1 a2 a3 s) := by
  unfold execQuotaSet
  repeat' first | with_reducible assumption | with_reducible apply KeepsOut.next | with_reducible exact KeepsOut.fault | with_reducible apply State.submit_keeps

theorem execLeaseGrant_keeps {s0 : State} (s : State) (a1 a2) (h : Keeps s0 s) : KeepsOut s0 (execLeaseGrant a1 a2 s) := by
  unfold execLeaseGrant
  repeat' first | with_reducible assumption | with_reducible apply KeepsOut.next | with_reducible exact KeepsOut.fault | with_reducible apply State.submit_keeps

theorem execLeaseModify_keeps {s0 : State} (s : State) (a1 a2) (h : Keeps s0 s) : KeepsOut s0 (execLeaseModify a1 a2 s) := by
  unfold execLeaseModify
  repeat' first | with_reducible assumption | with_reducible apply KeepsOut.next | with_reducible exact KeepsOut.fault | with_reducible apply State.submit_keeps

theorem execLeaseEnd_keeps {s0 : State} (s : State) (a1) (h : Keeps s0 s) : KeepsOut s0 (execLeaseEnd a1 s) := by
  unfold execLeaseEnd
  repeat' first | with_reducible assumption | with_reducible apply KeepsOut.next | with_reducible exact KeepsOut.fault | with_reducible apply State.submit_keeps

theorem execLeaseRead_keeps {s0 : State} (s : State) (a1) (h : Keeps s0 s) : KeepsOut s0 (execLeaseRead a1 s) := by
  unfold execLeaseRead
  repeat' first | with_reducible assumption | with_reducible apply KeepsOut.next | with_reducible exact KeepsOut.fault | with_reducible apply State.submit_keeps

theorem execTenantRead_keeps {s0 : State} (s : State) (a1 a2) (h : Keeps s0 s) : KeepsOut s0 (execTenantRead a1 a2 s) := by
  unfold execTenantRead
  repeat' first | with_reducible assumption | with_reducible apply KeepsOut.next | with_reducible exact KeepsOut.fault | with_reducible apply State.submit_keeps

theorem execProgWrite_keeps {s0 : State} (s : State) (a1 a2) (h : Keeps s0 s) : KeepsOut s0 (execProgWrite a1 a2 s) := by
  unfold execProgWrite
  repeat' first | with_reducible assumption | with_reducible apply KeepsOut.next | with_reducible exact KeepsOut.fault | with_reducible apply State.submit_keeps

theorem execProgLen_keeps {s0 : State} (s : State) (a1 a2) (h : Keeps s0 s) : KeepsOut s0 (execProgLen a1 a2 s) := by
  unfold execProgLen
  repeat' first | with_reducible assumption | with_reducible apply KeepsOut.next | with_reducible exact KeepsOut.fault | with_reducible apply State.submit_keeps

theorem execProgRead_keeps {s0 : State} (s : State) (a1 a2 a3 a4) (h : Keeps s0 s) : KeepsOut s0 (execProgRead a1 a2 a3 a4 s) := by
  unfold execProgRead
  repeat' first | with_reducible assumption | with_reducible apply KeepsOut.next | with_reducible exact KeepsOut.fault | with_reducible apply State.submit_keeps

theorem execProgDiscard_keeps {s0 : State} (s : State) (a1) (h : Keeps s0 s) : KeepsOut s0 (execProgDiscard a1 s) := by
  unfold execProgDiscard
  repeat' first | with_reducible assumption | with_reducible apply KeepsOut.next | with_reducible exact KeepsOut.fault | with_reducible apply State.submit_keeps

theorem execCommit_keeps {s0 : State} (s : State) (a1) (h : Keeps s0 s) : KeepsOut s0 (execCommit a1 s) := by
  unfold execCommit
  repeat' first | with_reducible assumption | with_reducible apply KeepsOut.next | with_reducible exact KeepsOut.fault | with_reducible apply State.submit_keeps

theorem execCommitCheckonly_keeps {s0 : State} (s : State) (a1) (h : Keeps s0 s) : KeepsOut s0 (execCommitCheckonly a1 s) := by
  unfold execCommitCheckonly
  repeat' first | with_reducible assumption | with_reducible apply KeepsOut.next | with_reducible exact KeepsOut.fault | with_reducible apply State.submit_keeps

theorem execVarWrite_keeps {s0 : State} (s : State) (a1 a2) (h : Keeps s0 s) : KeepsOut s0 (execVarWrite a1 a2 s) := by
  unfold execVarWrite
  repeat' first | with_reducible assumption | with_reducible apply KeepsOut.next | with_reducible exact KeepsOut.fault | with_reducible apply State.submit_keeps

theorem execVarRead_keeps {s0 : State} (s : State) (a1) (h : Keeps s0 s) : KeepsOut s0 (execVarRead a1 s) := by
  unfold execVarRead
  repeat' first | with_reducible assumption | with_reducible apply KeepsOut.next | with_reducible exact KeepsOut.fault | with_reducible apply State.submit_keeps

theorem execSignal_keeps {s0 : State} (s : State) (a1 a2 a3) (h : Keeps s0 s) : KeepsOut s0 (execSignal a1 a2 a3 s) := by
  unfold execSignal
  repeat' first | with_reducible assumption | with_reducible apply KeepsOut.next | with_reducible exact KeepsOut.fault | with_reducible apply State.submit_keeps

theorem execStart_keeps {s0 : State} (s : State) (a1 a2) (h : Keeps s0 s) : KeepsOut s0 (execStart a1 a2 s) := by
  unfold execStart
  repeat' first | with_reducible assumption | with_reducible apply KeepsOut.next | with_reducible exact KeepsOut.fault | with_reducible apply State.submit_keeps

theorem execStop_keeps {s0 : State} (s : State) (a1) (h : Keeps s0 s) : KeepsOut s0 (execStop a1 s) := by
  unfold execStop
  repeat' first | with_reducible assumption | with_reducible apply KeepsOut.next | with_reducible exact KeepsOut.fault | with_reducible apply State.submit_keeps

theorem execPause_keeps {s0 : State} (s : State) (a1) (h : Keeps s0 s) : KeepsOut s0 (execPause a1 s) := by
  unfold execPause
  repeat' first | with_reducible assumption | with_reducible apply KeepsOut.next | with_reducible exact KeepsOut.fault | with_reducible apply State.submit_keeps

theorem execResume_keeps {s0 : State} (s : State) (a1 a2) (h : Keeps s0 s) : KeepsOut s0 (execResume a1 a2 s) := by
  unfold execResume
  repeat' first | with_reducible assumption | with_reducible apply KeepsOut.next | with_reducible exact KeepsOut.fault | with_reducible apply State.submit_keeps

theorem execClear_keeps {s0 : State} (s : State) (a1) (h : Keeps s0 s) : KeepsOut s0 (execClear a1 s) := by
  unfold execClear
  repeat' first | with_reducible assumption | with_reducible apply KeepsOut.next | with_reducible exact KeepsOut.fault | with_reducible apply State.submit_keeps

theorem execMeasCfg_keeps {s0 : State} (s : State) (a1 a2 a3 a4 a5 a6) (h : Keeps s0 s) : KeepsOut s0 (execMeasCfg a1 a2 a3 a4 a5 a6 s) := by
  unfold execMeasCfg
  repeat' first | with_reducible assumption | with_reducible apply KeepsOut.next | with_reducible exact KeepsOut.fault | with_reducible apply State.submit_keeps

theorem execMeasRead_keeps {s0 : State} (s : State) (a1) (h : Keeps s0 s) : KeepsOut s0 (execMeasRead a1 s) := by
  unfold execMeasRead
  repeat' first | with_reducible assumption | with_reducible apply KeepsOut.next | with_reducible exact KeepsOut.fault | with_reducible apply State.submit_keeps

theorem execCoefRead_keeps {s0 : State} (s : State) (a1 a2 a3) (h : Keeps s0 s) : KeepsOut s0 (execCoefRead a1 a2 a3 s) := by
  unfold execCoefRead
  repeat' first | with_reducible assumption | with_reducible apply KeepsOut.next | with_reducible exact KeepsOut.fault | with_reducible apply State.submit_keeps

theorem execChRead_keeps {s0 : State} (s : State) (a1) (h : Keeps s0 s) : KeepsOut s0 (execChRead a1 s) := by
  unfold execChRead
  repeat' first | with_reducible assumption | with_reducible apply KeepsOut.next | with_reducible exact KeepsOut.fault | with_reducible apply State.submit_keeps

theorem execEstSet_keeps {s0 : State} (s : State) (a1 a2) (h : Keeps s0 s) : KeepsOut s0 (execEstSet a1 a2 s) := by
  unfold execEstSet
  repeat' first | with_reducible assumption | with_reducible apply KeepsOut.next | with_reducible exact KeepsOut.fault | with_reducible apply State.submit_keeps

theorem execOcvTable_keeps {s0 : State} (s : State) (a1 a2) (h : Keeps s0 s) : KeepsOut s0 (execOcvTable a1 a2 s) := by
  unfold execOcvTable
  repeat' first | with_reducible assumption | with_reducible apply KeepsOut.next | with_reducible exact KeepsOut.fault | with_reducible apply State.submit_keeps

theorem execEstRead_keeps {s0 : State} (s : State) (a1 a2) (h : Keeps s0 s) : KeepsOut s0 (execEstRead a1 a2 s) := by
  unfold execEstRead
  repeat' first | with_reducible assumption | with_reducible apply KeepsOut.next | with_reducible exact KeepsOut.fault | with_reducible apply State.submit_keeps

theorem execRelearn_keeps {s0 : State} (s : State) (a1) (h : Keeps s0 s) : KeepsOut s0 (execRelearn a1 s) := by
  unfold execRelearn
  repeat' first | with_reducible assumption | with_reducible apply KeepsOut.next | with_reducible exact KeepsOut.fault | with_reducible apply State.submit_keeps

theorem execCounterRead_keeps {s0 : State} (s : State) (a1) (h : Keeps s0 s) : KeepsOut s0 (execCounterRead a1 s) := by
  unfold execCounterRead
  repeat' first | with_reducible assumption | with_reducible apply KeepsOut.next | with_reducible exact KeepsOut.fault | with_reducible apply State.submit_keeps

theorem execMeterRead_keeps {s0 : State} (s : State) (a1 a2) (h : Keeps s0 s) : KeepsOut s0 (execMeterRead a1 a2 s) := by
  unfold execMeterRead
  repeat' first | with_reducible assumption | with_reducible apply KeepsOut.next | with_reducible exact KeepsOut.fault | with_reducible apply State.submit_keeps

theorem execMeterClose_keeps {s0 : State} (s : State) (a1) (h : Keeps s0 s) : KeepsOut s0 (execMeterClose a1 s) := by
  unfold execMeterClose
  repeat' first | with_reducible assumption | with_reducible apply KeepsOut.next | with_reducible exact KeepsOut.fault | with_reducible apply State.submit_keeps

theorem execMeterLimits_keeps {s0 : State} (s : State) (a1 a2 a3) (h : Keeps s0 s) : KeepsOut s0 (execMeterLimits a1 a2 a3 s) := by
  unfold execMeterLimits
  repeat' first | with_reducible assumption | with_reducible apply KeepsOut.next | with_reducible exact KeepsOut.fault | with_reducible apply State.submit_keeps

theorem execMeterSched_keeps {s0 : State} (s : State) (a1 a2 a3) (h : Keeps s0 s) : KeepsOut s0 (execMeterSched a1 a2 a3 s) := by
  unfold execMeterSched
  repeat' first | with_reducible assumption | with_reducible apply KeepsOut.next | with_reducible exact KeepsOut.fault | with_reducible apply State.submit_keeps

theorem execLedgerRead_keeps {s0 : State} (s : State) (a1) (h : Keeps s0 s) : KeepsOut s0 (execLedgerRead a1 s) := by
  unfold execLedgerRead
  repeat' first | with_reducible assumption | with_reducible apply KeepsOut.next | with_reducible exact KeepsOut.fault | with_reducible apply State.submit_keeps

theorem execLedgerFetch_keeps {s0 : State} (s : State) (a1 a2 a3 a4 a5 a6) (h : Keeps s0 s) : KeepsOut s0 (execLedgerFetch a1 a2 a3 a4 a5 a6 s) := by
  unfold execLedgerFetch
  repeat' first | with_reducible assumption | with_reducible apply KeepsOut.next | with_reducible exact KeepsOut.fault | with_reducible apply State.submit_keeps

theorem execLedgerRetain_keeps {s0 : State} (s : State) (a1 a2 a3) (h : Keeps s0 s) : KeepsOut s0 (execLedgerRetain a1 a2 a3 s) := by
  unfold execLedgerRetain
  repeat' first | with_reducible assumption | with_reducible apply KeepsOut.next | with_reducible exact KeepsOut.fault | with_reducible apply State.submit_keeps

theorem execLedgerSeal_keeps {s0 : State} (s : State) (a1) (h : Keeps s0 s) : KeepsOut s0 (execLedgerSeal a1 s) := by
  unfold execLedgerSeal
  repeat' first | with_reducible assumption | with_reducible apply KeepsOut.next | with_reducible exact KeepsOut.fault | with_reducible apply State.submit_keeps

theorem execPairRead_keeps {s0 : State} (s : State) (a1) (h : Keeps s0 s) : KeepsOut s0 (execPairRead a1 s) := by
  unfold execPairRead
  repeat' first | with_reducible assumption | with_reducible apply KeepsOut.next | with_reducible exact KeepsOut.fault | with_reducible apply State.submit_keeps

theorem execHandover_keeps {s0 : State} (s : State) (a1 a2) (h : Keeps s0 s) : KeepsOut s0 (execHandover a1 a2 s) := by
  unfold execHandover
  repeat' first | with_reducible assumption | with_reducible apply KeepsOut.next | with_reducible exact KeepsOut.fault | with_reducible apply State.submit_keeps

theorem execTimeRead_keeps {s0 : State} (s : State) (a1) (h : Keeps s0 s) : KeepsOut s0 (execTimeRead a1 s) := by
  unfold execTimeRead
  repeat' first | with_reducible assumption | with_reducible apply KeepsOut.next | with_reducible exact KeepsOut.fault | with_reducible apply State.submit_keeps

theorem execTimeSet_keeps {s0 : State} (s : State) (a1 a2 a3 a4) (h : Keeps s0 s) : KeepsOut s0 (execTimeSet a1 a2 a3 a4 s) := by
  unfold execTimeSet
  repeat' first | with_reducible assumption | with_reducible apply KeepsOut.next | with_reducible exact KeepsOut.fault | with_reducible apply State.submit_keeps

theorem execSummerForward_keeps {s0 : State} (s : State) (a1) (h : Keeps s0 s) : KeepsOut s0 (execSummerForward a1 s) := by
  unfold execSummerForward
  repeat' first | with_reducible assumption | with_reducible apply KeepsOut.next | with_reducible exact KeepsOut.fault | with_reducible apply State.submit_keeps

theorem execSummerBack_keeps {s0 : State} (s : State) (a1) (h : Keeps s0 s) : KeepsOut s0 (execSummerBack a1 s) := by
  unfold execSummerBack
  repeat' first | with_reducible assumption | with_reducible apply KeepsOut.next | with_reducible exact KeepsOut.fault | with_reducible apply State.submit_keeps

theorem execWakeSet_keeps {s0 : State} (s : State) (a1 a2 a3 a4 a5) (h : Keeps s0 s) : KeepsOut s0 (execWakeSet a1 a2 a3 a4 a5 s) := by
  unfold execWakeSet
  repeat' first | with_reducible assumption | with_reducible apply KeepsOut.next | with_reducible exact KeepsOut.fault | with_reducible apply State.submit_keeps

theorem execCalTrim_keeps {s0 : State} (s : State) (a1 a2) (h : Keeps s0 s) : KeepsOut s0 (execCalTrim a1 a2 s) := by
  unfold execCalTrim
  repeat' first | with_reducible assumption | with_reducible apply KeepsOut.next | with_reducible exact KeepsOut.fault | with_reducible apply State.submit_keeps

theorem execPowerRead_keeps {s0 : State} (s : State) (a1) (h : Keeps s0 s) : KeepsOut s0 (execPowerRead a1 s) := by
  unfold execPowerRead
  repeat' first | with_reducible assumption | with_reducible apply KeepsOut.next | with_reducible exact KeepsOut.fault | with_reducible apply State.submit_keeps

theorem execPowerCtlShip_keeps {s0 : State} (s : State) (a1) (h : Keeps s0 s) : KeepsOut s0 (execPowerCtlShip a1 s) := by
  unfold execPowerCtlShip
  repeat' first | with_reducible assumption | with_reducible apply KeepsOut.next | with_reducible exact KeepsOut.fault | with_reducible apply State.submit_keeps

theorem execPowerCtlWarmReset_keeps {s0 : State} (s : State) (a1) (h : Keeps s0 s) : KeepsOut s0 (execPowerCtlWarmReset a1 s) := by
  unfold execPowerCtlWarmReset
  repeat' first | with_reducible assumption | with_reducible apply KeepsOut.next | with_reducible exact KeepsOut.fault | with_reducible apply State.submit_keeps

theorem execPowerCtlBlockReset_keeps {s0 : State} (s : State) (a1 a2) (h : Keeps s0 s) : KeepsOut s0 (execPowerCtlBlockReset a1 a2 s) := by
  unfold execPowerCtlBlockReset
  repeat' first | with_reducible assumption | with_reducible apply KeepsOut.next | with_reducible exact KeepsOut.fault | with_reducible apply State.submit_keeps

theorem execEnter_keeps {s0 : State} (s : State) (a1) (h : Keeps s0 s) : KeepsOut s0 (execEnter a1 s) := by
  unfold execEnter
  repeat' first | with_reducible assumption | with_reducible apply KeepsOut.next | with_reducible exact KeepsOut.fault | with_reducible apply State.submit_keeps

theorem execExit_keeps {s0 : State} (s : State) (a1) (h : Keeps s0 s) : KeepsOut s0 (execExit a1 s) := by
  unfold execExit
  repeat' first | with_reducible assumption | with_reducible apply KeepsOut.next | with_reducible exact KeepsOut.fault | with_reducible apply State.submit_keeps

theorem execHouseClear_keeps {s0 : State} (s : State) (a1) (h : Keeps s0 s) : KeepsOut s0 (execHouseClear a1 s) := by
  unfold execHouseClear
  repeat' first | with_reducible assumption | with_reducible apply KeepsOut.next | with_reducible exact KeepsOut.fault | with_reducible apply State.submit_keeps

theorem execFaultAck_keeps {s0 : State} (s : State) (a1 a2) (h : Keeps s0 s) : KeepsOut s0 (execFaultAck a1 a2 s) := by
  unfold execFaultAck
  repeat' first | with_reducible assumption | with_reducible apply KeepsOut.next | with_reducible exact KeepsOut.fault | with_reducible apply State.submit_keeps

theorem execSelftest_keeps {s0 : State} (s : State) (a1 a2 a3) (h : Keeps s0 s) : KeepsOut s0 (execSelftest a1 a2 a3 s) := by
  unfold execSelftest
  repeat' first | with_reducible assumption | with_reducible apply KeepsOut.next | with_reducible exact KeepsOut.fault | with_reducible apply State.submit_keeps

theorem execRefcheck_keeps {s0 : State} (s : State) (a1 a2 a3) (h : Keeps s0 s) : KeepsOut s0 (execRefcheck a1 a2 a3 s) := by
  unfold execRefcheck
  repeat' first | with_reducible assumption | with_reducible apply KeepsOut.next | with_reducible exact KeepsOut.fault | with_reducible apply State.submit_keeps

theorem execRetest_keeps {s0 : State} (s : State) (a1 a2 a3 a4) (h : Keeps s0 s) : KeepsOut s0 (execRetest a1 a2 a3 a4 s) := by
  unfold execRetest
  repeat' first | with_reducible assumption | with_reducible apply KeepsOut.next | with_reducible exact KeepsOut.fault | with_reducible apply State.submit_keeps

theorem execNvmStat_keeps {s0 : State} (s : State) (a1) (h : Keeps s0 s) : KeepsOut s0 (execNvmStat a1 s) := by
  unfold execNvmStat
  repeat' first | with_reducible assumption | with_reducible apply KeepsOut.next | with_reducible exact KeepsOut.fault | with_reducible apply State.submit_keeps

theorem execNvmScrub_keeps {s0 : State} (s : State) (a1) (h : Keeps s0 s) : KeepsOut s0 (execNvmScrub a1 s) := by
  unfold execNvmScrub
  repeat' first | with_reducible assumption | with_reducible apply KeepsOut.next | with_reducible exact KeepsOut.fault | with_reducible apply State.submit_keeps

theorem execSetTimes_keeps {s0 : State} (s : State) (a1 a2 a3) (h : Keeps s0 s) : KeepsOut s0 (execSetTimes a1 a2 a3 s) := by
  unfold execSetTimes
  repeat' first | with_reducible assumption | with_reducible apply KeepsOut.next | with_reducible exact KeepsOut.fault | with_reducible apply State.submit_keeps

theorem execCalWrite_keeps {s0 : State} (s : State) (a1 a2) (h : Keeps s0 s) : KeepsOut s0 (execCalWrite a1 a2 s) := by
  unfold execCalWrite
  repeat' first | with_reducible assumption | with_reducible apply KeepsOut.next | with_reducible exact KeepsOut.fault | with_reducible apply State.submit_keeps

theorem execFwWriteData_keeps {s0 : State} (s : State) (a1 a2 a3) (h : Keeps s0 s) : KeepsOut s0 (execFwWriteData a1 a2 a3 s) := by
  unfold execFwWriteData
  repeat' first | with_reducible assumption | with_reducible apply KeepsOut.next | with_reducible exact KeepsOut.fault | with_reducible apply State.submit_keeps

theorem execFwWriteFinish_keeps {s0 : State} (s : State) (a1 a2) (h : Keeps s0 s) : KeepsOut s0 (execFwWriteFinish a1 a2 s) := by
  unfold execFwWriteFinish
  repeat' first | with_reducible assumption | with_reducible apply KeepsOut.next | with_reducible exact KeepsOut.fault | with_reducible apply State.submit_keeps

theorem execFwWriteAbandon_keeps {s0 : State} (s : State) (a1) (h : Keeps s0 s) : KeepsOut s0 (execFwWriteAbandon a1 s) := by
  unfold execFwWriteAbandon
  repeat' first | with_reducible assumption | with_reducible apply KeepsOut.next | with_reducible exact KeepsOut.fault | with_reducible apply State.submit_keeps

theorem execRegRead_keeps {s0 : State} (s : State) (a1 a2 a3) (h : Keeps s0 s) : KeepsOut s0 (execRegRead a1 a2 a3 s) := by
  unfold execRegRead
  repeat' first | with_reducible assumption | with_reducible apply KeepsOut.next | with_reducible exact KeepsOut.fault | with_reducible apply State.submit_keeps

theorem execRegWrite_keeps {s0 : State} (s : State) (a1 a2 a3) (h : Keeps s0 s) : KeepsOut s0 (execRegWrite a1 a2 a3 s) := by
  unfold execRegWrite
  repeat' first | with_reducible assumption | with_reducible apply KeepsOut.next | with_reducible exact KeepsOut.fault | with_reducible apply State.submit_keeps

theorem State.claim_keeps {s0 : State} (s : State) (a1 a2 a3) (h : Keeps s0 s) : Keeps s0 (State.claim s a1 a2 a3) := by
  unfold State.claim
  extract_lets x1 x2 x3 x4 x5 x6
  have kx5 : Keeps s0 x5 := by
    unfold x5
    repeat' first | with_reducible assumption | with_reducible apply State.onQueue_keeps
  try clear_value x5
  have kx6 : Keeps s0 x6 := by
    unfold x6
    repeat' first | with_reducible assumption | with_reducible apply State.onQueue_keeps | with_reducible apply State.submit_keeps | split
  try clear_value x6
  repeat' first | with_reducible assumption | with_reducible apply State.onQueue_keeps | with_reducible apply State.submit_keeps

theorem execCommandClaim_keeps {s0 : State} (s : State) (a1 a2) (h : Keeps s0 s) : KeepsOut s0 (execCommandClaim a1 a2 s) := by
  unfold execCommandClaim
  repeat' first | with_reducible assumption | with_reducible apply KeepsOut.next | with_reducible exact KeepsOut.fault | with_reducible apply State.claim_keeps | split

theorem State.frameEnd_keeps {s0 : State} (s : State) (a1 a2 a3) (h : Keeps s0 s) : Keeps s0 (State.frameEnd s a1 a2 a3) := by
  unfold State.frameEnd
  extract_lets x1
  repeat' first | with_reducible assumption | split | simp only [Keeps.mk_iff]

theorem State.frameIgnored_keeps {s0 : State} (s : State) (h : Keeps s0 s) : Keeps s0 (State.frameIgnored s) := by
  unfold State.frameIgnored
  extract_lets x1
  repeat' first | with_reducible assumption | split | simp only [Keeps.mk_iff]

theorem State.crossing_keeps {s0 : State} (s : State) (a1) (h : Keeps s0 s) : Keeps s0 (State.crossing s a1) := by
  unfold State.crossing
  extract_lets x1
  repeat' first | with_reducible assumption | split | simp only [Keeps.mk_iff]

theorem State.freeBytes_keeps {s0 : State} (s : State) (a1) (h : Keeps s0 s) : Keeps s0 (State.freeBytes s a1).2 := by
  induction a1 generalizing s with
  | zero => unfold State.freeBytes; exact h
  | succ n ih => unfold State.freeBytes; exact ih _ (State.draw_keeps _ h)

theorem State.sends_keeps {s0 : State} (s : State) (a1 a2 a3 a4) (h : Keeps s0 s) : Keeps s0 (State.sends s a1 a2 a3 a4).2 := by
  unfold State.sends
  extract_lets x1 x2 x3 x4
  have kx3 : Keeps s0 x3.2 := by
    unfold x3
    repeat' first | with_reducible assumption | with_reducible apply State.freeBytes_keeps
  try clear_value x3
  repeat' first | with_reducible assumption | with_reducible apply State.freeBytes_keeps | with_reducible apply State.draw_keeps | split

theorem State.clocked_keeps {s0 : State} (s : State) (a1) (h : Keeps s0 s) : Keeps s0 (State.clocked s a1) := by
  unfold State.clocked
  extract_lets x1
  repeat' first | with_reducible assumption | split | simp only [Keeps.mk_iff]

theorem execLocalRead_keeps {s0 : State} (s : State) (a1 a2 a3) (h : Keeps s0 s) : KeepsOut s0 (execLocalRead a1 a2 a3 s) := by
  unfold execLocalRead
  extract_lets x1
  repeat' first | with_reducible assumption | with_reducible apply KeepsOut.next | with_reducible exact KeepsOut.fault | with_reducible apply State.frameIgnored_keeps | with_reducible apply State.frameEnd_keeps | with_reducible apply State.clocked_keeps | with_reducible apply State.regWords_keeps | with_reducible apply State.sends_keeps | with_reducible apply State.freeBytes_keeps | split

theorem State.localWords_keeps {s0 : State} (s : State) (a1 a2) (h : Keeps s0 s) : Keeps s0 (State.localWords s a1 a2).1 := by
  induction a2 generalizing s a1 with
  | nil => unfold State.localWords; exact h
  | cons w l ih =>
    unfold State.localWords
    refine ih _ _ ?_
    split
    · exact State.regWrite_keeps _ _ _ h
    · exact h

theorem execLocalWrite_keeps {s0 : State} (s : State) (a1 a2 a3) (h : Keeps s0 s) : KeepsOut s0 (execLocalWrite a1 a2 a3 s) := by
  unfold execLocalWrite
  extract_lets x1 x2
  have kx1 : Keeps s0 x1 := by
    unfold x1
    repeat' first | with_reducible assumption | with_reducible apply KeepsOut.next | with_reducible exact KeepsOut.fault | with_reducible apply State.frameIgnored_keeps | with_reducible apply State.crossing_keeps
  try clear_value x1
  have kx2 : Keeps s0 x2.1 := by
    unfold x2
    repeat' first | with_reducible assumption | with_reducible apply KeepsOut.next | with_reducible exact KeepsOut.fault | with_reducible apply State.frameIgnored_keeps | with_reducible apply State.crossing_keeps | with_reducible apply State.frameEnd_keeps | with_reducible apply State.localWords_keeps
  try clear_value x2
  repeat' first | with_reducible assumption | with_reducible apply KeepsOut.next | with_reducible exact KeepsOut.fault | with_reducible apply State.frameIgnored_keeps | with_reducible apply State.crossing_keeps | with_reducible apply State.frameEnd_keeps | with_reducible apply State.localWords_keeps | split

theorem State.freeGet_keeps {s0 : State} (s : State) (a1) (h : Keeps s0 s) : Keeps s0 (State.freeGet s a1) := by
  unfold State.freeGet
  repeat' first | with_reducible assumption | with_reducible apply State.onQueue_keeps

theorem execLocalStatus_keeps {s0 : State} (s : State) (h : Keeps s0 s) : KeepsOut s0 (execLocalStatus s) := by
  unfold execLocalStatus
  extract_lets x1 x2
  have kx1 : Keeps s0 x1.2 := by
    unfold x1
    repeat' first | with_reducible assumption | with_reducible apply KeepsOut.next | with_reducible exact KeepsOut.fault | with_reducible apply State.frameIgnored_keeps | with_reducible apply State.sends_keeps
  try clear_value x1
  have kx2 : Keeps s0 x2 := by
    unfold x2
    repeat' first | with_reducible assumption | with_reducible apply KeepsOut.next | with_reducible exact KeepsOut.fault | with_reducible apply State.frameIgnored_keeps | with_reducible apply State.sends_keeps | with_reducible apply State.freeGet_keeps | with_reducible apply State.frameEnd_keeps | split
  try clear_value x2
  repeat' first | with_reducible assumption | with_reducible apply KeepsOut.next | with_reducible exact KeepsOut.fault | with_reducible apply State.frameIgnored_keeps | with_reducible apply State.sends_keeps | with_reducible apply State.freeGet_keeps | with_reducible apply State.frameEnd_keeps | split

theorem State.refuseLocal_keeps {s0 : State} (s : State) (a1 a2 a3 a4) (h : Keeps s0 s) : Keeps s0 (State.refuseLocal s a1 a2 a3 a4) := by
  unfold State.refuseLocal
  split
  · rename_i hx
    exact State.frameEnd_keeps _ _ _ _ (State.refuseTrain_some_keeps s _ _ _ _ h _ hx)
  · exact State.frameEnd_keeps _ _ _ _ h

theorem execQput_keeps {s0 : State} (s : State) (a1 a2) (h : Keeps s0 s) : KeepsOut s0 (execQput a1 a2 s) := by
  unfold execQput
  extract_lets x1 x2
  have kx1 : Keeps s0 x1 := by
    unfold x1
    repeat' first | with_reducible assumption | with_reducible apply KeepsOut.next | with_reducible exact KeepsOut.fault | with_reducible apply State.frameIgnored_keeps | with_reducible apply State.crossing_keeps
  try clear_value x1
  repeat' first | with_reducible assumption | with_reducible apply KeepsOut.next | with_reducible exact KeepsOut.fault | with_reducible apply State.frameIgnored_keeps | with_reducible apply State.crossing_keeps | with_reducible apply State.frameEnd_keeps | with_reducible apply State.refuseLocal_keeps | with_reducible apply State.placeTrain_keeps | split

theorem execQget_keeps {s0 : State} (s : State) (a1) (h : Keeps s0 s) : KeepsOut s0 (execQget a1 s) := by
  unfold execQget
  extract_lets x1 x2 x3 x4 x5 x6 x7
  have kx3 : Keeps s0 x3 := by
    unfold x3
    repeat' first | with_reducible assumption | with_reducible apply KeepsOut.next | with_reducible exact KeepsOut.fault | with_reducible apply State.frameIgnored_keeps | with_reducible apply State.clocked_keeps
  try clear_value x3
  have kx5 : Keeps s0 x5.2 := by
    unfold x5
    repeat' first | with_reducible assumption | with_reducible apply KeepsOut.next | with_reducible exact KeepsOut.fault | with_reducible apply State.frameIgnored_keeps | with_reducible apply State.clocked_keeps | with_reducible apply State.freeBytes_keeps
  try clear_value x5
  have kx6 : Keeps s0 x6.2 := by
    unfold x6
    repeat' first | with_reducible assumption | with_reducible apply KeepsOut.next | with_reducible exact KeepsOut.fault | with_reducible apply State.frameIgnored_keeps | with_reducible apply State.clocked_keeps | with_reducible apply State.freeBytes_keeps | with_reducible apply State.sends_keeps
  try clear_value x6
  have kx7 : Keeps s0 x7.2 := by
    unfold x7
    repeat' first | with_reducible assumption | with_reducible apply KeepsOut.next | with_reducible exact KeepsOut.fault | with_reducible apply State.frameIgnored_keeps | with_reducible apply State.clocked_keeps | with_reducible apply State.freeBytes_keeps | with_reducible apply State.sends_keeps
  try clear_value x7
  repeat' first | with_reducible assumption | with_reducible apply KeepsOut.next | with_reducible exact KeepsOut.fault | with_reducible apply State.frameIgnored_keeps | with_reducible apply State.clocked_keeps | with_reducible apply State.freeBytes_keeps | with_reducible apply State.sends_keeps | with_reducible apply State.frameEnd_keeps | split

end Sys2Proof.Machine
end

