-- ==== Sys2Proof/Laws/State.lean ====
section
/-! SUPPORT. One lemma per field of the state and per update of it, and the read-back laws of channels, Gathers and registers. -/

namespace Sys2Proof.Machine

open Sys2Proof

/-! ### onChan -/

@[simp] theorem State.onChan_now (s : State) (c : ChanNo) (f : Chan → Chan) : (s.onChan c f).now = s.now := rfl
@[simp] theorem State.onChan_ptp (s : State) (c : ChanNo) (f : Chan → Chan) : (s.onChan c f).ptp = s.ptp := rfl
@[simp] theorem State.onChan_draws (s : State) (c : ChanNo) (f : Chan → Chan) : (s.onChan c f).draws = s.draws := rfl
@[simp] theorem State.onChan_opt (s : State) (c : ChanNo) (f : Chan → Chan) : (s.onChan c f).opt = s.opt := rfl
@[simp] theorem State.onChan_serial (s : State) (c : ChanNo) (f : Chan → Chan) : (s.onChan c f).serial = s.serial := rfl
@[simp] theorem State.onChan_strapRaw (s : State) (c : ChanNo) (f : Chan → Chan) : (s.onChan c f).strapRaw = s.strapRaw := rfl
@[simp] theorem State.onChan_strapValid (s : State) (c : ChanNo) (f : Chan → Chan) : (s.onChan c f).strapValid = s.strapValid := rfl
@[simp] theorem State.onChan_fw (s : State) (c : ChanNo) (f : Chan → Chan) : (s.onChan c f).fw = s.fw := rfl
@[simp] theorem State.onChan_mode (s : State) (c : ChanNo) (f : Chan → Chan) : (s.onChan c f).mode = s.mode := rfl
@[simp] theorem State.onChan_regs (s : State) (c : ChanNo) (f : Chan → Chan) : (s.onChan c f).regs = s.regs := rfl
@[simp] theorem State.onChan_gathers (s : State) (c : ChanNo) (f : Chan → Chan) : (s.onChan c f).gathers = s.gathers := rfl
@[simp] theorem State.onChan_queues (s : State) (c : ChanNo) (f : Chan → Chan) : (s.onChan c f).queues = s.queues := rfl
@[simp] theorem State.onChan_tenants (s : State) (c : ChanNo) (f : Chan → Chan) : (s.onChan c f).tenants = s.tenants := rfl
@[simp] theorem State.onChan_sessions (s : State) (c : ChanNo) (f : Chan → Chan) : (s.onChan c f).sessions = s.sessions := rfl
@[simp] theorem State.onChan_establish (s : State) (c : ChanNo) (f : Chan → Chan) : (s.onChan c f).establish = s.establish := rfl
@[simp] theorem State.onChan_throttles (s : State) (c : ChanNo) (f : Chan → Chan) : (s.onChan c f).throttles = s.throttles := rfl
@[simp] theorem State.onChan_sent (s : State) (c : ChanNo) (f : Chan → Chan) : (s.onChan c f).sent = s.sent := rfl
@[simp] theorem State.onChan_links (s : State) (c : ChanNo) (f : Chan → Chan) : (s.onChan c f).links = s.links := rfl
@[simp] theorem State.onChan_localPort (s : State) (c : ChanNo) (f : Chan → Chan) : (s.onChan c f).localPort = s.localPort := rfl
@[simp] theorem State.onChan_dma (s : State) (c : ChanNo) (f : Chan → Chan) : (s.onChan c f).dma = s.dma := rfl
@[simp] theorem State.onChan_cru (s : State) (c : ChanNo) (f : Chan → Chan) : (s.onChan c f).cru = s.cru := rfl
@[simp] theorem State.onChan_inflight (s : State) (c : ChanNo) (f : Chan → Chan) : (s.onChan c f).inflight = s.inflight := rfl
@[simp] theorem State.onChan_waiting (s : State) (c : ChanNo) (f : Chan → Chan) : (s.onChan c f).waiting = s.waiting := rfl
@[simp] theorem State.onChan_recFifo (s : State) (c : ChanNo) (f : Chan → Chan) : (s.onChan c f).recFifo = s.recFifo := rfl
@[simp] theorem State.onChan_evtFifo (s : State) (c : ChanNo) (f : Chan → Chan) : (s.onChan c f).evtFifo = s.evtFifo := rfl
@[simp] theorem State.onChan_col (s : State) (c : ChanNo) (f : Chan → Chan) : (s.onChan c f).col = s.col := rfl
@[simp] theorem State.onChan_wdg (s : State) (c : ChanNo) (f : Chan → Chan) : (s.onChan c f).wdg = s.wdg := rfl
@[simp] theorem State.onChan_evr (s : State) (c : ChanNo) (f : Chan → Chan) : (s.onChan c f).evr = s.evr := rfl
@[simp] theorem State.onChan_rst (s : State) (c : ChanNo) (f : Chan → Chan) : (s.onChan c f).rst = s.rst := rfl
@[simp] theorem State.onChan_nvm (s : State) (c : ChanNo) (f : Chan → Chan) : (s.onChan c f).nvm = s.nvm := rfl
@[simp] theorem State.onChan_flash (s : State) (c : ChanNo) (f : Chan → Chan) : (s.onChan c f).flash = s.flash := rfl
@[simp] theorem State.onChan_leases (s : State) (c : ChanNo) (f : Chan → Chan) : (s.onChan c f).leases = s.leases := rfl
@[simp] theorem State.onChan_barriers (s : State) (c : ChanNo) (f : Chan → Chan) : (s.onChan c f).barriers = s.barriers := rfl
@[simp] theorem State.onChan_bal (s : State) (c : ChanNo) (f : Chan → Chan) : (s.onChan c f).bal = s.bal := rfl
@[simp] theorem State.onChan_met (s : State) (c : ChanNo) (f : Chan → Chan) : (s.onChan c f).met = s.met := rfl
@[simp] theorem State.onChan_sessidle (s : State) (c : ChanNo) (f : Chan → Chan) : (s.onChan c f).sessidle = s.sessidle := rfl
@[simp] theorem State.onChan_stormquiet (s : State) (c : ChanNo) (f : Chan → Chan) : (s.onChan c f).stormquiet = s.stormquiet := rfl
@[simp] theorem State.onChan_storm (s : State) (c : ChanNo) (f : Chan → Chan) : (s.onChan c f).storm = s.storm := rfl
@[simp] theorem State.onChan_calgenCtr (s : State) (c : ChanNo) (f : Chan → Chan) : (s.onChan c f).calgenCtr = s.calgenCtr := rfl
@[simp] theorem State.onChan_board (s : State) (c : ChanNo) (f : Chan → Chan) : (s.onChan c f).board = s.board := rfl
@[simp] theorem State.onChan_pending (s : State) (c : ChanNo) (f : Chan → Chan) : (s.onChan c f).pending = s.pending := rfl

/-! ### onGat -/

@[simp] theorem State.onGat_now (s : State) (g : GatherNo) (f : Gather → Gather) : (s.onGat g f).now = s.now := rfl
@[simp] theorem State.onGat_ptp (s : State) (g : GatherNo) (f : Gather → Gather) : (s.onGat g f).ptp = s.ptp := rfl
@[simp] theorem State.onGat_draws (s : State) (g : GatherNo) (f : Gather → Gather) : (s.onGat g f).draws = s.draws := rfl
@[simp] theorem State.onGat_opt (s : State) (g : GatherNo) (f : Gather → Gather) : (s.onGat g f).opt = s.opt := rfl
@[simp] theorem State.onGat_serial (s : State) (g : GatherNo) (f : Gather → Gather) : (s.onGat g f).serial = s.serial := rfl
@[simp] theorem State.onGat_strapRaw (s : State) (g : GatherNo) (f : Gather → Gather) : (s.onGat g f).strapRaw = s.strapRaw := rfl
@[simp] theorem State.onGat_strapValid (s : State) (g : GatherNo) (f : Gather → Gather) : (s.onGat g f).strapValid = s.strapValid := rfl
@[simp] theorem State.onGat_fw (s : State) (g : GatherNo) (f : Gather → Gather) : (s.onGat g f).fw = s.fw := rfl
@[simp] theorem State.onGat_mode (s : State) (g : GatherNo) (f : Gather → Gather) : (s.onGat g f).mode = s.mode := rfl
@[simp] theorem State.onGat_regs (s : State) (g : GatherNo) (f : Gather → Gather) : (s.onGat g f).regs = s.regs := rfl
@[simp] theorem State.onGat_chans (s : State) (g : GatherNo) (f : Gather → Gather) : (s.onGat g f).chans = s.chans := rfl
@[simp] theorem State.onGat_queues (s : State) (g : GatherNo) (f : Gather → Gather) : (s.onGat g f).queues = s.queues := rfl
@[simp] theorem State.onGat_tenants (s : State) (g : GatherNo) (f : Gather → Gather) : (s.onGat g f).tenants = s.tenants := rfl
@[simp] theorem State.onGat_sessions (s : State) (g : GatherNo) (f : Gather → Gather) : (s.onGat g f).sessions = s.sessions := rfl
@[simp] theorem State.onGat_establish (s : State) (g : GatherNo) (f : Gather → Gather) : (s.onGat g f).establish = s.establish := rfl
@[simp] theorem State.onGat_throttles (s : State) (g : GatherNo) (f : Gather → Gather) : (s.onGat g f).throttles = s.throttles := rfl
@[simp] theorem State.onGat_sent (s : State) (g : GatherNo) (f : Gather → Gather) : (s.onGat g f).sent = s.sent := rfl
@[simp] theorem State.onGat_links (s : State) (g : GatherNo) (f : Gather → Gather) : (s.onGat g f).links = s.links := rfl
@[simp] theorem State.onGat_localPort (s : State) (g : GatherNo) (f : Gather → Gather) : (s.onGat g f).localPort = s.localPort := rfl
@[simp] theorem State.onGat_dma (s : State) (g : GatherNo) (f : Gather → Gather) : (s.onGat g f).dma = s.dma := rfl
@[simp] theorem State.onGat_cru (s : State) (g : GatherNo) (f : Gather → Gather) : (s.onGat g f).cru = s.cru := rfl
@[simp] theorem State.onGat_inflight (s : State) (g : GatherNo) (f : Gather → Gather) : (s.onGat g f).inflight = s.inflight := rfl
@[simp] theorem State.onGat_waiting (s : State) (g : GatherNo) (f : Gather → Gather) : (s.onGat g f).waiting = s.waiting := rfl
@[simp] theorem State.onGat_recFifo (s : State) (g : GatherNo) (f : Gather → Gather) : (s.onGat g f).recFifo = s.recFifo := rfl
@[simp] theorem State.onGat_evtFifo (s : State) (g : GatherNo) (f : Gather → Gather) : (s.onGat g f).evtFifo = s.evtFifo := rfl
@[simp] theorem State.onGat_col (s : State) (g : GatherNo) (f : Gather → Gather) : (s.onGat g f).col = s.col := rfl
@[simp] theorem State.onGat_wdg (s : State) (g : GatherNo) (f : Gather → Gather) : (s.onGat g f).wdg = s.wdg := rfl
@[simp] theorem State.onGat_evr (s : State) (g : GatherNo) (f : Gather → Gather) : (s.onGat g f).evr = s.evr := rfl
@[simp] theorem State.onGat_rst (s : State) (g : GatherNo) (f : Gather → Gather) : (s.onGat g f).rst = s.rst := rfl
@[simp] theorem State.onGat_nvm (s : State) (g : GatherNo) (f : Gather → Gather) : (s.onGat g f).nvm = s.nvm := rfl
@[simp] theorem State.onGat_flash (s : State) (g : GatherNo) (f : Gather → Gather) : (s.onGat g f).flash = s.flash := rfl
@[simp] theorem State.onGat_leases (s : State) (g : GatherNo) (f : Gather → Gather) : (s.onGat g f).leases = s.leases := rfl
@[simp] theorem State.onGat_barriers (s : State) (g : GatherNo) (f : Gather → Gather) : (s.onGat g f).barriers = s.barriers := rfl
@[simp] theorem State.onGat_bal (s : State) (g : GatherNo) (f : Gather → Gather) : (s.onGat g f).bal = s.bal := rfl
@[simp] theorem State.onGat_met (s : State) (g : GatherNo) (f : Gather → Gather) : (s.onGat g f).met = s.met := rfl
@[simp] theorem State.onGat_sessidle (s : State) (g : GatherNo) (f : Gather → Gather) : (s.onGat g f).sessidle = s.sessidle := rfl
@[simp] theorem State.onGat_stormquiet (s : State) (g : GatherNo) (f : Gather → Gather) : (s.onGat g f).stormquiet = s.stormquiet := rfl
@[simp] theorem State.onGat_storm (s : State) (g : GatherNo) (f : Gather → Gather) : (s.onGat g f).storm = s.storm := rfl
@[simp] theorem State.onGat_calgenCtr (s : State) (g : GatherNo) (f : Gather → Gather) : (s.onGat g f).calgenCtr = s.calgenCtr := rfl
@[simp] theorem State.onGat_board (s : State) (g : GatherNo) (f : Gather → Gather) : (s.onGat g f).board = s.board := rfl
@[simp] theorem State.onGat_pending (s : State) (g : GatherNo) (f : Gather → Gather) : (s.onGat g f).pending = s.pending := rfl

/-! ### onBoard -/

@[simp] theorem State.onBoard_now (s : State) (f : Board → Board) : (s.onBoard f).now = s.now := rfl
@[simp] theorem State.onBoard_ptp (s : State) (f : Board → Board) : (s.onBoard f).ptp = s.ptp := rfl
@[simp] theorem State.onBoard_draws (s : State) (f : Board → Board) : (s.onBoard f).draws = s.draws := rfl
@[simp] theorem State.onBoard_opt (s : State) (f : Board → Board) : (s.onBoard f).opt = s.opt := rfl
@[simp] theorem State.onBoard_serial (s : State) (f : Board → Board) : (s.onBoard f).serial = s.serial := rfl
@[simp] theorem State.onBoard_strapRaw (s : State) (f : Board → Board) : (s.onBoard f).strapRaw = s.strapRaw := rfl
@[simp] theorem State.onBoard_strapValid (s : State) (f : Board → Board) : (s.onBoard f).strapValid = s.strapValid := rfl
@[simp] theorem State.onBoard_fw (s : State) (f : Board → Board) : (s.onBoard f).fw = s.fw := rfl
@[simp] theorem State.onBoard_mode (s : State) (f : Board → Board) : (s.onBoard f).mode = s.mode := rfl
@[simp] theorem State.onBoard_regs (s : State) (f : Board → Board) : (s.onBoard f).regs = s.regs := rfl
@[simp] theorem State.onBoard_gathers (s : State) (f : Board → Board) : (s.onBoard f).gathers = s.gathers := rfl
@[simp] theorem State.onBoard_chans (s : State) (f : Board → Board) : (s.onBoard f).chans = s.chans := rfl
@[simp] theorem State.onBoard_queues (s : State) (f : Board → Board) : (s.onBoard f).queues = s.queues := rfl
@[simp] theorem State.onBoard_tenants (s : State) (f : Board → Board) : (s.onBoard f).tenants = s.tenants := rfl
@[simp] theorem State.onBoard_sessions (s : State) (f : Board → Board) : (s.onBoard f).sessions = s.sessions := rfl
@[simp] theorem State.onBoard_establish (s : State) (f : Board → Board) : (s.onBoard f).establish = s.establish := rfl
@[simp] theorem State.onBoard_throttles (s : State) (f : Board → Board) : (s.onBoard f).throttles = s.throttles := rfl
@[simp] theorem State.onBoard_sent (s : State) (f : Board → Board) : (s.onBoard f).sent = s.sent := rfl
@[simp] theorem State.onBoard_links (s : State) (f : Board → Board) : (s.onBoard f).links = s.links := rfl
@[simp] theorem State.onBoard_localPort (s : State) (f : Board → Board) : (s.onBoard f).localPort = s.localPort := rfl
@[simp] theorem State.onBoard_dma (s : State) (f : Board → Board) : (s.onBoard f).dma = s.dma := rfl
@[simp] theorem State.onBoard_cru (s : State) (f : Board → Board) : (s.onBoard f).cru = s.cru := rfl
@[simp] theorem State.onBoard_inflight (s : State) (f : Board → Board) : (s.onBoard f).inflight = s.inflight := rfl
@[simp] theorem State.onBoard_waiting (s : State) (f : Board → Board) : (s.onBoard f).waiting = s.waiting := rfl
@[simp] theorem State.onBoard_recFifo (s : State) (f : Board → Board) : (s.onBoard f).recFifo = s.recFifo := rfl
@[simp] theorem State.onBoard_evtFifo (s : State) (f : Board → Board) : (s.onBoard f).evtFifo = s.evtFifo := rfl
@[simp] theorem State.onBoard_col (s : State) (f : Board → Board) : (s.onBoard f).col = s.col := rfl
@[simp] theorem State.onBoard_wdg (s : State) (f : Board → Board) : (s.onBoard f).wdg = s.wdg := rfl
@[simp] theorem State.onBoard_evr (s : State) (f : Board → Board) : (s.onBoard f).evr = s.evr := rfl
@[simp] theorem State.onBoard_rst (s : State) (f : Board → Board) : (s.onBoard f).rst = s.rst := rfl
@[simp] theorem State.onBoard_nvm (s : State) (f : Board → Board) : (s.onBoard f).nvm = s.nvm := rfl
@[simp] theorem State.onBoard_flash (s : State) (f : Board → Board) : (s.onBoard f).flash = s.flash := rfl
@[simp] theorem State.onBoard_leases (s : State) (f : Board → Board) : (s.onBoard f).leases = s.leases := rfl
@[simp] theorem State.onBoard_barriers (s : State) (f : Board → Board) : (s.onBoard f).barriers = s.barriers := rfl
@[simp] theorem State.onBoard_bal (s : State) (f : Board → Board) : (s.onBoard f).bal = s.bal := rfl
@[simp] theorem State.onBoard_met (s : State) (f : Board → Board) : (s.onBoard f).met = s.met := rfl
@[simp] theorem State.onBoard_sessidle (s : State) (f : Board → Board) : (s.onBoard f).sessidle = s.sessidle := rfl
@[simp] theorem State.onBoard_stormquiet (s : State) (f : Board → Board) : (s.onBoard f).stormquiet = s.stormquiet := rfl
@[simp] theorem State.onBoard_storm (s : State) (f : Board → Board) : (s.onBoard f).storm = s.storm := rfl
@[simp] theorem State.onBoard_calgenCtr (s : State) (f : Board → Board) : (s.onBoard f).calgenCtr = s.calgenCtr := rfl
@[simp] theorem State.onBoard_pending (s : State) (f : Board → Board) : (s.onBoard f).pending = s.pending := rfl

/-! ### onTenant -/

@[simp] theorem State.onTenant_now (s : State) (t : Nat) (f : Tenant → Tenant) : (s.onTenant t f).now = s.now := rfl
@[simp] theorem State.onTenant_ptp (s : State) (t : Nat) (f : Tenant → Tenant) : (s.onTenant t f).ptp = s.ptp := rfl
@[simp] theorem State.onTenant_draws (s : State) (t : Nat) (f : Tenant → Tenant) : (s.onTenant t f).draws = s.draws := rfl
@[simp] theorem State.onTenant_opt (s : State) (t : Nat) (f : Tenant → Tenant) : (s.onTenant t f).opt = s.opt := rfl
@[simp] theorem State.onTenant_serial (s : State) (t : Nat) (f : Tenant → Tenant) : (s.onTenant t f).serial = s.serial := rfl
@[simp] theorem State.onTenant_strapRaw (s : State) (t : Nat) (f : Tenant → Tenant) : (s.onTenant t f).strapRaw = s.strapRaw := rfl
@[simp] theorem State.onTenant_strapValid (s : State) (t : Nat) (f : Tenant → Tenant) : (s.onTenant t f).strapValid = s.strapValid := rfl
@[simp] theorem State.onTenant_fw (s : State) (t : Nat) (f : Tenant → Tenant) : (s.onTenant t f).fw = s.fw := rfl
@[simp] theorem State.onTenant_mode (s : State) (t : Nat) (f : Tenant → Tenant) : (s.onTenant t f).mode = s.mode := rfl
@[simp] theorem State.onTenant_regs (s : State) (t : Nat) (f : Tenant → Tenant) : (s.onTenant t f).regs = s.regs := rfl
@[simp] theorem State.onTenant_gathers (s : State) (t : Nat) (f : Tenant → Tenant) : (s.onTenant t f).gathers = s.gathers := rfl
@[simp] theorem State.onTenant_chans (s : State) (t : Nat) (f : Tenant → Tenant) : (s.onTenant t f).chans = s.chans := rfl
@[simp] theorem State.onTenant_queues (s : State) (t : Nat) (f : Tenant → Tenant) : (s.onTenant t f).queues = s.queues := rfl
@[simp] theorem State.onTenant_sessions (s : State) (t : Nat) (f : Tenant → Tenant) : (s.onTenant t f).sessions = s.sessions := rfl
@[simp] theorem State.onTenant_establish (s : State) (t : Nat) (f : Tenant → Tenant) : (s.onTenant t f).establish = s.establish := rfl
@[simp] theorem State.onTenant_throttles (s : State) (t : Nat) (f : Tenant → Tenant) : (s.onTenant t f).throttles = s.throttles := rfl
@[simp] theorem State.onTenant_sent (s : State) (t : Nat) (f : Tenant → Tenant) : (s.onTenant t f).sent = s.sent := rfl
@[simp] theorem State.onTenant_links (s : State) (t : Nat) (f : Tenant → Tenant) : (s.onTenant t f).links = s.links := rfl
@[simp] theorem State.onTenant_localPort (s : State) (t : Nat) (f : Tenant → Tenant) : (s.onTenant t f).localPort = s.localPort := rfl
@[simp] theorem State.onTenant_dma (s : State) (t : Nat) (f : Tenant → Tenant) : (s.onTenant t f).dma = s.dma := rfl
@[simp] theorem State.onTenant_cru (s : State) (t : Nat) (f : Tenant → Tenant) : (s.onTenant t f).cru = s.cru := rfl
@[simp] theorem State.onTenant_inflight (s : State) (t : Nat) (f : Tenant → Tenant) : (s.onTenant t f).inflight = s.inflight := rfl
@[simp] theorem State.onTenant_waiting (s : State) (t : Nat) (f : Tenant → Tenant) : (s.onTenant t f).waiting = s.waiting := rfl
@[simp] theorem State.onTenant_recFifo (s : State) (t : Nat) (f : Tenant → Tenant) : (s.onTenant t f).recFifo = s.recFifo := rfl
@[simp] theorem State.onTenant_evtFifo (s : State) (t : Nat) (f : Tenant → Tenant) : (s.onTenant t f).evtFifo = s.evtFifo := rfl
@[simp] theorem State.onTenant_col (s : State) (t : Nat) (f : Tenant → Tenant) : (s.onTenant t f).col = s.col := rfl
@[simp] theorem State.onTenant_wdg (s : State) (t : Nat) (f : Tenant → Tenant) : (s.onTenant t f).wdg = s.wdg := rfl
@[simp] theorem State.onTenant_evr (s : State) (t : Nat) (f : Tenant → Tenant) : (s.onTenant t f).evr = s.evr := rfl
@[simp] theorem State.onTenant_rst (s : State) (t : Nat) (f : Tenant → Tenant) : (s.onTenant t f).rst = s.rst := rfl
@[simp] theorem State.onTenant_nvm (s : State) (t : Nat) (f : Tenant → Tenant) : (s.onTenant t f).nvm = s.nvm := rfl
@[simp] theorem State.onTenant_flash (s : State) (t : Nat) (f : Tenant → Tenant) : (s.onTenant t f).flash = s.flash := rfl
@[simp] theorem State.onTenant_leases (s : State) (t : Nat) (f : Tenant → Tenant) : (s.onTenant t f).leases = s.leases := rfl
@[simp] theorem State.onTenant_barriers (s : State) (t : Nat) (f : Tenant → Tenant) : (s.onTenant t f).barriers = s.barriers := rfl
@[simp] theorem State.onTenant_bal (s : State) (t : Nat) (f : Tenant → Tenant) : (s.onTenant t f).bal = s.bal := rfl
@[simp] theorem State.onTenant_met (s : State) (t : Nat) (f : Tenant → Tenant) : (s.onTenant t f).met = s.met := rfl
@[simp] theorem State.onTenant_sessidle (s : State) (t : Nat) (f : Tenant → Tenant) : (s.onTenant t f).sessidle = s.sessidle := rfl
@[simp] theorem State.onTenant_stormquiet (s : State) (t : Nat) (f : Tenant → Tenant) : (s.onTenant t f).stormquiet = s.stormquiet := rfl
@[simp] theorem State.onTenant_storm (s : State) (t : Nat) (f : Tenant → Tenant) : (s.onTenant t f).storm = s.storm := rfl
@[simp] theorem State.onTenant_calgenCtr (s : State) (t : Nat) (f : Tenant → Tenant) : (s.onTenant t f).calgenCtr = s.calgenCtr := rfl
@[simp] theorem State.onTenant_board (s : State) (t : Nat) (f : Tenant → Tenant) : (s.onTenant t f).board = s.board := rfl
@[simp] theorem State.onTenant_pending (s : State) (t : Nat) (f : Tenant → Tenant) : (s.onTenant t f).pending = s.pending := rfl

/-! ### onQueue -/

@[simp] theorem State.onQueue_now (s : State) (q : Nat) (f : Queue → Queue) : (s.onQueue q f).now = s.now := rfl
@[simp] theorem State.onQueue_ptp (s : State) (q : Nat) (f : Queue → Queue) : (s.onQueue q f).ptp = s.ptp := rfl
@[simp] theorem State.onQueue_draws (s : State) (q : Nat) (f : Queue → Queue) : (s.onQueue q f).draws = s.draws := rfl
@[simp] theorem State.onQueue_opt (s : State) (q : Nat) (f : Queue → Queue) : (s.onQueue q f).opt = s.opt := rfl
@[simp] theorem State.onQueue_serial (s : State) (q : Nat) (f : Queue → Queue) : (s.onQueue q f).serial = s.serial := rfl
@[simp] theorem State.onQueue_strapRaw (s : State) (q : Nat) (f : Queue → Queue) : (s.onQueue q f).strapRaw = s.strapRaw := rfl
@[simp] theorem State.onQueue_strapValid (s : State) (q : Nat) (f : Queue → Queue) : (s.onQueue q f).strapValid = s.strapValid := rfl
@[simp] theorem State.onQueue_fw (s : State) (q : Nat) (f : Queue → Queue) : (s.onQueue q f).fw = s.fw := rfl
@[simp] theorem State.onQueue_mode (s : State) (q : Nat) (f : Queue → Queue) : (s.onQueue q f).mode = s.mode := rfl
@[simp] theorem State.onQueue_regs (s : State) (q : Nat) (f : Queue → Queue) : (s.onQueue q f).regs = s.regs := rfl
@[simp] theorem State.onQueue_gathers (s : State) (q : Nat) (f : Queue → Queue) : (s.onQueue q f).gathers = s.gathers := rfl
@[simp] theorem State.onQueue_chans (s : State) (q : Nat) (f : Queue → Queue) : (s.onQueue q f).chans = s.chans := rfl
@[simp] theorem State.onQueue_tenants (s : State) (q : Nat) (f : Queue → Queue) : (s.onQueue q f).tenants = s.tenants := rfl
@[simp] theorem State.onQueue_sessions (s : State) (q : Nat) (f : Queue → Queue) : (s.onQueue q f).sessions = s.sessions := rfl
@[simp] theorem State.onQueue_establish (s : State) (q : Nat) (f : Queue → Queue) : (s.onQueue q f).establish = s.establish := rfl
@[simp] theorem State.onQueue_throttles (s : State) (q : Nat) (f : Queue → Queue) : (s.onQueue q f).throttles = s.throttles := rfl
@[simp] theorem State.onQueue_sent (s : State) (q : Nat) (f : Queue → Queue) : (s.onQueue q f).sent = s.sent := rfl
@[simp] theorem State.onQueue_links (s : State) (q : Nat) (f : Queue → Queue) : (s.onQueue q f).links = s.links := rfl
@[simp] theorem State.onQueue_localPort (s : State) (q : Nat) (f : Queue → Queue) : (s.onQueue q f).localPort = s.localPort := rfl
@[simp] theorem State.onQueue_dma (s : State) (q : Nat) (f : Queue → Queue) : (s.onQueue q f).dma = s.dma := rfl
@[simp] theorem State.onQueue_cru (s : State) (q : Nat) (f : Queue → Queue) : (s.onQueue q f).cru = s.cru := rfl
@[simp] theorem State.onQueue_inflight (s : State) (q : Nat) (f : Queue → Queue) : (s.onQueue q f).inflight = s.inflight := rfl
@[simp] theorem State.onQueue_waiting (s : State) (q : Nat) (f : Queue → Queue) : (s.onQueue q f).waiting = s.waiting := rfl
@[simp] theorem State.onQueue_recFifo (s : State) (q : Nat) (f : Queue → Queue) : (s.onQueue q f).recFifo = s.recFifo := rfl
@[simp] theorem State.onQueue_evtFifo (s : State) (q : Nat) (f : Queue → Queue) : (s.onQueue q f).evtFifo = s.evtFifo := rfl
@[simp] theorem State.onQueue_col (s : State) (q : Nat) (f : Queue → Queue) : (s.onQueue q f).col = s.col := rfl
@[simp] theorem State.onQueue_wdg (s : State) (q : Nat) (f : Queue → Queue) : (s.onQueue q f).wdg = s.wdg := rfl
@[simp] theorem State.onQueue_evr (s : State) (q : Nat) (f : Queue → Queue) : (s.onQueue q f).evr = s.evr := rfl
@[simp] theorem State.onQueue_rst (s : State) (q : Nat) (f : Queue → Queue) : (s.onQueue q f).rst = s.rst := rfl
@[simp] theorem State.onQueue_nvm (s : State) (q : Nat) (f : Queue → Queue) : (s.onQueue q f).nvm = s.nvm := rfl
@[simp] theorem State.onQueue_flash (s : State) (q : Nat) (f : Queue → Queue) : (s.onQueue q f).flash = s.flash := rfl
@[simp] theorem State.onQueue_leases (s : State) (q : Nat) (f : Queue → Queue) : (s.onQueue q f).leases = s.leases := rfl
@[simp] theorem State.onQueue_barriers (s : State) (q : Nat) (f : Queue → Queue) : (s.onQueue q f).barriers = s.barriers := rfl
@[simp] theorem State.onQueue_bal (s : State) (q : Nat) (f : Queue → Queue) : (s.onQueue q f).bal = s.bal := rfl
@[simp] theorem State.onQueue_met (s : State) (q : Nat) (f : Queue → Queue) : (s.onQueue q f).met = s.met := rfl
@[simp] theorem State.onQueue_sessidle (s : State) (q : Nat) (f : Queue → Queue) : (s.onQueue q f).sessidle = s.sessidle := rfl
@[simp] theorem State.onQueue_stormquiet (s : State) (q : Nat) (f : Queue → Queue) : (s.onQueue q f).stormquiet = s.stormquiet := rfl
@[simp] theorem State.onQueue_storm (s : State) (q : Nat) (f : Queue → Queue) : (s.onQueue q f).storm = s.storm := rfl
@[simp] theorem State.onQueue_calgenCtr (s : State) (q : Nat) (f : Queue → Queue) : (s.onQueue q f).calgenCtr = s.calgenCtr := rfl
@[simp] theorem State.onQueue_board (s : State) (q : Nat) (f : Queue → Queue) : (s.onQueue q f).board = s.board := rfl
@[simp] theorem State.onQueue_pending (s : State) (q : Nat) (f : Queue → Queue) : (s.onQueue q f).pending = s.pending := rfl

/-! ### onSession -/

@[simp] theorem State.onSession_now (s : State) (n : Nat) (f : Session → Session) : (s.onSession n f).now = s.now := rfl
@[simp] theorem State.onSession_ptp (s : State) (n : Nat) (f : Session → Session) : (s.onSession n f).ptp = s.ptp := rfl
@[simp] theorem State.onSession_draws (s : State) (n : Nat) (f : Session → Session) : (s.onSession n f).draws = s.draws := rfl
@[simp] theorem State.onSession_opt (s : State) (n : Nat) (f : Session → Session) : (s.onSession n f).opt = s.opt := rfl
@[simp] theorem State.onSession_serial (s : State) (n : Nat) (f : Session → Session) : (s.onSession n f).serial = s.serial := rfl
@[simp] theorem State.onSession_strapRaw (s : State) (n : Nat) (f : Session → Session) : (s.onSession n f).strapRaw = s.strapRaw := rfl
@[simp] theorem State.onSession_strapValid (s : State) (n : Nat) (f : Session → Session) : (s.onSession n f).strapValid = s.strapValid := rfl
@[simp] theorem State.onSession_fw (s : State) (n : Nat) (f : Session → Session) : (s.onSession n f).fw = s.fw := rfl
@[simp] theorem State.onSession_mode (s : State) (n : Nat) (f : Session → Session) : (s.onSession n f).mode = s.mode := rfl
@[simp] theorem State.onSession_regs (s : State) (n : Nat) (f : Session → Session) : (s.onSession n f).regs = s.regs := rfl
@[simp] theorem State.onSession_gathers (s : State) (n : Nat) (f : Session → Session) : (s.onSession n f).gathers = s.gathers := rfl
@[simp] theorem State.onSession_chans (s : State) (n : Nat) (f : Session → Session) : (s.onSession n f).chans = s.chans := rfl
@[simp] theorem State.onSession_queues (s : State) (n : Nat) (f : Session → Session) : (s.onSession n f).queues = s.queues := rfl
@[simp] theorem State.onSession_tenants (s : State) (n : Nat) (f : Session → Session) : (s.onSession n f).tenants = s.tenants := rfl
@[simp] theorem State.onSession_establish (s : State) (n : Nat) (f : Session → Session) : (s.onSession n f).establish = s.establish := rfl
@[simp] theorem State.onSession_throttles (s : State) (n : Nat) (f : Session → Session) : (s.onSession n f).throttles = s.throttles := rfl
@[simp] theorem State.onSession_sent (s : State) (n : Nat) (f : Session → Session) : (s.onSession n f).sent = s.sent := rfl
@[simp] theorem State.onSession_links (s : State) (n : Nat) (f : Session → Session) : (s.onSession n f).links = s.links := rfl
@[simp] theorem State.onSession_localPort (s : State) (n : Nat) (f : Session → Session) : (s.onSession n f).localPort = s.localPort := rfl
@[simp] theorem State.onSession_dma (s : State) (n : Nat) (f : Session → Session) : (s.onSession n f).dma = s.dma := rfl
@[simp] theorem State.onSession_cru (s : State) (n : Nat) (f : Session → Session) : (s.onSession n f).cru = s.cru := rfl
@[simp] theorem State.onSession_inflight (s : State) (n : Nat) (f : Session → Session) : (s.onSession n f).inflight = s.inflight := rfl
@[simp] theorem State.onSession_waiting (s : State) (n : Nat) (f : Session → Session) : (s.onSession n f).waiting = s.waiting := rfl
@[simp] theorem State.onSession_recFifo (s : State) (n : Nat) (f : Session → Session) : (s.onSession n f).recFifo = s.recFifo := rfl
@[simp] theorem State.onSession_evtFifo (s : State) (n : Nat) (f : Session → Session) : (s.onSession n f).evtFifo = s.evtFifo := rfl
@[simp] theorem State.onSession_col (s : State) (n : Nat) (f : Session → Session) : (s.onSession n f).col = s.col := rfl
@[simp] theorem State.onSession_wdg (s : State) (n : Nat) (f : Session → Session) : (s.onSession n f).wdg = s.wdg := rfl
@[simp] theorem State.onSession_evr (s : State) (n : Nat) (f : Session → Session) : (s.onSession n f).evr = s.evr := rfl
@[simp] theorem State.onSession_rst (s : State) (n : Nat) (f : Session → Session) : (s.onSession n f).rst = s.rst := rfl
@[simp] theorem State.onSession_nvm (s : State) (n : Nat) (f : Session → Session) : (s.onSession n f).nvm = s.nvm := rfl
@[simp] theorem State.onSession_flash (s : State) (n : Nat) (f : Session → Session) : (s.onSession n f).flash = s.flash := rfl
@[simp] theorem State.onSession_leases (s : State) (n : Nat) (f : Session → Session) : (s.onSession n f).leases = s.leases := rfl
@[simp] theorem State.onSession_barriers (s : State) (n : Nat) (f : Session → Session) : (s.onSession n f).barriers = s.barriers := rfl
@[simp] theorem State.onSession_bal (s : State) (n : Nat) (f : Session → Session) : (s.onSession n f).bal = s.bal := rfl
@[simp] theorem State.onSession_met (s : State) (n : Nat) (f : Session → Session) : (s.onSession n f).met = s.met := rfl
@[simp] theorem State.onSession_sessidle (s : State) (n : Nat) (f : Session → Session) : (s.onSession n f).sessidle = s.sessidle := rfl
@[simp] theorem State.onSession_stormquiet (s : State) (n : Nat) (f : Session → Session) : (s.onSession n f).stormquiet = s.stormquiet := rfl
@[simp] theorem State.onSession_storm (s : State) (n : Nat) (f : Session → Session) : (s.onSession n f).storm = s.storm := rfl
@[simp] theorem State.onSession_calgenCtr (s : State) (n : Nat) (f : Session → Session) : (s.onSession n f).calgenCtr = s.calgenCtr := rfl
@[simp] theorem State.onSession_board (s : State) (n : Nat) (f : Session → Session) : (s.onSession n f).board = s.board := rfl
@[simp] theorem State.onSession_pending (s : State) (n : Nat) (f : Session → Session) : (s.onSession n f).pending = s.pending := rfl

/-! ### onLease -/

@[simp] theorem State.onLease_now (s : State) (l : Nat) (f : Lease → Lease) : (s.onLease l f).now = s.now := rfl
@[simp] theorem State.onLease_ptp (s : State) (l : Nat) (f : Lease → Lease) : (s.onLease l f).ptp = s.ptp := rfl
@[simp] theorem State.onLease_draws (s : State) (l : Nat) (f : Lease → Lease) : (s.onLease l f).draws = s.draws := rfl
@[simp] theorem State.onLease_opt (s : State) (l : Nat) (f : Lease → Lease) : (s.onLease l f).opt = s.opt := rfl
@[simp] theorem State.onLease_serial (s : State) (l : Nat) (f : Lease → Lease) : (s.onLease l f).serial = s.serial := rfl
@[simp] theorem State.onLease_strapRaw (s : State) (l : Nat) (f : Lease → Lease) : (s.onLease l f).strapRaw = s.strapRaw := rfl
@[simp] theorem State.onLease_strapValid (s : State) (l : Nat) (f : Lease → Lease) : (s.onLease l f).strapValid = s.strapValid := rfl
@[simp] theorem State.onLease_fw (s : State) (l : Nat) (f : Lease → Lease) : (s.onLease l f).fw = s.fw := rfl
@[simp] theorem State.onLease_mode (s : State) (l : Nat) (f : Lease → Lease) : (s.onLease l f).mode = s.mode := rfl
@[simp] theorem State.onLease_regs (s : State) (l : Nat) (f : Lease → Lease) : (s.onLease l f).regs = s.regs := rfl
@[simp] theorem State.onLease_gathers (s : State) (l : Nat) (f : Lease → Lease) : (s.onLease l f).gathers = s.gathers := rfl
@[simp] theorem State.onLease_chans (s : State) (l : Nat) (f : Lease → Lease) : (s.onLease l f).chans = s.chans := rfl
@[simp] theorem State.onLease_queues (s : State) (l : Nat) (f : Lease → Lease) : (s.onLease l f).queues = s.queues := rfl
@[simp] theorem State.onLease_tenants (s : State) (l : Nat) (f : Lease → Lease) : (s.onLease l f).tenants = s.tenants := rfl
@[simp] theorem State.onLease_sessions (s : State) (l : Nat) (f : Lease → Lease) : (s.onLease l f).sessions = s.sessions := rfl
@[simp] theorem State.onLease_establish (s : State) (l : Nat) (f : Lease → Lease) : (s.onLease l f).establish = s.establish := rfl
@[simp] theorem State.onLease_throttles (s : State) (l : Nat) (f : Lease → Lease) : (s.onLease l f).throttles = s.throttles := rfl
@[simp] theorem State.onLease_sent (s : State) (l : Nat) (f : Lease → Lease) : (s.onLease l f).sent = s.sent := rfl
@[simp] theorem State.onLease_links (s : State) (l : Nat) (f : Lease → Lease) : (s.onLease l f).links = s.links := rfl
@[simp] theorem State.onLease_localPort (s : State) (l : Nat) (f : Lease → Lease) : (s.onLease l f).localPort = s.localPort := rfl
@[simp] theorem State.onLease_dma (s : State) (l : Nat) (f : Lease → Lease) : (s.onLease l f).dma = s.dma := rfl
@[simp] theorem State.onLease_cru (s : State) (l : Nat) (f : Lease → Lease) : (s.onLease l f).cru = s.cru := rfl
@[simp] theorem State.onLease_inflight (s : State) (l : Nat) (f : Lease → Lease) : (s.onLease l f).inflight = s.inflight := rfl
@[simp] theorem State.onLease_waiting (s : State) (l : Nat) (f : Lease → Lease) : (s.onLease l f).waiting = s.waiting := rfl
@[simp] theorem State.onLease_recFifo (s : State) (l : Nat) (f : Lease → Lease) : (s.onLease l f).recFifo = s.recFifo := rfl
@[simp] theorem State.onLease_evtFifo (s : State) (l : Nat) (f : Lease → Lease) : (s.onLease l f).evtFifo = s.evtFifo := rfl
@[simp] theorem State.onLease_col (s : State) (l : Nat) (f : Lease → Lease) : (s.onLease l f).col = s.col := rfl
@[simp] theorem State.onLease_wdg (s : State) (l : Nat) (f : Lease → Lease) : (s.onLease l f).wdg = s.wdg := rfl
@[simp] theorem State.onLease_evr (s : State) (l : Nat) (f : Lease → Lease) : (s.onLease l f).evr = s.evr := rfl
@[simp] theorem State.onLease_rst (s : State) (l : Nat) (f : Lease → Lease) : (s.onLease l f).rst = s.rst := rfl
@[simp] theorem State.onLease_nvm (s : State) (l : Nat) (f : Lease → Lease) : (s.onLease l f).nvm = s.nvm := rfl
@[simp] theorem State.onLease_flash (s : State) (l : Nat) (f : Lease → Lease) : (s.onLease l f).flash = s.flash := rfl
@[simp] theorem State.onLease_barriers (s : State) (l : Nat) (f : Lease → Lease) : (s.onLease l f).barriers = s.barriers := rfl
@[simp] theorem State.onLease_bal (s : State) (l : Nat) (f : Lease → Lease) : (s.onLease l f).bal = s.bal := rfl
@[simp] theorem State.onLease_met (s : State) (l : Nat) (f : Lease → Lease) : (s.onLease l f).met = s.met := rfl
@[simp] theorem State.onLease_sessidle (s : State) (l : Nat) (f : Lease → Lease) : (s.onLease l f).sessidle = s.sessidle := rfl
@[simp] theorem State.onLease_stormquiet (s : State) (l : Nat) (f : Lease → Lease) : (s.onLease l f).stormquiet = s.stormquiet := rfl
@[simp] theorem State.onLease_storm (s : State) (l : Nat) (f : Lease → Lease) : (s.onLease l f).storm = s.storm := rfl
@[simp] theorem State.onLease_calgenCtr (s : State) (l : Nat) (f : Lease → Lease) : (s.onLease l f).calgenCtr = s.calgenCtr := rfl
@[simp] theorem State.onLease_board (s : State) (l : Nat) (f : Lease → Lease) : (s.onLease l f).board = s.board := rfl
@[simp] theorem State.onLease_pending (s : State) (l : Nat) (f : Lease → Lease) : (s.onLease l f).pending = s.pending := rfl

/-! ### setReg -/

@[simp] theorem State.setReg_now (s : State) (a w : Nat) : (s.setReg a w).now = s.now := rfl
@[simp] theorem State.setReg_ptp (s : State) (a w : Nat) : (s.setReg a w).ptp = s.ptp := rfl
@[simp] theorem State.setReg_draws (s : State) (a w : Nat) : (s.setReg a w).draws = s.draws := rfl
@[simp] theorem State.setReg_opt (s : State) (a w : Nat) : (s.setReg a w).opt = s.opt := rfl
@[simp] theorem State.setReg_serial (s : State) (a w : Nat) : (s.setReg a w).serial = s.serial := rfl
@[simp] theorem State.setReg_strapRaw (s : State) (a w : Nat) : (s.setReg a w).strapRaw = s.strapRaw := rfl
@[simp] theorem State.setReg_strapValid (s : State) (a w : Nat) : (s.setReg a w).strapValid = s.strapValid := rfl
@[simp] theorem State.setReg_fw (s : State) (a w : Nat) : (s.setReg a w).fw = s.fw := rfl
@[simp] theorem State.setReg_mode (s : State) (a w : Nat) : (s.setReg a w).mode = s.mode := rfl
@[simp] theorem State.setReg_gathers (s : State) (a w : Nat) : (s.setReg a w).gathers = s.gathers := rfl
@[simp] theorem State.setReg_chans (s : State) (a w : Nat) : (s.setReg a w).chans = s.chans := rfl
@[simp] theorem State.setReg_queues (s : State) (a w : Nat) : (s.setReg a w).queues = s.queues := rfl
@[simp] theorem State.setReg_tenants (s : State) (a w : Nat) : (s.setReg a w).tenants = s.tenants := rfl
@[simp] theorem State.setReg_sessions (s : State) (a w : Nat) : (s.setReg a w).sessions = s.sessions := rfl
@[simp] theorem State.setReg_establish (s : State) (a w : Nat) : (s.setReg a w).establish = s.establish := rfl
@[simp] theorem State.setReg_throttles (s : State) (a w : Nat) : (s.setReg a w).throttles = s.throttles := rfl
@[simp] theorem State.setReg_sent (s : State) (a w : Nat) : (s.setReg a w).sent = s.sent := rfl
@[simp] theorem State.setReg_links (s : State) (a w : Nat) : (s.setReg a w).links = s.links := rfl
@[simp] theorem State.setReg_localPort (s : State) (a w : Nat) : (s.setReg a w).localPort = s.localPort := rfl
@[simp] theorem State.setReg_dma (s : State) (a w : Nat) : (s.setReg a w).dma = s.dma := rfl
@[simp] theorem State.setReg_cru (s : State) (a w : Nat) : (s.setReg a w).cru = s.cru := rfl
@[simp] theorem State.setReg_inflight (s : State) (a w : Nat) : (s.setReg a w).inflight = s.inflight := rfl
@[simp] theorem State.setReg_waiting (s : State) (a w : Nat) : (s.setReg a w).waiting = s.waiting := rfl
@[simp] theorem State.setReg_recFifo (s : State) (a w : Nat) : (s.setReg a w).recFifo = s.recFifo := rfl
@[simp] theorem State.setReg_evtFifo (s : State) (a w : Nat) : (s.setReg a w).evtFifo = s.evtFifo := rfl
@[simp] theorem State.setReg_col (s : State) (a w : Nat) : (s.setReg a w).col = s.col := rfl
@[simp] theorem State.setReg_wdg (s : State) (a w : Nat) : (s.setReg a w).wdg = s.wdg := rfl
@[simp] theorem State.setReg_evr (s : State) (a w : Nat) : (s.setReg a w).evr = s.evr := rfl
@[simp] theorem State.setReg_rst (s : State) (a w : Nat) : (s.setReg a w).rst = s.rst := rfl
@[simp] theorem State.setReg_nvm (s : State) (a w : Nat) : (s.setReg a w).nvm = s.nvm := rfl
@[simp] theorem State.setReg_flash (s : State) (a w : Nat) : (s.setReg a w).flash = s.flash := rfl
@[simp] theorem State.setReg_leases (s : State) (a w : Nat) : (s.setReg a w).leases = s.leases := rfl
@[simp] theorem State.setReg_barriers (s : State) (a w : Nat) : (s.setReg a w).barriers = s.barriers := rfl
@[simp] theorem State.setReg_bal (s : State) (a w : Nat) : (s.setReg a w).bal = s.bal := rfl
@[simp] theorem State.setReg_met (s : State) (a w : Nat) : (s.setReg a w).met = s.met := rfl
@[simp] theorem State.setReg_sessidle (s : State) (a w : Nat) : (s.setReg a w).sessidle = s.sessidle := rfl
@[simp] theorem State.setReg_stormquiet (s : State) (a w : Nat) : (s.setReg a w).stormquiet = s.stormquiet := rfl
@[simp] theorem State.setReg_storm (s : State) (a w : Nat) : (s.setReg a w).storm = s.storm := rfl
@[simp] theorem State.setReg_calgenCtr (s : State) (a w : Nat) : (s.setReg a w).calgenCtr = s.calgenCtr := rfl
@[simp] theorem State.setReg_board (s : State) (a w : Nat) : (s.setReg a w).board = s.board := rfl
@[simp] theorem State.setReg_pending (s : State) (a w : Nat) : (s.setReg a w).pending = s.pending := rfl

/-! ### pushRec -/

@[simp] theorem State.pushRec_now (s : State) (r : RecIn) : (s.pushRec r).now = s.now := rfl
@[simp] theorem State.pushRec_ptp (s : State) (r : RecIn) : (s.pushRec r).ptp = s.ptp := rfl
@[simp] theorem State.pushRec_draws (s : State) (r : RecIn) : (s.pushRec r).draws = s.draws := rfl
@[simp] theorem State.pushRec_opt (s : State) (r : RecIn) : (s.pushRec r).opt = s.opt := rfl
@[simp] theorem State.pushRec_serial (s : State) (r : RecIn) : (s.pushRec r).serial = s.serial := rfl
@[simp] theorem State.pushRec_strapRaw (s : State) (r : RecIn) : (s.pushRec r).strapRaw = s.strapRaw := rfl
@[simp] theorem State.pushRec_strapValid (s : State) (r : RecIn) : (s.pushRec r).strapValid = s.strapValid := rfl
@[simp] theorem State.pushRec_fw (s : State) (r : RecIn) : (s.pushRec r).fw = s.fw := rfl
@[simp] theorem State.pushRec_mode (s : State) (r : RecIn) : (s.pushRec r).mode = s.mode := rfl
@[simp] theorem State.pushRec_regs (s : State) (r : RecIn) : (s.pushRec r).regs = s.regs := rfl
@[simp] theorem State.pushRec_gathers (s : State) (r : RecIn) : (s.pushRec r).gathers = s.gathers := rfl
@[simp] theorem State.pushRec_chans (s : State) (r : RecIn) : (s.pushRec r).chans = s.chans := rfl
@[simp] theorem State.pushRec_queues (s : State) (r : RecIn) : (s.pushRec r).queues = s.queues := rfl
@[simp] theorem State.pushRec_tenants (s : State) (r : RecIn) : (s.pushRec r).tenants = s.tenants := rfl
@[simp] theorem State.pushRec_sessions (s : State) (r : RecIn) : (s.pushRec r).sessions = s.sessions := rfl
@[simp] theorem State.pushRec_establish (s : State) (r : RecIn) : (s.pushRec r).establish = s.establish := rfl
@[simp] theorem State.pushRec_throttles (s : State) (r : RecIn) : (s.pushRec r).throttles = s.throttles := rfl
@[simp] theorem State.pushRec_sent (s : State) (r : RecIn) : (s.pushRec r).sent = s.sent := rfl
@[simp] theorem State.pushRec_links (s : State) (r : RecIn) : (s.pushRec r).links = s.links := rfl
@[simp] theorem State.pushRec_localPort (s : State) (r : RecIn) : (s.pushRec r).localPort = s.localPort := rfl
@[simp] theorem State.pushRec_dma (s : State) (r : RecIn) : (s.pushRec r).dma = s.dma := rfl
@[simp] theorem State.pushRec_cru (s : State) (r : RecIn) : (s.pushRec r).cru = s.cru := rfl
@[simp] theorem State.pushRec_inflight (s : State) (r : RecIn) : (s.pushRec r).inflight = s.inflight := rfl
@[simp] theorem State.pushRec_waiting (s : State) (r : RecIn) : (s.pushRec r).waiting = s.waiting := rfl
@[simp] theorem State.pushRec_evtFifo (s : State) (r : RecIn) : (s.pushRec r).evtFifo = s.evtFifo := rfl
@[simp] theorem State.pushRec_col (s : State) (r : RecIn) : (s.pushRec r).col = s.col := rfl
@[simp] theorem State.pushRec_wdg (s : State) (r : RecIn) : (s.pushRec r).wdg = s.wdg := rfl
@[simp] theorem State.pushRec_evr (s : State) (r : RecIn) : (s.pushRec r).evr = s.evr := rfl
@[simp] theorem State.pushRec_rst (s : State) (r : RecIn) : (s.pushRec r).rst = s.rst := rfl
@[simp] theorem State.pushRec_nvm (s : State) (r : RecIn) : (s.pushRec r).nvm = s.nvm := rfl
@[simp] theorem State.pushRec_flash (s : State) (r : RecIn) : (s.pushRec r).flash = s.flash := rfl
@[simp] theorem State.pushRec_leases (s : State) (r : RecIn) : (s.pushRec r).leases = s.leases := rfl
@[simp] theorem State.pushRec_barriers (s : State) (r : RecIn) : (s.pushRec r).barriers = s.barriers := rfl
@[simp] theorem State.pushRec_bal (s : State) (r : RecIn) : (s.pushRec r).bal = s.bal := rfl
@[simp] theorem State.pushRec_met (s : State) (r : RecIn) : (s.pushRec r).met = s.met := rfl
@[simp] theorem State.pushRec_sessidle (s : State) (r : RecIn) : (s.pushRec r).sessidle = s.sessidle := rfl
@[simp] theorem State.pushRec_stormquiet (s : State) (r : RecIn) : (s.pushRec r).stormquiet = s.stormquiet := rfl
@[simp] theorem State.pushRec_storm (s : State) (r : RecIn) : (s.pushRec r).storm = s.storm := rfl
@[simp] theorem State.pushRec_calgenCtr (s : State) (r : RecIn) : (s.pushRec r).calgenCtr = s.calgenCtr := rfl
@[simp] theorem State.pushRec_board (s : State) (r : RecIn) : (s.pushRec r).board = s.board := rfl
@[simp] theorem State.pushRec_pending (s : State) (r : RecIn) : (s.pushRec r).pending = s.pending := rfl

/-! ### pushEvt -/

@[simp] theorem State.pushEvt_now (s : State) (e : EvtIn) : (s.pushEvt e).now = s.now := rfl
@[simp] theorem State.pushEvt_ptp (s : State) (e : EvtIn) : (s.pushEvt e).ptp = s.ptp := rfl
@[simp] theorem State.pushEvt_draws (s : State) (e : EvtIn) : (s.pushEvt e).draws = s.draws := rfl
@[simp] theorem State.pushEvt_opt (s : State) (e : EvtIn) : (s.pushEvt e).opt = s.opt := rfl
@[simp] theorem State.pushEvt_serial (s : State) (e : EvtIn) : (s.pushEvt e).serial = s.serial := rfl
@[simp] theorem State.pushEvt_strapRaw (s : State) (e : EvtIn) : (s.pushEvt e).strapRaw = s.strapRaw := rfl
@[simp] theorem State.pushEvt_strapValid (s : State) (e : EvtIn) : (s.pushEvt e).strapValid = s.strapValid := rfl
@[simp] theorem State.pushEvt_fw (s : State) (e : EvtIn) : (s.pushEvt e).fw = s.fw := rfl
@[simp] theorem State.pushEvt_mode (s : State) (e : EvtIn) : (s.pushEvt e).mode = s.mode := rfl
@[simp] theorem State.pushEvt_regs (s : State) (e : EvtIn) : (s.pushEvt e).regs = s.regs := rfl
@[simp] theorem State.pushEvt_gathers (s : State) (e : EvtIn) : (s.pushEvt e).gathers = s.gathers := rfl
@[simp] theorem State.pushEvt_chans (s : State) (e : EvtIn) : (s.pushEvt e).chans = s.chans := rfl
@[simp] theorem State.pushEvt_queues (s : State) (e : EvtIn) : (s.pushEvt e).queues = s.queues := rfl
@[simp] theorem State.pushEvt_tenants (s : State) (e : EvtIn) : (s.pushEvt e).tenants = s.tenants := rfl
@[simp] theorem State.pushEvt_sessions (s : State) (e : EvtIn) : (s.pushEvt e).sessions = s.sessions := rfl
@[simp] theorem State.pushEvt_establish (s : State) (e : EvtIn) : (s.pushEvt e).establish = s.establish := rfl
@[simp] theorem State.pushEvt_throttles (s : State) (e : EvtIn) : (s.pushEvt e).throttles = s.throttles := rfl
@[simp] theorem State.pushEvt_sent (s : State) (e : EvtIn) : (s.pushEvt e).sent = s.sent := rfl
@[simp] theorem State.pushEvt_links (s : State) (e : EvtIn) : (s.pushEvt e).links = s.links := rfl
@[simp] theorem State.pushEvt_localPort (s : State) (e : EvtIn) : (s.pushEvt e).localPort = s.localPort := rfl
@[simp] theorem State.pushEvt_dma (s : State) (e : EvtIn) : (s.pushEvt e).dma = s.dma := rfl
@[simp] theorem State.pushEvt_cru (s : State) (e : EvtIn) : (s.pushEvt e).cru = s.cru := rfl
@[simp] theorem State.pushEvt_inflight (s : State) (e : EvtIn) : (s.pushEvt e).inflight = s.inflight := rfl
@[simp] theorem State.pushEvt_waiting (s : State) (e : EvtIn) : (s.pushEvt e).waiting = s.waiting := rfl
@[simp] theorem State.pushEvt_recFifo (s : State) (e : EvtIn) : (s.pushEvt e).recFifo = s.recFifo := rfl
@[simp] theorem State.pushEvt_col (s : State) (e : EvtIn) : (s.pushEvt e).col = s.col := rfl
@[simp] theorem State.pushEvt_wdg (s : State) (e : EvtIn) : (s.pushEvt e).wdg = s.wdg := rfl
@[simp] theorem State.pushEvt_evr (s : State) (e : EvtIn) : (s.pushEvt e).evr = s.evr := rfl
@[simp] theorem State.pushEvt_rst (s : State) (e : EvtIn) : (s.pushEvt e).rst = s.rst := rfl
@[simp] theorem State.pushEvt_nvm (s : State) (e : EvtIn) : (s.pushEvt e).nvm = s.nvm := rfl
@[simp] theorem State.pushEvt_flash (s : State) (e : EvtIn) : (s.pushEvt e).flash = s.flash := rfl
@[simp] theorem State.pushEvt_leases (s : State) (e : EvtIn) : (s.pushEvt e).leases = s.leases := rfl
@[simp] theorem State.pushEvt_barriers (s : State) (e : EvtIn) : (s.pushEvt e).barriers = s.barriers := rfl
@[simp] theorem State.pushEvt_bal (s : State) (e : EvtIn) : (s.pushEvt e).bal = s.bal := rfl
@[simp] theorem State.pushEvt_met (s : State) (e : EvtIn) : (s.pushEvt e).met = s.met := rfl
@[simp] theorem State.pushEvt_sessidle (s : State) (e : EvtIn) : (s.pushEvt e).sessidle = s.sessidle := rfl
@[simp] theorem State.pushEvt_stormquiet (s : State) (e : EvtIn) : (s.pushEvt e).stormquiet = s.stormquiet := rfl
@[simp] theorem State.pushEvt_storm (s : State) (e : EvtIn) : (s.pushEvt e).storm = s.storm := rfl
@[simp] theorem State.pushEvt_calgenCtr (s : State) (e : EvtIn) : (s.pushEvt e).calgenCtr = s.calgenCtr := rfl
@[simp] theorem State.pushEvt_board (s : State) (e : EvtIn) : (s.pushEvt e).board = s.board := rfl
@[simp] theorem State.pushEvt_pending (s : State) (e : EvtIn) : (s.pushEvt e).pending = s.pending := rfl

/-! ### pushFault -/

@[simp] theorem State.pushFault_now (s : State) (f : FaultIn) : (s.pushFault f).now = s.now := rfl
@[simp] theorem State.pushFault_ptp (s : State) (f : FaultIn) : (s.pushFault f).ptp = s.ptp := rfl
@[simp] theorem State.pushFault_draws (s : State) (f : FaultIn) : (s.pushFault f).draws = s.draws := rfl
@[simp] theorem State.pushFault_opt (s : State) (f : FaultIn) : (s.pushFault f).opt = s.opt := rfl
@[simp] theorem State.pushFault_serial (s : State) (f : FaultIn) : (s.pushFault f).serial = s.serial := rfl
@[simp] theorem State.pushFault_strapRaw (s : State) (f : FaultIn) : (s.pushFault f).strapRaw = s.strapRaw := rfl
@[simp] theorem State.pushFault_strapValid (s : State) (f : FaultIn) : (s.pushFault f).strapValid = s.strapValid := rfl
@[simp] theorem State.pushFault_fw (s : State) (f : FaultIn) : (s.pushFault f).fw = s.fw := rfl
@[simp] theorem State.pushFault_mode (s : State) (f : FaultIn) : (s.pushFault f).mode = s.mode := rfl
@[simp] theorem State.pushFault_regs (s : State) (f : FaultIn) : (s.pushFault f).regs = s.regs := rfl
@[simp] theorem State.pushFault_gathers (s : State) (f : FaultIn) : (s.pushFault f).gathers = s.gathers := rfl
@[simp] theorem State.pushFault_chans (s : State) (f : FaultIn) : (s.pushFault f).chans = s.chans := rfl
@[simp] theorem State.pushFault_queues (s : State) (f : FaultIn) : (s.pushFault f).queues = s.queues := rfl
@[simp] theorem State.pushFault_tenants (s : State) (f : FaultIn) : (s.pushFault f).tenants = s.tenants := rfl
@[simp] theorem State.pushFault_sessions (s : State) (f : FaultIn) : (s.pushFault f).sessions = s.sessions := rfl
@[simp] theorem State.pushFault_establish (s : State) (f : FaultIn) : (s.pushFault f).establish = s.establish := rfl
@[simp] theorem State.pushFault_throttles (s : State) (f : FaultIn) : (s.pushFault f).throttles = s.throttles := rfl
@[simp] theorem State.pushFault_sent (s : State) (f : FaultIn) : (s.pushFault f).sent = s.sent := rfl
@[simp] theorem State.pushFault_links (s : State) (f : FaultIn) : (s.pushFault f).links = s.links := rfl
@[simp] theorem State.pushFault_localPort (s : State) (f : FaultIn) : (s.pushFault f).localPort = s.localPort := rfl
@[simp] theorem State.pushFault_dma (s : State) (f : FaultIn) : (s.pushFault f).dma = s.dma := rfl
@[simp] theorem State.pushFault_cru (s : State) (f : FaultIn) : (s.pushFault f).cru = s.cru := rfl
@[simp] theorem State.pushFault_inflight (s : State) (f : FaultIn) : (s.pushFault f).inflight = s.inflight := rfl
@[simp] theorem State.pushFault_waiting (s : State) (f : FaultIn) : (s.pushFault f).waiting = s.waiting := rfl
@[simp] theorem State.pushFault_recFifo (s : State) (f : FaultIn) : (s.pushFault f).recFifo = s.recFifo := rfl
@[simp] theorem State.pushFault_evtFifo (s : State) (f : FaultIn) : (s.pushFault f).evtFifo = s.evtFifo := rfl
@[simp] theorem State.pushFault_wdg (s : State) (f : FaultIn) : (s.pushFault f).wdg = s.wdg := rfl
@[simp] theorem State.pushFault_evr (s : State) (f : FaultIn) : (s.pushFault f).evr = s.evr := rfl
@[simp] theorem State.pushFault_rst (s : State) (f : FaultIn) : (s.pushFault f).rst = s.rst := rfl
@[simp] theorem State.pushFault_nvm (s : State) (f : FaultIn) : (s.pushFault f).nvm = s.nvm := rfl
@[simp] theorem State.pushFault_flash (s : State) (f : FaultIn) : (s.pushFault f).flash = s.flash := rfl
@[simp] theorem State.pushFault_leases (s : State) (f : FaultIn) : (s.pushFault f).leases = s.leases := rfl
@[simp] theorem State.pushFault_barriers (s : State) (f : FaultIn) : (s.pushFault f).barriers = s.barriers := rfl
@[simp] theorem State.pushFault_bal (s : State) (f : FaultIn) : (s.pushFault f).bal = s.bal := rfl
@[simp] theorem State.pushFault_met (s : State) (f : FaultIn) : (s.pushFault f).met = s.met := rfl
@[simp] theorem State.pushFault_sessidle (s : State) (f : FaultIn) : (s.pushFault f).sessidle = s.sessidle := rfl
@[simp] theorem State.pushFault_stormquiet (s : State) (f : FaultIn) : (s.pushFault f).stormquiet = s.stormquiet := rfl
@[simp] theorem State.pushFault_storm (s : State) (f : FaultIn) : (s.pushFault f).storm = s.storm := rfl
@[simp] theorem State.pushFault_calgenCtr (s : State) (f : FaultIn) : (s.pushFault f).calgenCtr = s.calgenCtr := rfl
@[simp] theorem State.pushFault_board (s : State) (f : FaultIn) : (s.pushFault f).board = s.board := rfl
@[simp] theorem State.pushFault_pending (s : State) (f : FaultIn) : (s.pushFault f).pending = s.pending := rfl

@[simp] theorem State.pushRec_recFifo (s : State) (r : RecIn) : (s.pushRec r).recFifo = s.recFifo ++ [r] := rfl
@[simp] theorem State.pushEvt_evtFifo (s : State) (e : EvtIn) : (s.pushEvt e).evtFifo = s.evtFifo ++ [e] := rfl
@[simp] theorem State.pushFault_col (s : State) (f : FaultIn) :
    (s.pushFault f).col = { s.col with fifo := s.col.fifo ++ [{ f with time := s.ptp }] } := rfl
@[simp] theorem State.onBoard_board (s : State) (f : Board → Board) : (s.onBoard f).board = f s.board := rfl

/-! ### Channels and Gathers -/

@[simp] theorem State.onChan_chan (s : State) (c : ChanNo) (f : Chan → Chan) : (s.onChan c f).chan c = f (s.chan c) := by
  simp [State.chan, State.onChan]

theorem State.onChan_chan_ne (s : State) {c d : ChanNo} (f : Chan → Chan) (h : d ≠ c) : (s.onChan c f).chan d = s.chan d := by
  have h' : c.val ≠ d.val := fun e => h (Fin.ext e.symm)
  simp [State.chan, State.onChan, h']

@[simp] theorem State.onGat_gat (s : State) (g : GatherNo) (f : Gather → Gather) : (s.onGat g f).gat g = f (s.gat g) := by
  simp [State.gat, State.onGat]

theorem State.onGat_gat_ne (s : State) {g d : GatherNo} (f : Gather → Gather) (h : d ≠ g) : (s.onGat g f).gat d = s.gat d := by
  have h' : g.val ≠ d.val := fun e => h (Fin.ext e.symm)
  simp [State.gat, State.onGat, h']

theorem State.onLoop_eq (s : State) (c : ChanNo) (f : LoopSt → LoopSt) : s.onLoop c f = s.onChan c (fun x => { x with loop := f x.loop }) := rfl
theorem State.onProt_eq (s : State) (c : ChanNo) (f : ProtSt → ProtSt) : s.onProt c f = s.onChan c (fun x => { x with prot := f x.prot }) := rfl
theorem State.onMeas_eq (s : State) (c : ChanNo) (f : MeasSt → MeasSt) : s.onMeas c f = s.onChan c (fun x => { x with meas := f x.meas }) := rfl
theorem State.onProg_eq (s : State) (c : ChanNo) (f : ProgSt → ProgSt) : s.onProg c f = s.onChan c (fun x => { x with prog := f x.prog }) := rfl
theorem State.onEis_eq (s : State) (c : ChanNo) (f : EisSt → EisSt) : s.onEis c f = s.onChan c (fun x => { x with eis := f x.eis }) := rfl
theorem State.onEst_eq (s : State) (c : ChanNo) (f : EstSt → EstSt) : s.onEst c f = s.onChan c (fun x => { x with est := f x.est }) := rfl

@[simp] theorem State.pushEvt_chan (s : State) (e : EvtIn) (c : ChanNo) : (s.pushEvt e).chan c = s.chan c := rfl
@[simp] theorem State.pushRec_chan (s : State) (r : RecIn) (c : ChanNo) : (s.pushRec r).chan c = s.chan c := rfl
@[simp] theorem State.pushFault_chan (s : State) (f : FaultIn) (c : ChanNo) : (s.pushFault f).chan c = s.chan c := rfl
@[simp] theorem State.setReg_chan (s : State) (a w : Nat) (c : ChanNo) : (s.setReg a w).chan c = s.chan c := rfl
@[simp] theorem State.onGat_chan (s : State) (g : GatherNo) (f : Gather → Gather) (c : ChanNo) : (s.onGat g f).chan c = s.chan c := rfl
@[simp] theorem State.onChan_gat (s : State) (c : ChanNo) (f : Chan → Chan) (g : GatherNo) : (s.onChan c f).gat g = s.gat g := rfl
@[simp] theorem State.onChan_reg (s : State) (c : ChanNo) (f : Chan → Chan) (a : Nat) : (s.onChan c f).reg a = s.reg a := rfl
@[simp] theorem State.onGat_reg (s : State) (g : GatherNo) (f : Gather → Gather) (a : Nat) : (s.onGat g f).reg a = s.reg a := rfl

end Sys2Proof.Machine
end

