-- ==== Sys2Proof/WellFormed.lean ====
section
/-! DEFINITION. Well-formed commands: every operand fits the field that carries it (tags of Table 10-7, payloads of chapter 12, datagrams of
Table 10-6, frames of Table 14-1, register widths). What a field may hold and its command refuses (BAD_FIELD, R465) is the machine's to answer;
operands whose type bounds them need no check. -/

namespace Sys2Proof

open Sys2Proof.Machine

/-! ### Widths of the fields -/

def u8 (n : Nat) : Bool := decide (n < 256)
def u16 (n : Nat) : Bool := decide (n < 65536)
def u24 (n : Nat) : Bool := decide (n < 2 ^ 24)
def u32 (n : Nat) : Bool := decide (n < 2 ^ 32)
def u64 (n : Nat) : Bool := decide (n < 2 ^ 64)
def i16 (n : Int) : Bool := decide (-32768 ≤ n ∧ n < 32768)
def i32 (n : Int) : Bool := decide (-2147483648 ≤ n ∧ n < 2147483648)
/-- A list with at least one and at most n members. -/
def some_ {α : Type} (n : Nat) (l : List α) : Bool := !l.isEmpty && decide (l.length ≤ n)
/-- An Ethernet port. -/
def port2 (n : Nat) : Bool := decide (n < 2)
/-- A queue number (R375). -/
def qnum (n : Nat) : Bool := decide (n < 8192)
/-- A source of the event router (Table 18-8). -/
def evrNum (n : Nat) : Bool := decide (0x100 ≤ n ∧ n < 0x300)

/-! ### Structures -/

/-- The tag fields of a command (Table 10-7) and the numbers of its queue and session. -/
def Machine.CmdHead.wf (h : CmdHead) : Bool := u8 h.tenant && qnum h.queue && u8 h.channel && u32 h.corr && h.session.all (fun n => decide (n < 1024))
/-- Lease fields (Table 12-5). -/
def Machine.LeaseFields.wf (l : LeaseFields) : Bool :=
  u8 l.members && u8 l.track && u8 l.tenant && u32 l.ichg && u32 l.idis && i32 l.vmin && i32 l.vmax && u32 l.emax && u16 l.gpioev
    && l.shares.length == 8 && l.shares.all u16
/-- Quotas (Table 12-4). -/
def Machine.QuotaFields.wf (q : QuotaFields) : Bool := u16 q.sessions && u16 q.queues && u32 q.ringkib && u32 q.recrate && u32 q.evrate
/-- Estimator parameters (Table 12-10). -/
def Machine.EstFields.wf (f : EstFields) : Bool :=
  u8 f.mask && u32 f.cnom && u32 f.slopemin && u32 f.ocvrest && u16 f.rate && u16 f.kskip && u16 f.kmin && u16 f.estrec
/-- Calendar fields (Table 12-14). -/
def Machine.CalTime.wf (c : CalTime) : Bool := u16 c.year && u8 c.month && u8 c.day && u8 c.hour && u8 c.minute && u8 c.second && u8 c.wday
/-- A pair of CAL_WRITE (Table 12-17). -/
def Machine.CalPair.wf (p : CalPair) : Bool := u8 p.channel && u8 p.qty && i32 p.offu && i32 p.gainu && i32 p.qu
/-- A tenant datagram (Table 10-6). -/
def Machine.Datagram.wf (d : Datagram) : Bool :=
  port2 d.port && u16 d.udp && u16 d.session && u16 d.queue && u64 d.dseq && u16 d.cqueue && u16 d.cack && u16 d.climit
/-- A Zynlink frame header (Table 14-1). -/
def Machine.FrameHead.wf (f : FrameHead) : Bool := u32 f.epoch && u32 f.inc && u32 f.fseq

/-! ### Commands and events -/

/-- Every operand fits its field. -/
def Instr.wf (i : Instr) : Bool :=
  match i with
  | .identify h => h.wf
  | .status h => h.wf
  | .qCreate h qkind size hold _ pair => h.wf && u8 qkind && u8 size && u8 hold && u16 pair
  | .qDelete h q => h.wf && u16 q
  | .qBind h q => h.wf && u16 q
  | .qRoute h q _ => h.wf && u16 q
  | .keyWrite h slot secret => h.wf && u8 slot && secret.length == 32
  | .keyClear h slot => h.wf && u8 slot
  | .tenantCreate h ttl => h.wf && u16 ttl
  | .tenantSuspend h t => h.wf && u8 t
  | .tenantResume h t => h.wf && u8 t
  | .tenantRemove h t => h.wf && u8 t
  | .tenantReenrol h t ttl => h.wf && u8 t && u16 ttl
  | .quotaSet h t q => h.wf && u8 t && q.wf
  | .leaseGrant h l => h.wf && l.wf
  | .leaseModify h l => h.wf && l.wf
  | .leaseEnd h => h.wf
  | .leaseRead h => h.wf
  | .tenantRead h t => h.wf && u8 t
  | .progWrite h steps => h.wf && some_ 15 steps && steps.all (fun x => u16 x.1)
  | .progLen h len => h.wf && u16 len
  | .progRead h which first count => h.wf && u8 which && u16 first && u8 count
  | .progDiscard h => h.wf
  | .commit h => h.wf
  | .commitCheckonly h => h.wf
  | .commitSwap _ => true
  | .commitBufferDrain _ => true
  | .varWrite h pairs => h.wf && u8 pairs.length && pairs.all (fun x => u32 x.1)
  | .varRead h => h.wf
  | .signal h sig _ => h.wf && u8 sig
  | .start h entry => h.wf && u16 entry
  | .stop h => h.wf
  | .pause h => h.wf
  | .resume h restart => h.wf && u8 restart
  | .clear h => h.wf
  | .measCfg h _ _ rate rng fix => h.wf && u8 rate && u8 rng && u8 fix
  | .measRead h => h.wf
  | .coefRead h layer qty => h.wf && u8 layer && u8 qty
  | .chRead h => h.wf
  | .estSet h f => h.wf && f.wf
  | .ocvTable h pts => h.wf && u8 pts.length && pts.all (fun p => u32 p.1 && i32 p.2)
  | .estRead h _ => h.wf
  | .relearn h => h.wf
  | .counterRead h => h.wf
  | .meterRead h t => h.wf && u8 t
  | .meterClose h => h.wf
  | .meterLimits h _ _ => h.wf
  | .meterSched h first words => h.wf && u8 first && u8 words.length
  | .ledgerRead h => h.wf
  | .ledgerFetch h from_ to_ _ queue _ => h.wf && u64 from_ && u64 to_ && u16 queue
  | .ledgerFetchBatch t _ => u8 t
  | .ledgerRetain h t days => h.wf && u8 t && u32 days
  | .ledgerSeal h => h.wf
  | .pairRead h => h.wf
  | .handover h deadline => h.wf && u32 deadline
  | .timeRead h => h.wf
  | .timeSet h cal _ _ => h.wf && cal.wf
  | .summerForward h => h.wf
  | .summerBack h => h.wf
  | .wakeSet h which _ cal period => h.wf && u8 which && cal.wf && u32 period
  | .calTrim h pulses => h.wf && i16 pulses
  | .powerRead h => h.wf
  | .powerCtlShip h => h.wf
  | .powerCtlWarmReset h => h.wf
  | .powerCtlBlockReset h block => h.wf && u8 block
  | .blockQuiesceDone block _ => u8 block
  | .blockResetReturn block => u8 block
  | .enter h => h.wf
  | .exit h => h.wf
  | .houseClear h => h.wf
  | .faultAck h code => h.wf && u16 code
  | .selftest h g kind => h.wf && u8 g && u8 kind
  | .deferredSelftestRun _ => true
  | .selftestSlotEnd _ _ _ => true
  | .refcheck h g _ => h.wf && u8 g
  | .retest h g conv p => decide (p.d.length ≤ 5) && h.wf && u8 g && u8 conv
  | .nvmStat h => h.wf
  | .nvmScrub h => h.wf
  | .setTimes h idle storm => h.wf && u16 idle && u16 storm
  | .calWrite h pairs => h.wf && some_ 15 pairs && pairs.all CalPair.wf
  | .calgenSwitch _ => true
  | .fwWriteData h offset data => h.wf && u32 offset && some_ 480 data
  | .fwWriteFinish h _ => h.wf
  | .fwWriteAbandon h => h.wf
  | .regRead h addr count => h.wf && u32 addr && u8 count
  | .regWrite h addr data => h.wf && u32 addr && u8 data.length
  | .registerWrite addr _ => u32 addr
  | .tenantDatagram d entries => d.wf && decide (entries.length ≤ 15) && entries.all (fun e => e.length == 64)
  | .tenantCredit d => d.wf
  | .hello _ t keyid nonceT _ => u8 t && u8 keyid && nonceT.length == 16
  | .confirm _ session _ => u16 session
  | .close d => d.wf
  | .establishmentExpiry session => u16 session
  | .sessidleExpiry session => u16 session
  | .authThrottleEnd _ => true
  | .unsupportedFrame port => port2 port
  | .icmpEcho port _ => port2 port
  | .addressResolution port _ => port2 port
  | .bootDatagramDrop => true
  | .commandCreditSend q => qnum q
  | .entrySend q n => qnum q && decide (n ≤ 15)
  | .retxExpiry q => qnum q
  | .commandClaim q _ => qnum q
  | .commandCompletion q => qnum q
  | .recordPlace => true
  | .eventPlace => true
  | .coalescedPlace t cls => u8 t && decide (cls < 3)
  | .decimationUpdate => true
  | .stormEnd t => u8 t
  | .localRead addr count _ => u32 addr && u8 count
  | .localWrite addr data _ => u32 addr && decide (data.length ≤ 64)
  | .localStatus => true
  | .qput entries _ => some_ 15 entries && entries.all (fun e => e.length == 64)
  | .qget f => u8 f.q
  | .dmaStart _ => true
  | .dmaStop _ => true
  | .dmaPoke _ => true
  | .dmaDescriptorDone _ => true
  | .dmaBusError _ addr moved => u32 addr && u24 moved
  | .dmaBuserrClear => true
  | .controlCycle _ x => decide (x.ch.length ≤ 8)
  | .syncRelease t b => u8 t && decide (b < 16)
  | .settleEnd _ _ => true
  | .softstartEnd _ => true
  | .rampedStopEnd _ => true
  | .tcoffExpiry _ => true
  | .pulseLevelChange _ => true
  | .dcirPhaseChange _ => true
  | .dcirStepEnd _ => true
  | .ocvRecord _ => true
  | .crackOff _ => true
  | .crackOffRetry _ => true
  | .retryCountReset _ => true
  | .slowOvl _ => true
  | .reverseCell _ => true
  | .contactLoss _ => true
  | .temperatureUpdate _ cells _ => decide (cells.length ≤ 8)
  | .stgtSensor _ => true
  | .busWindow _ _ _ => true
  | .busStop _ _ => true
  | .busSensor _ => true
  | .outputSample _ stamp clocks raw => u64 stamp && clocks.length == raw.length
  | .outrateChange _ stamp => u64 stamp
  | .twinsample _ stamp _ _ rng calgen rate => u64 stamp && decide (rng < 4) && u8 calgen && decide (rate < 16)
  | .twinHoldExpiry _ => true
  | .puntySwapStart _ => true
  | .shadowDone _ _ _ => true
  | .converterCalDone _ _ p _ => decide (p.d.length ≤ 5)
  | .returnShadowDone _ _ => true
  | .selfcalDone _ _ d _ _ => d.length == 5
  | .swapAbandon _ => true
  | .converterHealthFail _ _ => true
  | .gatherCalibrationDone _ d _ => decide (d.length ≤ 18)
  | .eisToneStart _ stamp => u64 stamp
  | .eisSettleEnd _ stamp amps => u64 stamp && amps.all u32
  | .eisWindowEnd _ stamp => u64 stamp
  | .busBalanceCycle _ => true
  | .defmaxExpiry _ => true
  | .takeoverRampEnd _ => true
  | .counterCollect => true
  | .meterNvmCommit => true
  | .estimatorUpdate _ => true
  | .hibernationEntry _ => true
  | .ocvCorrection _ => true
  | .estimatorRecord _ => true
  | .secondTick stamp => u64 stamp
  | .minuteBoundary => true
  | .meterStampSplit _ => true
  | .periodicWakeExpiry => true
  | .trimWindow => true
  | .autotrim _ => true
  | .xtalFail => true
  | .keepLoadTime => true
  | .keepLoadWday => true
  | .calendarReadFreeze => true
  | .keepYearRead => true
  | .freezeTimeout => true
  | .ptpSync port t _ => port2 port && u64 t.1 && u64 t.2
  | .ptpAnnounce port _ => port2 port
  | .ptpDelayResp port _ => port2 port
  | .ptpPdelayReq port => port2 port
  | .ptpDelayReqSend port => port2 port
  | .announceTimeout => true
  | .holdmaxExpiry _ => true
  | .backwardStep => true
  | .elapsedPairStore => true
  | .mainsWindowEnd _ => true
  | .mainsRefInvalid => true
  | .ppsOut => true
  | .ppsIn => true
  | .wakeEvent _ => true
  | .wakeIn => true
  | .pwroffEnd => true
  | .vkeepRise _ => true
  | .vkeepLoss _ => true
  | .button => true
  | .shipExit => true
  | .longPress => true
  | .longPressPathEnd => true
  | .packShipLow => true
  | .inputLoss _ _ => true
  | .inputPresent _ => true
  | .pathReturn => true
  | .packExhausted => true
  | .vinCollapse => true
  | .vintPowerOn => true
  | .lehrRampDone => true
  | .lehrDone _ => true
  | .seqSlotDone => true
  | .seqTimeout => true
  | .powerDownStep => true
  | .auxPgood _ => true
  | .auxHiccup _ => true
  | .auxHiccupRestart _ => true
  | .auxSlowLimit _ => true
  | .auxTwarn _ _ => true
  | .auxTshut _ _ => true
  | .thermalPowerDown => true
  | .railRange _ => true
  | .wardenReadingRefresh r => r.vout.length == 4 && r.iout.length == 4 && r.mon.length == 4 && r.tdrv.length == 4
  | .packPresent _ => true
  | .packRemoved => true
  | .packNtc => true
  | .qualEnd => true
  | .preTimeout => true
  | .searchStep _ => true
  | .searchHoldEnd => true
  | .chargeMeanUpdate _ _ => true
  | .fastmaxExpiry => true
  | .chargerWatchdog => true
  | .hldKick _ => true
  | .packTest => true
  | .stoptest => true
  | .resetN => true
  | .brownout => true
  | .warmResetRelease _ => true
  | .imageCheck _ _ => true
  | .bootEnd => true
  | .ledgerRecovery found streams intact _ => found.length == 4 && streams.all u8 && streams.length == intact.length
  | .sealTick => true
  | .batchDurable => true
  | .stagingGap => true
  | .ledgerReclaim => true
  | .nvmeTimeout _ => true
  | .nvmeError _ stream _ => u8 stream
  | .driveLost _ => true
  | .resilverDone => true
  | .ledgerInitInit => true
  | .ledgerInitErase => true
  | .pipeInRise => true
  | .fenceInRise => true
  | .pipeInFall => true
  | .pipeSense => true
  | .contention => true
  | .heartbeatSend => true
  | .heartbeat f _ hbseq role sync mseq => f.wf && u32 hbseq && decide (role < 4) && decide (sync < 3) && u32 mseq
  | .heartbeatMiss => true
  | .laneDown _ => true
  | .ident f id => f.wf && u16 id.mver && u32 id.inc && u32 id.epoch
  | .mirror f _ _ => f.wf
  | .snapshot f _ => f.wf
  | .resyncDone => true
  | .resyncFail => true
  | .reccopy f train => f.wf && some_ 15 train
  | .epochmark f count _ => f.wf && u64 count
  | .epochUnlock => true
  | .ack f ftype fseq => f.wf && u8 ftype && u32 fseq
  | .handoverPrep f => f.wf
  | .handoverReady f sAt => f.wf && u64 sAt
  | .handoverTime f sAt => f.wf && u64 sAt
  | .handoverState f _ => f.wf
  | .handoverPipeRelease => true
  | .handoverPipeTake => true
  | .handoverAck f => f.wf
  | .handoverTimeout => true
  | .arbitrationStart => true
  | .arbitrationEnd _ => true
  | .reacqExpiry => true
  | .rollCallPulse => true
  | .rollPulseDetect => true
  | .rollCallReply => true
  | .rollCallMiss => true
  | .rollCallSearchEnd => true
  | .gpioEdge _ _ => true
  | .trayTransferStart _ => true
  | .go _ => true
  | .abort _ => true
  | .trayTransferEnd _ _ data => decide (data.length ≤ 32)
  | .arbLost _ _ bytes => decide (bytes.length ≤ 32)
  | .trayTimeout _ => true
  | .trayStuck _ _ => true
  | .buslockRetry _ _ => true
  | .targetWrite _ _ bytes => some_ 32 bytes
  | .rxnewClear _ => true
  | .alert _ _ => true
  | .alertReread _ _ => true
  | .idpoll _ => true
  | .identityReadDone _ addr ofs _ => decide (addr < 128) && u8 ofs
  | .wdgKick _ _ => true
  | .wdgKey _ _ => true
  | .wdgLock _ => true
  | .wdgExpiry _ => true
  | .wdgHard _ => true
  | .wdgClock _ => true
  | .coreException _ => true
  | .evrSourceAccept src _ => evrNum src
  | .evrDeliver _ => true
  | .evrClaim _ => true
  | .evrComplete _ src => u16 src
  | .faultTaken ext => ext.all (fun x => u16 x.1)
  | .lockstep => true
  | .refclkLost => true
  | .wdnOsc => true
  | .quietPeriodEnd unit => decide (unit < 0x108)
  | .recoveryEnd unit _ => decide (unit < 0x108)
  | .chCalselSnap _ => true
  | .nvmHkctlHken => true
  | .ethLinkDown _ => true
  | .ethLinkUp _ => true
  | .fenceInFall => true
  | .mirrorSend => true
  | .epochmarkSend => true
  | .arbitrationRoundVoid => true
  | .buttonRelease _ => true
  | .enrolmentCodeExpiry t => u8 t
  | .commandedWarmReset => true
  | .warmResetLedgerQuiesce _ => true

end Sys2Proof
end

