-- ==== Sys2Proof/Tests/Slice0.lean ====
section
/-! SUPPORT. Tests: the ill-formed operands that the well-formedness checks refuse, single steps with expected values from the spec, and for every
statement a state and operands that meet the hypotheses of each of its clauses. -/

namespace Sys2Proof.Tests

open Sys2Proof Sys2Proof.Machine

/-! ### Small states -/

/-- The owner in a mode, with an accepted image and calibrated Gathers. -/
def at_ (m : Mode) : Machine.State :=
  { Machine.State.reset with
    mode := { mode := m }, fw := some (3, 2, 0), board := { owner := true, pipeOut := true }
    gathers := Vector.replicate 8 { inReset := false, calibrated := true } }

/-- The owner in READY. -/
def rdy : Machine.State := at_ .ready

/-- A command head of a tenant that names a channel; its queue is one of the network. -/
def hd (t c : Nat) : CmdHead := { tenant := t, queue := 4, channel := c }

/-- A lease of a tenant with limits of 1 A and 5 V. -/
def lf (t : Nat) : LeaseFields := { members := 1, tenant := t, ichg := 1000000, idis := 1000000, vmin := 0, vmax := 5000000 }

/-- READY with channel 0 leased to the house, in a loop state. -/
def ch0 (st : ChState) : Machine.State :=
  { rdy with leases := [(0, { f := lf 0 })] }.onLoop 0 (fun l => { l with st := st })

/-- A command queue 4 and its completion queue 5 of the house. -/
def cq : Queue := { num := 4, kind := .command, size := 0, tenant := 0, pair := some 5, bind := some 7 }
def pq : Queue := { num := 5, kind := .completion, size := 0, tenant := 0, bind := some 7 }
def rq : Queue := { num := 6, kind := .record, size := 0, tenant := 0, bind := some 7 }
def ses : Session := { num := 7, tenant := 0, keyid := 0 }

/-- READY with an open session and three queues of the house. -/
def net : Machine.State := { rdy with queues := localQueues ++ [cq, pq, rq], sessions := [ses] }

/-- READY with a tenant 1. -/
def two : Machine.State := { rdy with tenants := [houseTenant, newTenant 1 [] [] 0 0] }

/-- A one-step REST program. -/
def restStep : StepWord := BitVec.ofNat 256 1

/-! ### Witnesses of the command statements -/

theorem witness_SessionAndLeaseCommandsComplete :
    rdy.accepts (hd 0 255) .identify = true ∧ rdy.accepts (hd 0 255) .status = true ∧
    (two.accepts (hd 1 255) .status = true ∧ (hd 1 255).tenant ≠ 0) ∧
    rdy.accepts (hd 0 255) .leaseRead = true ∧
    ((ch0 .stopped).accepts (hd 0 0) .leaseRead = true ∧ (((ch0 .stopped).taken (hd 0 0)).leaseOf 0).isSome = true) ∧
    (rdy.accepts (hd 0 255) (.tenantRead 0) = true ∧ ((rdy.taken (hd 0 255)).tenant? 0).isSome = true) ∧
    (rdy.accepts (hd 0 255) (.tenantRead 9) = true ∧ (rdy.taken (hd 0 255)).tenant? 9 = none) := by decide

theorem witness_LeaseCommandsComplete :
    (let s := rdy; let h := hd 0 0; let l := lf 0
     s.accepts h (.leaseGrant l) = true ∧ (leaseChans h.channel l).any (fun c => (s.taken h).fenced (uGat (gOf c))) = false ∧ l.tenant = 0 ∧
     (leaseChans h.channel l).any (fun c =>
      (match (s.taken h).lessee c.val with | some t => t != l.tenant | none => false) || (s.taken h).memberBusy c) = false ∧
     (s.taken h).takesNvm 3 = true) ∧
    ((ch0 .stopped).accepts (hd 0 0) (.leaseModify (lf 0)) = true ∧ ((ch0 .stopped).taken (hd 0 0)).takesNvm 3 = true) ∧
    ((ch0 .stopped).accepts (hd 0 0) .leaseEnd = true ∧ (((ch0 .stopped).taken (hd 0 0)).leaseOf 0).isSome = true ∧
     ((ch0 .stopped).taken (hd 0 0)).takesNvm 3 = true) := by decide

theorem witness_QueueCommandsComplete :
    (rdy.accepts (hd 0 255) (.qCreate 1 0 0 false 0) = true ∧ qkind? 1 = some .completion ∧
     (((rdy.taken (hd 0 255)).tenant? 0).any (fun x => decide (((rdy.taken (hd 0 255)).queuesOf 0).length < x.qQueues) &&
       decide ((rdy.taken (hd 0 255)).kibOf 0 + 1 ≤ x.qRingKib))) = true) ∧
    (let s := net; let h := hd 0 255
     s.accepts h (.qDelete 6) = true ∧ ((s.taken h).queue? 4).bind Queue.pair ≠ some 6 ∧
     (s.taken h).queues.any (fun x => x.kind == .command && x.pair == some 6) = false) ∧
    (net.accepts (hd 0 255) (.qBind 6) = true ∧ ((net.taken (hd 0 255)).queue? 6).isSome = true) ∧
    net.accepts (hd 0 255) (.qRoute 6 0) = true := by decide

theorem witness_freeQueues : (rdy.taken (hd 0 255)).freeQueues ≠ [] := by
  apply List.ne_nil_of_mem (a := 4)
  exact List.mem_filter.mpr ⟨List.mem_map.mpr ⟨0, List.mem_range.mpr (by decide), rfl⟩, by decide⟩

/-- READY with a tenant 1 that enrols over session 8. -/
def enr : Machine.State :=
  { two with tenants := [houseTenant, newTenant 1 (zeros 8) [] (10 ^ 12) 0], sessions := [{ ses with num := 8, tenant := 1, keyid := 15 }] }

theorem witness_TenantCommandsComplete :
    (two.accepts (hd 1 255) (.keyWrite 0 (zeros 32)) = true ∧ ((two.taken (hd 1 255)).tenant? 1).any (fun x => x.key 0 == none) = true ∧
     (two.taken (hd 1 255)).takesNvm 3 = true ∧ ((two.taken (hd 1 255)).copied 3).enrolling (hd 1 255) = false) ∧
    (let h : CmdHead := { hd 1 255 with session := some 8 }
     enr.accepts h (.keyWrite 0 (zeros 32)) = true ∧ ((enr.taken h).tenant? 1).any (fun x => x.key 0 == none) = true ∧
     (enr.taken h).takesNvm 3 = true ∧ ((enr.taken h).copied 3).enrolling h = true ∧ h.session = some 8) ∧
    (two.accepts (hd 1 255) (.keyClear 0) = true ∧ (hd 1 255).session.bind (two.taken (hd 1 255)).session? = none ∧
     ((two.taken (hd 1 255)).tenant? 1).any (fun x => x.key 0 == none) = true ∧ (two.taken (hd 1 255)).takesNvm 3 = true) ∧
    (let s := { two with tenants := [houseTenant, { newTenant 1 [] [] 0 0 with key0 := some (zeros 32), key1 := some (zeros 32) }] }
     s.accepts (hd 1 255) (.keyClear 0) = true ∧ ((s.taken (hd 1 255)).tenant? 1).any (fun x => (x.key 0).isSome && (x.key (1 - 0)).isSome) = true ∧
     (s.taken (hd 1 255)).takesNvm 3 = true) ∧
    (rdy.accepts (hd 0 255) (.tenantCreate 0) = true ∧
     ((List.range 253).map (fun i => i + 1)).find? (fun t => ((rdy.taken (hd 0 255)).tenant? t).isNone) = some 1 ∧
     (rdy.taken (hd 0 255)).quotaSum + 512 ≤ 11968 ∧ (rdy.taken (hd 0 255)).takesNvm 3 = true) ∧
    two.accepts (hd 0 255) (.tenantSuspend 1) = true ∧ two.accepts (hd 0 255) (.tenantResume 1) = true ∧ (two.taken (hd 0 255)).takesNvm 3 = true ∧
    (two.accepts (hd 0 255) (.tenantRemove 1) = true ∧ ((two.taken (hd 0 255)).tenant? 1).isSome = true ∧
     (two.taken (hd 0 255)).leases.any (fun l => l.2.f.tenant == 1) = false ∧ ((two.taken (hd 0 255)).meterOf 1).isZero = true) ∧
    two.accepts (hd 0 255) (.tenantReenrol 1 0) = true ∧
    (let q : QuotaFields := { sessions := 1, queues := 2, ringkib := 2, recrate := 0, evrate := 0 }
     two.accepts (hd 0 255) (.quotaSet 1 q) = true ∧
     ((two.taken (hd 0 255)).tenant? 1).any (fun x => decide ((two.taken (hd 0 255)).quotaSum - x.qRingKib + 2 ≤ 11968)) = true ∧
     ((two.taken (hd 0 255)).sessions.filter (fun y => y.tenant == 1)).length ≤ 1 ∧ ((two.taken (hd 0 255)).queuesOf 1).length ≤ 2 ∧
     (two.taken (hd 0 255)).kibOf 1 ≤ 2) := by decide

theorem witness_ProgramCommandsComplete :
    (ch0 .stopped).accepts (hd 0 0) (.progWrite [(511, restStep)]) = true ∧ (ch0 .stopped).accepts (hd 0 0) (.progLen 512) = true ∧
    (ch0 .stopped).accepts (hd 0 0) (.progRead 1 0 15) = true ∧ (ch0 .stopped).accepts (hd 0 0) .progDiscard = true ∧
    (ch0 .stopped).accepts (hd 0 0) (.varWrite [(31, 5)]) = true ∧ (ch0 .stopped).accepts (hd 0 0) .varRead = true ∧ chan? 0 = some 0 := by decide

/-- Channel 0 with an empty shadow image, and with one whose only step has a reserved kind. -/
def bad0 : Machine.State := (ch0 .stopped).onProg 0 (fun p => { p with shadow := [0], shLen := 1 })

theorem witness_CommitCompletes :
    ((ch0 .stopped).accepts (hd 0 0) (.commit false) = true ∧ ((ch0 .stopped).taken (hd 0 0)).commitCheck 0 = none) ∧
    (ch0 .stopped).accepts (hd 0 0) (.commit true) = true ∧
    (bad0.accepts (hd 0 0) (.commit false) = true ∧ (bad0.taken (hd 0 0)).commitCheck 0 = some (.badField, 0)) ∧
    (let s := (ch0 .stopped).onProg 0 (fun p => { p with commit := some [restStep], commitBy := some (hd 0 0) })
     (s.chan 0).prog.commit = some [restStep] ∧ (s.chan 0).prog.commitBy = some (hd 0 0) ∧ (s.chan 0).prog.swapBusy [restStep] = false ∧
     s.stewardOn = true ∧ s.gatOff (gOf 0) = false) := by decide

/-- Channel 0 with a live program. -/
def live0 (st : ChState) : Machine.State := (ch0 st).onProg 0 (fun p => { p with live := [restStep], active := true, inStep := true })

theorem witness_ChannelCommandsComplete :
    rdy.accepts (hd 0 255) (.signal 15 0) = true ∧
    ((live0 .stopped).accepts (hd 0 0) (.start 0) = true ∧ (((live0 .stopped).taken (hd 0 0)).chan 0).loop.st = .stopped ∧
     (((live0 .stopped).taken (hd 0 0)).chan 0).prog.live ≠ [] ∧ ((live0 .stopped).taken (hd 0 0)).reversed 0 = false) ∧
    ((live0 .active).accepts (hd 0 0) .stop = true ∧ (((live0 .active).taken (hd 0 0)).chan 0).loop.st = .active) ∧
    ((live0 .paused).accepts (hd 0 0) .stop = true ∧ (((live0 .paused).taken (hd 0 0)).chan 0).loop.st = .paused) ∧
    ((live0 .resting).accepts (hd 0 0) .pause = true ∧ (((live0 .resting).taken (hd 0 0)).chan 0).loop.st = .resting) ∧
    ((live0 .paused).accepts (hd 0 0) (.resume 1) = true ∧ (((live0 .paused).taken (hd 0 0)).chan 0).prog.inStep = true) ∧
    (let s := live0 .faulted
     s.accepts (hd 0 0) .clear = true ∧ ((s.taken (hd 0 0)).chan 0).loop.st = .faulted ∧ ((s.taken (hd 0 0)).chan 0).prot.retryWait = false ∧
     ((s.taken (hd 0 0)).membersOf 0).any (fun m => (s.taken (hd 0 0)).chanFenced m) = false ∧
     ((s.taken (hd 0 0)).membersOf 0).any (s.taken (hd 0 0)).hotFor = false) := by decide

theorem witness_SettleAndRamp :
    (rdy.gangOf 0 = none ∧ (rdy.chan 0).loop.con = false) ∧
    ((ch0 .active).gangOf 0 = none ∧ ((ch0 .active).chan 0).loop.st = .active ∧ (ch0 .active).endingSlot 0 = none) ∧
    (let d : Duty := { ton := 1000 }
     d.pwl = false ∧ (d.levels 400000 40000 40000 none 0).1 = true ∧ (d.levels 400000 40000 40000 none 100000).2 = true) ∧
    (let d : Duty := { ton := 1000, pwl := true }
     d.pwl = true ∧ (d.levels 400000 40000 40000 none 0).2 = true ∧ (d.levels 400000 40000 40000 none 100000).1 = true) ∧
    (at_ .twin).mayDrive 0 = false := by decide

theorem witness_MeasureCommandsComplete :
    (ch0 .stopped).accepts (hd 0 0) (.measCfg true true 10 2 3) = true ∧ (ch0 .stopped).accepts (hd 0 0) .measRead = true ∧
    (ch0 .stopped).accepts (hd 0 0) (.coefRead 3 4) = true ∧ (ch0 .stopped).accepts (hd 0 0) .chRead = true := by decide

/-- Channel 0 with STALE set. -/
def stale0 : Machine.State := (ch0 .stopped).onEst 0 (fun e => { e with stale := true })

theorem witness_EstimatorAndMeterCommandsComplete :
    (ch0 .stopped).accepts (hd 0 0) (.estSet { mask := 0, cnom := 0, slopemin := 0, ocvrest := 0, rate := 0, kskip := 0, kmin := 0, estrec := 0 }) = true ∧
    (ch0 .stopped).accepts (hd 0 0) (.ocvTable [(0, 3000000), (10000, 4200000)]) = true ∧ rdy.accepts (hd 0 255) (.estRead true) = true ∧
    ((ch0 .stopped).accepts (hd 0 0) .relearn = true ∧ (((ch0 .stopped).taken (hd 0 0)).estAt 0).stale = false) ∧
    (stale0.accepts (hd 0 0) .relearn = true ∧ ((stale0.taken (hd 0 0)).chan 0).est.stale = true) ∧
    (ch0 .stopped).accepts (hd 0 0) .counterRead = true ∧ rdy.accepts (hd 0 255) (.meterRead 0) = true ∧
    rdy.accepts (hd 0 255) .meterClose = true ∧ (rdy.accepts (hd 0 255) (.meterLimits 1 1) = true ∧ (rdy.taken (hd 0 255)).takesNvm 1 = true) ∧
    rdy.accepts (hd 0 255) (.meterSched 31 [0]) = true := by decide

/-- READY with a mounted ledger, a partner in TWIN. -/
def led0 : Machine.State := net.onLed (fun l => { l with st := .mounted, running := true })

theorem witness_LedgerAndPairCommandsComplete :
    rdy.accepts (hd 0 255) .ledgerRead = true ∧
    (led0.accepts (hd 0 255) (.ledgerFetch 0 1 1 6 false) = true ∧ (led0.taken (hd 0 255)).led.fetches.any (fun f => f.head.tenant == 0) = false ∧
     (led0.taken (hd 0 255)).led.isMounted = true) ∧
    (led0.accepts (hd 0 255) (.ledgerRetain 255 1) = true ∧ (led0.taken (hd 0 255)).takesNvm 1 = true) ∧
    (led0.accepts (hd 0 255) .ledgerSeal = true ∧ ((led0.taken (hd 0 255)).tenant? 0).any (fun x => x.lastSeal == none) = true) ∧
    rdy.accepts (hd 0 255) .pairRead = true ∧
    (rdy.accepts (hd 0 255) (.handover 1000) = true ∧ (rdy.taken (hd 0 255)).board.pair.ho = .none ∧ (rdy.taken (hd 0 255)).mode.mode ≠ .service) := by decide

theorem witness_TimeAndPowerCommandsComplete :
    rdy.accepts (hd 0 255) .timeRead = true ∧ rdy.accepts (hd 0 255) (.timeSet { year := 2199, month := 12, day := 31 } true true) = true ∧
    (rdy.accepts (hd 0 255) (.summer true) = true ∧ (rdy.taken (hd 0 255)).board.time.cal.summer = false ∧
     (rdy.taken (hd 0 255)).board.time.sumReq = none) ∧
    (let s := rdy.onTime (fun t => { t with cal := { t.cal with summer := true } })
     s.accepts (hd 0 255) (.summer false) = true ∧ (s.taken (hd 0 255)).board.time.cal.summer = true) ∧
    rdy.accepts (hd 0 255) (.wakeSet 1 true {} 0) = true ∧ rdy.accepts (hd 0 255) (.wakeSet 2 true {} 5529600) = true ∧
    (at_ .service).accepts (hd 0 255) (.calTrim 511) = true ∧ rdy.accepts (hd 0 255) .powerRead = true ∧
    (let s := rdy.onPwr (fun p => { p with present := true })
     s.accepts (hd 0 255) .ship = true ∧ (s.taken (hd 0 255)).board.pwr.present = true) ∧
    rdy.accepts (hd 0 255) .warmReset = true ∧
    (rdy.accepts (hd 0 255) (.blockReset 8) = true ∧ (rdy.taken (hd 0 255)).optL = true ∧ (rdy.taken (hd 0 255)).blockInUse 8 = false ∧
     (rdy.taken (hd 0 255)).inBlockReset 8 = false) := by decide

theorem witness_ServiceCommandsAndChecksComplete :
    (rdy.accepts (hd 0 255) .svcEnter = true ∧ (rdy.taken (hd 0 255)).execMask = 0 ∧ (rdy.taken (hd 0 255)).mode.mode ≠ .service ∧
     (rdy.taken (hd 0 255)).holdsPipe = true) ∧
    ((at_ .service).accepts (hd 0 255) .svcExit = true ∧ ((at_ .service).taken (hd 0 255)).execMask = 0) ∧
    (at_ .lockout).accepts (hd 0 255) .houseClear = true ∧ rdy.accepts (hd 0 255) (.faultAck 1) = true ∧
    (rdy.accepts (hd 0 255) (.selftest 7 1) = true ∧ gather? 7 = some 7 ∧ (rdy.taken (hd 0 255)).gatExec 7 = false ∧
     ((rdy.taken (hd 0 255)).gat 7).slot = none) ∧
    ((ch0 .active).accepts (hd 0 255) (.selftest 0 0) = true ∧ ((ch0 .active).taken (hd 0 255)).gatExec 0 = true) ∧
    (at_ .service).accepts (hd 0 255) (.refcheck 0 200) = true ∧ (at_ .service).accepts (hd 0 255) (.refcheck 0 201) = true ∧
    (let s := (at_ .service).onGat 0 (fun y => { y with retired := 2 })
     let d : List (Int × Int) := [(0, 0), (0, 0), (0, 0), (0, 0), (0, 0)]
     s.accepts (hd 0 255) (.retest 0 1 d []) = true ∧ (s.taken (hd 0 255)).calOk 0 1 d [] = true ∧
     let e : List (Int × Int) := [(2 ^ 31, 0)]
     s.accepts (hd 0 255) (.retest 0 1 e []) = true ∧ (s.taken (hd 0 255)).calOk 0 1 e [] = false ∧ (s.taken (hd 0 255)).takesNvm 2 = true) ∧
    (at_ .service).accepts (hd 0 255) .nvmStat = true ∧ (at_ .service).accepts (hd 0 255) .nvmScrub = true ∧
    (rdy.accepts (hd 0 255) (.setTimes 600 600) = true ∧ (rdy.taken (hd 0 255)).takesNvm 1 = true) := by decide

theorem witness_WriteCommandsComplete :
    (let p : CalPair := { channel := 63, qty := 4, offu := 0, gainu := 0, qu := 0 }
     (at_ .service).accepts (hd 0 255) (.calWrite [p]) = true ∧ ((at_ .service).taken (hd 0 255)).takesNvm 2 = true ∧
     [p].filter ((at_ .service).taken (hd 0 255)).calChanges = []) ∧
    (let p : CalPair := { channel := 0, qty := 0, offu := 1, gainu := 0, qu := 0 }
     (at_ .service).accepts (hd 0 255) (.calWrite [p]) = true ∧ [p].filter ((at_ .service).taken (hd 0 255)).calChanges ≠ []) ∧
    (at_ .service).accepts (hd 0 255) (.fwData 0 (zeros 32)) = true ∧ (at_ .service).accepts (hd 0 255) (.fwFinish true) = true ∧
    (at_ .service).accepts (hd 0 255) .fwAbandon = true ∧
    ((at_ .service).accepts (hd 0 255) (.regRead 0 8) = true ∧ (List.range 8).any (fun i => regBarred false (4 * i)) = false) ∧
    ((at_ .service).accepts (hd 0 255) (.regWrite 0x060000 [0]) = true ∧ regBarred true 0x060000 = false) ∧
    inFabric 0x060000 = true ∧ inFabric 0x2000000 = false := by decide

/-! ### Witnesses of the event statements: channels and Gathers -/

/-- A step of a kind, with slot 2's value. -/
def stepOf (kind v2 : Nat) : StepWord := BitVec.ofNat 256 (kind + v2 * 2 ^ 176)

/-- Channel 0 executing a step. -/
def run0 (st : ChState) (w : StepWord) (f : ProgSt → ProgSt) : Machine.State :=
  (ch0 st).onProg 0 (fun p => f { p with live := [w], active := true, inStep := true })

theorem witness_RampsAndStepPhases :
    (let s := (rdy.setFld (chA 0 0xAC) 1 1 0).onLoop 0 (fun l => { l with st := .settling, settle := .start, ramp := 10 ^ 12 })
     let l := s.leaderOf 0
     let t := (s.forChans (s.membersOf l) (fun m u => u.onLoop m (fun y => { y with ramp := 0 }))).onLoop l (fun y => { y with vloop := 0 })
     (s.chan l).loop.st = .settling ∧ s.fld (gA (gOf l) 0x0C) 0 16 * 800000 ≤ (s.chan l).loop.ramp ∧ (s.chan l).loop.settle = .start ∧
     (∀ m, m ∈ s.membersOf l → t.bit (chA m 0xAC) 1 = true → sx 32 (t.reg (chA m 0xA0)) ≤ (t.chan m).loop.vloop)) ∧
    (let s := (rdy.setBit (chA 0 0xAC) 1).onLoop 0 (fun l => { l with st := .settling, settle := .step, ramp := 10 ^ 12 })
     let l := s.leaderOf 0
     let t := (s.forChans (s.membersOf l) (fun m u => u.onLoop m (fun y => { y with ramp := 0 }))).onLoop l (fun y => { y with vloop := 10 ^ 12 })
     (s.chan l).loop.st = .settling ∧ s.fld (gA (gOf l) 0x0C) 0 16 * 800000 ≤ (s.chan l).loop.ramp ∧ (s.chan l).loop.settle = .step ∧
     (∀ m, m ∈ s.membersOf l → t.bit (chA m 0xAC) 1 = true → sx 32 (t.reg (chA m 0xA0)) ≤ (t.chan m).loop.vloop)) ∧
    (let s := rdy.onLoop 0 (fun l => { l with st := .softstart, ramp := 10 ^ 12 })
     (s.chan (s.leaderOf 0)).loop.st = .softstart ∧ s.fld (gA (gOf (s.leaderOf 0)) 0x0C) 16 16 * 800000 ≤ (s.chan (s.leaderOf 0)).loop.ramp) ∧
    (let s := rdy.onLoop 0 (fun l => { l with st := .stopping, ramp := 10 ^ 12 })
     (s.chan (s.leaderOf 0)).loop.st = .stopping ∧ s.fld (gA (gOf (s.leaderOf 0)) 0x10) 0 16 * 800000 ≤ (s.chan (s.leaderOf 0)).loop.ramp) ∧
    (let s := rdy.onLoop 0 (fun l => { l with tcoff := true, ramp := 10 ^ 12 })
     (s.chan 0).loop.tcoff = true ∧ s.fld (gA (gOf 0) 0x10) 16 16 * 800000 ≤ (s.chan 0).loop.ramp) ∧
    (let s := rdy.onLoop 0 (fun l => { l with tkramp := true, tkT := 10 ^ 12 })
     (s.chan (s.leaderOf 0)).loop.tkramp = true ∧ s.fld 0x330000 0 8 * 400000 ≤ (s.chan (s.leaderOf 0)).loop.tkT) ∧
    (let s := run0 .active (stepOf 7 (65535 + 100 * 65536)) (fun p => { p with phaseT := 65535 * 80000 + 10 ^ 8 })
     let x := s.chan (s.leaderOf 0)
     let n := if x.prog.pulseB then bitsOf (slotVal x.cur 2) 16 16 else bitsOf (slotVal x.cur 2) 0 16
     s.tests (s.leaderOf 0) = true ∧ stepKind x.cur = 7 ∧
     pulseCycles (n * (if slotVref x.cur 2 then 8000000 else 80000)) (s.period (gOf (s.leaderOf 0))) * s.period (gOf (s.leaderOf 0)) ≤ x.prog.phaseT) ∧
    (let s := run0 .active (stepOf 8 0) (fun p => { p with phaseT := 10 ^ 12 })
     let x := s.chan (s.leaderOf 0)
     s.tests (s.leaderOf 0) = true ∧ stepKind x.cur = 8 ∧ x.prog.dcirB = false ∧ dcirT x.cur false ≤ x.prog.phaseT) ∧
    (let s := run0 .active (stepOf 8 0) (fun p => { p with phaseT := 10 ^ 12, dcirB := true })
     let x := s.chan (s.leaderOf 0)
     s.tests (s.leaderOf 0) = true ∧ stepKind x.cur = 8 ∧ x.prog.dcirB = true ∧ dcirT x.cur true ≤ x.prog.phaseT) ∧
    (0 < 400000 ∧ 4 ≤ (2 * 1600000 + 400000) / (2 * 400000)) := by decide

theorem witness_CyclesEventsAndSelfTests :
    rdy.gatOff 7 = false ∧ gOf 63 = 7 ∧
    (let x : Barrier := { tenant := 0, num := 15, count := 1, arrived := [0], trel := some 5 }
     let s := { rdy with barriers := [x], ptp := 5 }
     s.barriers.find? (fun y => y.tenant == 0 && y.num == 15 && y.trel.isSome) = some x ∧ x.trel.getD 0 ≤ s.ptp) ∧
    (let s := rdy.onGat 0 (fun y => { y with deferred := [(hd 0 255, 1)] })
     (s.gat 0).deferred = [(hd 0 255, 1)] ∧ (s.gat 0).slot = none ∧ s.gatAtRest 0 = true) ∧
    (let s := rdy.onGat 0 (fun y => { y with slot := some 0, slotBy := some (hd 0 255) })
     (s.gat 0).slot = some 0 ∧ (s.gat 0).slotBy = some (hd 0 255) ∧ (s.gat 0).slotDef = false ∧ s.gatOff 0 = false) ∧
    (let s := rdy.onGat 0 (fun y => { y with slot := some 1, slotBy := some (hd 0 255), slotDef := true })
     (s.gat 0).slot = some 1 ∧ (s.gat 0).slotBy = some (hd 0 255) ∧ (s.gat 0).slotDef = true ∧ s.gatOff 0 = false) := by decide

theorem witness_ChannelProtections :
    ((ch0 .active).ckReached 0 (-(10 ^ 12)) = true ∧ ((ch0 .active).chan 0).prot.ckLatch = false ∧ ((ch0 .active).chan 0).loop.st ≠ .released ∧
     ((1 : ChanNo) ≠ 0)) ∧
    (ch0 .active).ckReached 0 0 = false ∧
    ((at_ .twin).ckReached 0 (10 ^ 12) = true ∧ ((at_ .twin).chan 0).prot.ckLatch = false ∧ ((at_ .twin).chan 0).loop.st = .released ∧
     (at_ .twin).mode.mode = .twin) ∧
    (let s := { (ch0 .faulted).onProt 0 (fun p => { p with retryWait := true, tripT := 7 }) with ptp := 100000007 }
     (s.chan (s.leaderOf 0)).loop.st = .faulted ∧ (s.chan (s.leaderOf 0)).prot.retryWait = true ∧
     (s.chan (s.leaderOf 0)).prot.tripT + 100000000 ≤ s.ptp) ∧
    (let s := rdy.onProt 0 (fun p => { p with noTripT := 80000000000 }); 80000000000 ≤ (s.chan 0).prot.noTripT) ∧
    (let s := (ch0 .active).onProt 0 (fun p => { p with slowT := 10 ^ 12 }); s.slowMet 0 = true) ∧
    (let s := (((ch0 .active).setBit (chA 0 0xAC) 2).onLoop 0 (fun l => { l with con := true })).onProt 0 (fun p => { p with revT := 8000000 })
     s.reversed 0 = true ∧ s.mode.mode ≠ .twin ∧ (s.chan 0).loop.con = true ∧ (s.chan 0).stoppable = true) ∧
    (let s := ((ch0 .stopped).setBit (chA 0 0xAC) 2).onProt 0 (fun p => { p with revT := 8000000 })
     s.reversed 0 = true ∧ s.mode.mode ≠ .twin ∧ (s.chan 0).prot.revSeen = false ∧ (s.chan 0).loop.con = false) ∧
    (let s := ((ch0 .active).setBit (chA 0 0xAC) 3).onLoop 0 (fun l => { l with con := true })
     s.bit (chA 0 0xAC) 3 = true ∧ s.mode.mode ≠ .twin ∧ (s.chan 0).loop.con = true ∧ (s.chan 0).stoppable = true) ∧
    ((rdy.setFld (chA 0 0xAC) 3 1 0).bit (chA 0 0xAC) 3 = false ∧ rdy.mode.mode ≠ .twin) := by decide

theorem witness_GatherProtectionsAndBusFlags :
    (let s := rdy.onGat 0 (fun y => { y with stgBadMs := 10 }); 10 ≤ (s.gat 0).stgBadMs ∧ s.fenced (uGat 0) = false) ∧
    (let s := rdy.onGat 0 (fun y => { y with senBad := 80000000 }); 80000000 ≤ (s.gat 0).senBad ∧ s.fenced (uGat 0) = false) ∧
    rdy.gatOff 0 = false ∧
    (let s := (ch0 .active).onGat 0 (fun y => { y with uvs := true }) |>.onLoop 0 (fun l => { l with iref := 1 })
     (s.busCauses 0).contains 0x15 = true) ∧
    (let vb (v : Nat) := v * rdy.fld (bgA 0 0) 0 16 / 1000
     let uvw := rdy.fld (bgA 0 8) 0 16 * 1000; let ovw := rdy.fld (bgA 0 0xC) 0 16 * 1000; let h := rdy.fld (bgA 0 0x10) 0 10 * 1000
     vb 0 < uvw ∧ (uvw ≤ vb 2450000 ∧ uvw + h ≤ vb 2450000) ∧ (uvw ≤ vb 1187500 ∧ vb 1187500 < uvw + h) ∧
     ovw < vb 9000000 ∧ (vb 0 ≤ ovw ∧ vb 0 + h ≤ ovw) ∧ (vb 1875000 ≤ ovw ∧ ovw < vb 1875000 + h)) ∧
    (2450000 < 2450001 ∨ 64000000 < (0 : Int).natAbs) ∧ (2450000 ≤ 2450000 ∧ (-64000000 : Int).natAbs ≤ 64000000) ∧ (1 : GatherNo) ≠ 0 := by decide

/-- Channel 0 with a held output sample at time 0 whose twin stands v µV off. -/
def twin0 (v : Int) : Machine.State :=
  { (ch0 .active).onMeas 0 (fun m =>
      { m with twin := some { stamp := 0, v, i := 0, rng := 0, calgen := 0, rate := 0 },
               held := [{ stamp := 0, v := 0, i := 0, rng := 0, calgen := 0, rate := 0 }] }) with
    board := { owner := true, pipeOut := true, pair := { lanes := 1 } } }

theorem witness_SamplesAndTwins :
    (let s := ch0 .active; let raw := rawParts [1000] [(10 ^ 9, 10 ^ 6)]; let t := s.takeSample 0 0 raw
     s.gatOff (gOf 0) = false ∧ s.windowEnds 0 0 = true ∧ t.mode.mode ≠ .twin ∧ stExec (t.chan 0).loop.st = true ∧ t.follower 0 = false ∧
     (s.winV 0 raw).isSome = true ∧ (s.winI 0 raw).isSome = true ∧ (s.chan 0).est.savedOcv = none) ∧
    (let s := rdy.onMeas 0 (fun m => { m with newRate := some (3, 7) }); (s.chan 0).meas.newRate = some (3, 7)) ∧
    (0 < outPeriod 4 ∧ 0 < outPeriod 10 ∧ (0 : Nat) < 3600000000000 ∧ 3600000000000 % outPeriod 4 = 0 ∧ 3600000000000 % outPeriod 10 = 0) ∧
    (let s := twin0 0; let h : HeldSmp := { stamp := 0, v := 0, i := 0, rng := 0, calgen := 0, rate := 0 }
     (s.chan 0).meas.held = [h] ∧ s.twinResult 0 h = some true ∧ s.board.linkUp = true ∧
     (s.onMeas 0 (fun m => { m with twin := none })).twinResult 0 h = none ∧ s.twinResult 0 { h with calgen := 1 } = none) ∧
    (let s := twin0 1000000; let h : HeldSmp := { stamp := 0, v := 0, i := 0, rng := 0, calgen := 0, rate := 0 }
     (s.chan 0).meas.held = [h] ∧ s.twinResult 0 h = some false) := by decide

/-- READY past every time of a rotation, with Gather 0's Punties as given. -/
def pun (a b : Punty) (f : Gather → Gather) : Machine.State :=
  { rdy.onGat 0 (fun y => f { y with pa := a, pb := b }) with now := 10 ^ 14 }
/-- Five drift pairs of zero. -/
def zero5 : List (Int × Int) := [(0, 0), (0, 0), (0, 0), (0, 0), (0, 0)]

theorem witness_PuntySwapStarts :
    (∀ b : Bool,
     let s := if b then pun { st := .shadow } { st := .free } id else pun { st := .free } { st := .free } id
     let n := (s.gat 0).swapNo
     let first := decide ((n + n / 16) % 2 = 1)
     s.gatOff 0 = false ∧ (s.gat 0).calibrated = true ∧ s.bit (gA 0 0x200) 0 = true ∧ (s.gat 0).refHold = false ∧
     (s.gat 0).rotT + s.fld (gA 0 0x200) 4 12 * 1000000000 ≤ s.now ∧
     (∀ x, ((s.gat 0).punty x).stuck = false ∧ ((s.gat 0).punty x).back = false) ∧
     (∀ x, ((s.gat 0).punty x).st = .standin → ((s.gat 0).punty x).input ≠ n % 16) ∧
     ((s.gat 0).punty b).st = .free ∧ (b = first ∨ ((s.gat 0).punty first).st ≠ .free)) ∧ (1 : GatherNo) ≠ 0 := by decide

theorem witness_PuntySwapStages :
    (let s := pun { st := .shadow } {} id
     s.gatOff 0 = false ∧ ((s.gat 0).punty false).st = .shadow ∧ ((s.gat 0).punty false).shadowed s.now = true ∧ (s.gat 0).planned false = false ∧
     0 * 1000000 * 8 ≤ s.fld (gA 0 0x200) 16 8 * s.matchAcc 0 ((s.gat 0).punty false).input ∧
     s.fld (gA 0 0x200) 16 8 * s.matchAcc 0 ((s.gat 0).punty false).input < 10 ^ 12 * 1000000 * 8) ∧
    (let s := pun { st := .shadow } {} (fun y => { y with due := [{ input := 15, conv := puntyConv true, punty := some (true, .standin) }] })
     (s.gat 0).due = [{ input := 15, conv := puntyConv true, punty := some (true, .standin) }]) ∧
    (let s := pun {} { st := .standin, rel := some 15 } id
     s.gatOff 0 = false ∧ ((s.gat 0).punty true).st = .standin ∧ ((s.gat 0).punty true).rel = some 15 ∧ ((s.gat 0).punty true).back = false ∧
     ((s.gat 0).punty true).stuck = false ∧ ((s.gat 0).punty true).since + calNs 15 ≤ s.now ∧ s.calOk 0 15 (zero5.take 4) [] = true) ∧
    (let s := pun {} { st := .standin, rel := some 15, back := true } id
     s.gatOff 0 = false ∧ ((s.gat 0).punty true).st = .standin ∧ ((s.gat 0).punty true).rel = some 15 ∧ ((s.gat 0).punty true).back = true ∧
     ((s.gat 0).punty true).shadowed s.now = true) ∧
    (let s := pun {} { swap := true, again := true } id
     s.gatOff 0 = false ∧ ((s.gat 0).punty true).st = .selfcal ∧ (s.gat 0).calibrated = true ∧
     ((s.gat 0).punty true).since + calNs (puntyConv true) ≤ s.now ∧ s.calOk 0 (puntyConv true) zero5 [] = true) ∧
    (let s := pun { st := .shadow } { st := .free } id
     s.gatOff 0 = false ∧ ((s.gat 0).punty false).st = .shadow ∧ (s.gat 0).planned false = false ∧
     ((s.gat 0).punty false).begun + s.fld (gA 0 0x200) 4 12 * 1000000000 ≤ s.now ∧ ((s.gat 0).punty (!false)).st = .free) := by decide

theorem witness_ConvertersAndPuntySwap :
    (rdy.gatOff 0 = false ∧ (rdy.gat 0).retired.testBit (15 : Fin 18).val = false ∧
     (List.range 16).find? (fun i => (rdy.gat 0).seatSoon i == (15 : Fin 18).val) = some 15 ∧ (15 : Fin 18).val < 16) ∧
    (let s := pun {} {} (fun y => { y with calibrated := false })
     s.gatOff 0 = false ∧ (s.gat 0).calibrated = false ∧ (s.gat 0).rotT + 2500000000 ≤ s.now ∧ (s.gat 0).retired.testBit 15 = false ∧
     s.calOk 0 15 (([] : List (List (Int × Int))).getD 15 []) (([] : List (List Nat)).getD 15 []) = true) ∧
    (let s := (ch0 .stopped).onMeas 0 (fun m => { m with calNext := some (2, 5, []) })
     s.gatOff (gOf 0) = false ∧ (s.chan 0).meas.calNext = some (2, 5, []) ∧ s.ownerOf (0 : ChanNo).val = 0) ∧
    (let s := { rdy with leases := [(0, { f := lf 1 })] }.onMeas 0 (fun m => { m with calNext := some (2, 5, []) })
     (s.chan 0).meas.calNext = some (2, 5, []) ∧ s.ownerOf (0 : ChanNo).val ≠ 0) := by decide

/-- A sweep step from 1 kHz to 100 Hz at 10 mA. -/
def eisStep : StepWord := BitVec.ofNat 256 (9 + (10 + 4 * 256) * 2 ^ 128 + (6000 + 5000 * 65536) * 2 ^ 176 + 10000 * 2 ^ 224)
/-- Channel 0 in that step at a phase. -/
def eis0 (f : EisSt → EisSt) : Machine.State := (run0 .active eisStep id).onEis 0 f
/-- The demodulators' sums of a clean window of n samples: 10 mV and 10 mA in phase. -/
def sums (n : Nat) : List Tone :=
  List.replicate 8 { vre := n / 8 * (5 * 10 ^ 15), vim := 0, ire := n / 8 * (5 * 10 ^ 15), iim := 0, n := n / 8 }

theorem witness_SweepPointStages :
    (let s := eis0 (fun e => { e with phase := 1 }); let x := s.chan (s.leaderOf 0)
     s.inEis (s.leaderOf 0) = true ∧ x.eis.phase = 1 ∧ 0 % 1000000 = 0 ∧ s.ptp < 0 + 1000000 ∧ 0 < s.ptp + 1000000 ∧ x.loop.st = .active ∧
     x.loop.iref = s.shareOf (s.leaderOf 0) (s.limTotal (s.leaderOf 0) x.prog.seta)) ∧
    (let s := eis0 (fun e => { e with phase := 2 })
     s.inEis (s.leaderOf 0) = true ∧ (s.chan (s.leaderOf 0)).eis.phase = 2) ∧
    (let s := eis0 (fun e => { e with phase := 3, code := 6000 })
     let s := s.onEis 0 (fun e => { e with bad := 1, cfg := 2, eighths := sums (s.eisLen 0) }); let e := (s.chan (s.leaderOf 0)).eis
     s.inEis (s.leaderOf 0) = true ∧ e.phase = 3 ∧ s.eisLen (s.leaderOf 0) ≤ e.window.n ∧ e.rep = false ∧ e.bad ≠ 0 ∧ e.cfg.testBit 1 = true) ∧
    (let s := eis0 (fun e => { e with phase := 3, code := 6000 })
     let s := s.onEis 0 (fun e => { e with cfg := 9000 * 65536, eighths := sums (s.eisLen 0) })
     let n := s.eisLen (s.leaderOf 0); let ch := s.chan (s.leaderOf 0); let e := ch.eis; let x := e.window
     s.inEis (s.leaderOf 0) = true ∧ e.phase = 3 ∧ n ≤ x.n ∧ e.bad = 0 ∧ zOf x = some (1000000, 0) ∧ cohOf e.eighths = some 10000 ∧
     bitsOf e.cfg 16 16 ≤ 10000 ∧ stepAmp ch.cur ≤ cAbs (2 * x.ire) (2 * x.iim) (n * 1000000000000) * 2 ∧
     cAbs (2 * x.ire) (2 * x.iim) (n * 1000000000000) ≤ stepAmp ch.cur * 2 ∧ (eisCode ch.cur (e.point + 1)).isSome = true) := by decide +kernel

theorem witness_EstimatorBalanceAndMeterEvents :
    (let s := run0 .resting (stepOf 10 0) (fun p => { p with seta := 1000, stepT := 2000 * 8000000 })
     (s.chan 0).prog.inStep = true ∧ (s.chan 0).prog.newStep = false ∧ stepKind (s.chan 0).cur = 10 ∧ (s.chan 0).loop.st = .resting ∧
     0 < (s.chan 0).prog.seta ∧ (s.chan 0).prog.seta.toNat ≤ tMs (s.chan 0).prog.stepT ∧
     tMs (s.chan 0).prog.stepT % (s.chan 0).prog.seta.toNat = 0 ∧ s.gatOff (gOf 0) = false ∧ s.stewardOn = true ∧ s.mode.mode ≠ .twin ∧
     (63 : ChanNo) ≠ 0) ∧
    (rdy.mode.mode ≠ .twin ∧ rdy.stewardOn = true ∧ (rdy.chan 0).est.hib = false) ∧
    (let s := rdy.onEst 0 (fun e => { e with hib := true, hibMs := 9900 })
     (s.chan 0).est.hib = true ∧ (s.lowI 0 = false ∨ 9900 ≤ (s.chan 0).est.hibMs) ∧ s.stewardOn = true) ∧
    (let s := rdy.onEst 0 (fun e => { e with hib := true, cnom := 3000000, hibMs := 9899 })
     (s.chan 0).est.hib = true ∧ s.lowI 0 = true ∧ (s.chan 0).est.hibMs < 9900 ∧ s.stewardOn = true) ∧
    (let s := rdy.onEst 0 (fun e => { e with lowT := 60000 }); 60000 ≤ (s.chan 0).est.lowT ∧ s.stewardOn = true) ∧
    (let s := (rdy.onEst 0 (fun e => { e with restMs := 1800000, cnom := 3000000, table := [(0, 3000000), (10000, 4200000)] })).onMeas 0
       (fun m => { m with vout := 3600000 })
     (s.chan 0).est.ocvrest * 1000 ≤ (s.chan 0).est.restMs ∧ (s.chan 0).est.cap ≠ 0 ∧ s.stewardOn = true ∧
     (if (s.chan 0).est.hib then (s.chan 0).est.hibMs = 0 else (s.chan 0).est.restMs < (s.chan 0).est.ocvrest * 1000 + 100) ∧
     (ocvSeg (s.chan 0).est.table (s.chan 0).meas.vout).any (fun x => decide (((s.chan 0).est.slopemin : Int) ≤ x.2)) = true) ∧
    (rdy.holdsPipe = true ∧ modeWorks rdy.mode.mode = true ∧ (rdy.setFld 0x200000 0 1 0).bit 0x200000 0 = false ∧
     (rdy.setBit 0x200000 0).bit 0x200000 0 = true ∧ rdy.stewardOn = true) ∧
    (let s := { (rdy.setFld 0x20000C 0 16 60).onProg 0 (fun p => { p with deferT := some 0 }) with now := 60000000000 }
     (s.chan 0).prog.deferT = some 0 ∧ s.fld 0x20000C 0 16 ≠ 0 ∧ 0 + s.fld 0x20000C 0 16 * 1000000000 ≤ s.now ∧
     s.gatOff (gOf 0) = false) ∧
    (let s := { rdy with now := 10 ^ 15 }
     s.stewardOn = true ∧ s.takesNvm 4 = true ∧ s.met.commitT + (if s.optM then s.fld 0x200800 8 12 else 300) * 1000000000 ≤ s.now) ∧
    (let s := { rdy with met := { rdy.met with stamps := [5] }, ptp := 5 }
     s.met.stamps[(s.gat 0).pieces]? = some 5 ∧ 5 ≤ s.ptp ∧ s.gatOff 0 = false) ∧
    (let s := { rdy with met := { rdy.met with due := true } }
     s.met.due = true ∧ s.stewardOn = true ∧ ({ s with rst := { s.rst with stalled := 15 } } : Machine.State).stewardOn = false) ∧
    rdy.met.due = false := by decide

theorem witness_CalendarTicksAndFreeze :
    (rdy.calStopped = false ∧ rdy.board.time.loadT = none) ∧
    (let s := { rdy.onTime (fun t => { t with loadT := some 0 }) with now := 10 ^ 9 }
     s.calStopped = false ∧ s.now * 32768 / 1000000000 ≠ 0 * 32768 / 1000000000) ∧
    ((at_ .off).calStopped = true ∧ ((at_ .keep).onTime (fun t => { t with xtalBad := true })).calStopped = true) ∧
    (let s := { (rdy.setBit 0x050030 31).setFld 0x050030 0 23 64 with now := 1000000000 }
     s.bit 0x050030 31 = true ∧ s.calStopped = false ∧ s.board.time.pwakeT + s.fld 0x050030 0 23 * 15625000 ≤ s.now) ∧
    (let s := { rdy.onTime (fun t => { t with ptp := .locked }) with now := 3600000000000 }
     s.board.time.ptp = .locked ∧ s.board.time.lockT + 3600000000000 ≤ s.now) ∧ modeUp rdy.mode.mode = true ∧
    (let s := (rdy.setFld 0x050004 0 5 29).setFld 0x050004 8 4 2
     s.calShadow.ok = true ∧ ((s.setFld 0x050008 0 8 1).calShadow.ok = false)) ∧
    rdy.board.time.frozen = none ∧
    (let s := { rdy.onTime (fun t => { t with frozen := some ({}, true), frozenT := 0 }) with now := 1000000000 }
     s.board.time.frozen.isSome = true ∧ s.board.time.frozenT + 1000000000 ≤ s.now) := by decide

theorem witness_NextSecondStaysValid :
    let c : CalTime := { year := 2199, month := 12, day := 31, hour := 23, minute := 59, second := 59, wday := 6 }
    c.ok = true ∧ c.wday ≤ 6 := by decide

/-! ### Witnesses of the event statements: timebase, power, pack -/

/-- READY with a PTP state; port 0 is enabled and its link is up. -/
def ptp0 (p : PtpSt) : Machine.State := (rdy.setBit 0x320040 8).onTime (fun t => { t with ptp := p, slave := 0 })

theorem witness_PtpAndTimebase :
    ((ptp0 .seeded).ptpPort 0 = true ∧ (ptp0 .seeded).board.time.ptp ≠ .locking ∧ (ptp0 .seeded).board.time.ptp ≠ .locked) ∧
    ((ptp0 .locked).ptpPort 0 = true ∧ (ptp0 .locked).board.time.slave = 0 ∧ (ptp0 .locked).board.time.ptp = .locked ∧
     (ptp0 .locked).netTake.ptpPort 0 = true ∧ modeUp (ptp0 .locked).mode.mode = true) ∧
    (let s := (ptp0 .locking).onTime (fun t => { t with inN := 15 })
     s.board.time.netNext = [] ∧ s.ptpPort 0 = true ∧ s.board.time.slave = 0 ∧ s.board.time.ptp = .locking ∧ (s.syncOffset 0 10050 10000).natAbs ≤ 50 ∧
     (s.syncOffset 0 10050 10000).natAbs ≤ s.fld 0x320040 16 16 * 1000 ∧ 15 ≤ s.board.time.inN) ∧
    (((ptp0 .locked).setBit 0x320040 7).bit 0x320040 7 = true ∧ ((ptp0 .locked).setBit 0x320040 7).ptpPort 0 = true) ∧
    ((ptp0 .locked).setFld 0x320040 7 1 0).bit 0x320040 7 = false ∧
    (let s := { ptp0 .holdover with now := 65535000000000 }
     s.board.time.ptp = .holdover ∧ s.board.time.holdT + s.fld 0x320044 0 16 * 1000000000 ≤ s.now) ∧
    (let s := (ptp0 .locking).onTime (fun t => { t with stepPend := some (-5) })
     s.board.time.stepPend = some (-5) ∧ s.execMask = 0 ∧ s.board.time.ptp = .locking) ∧
    ((ptp0 .seeded).board.ptpValid = true ∧ modeUp (ptp0 .seeded).mode.mode = true ∧ (ptp0 .seeded).pairDue = true) ∧
    (let s := { ptp0 .mains with now := 600000000000 }
     s.board.time.ptp = .mains ∧ s.board.time.mainsT + 600000000000 ≤ s.now) ∧
    (let s := { (ptp0 .locked).setBit 0x32005C 0 with ptp := 3000000000 }
     modeUp s.mode.mode = true ∧ s.bit 0x32005C 0 = true ∧ s.board.ptpValid = true ∧ 
     s.board.time.ppsHigh ≠ some (s.ptp / 1000000000 * 1000000000)) ∧
    ((ptp0 .locked).setBit 0x32005C 1).bit 0x32005C 1 = true := by decide

theorem witness_WakesAndSupplies :
    (let s := ((at_ .keep).setBit 0x050030 31).setBit 0x050034 0 |>.setBit 0x070010 26
     s.mode.mode = .keep ∧ s.bit 0x050030 31 = true ∧ s.bit 0x050034 0 = true ∧ s.bit 0x070010 26 = true) ∧
    (50 ≤ 7999 ∧ 7999 < 8000 ∧ modeWarden rdy.mode.mode = true) ∧
    (let s := { (at_ .keep).onTime (fun t => { t with pwroffT := some 1 }) with now := 2551000000 }
     s.board.time.pwroffT = some 1 ∧ 1 + s.fld 0x050034 8 8 * 10000000 ≤ s.now) ∧
    (at_ .ship).mode.mode = .ship ∧
    (let s := { rdy.onPwr (fun p => { p with longT := some 7 }) with now := 500000007 }
     s.board.pwr.longT = some 7 ∧ 7 + 500000000 ≤ s.now) ∧
    (at_ .off).mode.mode = .off ∧ ({ at_ .keep with opt := 7 } : Machine.State).optM = false := by decide

theorem witness_PowerPathAndSequencer :
    (let s := rdy.setFld 0x070010 0 16 10000
     s.noFatal = true ∧ s.boundaryNow = false ∧ s.vinThere 9999 = false ∧ 9999 < s.vinloss ∧ s.board.pwr.path = .input ∧
     modeUp s.mode.mode = true ∧ (s.onPwr (fun p => { p with input := false })).vinThere 65535 = true) ∧
    (let s := (rdy.setFld 0x070010 0 16 10000).setFld 0x070010 16 10 100
     s.noFatal = true ∧ s.boundaryNow = false ∧ s.vinThere 10000 = false ∧ s.vinloss ≤ 10000 ∧ s.board.pwr.path = .input) ∧
    (let s := rdy.onTime (fun t => { t with valid := true })
     s.noFatal = true ∧ s.boundaryNow = true) ∧
    ((rdy.onPwr (fun p => { p with input := false, path := .holdup })).board.pwr.input = false ∧ modeUp rdy.mode.mode = true) ∧
    rdy.tryReturn.board.pwr.wdDue = false ∧
    (let s := rdy.onPwr (fun p => { p with path := .returning })
     (s.board.pwr.path = .holdup ∨ s.board.pwr.path = .returning) ∧ s.board.pwr.rd.packv < s.ncell * s.packmin) ∧
    (let s := { ((at_ .wake).setFld 0x0600C0 5 2 0).onPwr (fun p => { p with phase := 1, slot := 0 }) with now := 10 ^ 12 }
     s.mode.mode = .wake ∧ s.board.pwr.phase = 1 ∧ s.watchSlot.slotDone = true ∧ (s.watchSlot.nextSlot (s.board.pwr.slot + 1)).isSome = true) ∧
    (let s := { (((List.range 16).foldl (fun u k => u.setFld (0x0600C0 + 4 * k) 4 1 0) (at_ .wake)).onPwr (fun p =>
       { p with phase := 1, slot := 15 })) with now := 10 ^ 12 }
     s.mode.mode = .wake ∧ s.board.pwr.phase = 1 ∧ s.watchSlot.slotDone = true ∧ s.watchSlot.nextSlot (s.board.pwr.slot + 1) = none ∧
     s.watchSlot.railsOk = true) ∧
    (let s := { ((at_ .wake).setFld 0x0600C0 5 2 2).onPwr (fun p =>
       { p with phase := 1, slot := 0, aux := Vector.replicate 4 {} }) with now := 10 ^ 12 }
     s.mode.mode = .wake ∧ s.board.pwr.phase = 1 ∧ s.fld (0x0600C0 + 4 * s.board.pwr.slot) 5 2 ≠ 0 ∧ s.board.pwr.condT = none ∧
     s.slotHolds s.board.pwr.slot = false ∧ s.board.pwr.slotT + s.fld (0x0600C0 + 4 * s.board.pwr.slot) 24 8 * 1000000 ≤ s.now) ∧
    (let s := { rdy.onPwr (fun p => { p with phase := 2, condT := some 0 }) with now := 10 ^ 12 }
     s.board.pwr.phase = 2 ∧ (∀ t, s.board.pwr.condT = some t → t + s.fld 0x0600A0 0 8 * 100000 ≤ s.now)) := by
  refine ⟨by decide, by decide, by decide, by decide, by decide, by decide, by decide, by decide, by decide, rfl, ?_⟩
  intro t h
  cases h
  decide

theorem witness_AuxPackAndChargerEvents :
    (let s := rdy.onAux 3 (fun a => { a with on := true })
     (s.aux 3).on = true ∧ (s.aux 3).stopped = false ∧ (s.aux 3).latched = false ∧ (s.aux 3).twarn = false) ∧
    (let s := { rdy.onAux 0 (fun a => { a with stopped := true, hicT := [5] }) with now := 10000005 }
     (s.aux 0).stopped = true ∧ (s.aux 0).hicT = [5] ∧ 5 + 10000000 ≤ s.now) ∧
    (let s := { rdy.onAux 0 (fun a => { a with on := true, overT := some 0 }) with now := 10 ^ 12 }
     (s.aux 0).on = true ∧ (s.aux 0).latched = false ∧ (s.aux 0).overT = some 0 ∧ 0 + s.fld (0x060004 + 0x20 * (0 : Fin 4).val) 16 7 * 1000000 ≤ s.now) ∧
    (((rdy.fld 0x0600A8 0 8 * 100 : Nat) : Int) ≤ 25500 ∧ ((rdy.fld 0x0600A8 8 8 * 100 : Nat) : Int) ≤ 25500 ∧ modeWarden rdy.mode.mode = true) ∧
    (let s := { (at_ .lockout).onPwr (fun p => { p with tshutT := some 0, rd := { p.rd with tdrv := [25500, 0, 0, 0] } }) with now := 1000000000 }
     s.board.pwr.tshutT = some 0 ∧ 0 + 1000000000 ≤ s.now ∧ s.mode.mode = .lockout ∧
     s.board.pwr.rd.tdrv.any (fun x => decide ((s.fld 0x0600A8 8 8 * 100 : Int) ≤ x)) = true) ∧
    (3 : Fin 8).val < 4 ∧
    (rdy.board.pwr.present = false ∧ modeUp rdy.mode.mode = true ∧ rdy.board.pwr.ntcBad = false ∧
     4000 ≤ 4000) ∧
    (let s := { rdy with now := 1000000 }; let r : Readings := { iout := [0, 0, 0, 0], tdrv := [0, 0, 0, 0] }
     let a := (s.onPwr (fun p => { p with rd := r, rdT := s.now })).watchSlot
     let b := (List.finRange 4).foldl (fun u k =>
       let w := 0x20 * k.val
       let mv := r.iout.getD k.val 0 * u.fld (0x060008 + w) 16 16
       let lim := u.fld (0x060004 + w) 8 7 * 10000
       let de := u.bit (0x060000 + w) 8
       u.onAux k (fun x => { x with
         overT := if x.on && decide (lim < mv) then some (x.overT.getD u.now) else none
         de := de && x.on && (if x.de then decide (mv * 10 ≤ lim * 2) else decide (mv * 10 < lim))
         twarn := x.twarn && !decide (r.tdrv.getD k.val 0 < ((u.fld 0x0600A8 0 8 : Int) - u.fld 0x0600A8 16 8) * 100) })) a
     modeWarden s.mode.mode = true ∧ s.board.pwr.rdT + 1000000 ≤ s.now ∧ b.syncHoldok.packTick.board.pwr.path ≠ .test) ∧
    (let s := { rdy.onPwr (fun p => { p with present := true, chg := .qual, rd := { p.rd with tpack := some 4500 } }) with now := 2000000000 }
     s.board.pwr.present = true ∧ s.board.pwr.chg = .qual ∧ s.board.pwr.chgT + 2000000000 ≤ s.now ∧ s.board.pwr.rd.tpack = some 4500 ∧
     (0 : Int) ≤ 4500 ∧ (4500 : Int) ≤ 4500) ∧
    (let s := { rdy.onPwr (fun p => { p with chg := .pre }) with now := 1800000000000 }
     s.board.pwr.chg = .pre ∧ s.board.pwr.chgT + 1800000000000 ≤ s.now ∧ (s.board.pwr.chg = .pre ∨ s.board.pwr.chg = .fast) ∧
     0 < s.fld 0x070004 16 16) ∧
    (let s := { rdy.onPwr (fun p => { p with chg := .fast }) with now := 10 ^ 14 }
     s.board.pwr.chg = .fast ∧ s.fld 0x070004 16 16 ≤ 65535 ∧ s.board.pwr.searchT = none ∧ s.board.pwr.fallback = false ∧
     s.board.pwr.stepT + 100000000 ≤ s.now ∧
     s.board.pwr.chgT + s.fld 0x07000C 0 10 * 60000000000 ≤ s.now ∧ s.board.pwr.kickT + 40000000000 ≤ s.now ∧ s.board.pwr.path = .input) ∧
    (let s := { rdy.onPwr (fun p => { p with searchT := some 0 }) with now := 60000000000 }
     s.board.pwr.searchT = some 0 ∧ 0 + 60000000000 ≤ s.now) ∧
    (let s := rdy.onPwr (fun p => { p with holdok := true, chg := .full })
     s.mode.mode = .ready ∧ s.board.pwr.holdok = true ∧ s.board.pwr.chg = .full ∧ s.board.pwr.path = .input) ∧
    (rdy.onPwr (fun p => { p with path := .test })).board.pwr.path = .test := by decide

/-- The state that decides on a 1 s mean (R604). -/
def meanAt (s : Machine.State) (v : Nat) (t : Int) : Machine.State :=
  (s.onPwr (fun p => { p with meanT := s.now, rd := { p.rd with packv := v, tpack := if p.ntcBad then none else some t }
                              means := ((v, t) :: p.means).take 61, vMax := Nat.max p.vMax v })).syncHoldok.chgStart

theorem witness_ChargeMeanDecides :
    let s := { (rdy.setBit 0x07001C 0).onPwr (fun p => { p with present := true, chg := .pre }) with now := 10 ^ 9 }
    modeWarden s.mode.mode = true ∧ s.board.pwr.chg = .pre ∧ s.board.pwr.meanT + 1000000000 ≤ s.now ∧
    ((meanAt s 0 6001).board.pwr.chg = .pre ∧ (6000 : Int) < 6001) ∧
    ((meanAt s 0 4501).board.pwr.chg = .pre ∧ (4501 : Int) ≤ 6000 ∧ 0 ≤ (meanAt s 0 4501).ncell * 1800 ∧ (4500 : Int) < 4501) ∧
    ((meanAt s ((rdy.ncell) * 1000) 4500).board.pwr.chg = .pre ∧ (4500 : Int) ≤ 4500 ∧
     (meanAt s ((rdy.ncell) * 1000) 4500).ncell * 1000 ≤ rdy.ncell * 1000 ∧
     rdy.ncell * 1000 ≤ (meanAt s ((rdy.ncell) * 1000) 4500).ncell * 1800) := by decide

theorem witness_ChargeEnds :
    let s := { (rdy.setBit 0x07001C 0).onPwr (fun p => { p with present := true, chg := .fast, vMax := rdy.ncell * 1500 }) with now := 10 ^ 14 }
    let b := meanAt s (rdy.ncell * 1400) 4500
    modeWarden s.mode.mode = true ∧ s.board.pwr.meanT + 1000000000 ≤ s.now ∧ b.board.pwr.chg = .fast ∧ rdy.ncell * 1400 ≤ b.ncell * 1800 ∧
    b.board.pwr.chgT + b.fld 0x070008 8 8 * 60000000000 ≤ b.now ∧ rdy.ncell * 1400 + b.ncell * b.fld 0x070008 0 5 ≤ b.board.pwr.vMax := by decide

/-! ### Witnesses of the queue statements -/

/-- A datagram of the session, and the bytes of a STATUS command's only entry. -/
def dg0 : Datagram := { session := 7, queue := 4 }
def raw0 : RawEntry := entryBytes { tag := { kind := 2, tenant := 0 }, payload := zeros 48 }

theorem witness_DatagramsComplete :
    (net.portUp dg0.port = true ∧ net.mode.mode ≠ .boot ∧ net.authentic dg0 = some ses ∧ [raw0].head? = some raw0 ∧ [raw0].length ≤ 15 ∧
     (net.accepted dg0).cmdQueueOf ses dg0.queue = some cq ∧
     ((net.accepted { dg0 with cvalid := true, cqueue := 5 }).takeCredit ses.tenant { dg0 with cvalid := true, cqueue := 5 }).cmdQueueOf ses dg0.queue =
       some cq) ∧
    (net.portUp dg0.port = true ∧ net.authentic { dg0 with authOk := false } = none) ∧
    ((at_ .boot).portUp dg0.port = true ∧ (at_ .boot).mode.mode = .boot) ∧ dg0.dseq < 2 ^ 48 := by decide

/-- A pending establishment with key slot 0. -/
def est0 : Establish := { num := 3, tenant := 1, keyid := 0, nonceT := zeros 16, nonceP := 9, addr := 8, since := 0 }

theorem witness_SessionsOpenAndClose :
    ((at_ .boot).pllOn = true ∧ (at_ .boot).portUp dg0.port = true ∧ (at_ .boot).mode.mode = .boot) ∧
    (rdy.pllOn = true ∧ rdy.mode.mode ≠ .boot ∧ rdy.throttles.any (fun x => x.addr == 8 && x.till.isSome) = false ∧
     helloOk 1 (zeros 16) [] = true ∧ rdy.establish.length < 16) ∧
    (let s := { rdy with establish := [est0], tenants := [houseTenant, { newTenant 1 [] [] 0 0 with key0 := some (zeros 32) }] }
     s.establish.find? (fun e => e.num == 3) = some est0 ∧ s.secretOf est0 = some (zeros 32, est0.nonceT ++ leBytes 16 est0.nonceP) ∧
     s.newSessOk est0.tenant = true ∧
     (s.tenant? est0.tenant).any (fun x => decide ((s.sessions.filter (fun y => y.tenant == est0.tenant)).length < x.qSess)) = true) ∧
    (let s := { rdy with establish := [est0] }; s.establish.find? (fun e => e.num == 3) = some est0 ∧ s.secretOf est0 = none) ∧
    (net.portUp dg0.port = true ∧ dg0.formOk = true ∧ dg0.authOk = true ∧ (net.session? dg0.session).isSome = true) ∧
    (let s := { net with now := 30000000000 }; s.session? 7 = some ses ∧ ses.lastRx + s.sessidle * 1000000000 ≤ s.now) ∧
    (rdy.tenant? 0 = some houseTenant ∧ houseTenant.code = none) ∧
    (let x := { houseTenant with code := some { code := [], expiry := 0 } }
     ({ rdy with tenants := [x] } : Machine.State).tenant? 0 = some x ∧ x.code = some { code := [], expiry := 0 }) := by decide

theorem pick_some (s : Machine.State) (l : List Nat) (h : l ≠ []) : ∃ n u, s.pick l = (some n, u) :=
  ⟨_, _, Prod.ext (List.getElem?_eq_getElem (Nat.mod_lt _ (List.length_pos_iff.mpr h))) rfl⟩

theorem witness_freeSess : ∃ n u, rdy.pick rdy.freeSess = (some n, u) := by
  apply pick_some
  apply List.ne_nil_of_mem (a := 0)
  unfold State.freeSess
  rw [List.mem_filter]
  refine ⟨?_, by decide⟩
  unfold State.sessRange
  rw [if_pos (by decide)]
  exact List.mem_range.mpr (by decide)

theorem witness_FramesLinksAndSending :
    (rdy.portUp 1 = true ∧ (at_ .boot).mode.mode = .boot ∧ rdy.links.testBit (1 : Fin 2).val = true) ∧
    (let x := { cq with creditDue := true, pair := none }
     let s := { rdy with queues := [x], now := 100000 }
     s.queue? 4 = some x ∧ x.kind = .command ∧ x.creditDue = true ∧ x.creditT + 100000 ≤ s.now ∧ x.pair.bind s.queue? = none) ∧
    (let x := { cq with creditDue := true }
     let s := { rdy with queues := [x, pq], now := 100000 }
     s.queue? 4 = some x ∧ x.kind = .command ∧ x.creditDue = true ∧ x.creditT + 100000 ≤ s.now ∧ x.pair.bind s.queue? = some pq) ∧
    (let x := { rq with sent := 65535, cack := 65534 }
     let s := { net with queues := [x], now := 10 ^ 9 }
     s.queue? 6 = some x ∧ s.via x = some 7 ∧ x.kind ≠ .command ∧ 0 < (x.sent + 65536 - x.cack) % 65536 ∧
     x.ackT + s.fld 0x320004 0 8 * 1000000 ≤ s.now) := by decide

/-- A record of the house, periodic or not, and a completion of queue 4's first command. -/
def rec0 (p : Bool) : RecIn := { kind := 0x60, tenant := 0, channel := 0, periodic := p, payloads := [zeros 48] }
def rep0 : Reply := { head := { hd 0 255 with resv := 0, ticket := 0 }, opcode := 2, status := .ok }
/-- A pending coalesced event of class 1 for event queue 8. -/
def coal0 : Coal :=
  { queue := 8, kind := 0x91, channel := 255, cls := 1, count := 2, first := 0, last := 0,
    entries := [{ tag := { kind := 0x91, tenant := 0 }, payload := zeros 48 }] }

theorem witness_EntriesArePlaced :
    (let s := { net with inflight := [rep0] }
     s.inflight.find? (s.dueIn 5) = some rep0 ∧ s.queue? 5 = some pq ∧ rep0.train.length ≤ pq.free + rep0.head.resv ∧ s.stewardOn = true) ∧
    (let s := { net with recFifo := [rec0 false] }; s.takeRec [] s.recFifo = some (rec0 false, []) ∧ (rec0 false).periodic = false) ∧
    (let s := { net with recFifo := [rec0 true] }; s.takeRec [] s.recFifo = some (rec0 true, []) ∧ (rec0 true).periodic = true) ∧
    (let e : EvtIn := { kind := 0x91, tenant := 0, dest := 0, payloads := [zeros 48] }
     ({ net with evtFifo := [e] } : Machine.State).evtFifo = [e]) ∧
    (let q : Queue := { num := 8, kind := .event, size := 0, tenant := 0 }
     let x : Tenant := { houseTenant with coal := [coal0] }
     let s : Machine.State := { rdy with queues := [q], tenants := [x] }
     s.tenant? 0 = some x ∧ oldestOf x.coal 1 = some coal0 ∧ (s.onQueue coal0.queue Queue.settle).queue? coal0.queue = some q ∧
     x.hasToken 1 s.now = true ∧ coal0.entries.length ≤ q.free) := by decide

theorem witness_DecimationAndStorms :
    (0 < decimLevel 100 0 60 ∧ 100 ≤ (60 - 0) * 2 ^ 15 ∧ 0 ≤ 60) ∧
    (let x := { houseTenant with storm := some { start := 0 } }
     let s := { rdy with tenants := [x], now := 1000000000 }
     s.tenant? 0 = some x ∧ x.storm = some { start := 0 } ∧ x.coal.isEmpty = true ∧ x.decim = 0 ∧ 0 + s.stormquiet * 100000000 ≤ s.now) := by decide

/-- READY with the local port on. -/
def lp0 : Machine.State := { rdy with strapValid := true }

/-- Clocking of a frame's answer late enough for every tRD, and too early for a WRITE's. -/
def clk0 : FrameClk := { gap := 1000000, byte := 100 }
def clk1 : FrameClk := { gap := 0, byte := 0 }

theorem witness_ClaimAndLocalPort :
    (let e := parseEntry raw0
     let x := { cq with ring := [e] }
     let s := { rdy with queues := [x, pq] }
     s.queue? 4 = some x ∧ x.ring.head? = some e ∧ s.eloawenRuns = true ∧ s.claimable x = true ∧ s.claimTurn x = true) ∧
    500 ≤ clk0.gap ∧
    (let s : Machine.State := { lp0 with localPort := { busyTill := 9 } }; s.localOn = true ∧ s.early = true) ∧
    (lp0.localOn = true ∧ lp0.early = false ∧ localReach 0 64 = true ∧ ([] : List Word32).length = 0 ∧
     64 < (List.replicate 65 (0 : Word32)).length ∧ localReach 0 ([0] : List Word32).length = true) ∧
    lp0.localPort.getQ = none ∧
    (let s := { lp0 with localPort := { getQ := some 3 } }
     s.localOn = true ∧ s.early = false ∧ 500 ≤ s.localPort.clk.gap ∧ s.localPort.getQ = some 3 ∧ s.localPort.lstatus = 0) ∧
    (lp0.queue? 0 = localQueues[0]? ∧ trainCheck [raw0] 0 = .ok ∧ (lp0.queue? 0).any (fun q => decide ([raw0].length ≤ q.free)) = true) ∧
    (let s := { lp0 with queues := [{ rq with num := 2, ring := [parseEntry raw0] }] }
     s.localOn = true ∧ s.early = false ∧ (s.queue? 2).bind (fun x => x.ring.head?) = some (parseEntry raw0)) ∧
    (lp0.queue? 3).bind (fun x => x.ring.head?) = none := by decide

theorem witness_DmaCompletes :
    (rdy.bit 0x300000 0 = false ∧ rdy.dma[(31 : Fin 32)].state = .idle) ∧
    ((rdy.onDma 0 (fun d => { d with state := .running })).dma[(0 : Fin 32)].state = .running) ∧
    (rdy.dma[(1 : Fin 32)].state ≠ .running ∧ rdy.dma[(1 : Fin 32)].state ≠ .stopping) ∧
    (rdy.cruNum (31 / 32 * 32 % 65536) 4).testBit 31 = false ∧
    (let s := rdy.cruWrite 32 (leBytes 4 0xB0000000)
     (s.cruNum (63 / 32 * 32 % 65536) 4).testBit 31 = true ∧ bitsOf (s.cruNum (63 / 32 * 32 % 65536) 4) 28 3 ≠ 0) := by decide

/-! ### Witnesses of the event statements: faults, watchdogs, resets -/

/-- READY with one fence. -/
def fen (f : Fence) : Machine.State := { rdy with col := { rdy.col with fences := [f] }, now := 10 ^ 13 }

theorem witness_FaultsComplete :
    (let f : FaultIn := { uu := 3, cc := 6 }; nextFault ({ rdy.col with fifo := [f] } : Collector).fifo = some f) ∧
    (extCode 0x0501 = true ∧ extCode 0x1709 = true ∧ modeUp rdy.mode.mode = true) ∧
    (let f : Fence := { unit := 0x17, uu := 0x17, cc := 7, quietT := some 0 }
     (fen f).col.fences.find? (fun f => f.unit == 0x17) = some f ∧ f.quietT = some 0 ∧ f.recovers = true ∧ f.recov = false ∧
     0 + (fen f).fld 0x04000C 0 10 * 1000000000 ≤ (fen f).now) ∧
    (let f : Fence := { unit := 0x17, uu := 0x17, cc := 7, recov := true, probation := true }
     (fen f).col.fences.find? (fun f => f.unit == 0x17) = some f ∧ f.recov = true ∧ (0x17 < 0x10 ∨ 0x18 ≤ 0x17 ∨ f.probation = true) ∧ 0x17 ≠ 3 ∧
     ¬ (0x40 ≤ 0x17 ∧ 0x17 < 0x80)) ∧
    (let f : Fence := { unit := 3, uu := 3, cc := 2, recov := true }
     (fen f).col.fences.find? (fun f => f.unit == 3) = some f ∧ f.recov = true ∧ (3 < 0x10 ∨ 0x18 ≤ 3 ∨ f.probation = true) ∧
     ((fen f).onPwr (fun p => { p with present := true })).board.pwr.present = true ∧ (fen f).board.pwr.ntcBad = false) ∧
    (let f : Fence := { unit := 0x7F, uu := 0x7F, cc := 7, recov := true }
     (fen f).col.fences.find? (fun f => f.unit == uChan 63) = some f ∧ f.recov = true) := by decide

theorem witness_WatchdogsAndRouter :
    (let s := { (rdy.setBit (wdgA 4 0) 0).setFld (wdgA 4 0) 8 4 0 with now := 0 }
     s.bit (wdgA 4 0) 0 = true ∧ modeUp s.mode.mode = true ∧ s.wdgOpen 4 = true) ∧
    (let s := { rdy.setBit (wdgA 0 0) 0 with now := 10 ^ 15 }
     s.bit (wdgA 0 0) 0 = true ∧ (0x4B42#16 ≠ 0x4B43#16 ∨ s.wdgOpen 0 = false) ∧ s.wdgOpen 0 = false ∧ s.wdg[(0 : Fin 5)].base + s.wdgPeriod 0 ≤ s.now) ∧
    (rdy.setBit (wdgA 0 0) 2).bit (wdgA 0 0) 2 = true ∧
    (let s := { (rdy.setFld (wdgA 0 0) 2 1 0).onWdg 0 (fun x => { x with keyT := some 5 }) with now := 1005 }
     s.bit (wdgA 0 0) 2 = false ∧ s.wdg[(0 : Fin 5)].keyT = some 5 ∧ 5 ≤ s.now ∧ s.now ≤ 5 + 1000 ∧ 0#16 ≠ 0x4449#16 ∧ 0#16 ≠ 0x5341#16) ∧
    (let s := { rdy.onWdg 1 (fun x => { x with hard := some 9 }) with now := 64000009 }
     s.wdg[(1 : Fin 5)].hard = some 9 ∧ 9 + 64000000 ≤ s.now ∧ modeUp s.mode.mode = true) ∧
    (let x : EvrSrc := { id := 0x140, pend := true }
     let s := (rdy.setBit (0x031000 + 4 * 0x40) 5).setFld (0x031000 + 4 * 0x40) 0 2 3
     s.deliverable (3 : Fin 4).val false x = true) ∧
    ((at_ .service).mode.mode = .service ∧ (at_ .service).nvm.roMask.testBit 0 = false) := by decide

theorem witness_ResetsAndBoot :
    (let s := { rdy with rst := { rdy.rst with commanded := true, commandedT := 1 }, now := 10000001 }
     s.rst.commanded = true ∧ s.rst.commandedT + 10000000 ≤ s.now) ∧
    (let s := { rdy with rst := { rdy.rst with warm := true, ledgerQuiesce := true } }
     s.rst.warm = true ∧ s.rst.ledgerQuiesce = true ∧ (true = true → s.rst.quiesceT ≤ s.now) ∧
     ({ s.rst with ledgerQuiesce := false }).ledgerQuiesce = false) ∧
    (let s := Machine.State.reset; s.mode.mode = .boot ∧ s.fw = none) ∧
    (let b : BlockReset := { block := 8, head := some (hd 0 255) }
     let s := { rdy with rst := { rdy.rst with blocks := [b] }, now := 10 ^ 12 }
     s.rst.blocks.find? (fun b => b.block == 8) = some b ∧ b.quieted = false ∧ (true = true → b.at_ + s.quiesceTo 8 ≤ s.now)) ∧
    (let b : BlockReset := { block := 0x10, head := some (hd 0 255), quieted := true }
     let s := { rdy with rst := { rdy.rst with blocks := [b] }, now := 10000 }
     s.rst.blocks.find? (fun b => b.block == 0x10) = some b ∧ b.quieted = true ∧ b.at_ + 10000 ≤ s.now ∧ gather? (0x10 - 0x10) = some 0 ∧
     (s.gat 0).calibrated = true) := by decide

/-- Reset of a part without option M whose meter snapshot of Lehr is held. -/
def boot0 : Machine.State := { Machine.State.reset with opt := 7, met := { snapshot := true } }

theorem witness_BootAccepts :
    boot0.mode.mode = .boot ∧ boot0.fw = none ∧ boot0.imageOk (boot0.flash.slot boot0.firstSlot) true = true ∧
    (boot0.acceptImage boot0.firstSlot).rst.latched = false ∧
    (let s := { boot0 with rst := { boot0.rst with latched := true } }
     s.imageOk (s.flash.slot s.firstSlot) true = true ∧ (s.acceptImage s.firstSlot).rst.latched = true) ∧
    (let s := { boot0 with flash := boot0.flash.setSlot (1 - boot0.firstSlot) (boot0.flash.slot boot0.firstSlot) }
     s.imageOk (s.flash.slot s.firstSlot) false = false ∧ s.imageOk (s.flash.slot (1 - s.firstSlot)) true = true ∧
     ((s.acceptImage (1 - s.firstSlot)).fault 0x00 0x02).rst.latched = false) ∧ boot0.imageOk (boot0.flash.slot boot0.firstSlot) false = false ∧
    boot0.imageOk (boot0.flash.slot (1 - boot0.firstSlot)) false = false := by decide

theorem witness_BootDone : ({ at_ .boot with gathers := Vector.replicate 8 { calibrated := true } } : Machine.State).bootDone = true := by decide

/-! ### Witnesses of the event statements: ledger and tray -/

theorem witness_LedgerEvents :
    led0.led.st ≠ .discovering ∧
    (let s := rdy.onLed (fun l => { l with st := .discovering })
     s.led.st = .discovering ∧ ([{}, {}, {}, {}] : List DriveFound).all (fun f => !f.present) = true) ∧
    (let s := { led0 with ptp := 10 ^ 14 }
     s.led.running = true ∧ s.led.isMounted = true ∧
     s.led.tickT / (Nat.max 1 s.led.sealint * 10000000) ≠ s.ptp / (Nat.max 1 s.led.sealint * 10000000) ∧ s.led.used < 960) ∧
    (let s := { led0.onTime (fun t => { t with ptp := .locked }) with now := 60000000000 }
     s.led.running = true ∧ s.led.isMounted = true ∧ s.board.ptpValid = true ∧ s.stewardOn = true ∧ s.led.reclaimT + 60000000000 ≤ s.now) ∧
    (let s := led0.onLed (fun l => { l with drives := [{}, {}, {}, { state := 2 }] })
     (s.led.drive (3 : Fin 4).val).alive = true ∧ s.led.drives.any (fun d => d.state == 2) = true) := by decide

/-- A running fetch of the house, and a stored batch in its range. -/
def fet0 : Fetch := { head := hd 0 255, from_ := 0, to_ := 9, mask := 1, queue := 6, periodic := true, next := 1 }
def bat0 : Batch := { stream := 0, btype := 0, cause := 0, bseq := 1, laddr := 0, nblk := 1, entries := [], first := 9, last := 9, sealt := 9 }

theorem witness_FetchInitAndLehr :
    (let s := led0.onLed (fun l => { l with fetches := [fet0] })
     s.led.fetches.head? = some fet0 ∧ fet0.head.tenant = 0 ∧ s.led.inRange 0 fet0.from_ fet0.to_ fet0.next = []) ∧
    (let s := led0.onLed (fun l => { l with fetches := [fet0], stored := [bat0], nseg := 100,
                                            drives := [{ present := true, state := 1, blocks := 10 ^ 9 }, {}, {}, {}] })
     s.led.fetches.head? = some fet0 ∧ fet0.head.tenant = 0 ∧ s.led.inRange 0 fet0.from_ fet0.to_ fet0.next = [bat0] ∧
     s.led.readable (bat0.laddr / 1048576) = true) ∧
    (let s := led0.onLed (fun l => { l with st := .unlabelled }); s.led.running = true ∧ s.led.st = .unlabelled) ∧
    (let s := led0.onLed (fun l => { l with st := .foreign }); s.led.running = true ∧ s.led.st ≠ .unlabelled ∧ (s.led.st = .foreign ∨ s.led.st = .incomplete)) ∧
    ((at_ .lehr).mode.mode = .lehr ∧ (at_ .lehr).board.pwr.lehrRest = false ∧ (at_ .lehr).execMask = 0) ∧
    (let s := { (at_ .lehr).onPwr (fun p => { p with lehrRest := true }) with now := 1000000000 }
     s.mode.mode = .lehr ∧ s.board.pwr.lehrRest = true ∧ (false = true ∨ s.board.pwr.lehrSealT + 1000000000 ≤ s.now)) := by decide

/-- READY with tray port 0 enabled and its bus free. -/
def try0 (f : TrayPort → TrayPort) : Machine.State := { (rdy.setBit (trA 0 0) 3).onPort 0 f with now := 50000 }

theorem witness_TrayBusAndTargets :
    (let s := rdy.setFld (trA 3 8) 0 2 2; (s.fld (trA 3 8) 0 2 = 1 ∨ s.fld (trA 3 8) 0 2 = 2)) ∧
    (let s := rdy.setFld (trA 3 8) 0 2 3; (s.fld (trA 3 8) 0 2 = 0 ∨ s.fld (trA 3 8) 0 2 = 3)) ∧
    (let s := try0 (fun t => { t with active := some .xfer }); (s.port 0).active = some .xfer ∧ (s.port 0).losses < 3) ∧
    (let s := try0 (fun t => { t with xferReq := true })
     let u := s.takeCfg 0
     s.busFree 0 = true ∧ u.portOn 0 = true ∧ u.busLock 0 = false ∧ (u.port 0).xferReq = true ∧ (u.port 0).alertReq = false) ∧
    (let s := (try0 (fun t => { t with alertReq := true })).takeCfg 0
     (s.port 0).alertReq = true ∧ s.portOn 0 = true ∧ (s.port 0).active = none ∧ s.busLock 0 = false) ∧
    (let s := try0 (fun t => { t with polls := [(0x50, 0xF8)] })
     let u := s.takeCfg 0
     s.busFree 0 = true ∧ u.portOn 0 = true ∧ u.busLock 0 = false ∧ (u.port 0).alertReq = false ∧ (u.port 0).xferReq = false ∧
     (u.port 0).polls = [(0x50, 0xF8)]) ∧
    (let s := { rdy.setBit (trA 0 0x84) 1 with now := 1000000000 }; s.busLock 0 = true ∧ (s.port 0).lockT + 1000000000 ≤ s.now) ∧
    (let s := { try0 (fun t => { t with alertT := some 0 }) with now := 1000000000 }.atFree 0
     s.portOn 0 = true ∧ (s.port 0).alertT = some 0 ∧ 0 + (if (s.port 0).round then 100000 else 1000000000) ≤ s.now) ∧
    (let s := (((try0 id).setBit (trA 0 0) 11).setFld (trA 0 0) 4 7 127).atFree 0
     s.portOn 0 = true ∧ (s.port 0).active = none ∧ s.bit (trA 0 0) 11 = true ∧ ([0] : List Byte) ≠ [] ∧ s.fld (trA 0 0) 4 7 < 128 ∧
     (s.setBit (trA 0 0x40) 6).bit (trA 0 0x40) 6 = true ∧ (s.setFld (trA 0 0x40) 6 1 0).bit (trA 0 0x40) 6 = false) ∧
    (let s := { (((try0 id).setFld (trA 0 0) 16 8 1).setBit (0x080400 + 4 * 63) 2).setFld (0x080400 + 4 * 63) 0 2 0 with now := 10 ^ 9 }.atFree 0
     s.portOn 0 = true ∧ s.fld (trA 0 0) 16 8 ≠ 0 ∧ (s.port 0).pollT + 100000000 * s.fld (trA 0 0) 16 8 ≤ s.now ∧ s.bit (0x080400 + 4 * (63 : ChanNo).val) 2 = true ∧
     s.fld (0x080400 + 4 * (63 : ChanNo).val) 0 2 = (0 : Fin 4).val) ∧
    (let s := try0 (fun t => { t with active := some (.poll 0x50 0xF8) }); (s.port 0).active = some (.poll 0x50 0xF8)) := by decide

/-! ### Witnesses of the event statements: the pair -/

/-- A good frame head, and READY with a formed pair, in sync, as owner or as follower. -/
def fh0 : FrameHead := { crcOk := true, epoch := 1, inc := 2, fseq := 5 }
def prd (o : Bool) (f : Pair → Pair) : Machine.State :=
  { at_ (if o then .ready else .twin) with
    board := { owner := o, pipeOut := o, formed := true,
               pair := f { lanes := 1, sync := 2, known := true, epoch := 1, pInc := some 2, inc := 3, hbMissed := false } } }

theorem witness_InterlockAndArbitration :
    (let s := rdy.onBoard (fun b => { b with pipeIn := true, fenceIn := true }); s.board.pipeIn = true ∧ s.board.fenceIn = true) ∧
    (let s := prd false (fun p => { p with pipeFallT := some 4 })
     s.pr.pipeFallT = some 4 ∧ s.mode.mode = .twin ∧ s.board.pipeIn = false ∧ s.pr.hbMissed = false ∧ (s.passTo (4 + 10000)).pr.ho = .none) ∧
    (let s := (prd true id).onBoard (fun b => { b with fenceOut := true, fenceIn := true })
     s.optT = true ∧ (s.board.pipeOut && s.board.pipeIn || s.board.fenceOut && s.board.fenceIn) = true ∧ s.pr.deadlock = false ∧ s.pr.contend = false) ∧
    ((prd true id).optT = true ∧ (prd true id).pllOn = true ∧ (prd true id).mode.mode ≠ .lockout) ∧
    (((prd true id).takeFrame { fh0 with crcOk := false }).1 = false ∧ ((prd true id).takeFrame fh0).1 = true) ∧
    (let s := prd true (fun p => { p with hbLast := some 8 })
     s.noFatal = true ∧ s.pr.hbLast = some 8 ∧ s.pr.hbMissed = false ∧ s.pr.lanes.testBit (0 : Fin 2).val = true) ∧
    ((prd true id).pr.noForm = false ∧ (prd true (fun p => { p with arb := .idle })).pr.arb = .idle ∧ (prd true (fun p => { p with arb := .idle })).pr.arb ≠ .none) ∧
    (let s := { prd true (fun p => { p with arb := .round }) with mode := { mode := .boot } }
     s.pr.noForm = false ∧ s.pr.arb = .round ∧ s.pr.contend = false ∧ s.mode.mode = .boot) ∧
    (prd true (fun p => { p with reacqT := some 6 })).pr.reacqT = some 6 := by decide

theorem witness_MirrorAndEpoch :
    (let i : Ident := { serial := 1, opt := 15, mver := 3, epoch := 1, inc := 2, pref := true, certOk := true }
     let s := prd true id
     s.optT = true ∧ s.pllOn = true ∧ s.pr.noForm = false ∧ (s.onPair (fun p => { p with noForm := true })).pr.noForm = true ∧ fh0.crcOk = true ∧ ({ i with opt := 14 } : Ident).opt ≠ s.opt ∧ i.opt = s.opt ∧ ({ i with certOk := false } : Ident).certOk = false ∧
     i.certOk = true ∧ i.mver = 3 ∧ s.pr.pInc = some i.inc ∧ s.pr.lostSeen = false ∧ s.board.owner = true ∧ s.board.formed = true ∧
     s.board.linkUp = true ∧ s.pr.unmirrored = false ∧ s.pr.sync ≠ 0) ∧
    (let s := prd false id
     s.follows = true ∧ (s.takeFrame fh0).1 = true ∧ ((s.takeFrame fh0).2.inOrder 3 fh0.fseq).1 = true ∧
     ((s.takeFrame fh0).2.inOrder 3 fh0.fseq).2.pr.sync ≠ 0 ∧ (s.takeFrame { fh0 with epoch := 9 }).1 = false ∧ s.board.owner = false ∧
     s.board.formed = true ∧ s.optT = true) ∧
    (let s := prd false (fun p => { p with sync := 1, resyncT := some 3, markT := some 2, epochLock := true })
     s.pr.sync = 1 ∧ s.pr.resyncT = some 3 ∧ s.pr.markT = some 2 ∧ s.pr.epochLock = true) := by decide

theorem witness_HandoverAndRollCall :
    (((prd true id).takeFrame fh0).1 = true ∧ (prd true id).noFatal = true ∧ (prd false id).noFatal = true ∧
     (let t := (((prd true (fun p => { p with ho := .prep (hd 0 255) 9 })).takeFrame fh0).2.inOrder 8 fh0.fseq).2
      t.pr.ho = .prep (hd 0 255) 9 ∧ t.ptp ≤ 9) ∧
     (((prd true (fun p => { p with ho := .given (hd 0 255) 9 })).takeFrame fh0).2.inOrder 8 fh0.fseq).2.pr.ho = .given (hd 0 255) 9 ∧
     (((prd false (fun p => { p with ho := .answered })).takeFrame fh0).2.inOrder 8 fh0.fseq).2.pr.ho = .answered ∧
     (let t := (((prd false (fun p => { p with ho := .due 9 })).takeFrame fh0).2.inOrder 8 fh0.fseq).2
      t.pr.ho = .due 9 ∧ t.follows = true)) ∧
    (prd true (fun p => { p with ho := .timed (hd 0 255) 9 })).pr.ho = .timed (hd 0 255) 9 ∧
    ((prd false (fun p => { p with ho := .due 9 })).pr.ho = .due 9 ∧ (prd false (fun p => { p with ho := .due 9 })).follows = true) ∧
    (prd true (fun p => { p with ho := .given (hd 0 255) 9 })).board.pipeIn = false ∧
    (let s := ((at_ .keep).setBit 0x330000 16).onPair (fun p => { p with rcKnown := true, rcPrimary := true, rcSearch := true })
     s.rollOn = true ∧ s.pr.rcPrimary = true ∧ s.pr.rcPulse = 0 ∧ s.pr.rcAbsent = false ∧ s.pr.rcSearch = true ∧
     ((s.onPair (fun p => { p with rcPrimary := false })).rollOn = true ∧ (s.onPair (fun p => { p with rcPrimary := false })).pr.rcPrimary = false)) := by decide

/-! ### Witnesses of the statements about every command -/

theorem witness_StepRunsTheFrontCommand :
    (let s := { rdy with pending := [.bootEnd] }; s.pending = [.bootEnd] ∧ rdy.pending = []) := by decide

theorem witness_EveryCommandKeepsFusesAndForm :
    ∃ t, exec (.status (hd 0 255)) rdy = .next t := ⟨_, rfl⟩

theorem witness_StepKeepsCanonicalMemories :
    Machine.State.reset.memWf = true ∧ ∃ t, step rdy = .next t := ⟨by decide, _, rfl⟩

theorem witness_MemoriesReadBack :
    let s := rdy.setReg 0x060000 5
    regsWf s.regs = true ∧ (0x060004 : Nat) ≠ 0x060000 ∧ cruWf (cruPut 65535 0xFF (cruPut 0 1 [])) = true ∧
    (s.setReg 0x060000 (s.reg 0x060000)) = s := by decide

theorem witness_RefusedCommandsChangeNothing :
    commandOf (.start (hd 0 0) 0) = some (hd 0 0, .start 0) ∧ rdy.refuses (hd 0 0) (.start 0) .notLeased 65535 = true ∧
    (rdy.refusalOf (hd 0 0) (.start 0)).isSome = true := by decide

theorem witness_AbsentOptionRefuses :
    let s := { rdy with opt := 14 }
    commandOf (.ledgerRead (hd 0 255)) = some (hd 0 255, .ledgerRead) ∧ s.takesNow = true ∧
    (s.counted (hd 0 255)).blocked (s.headOf (hd 0 255)) .ledgerRead = false ∧ s.optAbsent .ledgerRead = true := by decide

theorem witness_ClientsReachOnlyTheirChannels :
    let s := two; let h := hd 1 63
    commandOf (.stop h) = some (h, .stop) ∧ CmdOp.stop.lesseeOnly = true ∧ packCmd h .stop = false ∧ h.tenant ≠ 0 ∧
    s.lessee h.channel ≠ some h.tenant ∧ s.takesNow = true ∧ (s.counted h).blocked (s.headOf h) .stop = false := by decide

theorem witness_ReadsChangeNothing :
    commandOf (.chRead (hd 0 0)) = some (hd 0 0, .chRead) ∧ CmdOp.chRead.isRead = true ∧
    (ch0 .stopped).accepts (hd 0 0) .chRead = true := by decide

theorem witness_ShadowAndLiveImage :
    (let s := (ch0 .stopped).onProg 0 (fun p => { p with commit := some [restStep], commitBy := some (hd 0 0) })
     (s.chan 0).prog.commit = some [restStep] ∧ (s.chan 0).prog.commitBy = some (hd 0 0) ∧ (s.chan 0).prog.swapBusy [restStep] = false ∧
     s.stewardOn = true ∧ s.gatOff (gOf 0) = false ∧ s.waiting = []) ∧
    (chan? (hd 0 0).channel = some 0 ∧ (ch0 .stopped).accepts (hd 0 0) .progDiscard = true ∧
     (ch0 .stopped).accepts (hd 0 0) (.progWrite [(0, restStep), (511, restStep)]) = true ∧
     (([(0, restStep), (511, restStep)] : List (Nat × StepWord)).map Prod.fst).Nodup ∧ (ch0 .stopped).accepts (hd 0 0) (.progLen 0) = true) := by decide

theorem witness_ShadowFrame : (ch0 .stopped).takesNow = true ∧ ∃ t, exec (.progDiscard (hd 0 0)) (ch0 .stopped) = .next t := ⟨by decide, _, rfl⟩

/-- A step word's slot i: control and value. -/
def slotAt (i ctl v : Nat) : Nat := (ctl + v * 65536) * 2 ^ (64 + 48 * i)

/-- REST with a slot that ends it and one that goes to step 2; BRANCH to 2; JUMP to 4; a LOOP over all; END. -/
def img0 : Image :=
  [BitVec.ofNat 256 (1 + slotAt 0 1 1000 + slotAt 1 (1 + 1 * 16 + 2 * 128) 2000), BitVec.ofNat 256 (0x11 + 2 ^ 13 + 2 * 2 ^ 16),
   BitVec.ofNat 256 (0x12 + 4 * 2 ^ 16), BitVec.ofNat 256 0x1F, BitVec.ofNat 256 (0x13 + 2 * 2 ^ 32), BitVec.ofNat 256 0x1F]

theorem witness_AcceptedImagesStayInside :
    img0.check true 0 { ichg := 0, idis := 0, vmin := 0, vmax := 0 } = none ∧ img0.length = 6 ∧
    (isWork (stepKind (img0.at_ 0)) = true ∧ (slotCond (img0.at_ 0) 0 ≠ 0 ∧ slotCond (img0.at_ 0) 0 ≠ 13 ∧ slotAct (img0.at_ 0) 0 = 0) ∧
     slotCond (img0.at_ 0) 1 ≠ 0 ∧ slotCond (img0.at_ 0) 1 ≠ 13 ∧ slotAct (img0.at_ 0) 1 = 1) ∧
    (isWork (stepKind (img0.at_ 1)) = false ∧ stepKind (img0.at_ 1) = 0x11 ∧ stepKind (img0.at_ 2) = 0x12 ∧ stepKind (img0.at_ 4) = 0x13) := by decide

theorem witness_SweepPointsRunFromStartToStop :
    (eisCode eisStep 0 = some 6000 ∧ (eisCode eisStep 1).isSome = true ∧ bitsOf (slotVal eisStep 2) 16 16 < bitsOf (slotVal eisStep 2) 0 16) ∧
    (let w := BitVec.ofNat 256 (9 + slotAt 1 0 10 + slotAt 2 0 (5000 + 6000 * 65536))
     (eisCode w 0).isSome = true ∧ (eisCode w 1).isSome = true ∧ bitsOf (slotVal w 2) 0 16 < bitsOf (slotVal w 2) 16 16) ∧
    (let w := BitVec.ofNat 256 (9 + slotAt 2 0 (5000 + 5000 * 65536)); bitsOf (slotVal w 2) 0 16 = bitsOf (slotVal w 2) 16 16) := by decide

theorem witness_TagSumAndTrainEnds :
    let t : Tag := { kind := 0x3F, tenant := 255, channel := 255, seq := 65535 }
    t.tidx = 0 ∧ t.tcnt = 1 ∧ (15 : Nat) ≠ 1 := by decide

theorem witness_EntryReadsBackFromItsBytes :
    let e : Entry := { tag := { kind := 255, tidx := 255, tcnt := 255, tenant := 255, channel := 255, seq := 65535, corr := 2 ^ 32 - 1,
                                stepref := 65535, calgen := 255 }, payload := zeros 48 }
    e.tag.kind < 256 ∧ e.tag.tidx < 256 ∧ e.tag.tcnt < 256 ∧ e.tag.tenant < 256 ∧ e.tag.channel < 256 ∧ e.tag.seq < 65536 ∧ e.tag.corr < 2 ^ 32 ∧
    e.tag.stepref < 65536 ∧ e.tag.calgen < 256 ∧ e.payload.length = 48 := by decide

/-- Queue 4 full. -/
def fullNet : Machine.State := { net with queues := [{ cq with ring := List.replicate 16 (parseEntry raw0) }, pq] }

theorem witness_FullQueueRefusesTheTrainWhole :
    fullNet.portUp dg0.port = true ∧ fullNet.mode.mode ≠ .boot ∧ fullNet.authentic dg0 = some ses ∧ dg0.cvalid = false ∧ [raw0].length ≤ 15 ∧
    ((fullNet.accepted dg0).cmdQueueOf ses dg0.queue).any (fun q => decide ((parseEntry raw0).tag.seq = q.cack) && decide (q.free < [raw0].length) &&
      q.pair.bind (fullNet.accepted dg0).queue? == some pq) = true ∧
    (parseEntry raw0).tag.tcnt = [raw0].length ∧ trainCheck [raw0] ses.tenant = .ok ∧ pq.num ≠ dg0.queue ∧ 1 ≤ pq.free := by decide

theorem witness_TokenBucketsAreBounded :
    (0 ≤ 5 ∧ 0 < 10000) ∧ ((0 : Nat) + 16 * tokenUnit + 1000000000 ≤ 10 ^ 12) ∧ houseTenant.hasToken 2 0 = true ∧ (0 : Nat) ≠ 2 := by decide

/-! ### Well-formed and ill-formed operands -/

def quo0 : QuotaFields := { sessions := 0, queues := 0, ringkib := 0, recrate := 0, evrate := 0 }
def ef0 : EstFields := { mask := 0, cnom := 0, slopemin := 0, ocvrest := 0, rate := 0, kskip := 0, kmin := 0, estrec := 0 }
def cp0 : CalPair := { channel := 0, qty := 0, offu := 0, gainu := 0, qu := 0 }
def id0 : Ident := { serial := 0, opt := 15, mver := 3, epoch := 0, inc := 0, pref := true, certOk := true }

/-- Operands at values that their fields carry. -/
theorem test_wellformed_1 : ([
    .qCreate (hd 0 0) 0 0 0 true 0,
    .qDelete (hd 0 0) 0,
    .qBind (hd 0 0) 0,
    .qRoute (hd 0 0) 0 0,
    .keyWrite (hd 0 0) 0 (zeros 32),
    .keyClear (hd 0 0) 0,
    .tenantCreate (hd 0 0) 0,
    .tenantSuspend (hd 0 0) 0,
    .tenantResume (hd 0 0) 0,
    .tenantRemove (hd 0 0) 0,
    .tenantReenrol (hd 0 0) 0 0,
    .quotaSet (hd 0 0) 0 quo0,
    .leaseGrant (hd 0 0) (lf 0),
    .leaseModify (hd 0 0) (lf 0),
    .tenantRead (hd 0 0) 0,
    .progWrite (hd 0 0) [(0, 0)],
    .progLen (hd 0 0) 0,
    .progRead (hd 0 0) 0 0 0,
    .varWrite (hd 0 0) [(0, 0)],
    .signal (hd 0 0) 0 0,
    .start (hd 0 0) 0,
    .resume (hd 0 0) 0,
    .measCfg (hd 0 0) true true 0 0 0,
    .coefRead (hd 0 0) 0 0,
    .estSet (hd 0 0) ef0,
    .ocvTable (hd 0 0) [(0, 0)],
    .meterRead (hd 0 0) 0,
    .meterSched (hd 0 0) 0 [0],
    .ledgerFetch (hd 0 0) 0 0 0 0 true,
    .ledgerFetchBatch 0 .ok,
    .ledgerRetain (hd 0 0) 0 0,
    .handover (hd 0 0) 0,
    .timeSet (hd 0 0) {} true true,
    .wakeSet (hd 0 0) 0 true {} 0,
    .calTrim (hd 0 0) 0,
    .powerCtlBlockReset (hd 0 0) 0,
    .blockQuiesceDone 0 true,
    .blockResetReturn 0,
    .faultAck (hd 0 0) 0,
    .selftest (hd 0 0) 0 0,
    .refcheck (hd 0 0) 0 0,
    .retest (hd 0 0) 0 0 {},
    .setTimes (hd 0 0) 0 0,
    .calWrite (hd 0 0) [cp0],
    .fwWriteData (hd 0 0) 0 (zeros 32),
    .regRead (hd 0 0) 0 0,
    .regWrite (hd 0 0) 0 [0],
    .registerWrite 0 0,
    .tenantDatagram dg0 [raw0],
    .tenantCredit dg0,
    .close dg0,
    .hello 0 0 0 (zeros 16) [],
    .confirm 0 0 true,
    .establishmentExpiry 0,
    .sessidleExpiry 0,
    .unsupportedFrame 0,
    .icmpEcho 0 0,
    .addressResolution 0 true,
    .commandCreditSend 0,
    .entrySend 0 0] : List Instr).all (fun i => i.wf) = true := by decide

/-- Operands at values that their fields carry. -/
theorem test_wellformed_2 : ([
    .retxExpiry 0,
    .commandClaim 0 {},
    .commandCompletion 0,
    .coalescedPlace 0 0,
    .stormEnd 0,
    .localRead 0 0 (some clk0),
    .localWrite 0 [0] true,
    .qput [raw0] true,
    .qget { q := 0, clk := clk0 },
    .localStatus,
    .dmaBusError 0 0 0,
    .controlCycle 0 { vbus := 0, ch := [] },
    .syncRelease 0 0,
    .temperatureUpdate 0 [] 0,
    .outputSample 0 0 [1] [(0, 0)],
    .outrateChange 0 0,
    .twinsample 0 0 0 0 0 0 0,
    .gatherCalibrationDone 0 [] [],
    .converterCalDone 0 true {} 0,
    .selfcalDone 0 true [(0, 0), (0, 0), (0, 0), (0, 0), (0, 0)] [] 0,
    .eisToneStart 0 0,
    .eisSettleEnd 0 0 [0],
    .eisWindowEnd 0 0,
    .busBalanceCycle true,
    .secondTick 0,
    .ptpSync 0 (0, 0) 0,
    .ptpAnnounce 0 0,
    .ptpDelayResp 0 (0, 0),
    .ptpPdelayReq 0,
    .ptpDelayReqSend 0,
    .ledgerRecovery [{}, {}, {}, {}] [0] [5] true,
    .nvmeError 0 0 true,
    .heartbeat fh0 0 0 0 0 0,
    .ident fh0 id0,
    .mirror fh0 0 [],
    .snapshot fh0 [],
    .reccopy fh0 [parseEntry raw0],
    .epochmark fh0 0 true,
    .ack fh0 0 0,
    .handoverPrep fh0,
    .handoverReady fh0 0,
    .handoverTime fh0 0,
    .handoverState fh0 [],
    .handoverAck fh0,
    .trayTransferEnd 0 0 [],
    .arbLost 0 0 [],
    .targetWrite 0 0 [0],
    .identityReadDone 0 0 0 none,
    .evrSourceAccept 0x100 true,
    .evrComplete 0 0,
    .faultTaken none,
    .quietPeriodEnd 0,
    .recoveryEnd 0 true,
    .enrolmentCodeExpiry 0,
    .wardenReadingRefresh {}] : List Instr).all (fun i => i.wf) = true := by decide

set_option maxRecDepth 8000 in
/-- Each of these has one operand that its field cannot carry. -/
theorem test_illformed_1 : ([
    .qCreate (hd 0 0) 256 0 0 true 0,
    .qCreate (hd 0 0) 0 256 0 true 0,
    .qCreate (hd 0 0) 0 0 256 true 0,
    .qCreate (hd 0 0) 0 0 0 true 65536,
    .qDelete (hd 0 0) 65536,
    .qBind (hd 0 0) 65536,
    .qRoute (hd 0 0) 65536 0,
    .keyWrite (hd 0 0) 256 (zeros 32),
    .keyWrite (hd 0 0) 0 [],
    .keyClear (hd 0 0) 256,
    .tenantCreate (hd 0 0) 65536,
    .tenantSuspend (hd 0 0) 256,
    .tenantResume (hd 0 0) 256,
    .tenantRemove (hd 0 0) 256,
    .tenantReenrol (hd 0 0) 256 0,
    .tenantReenrol (hd 0 0) 0 65536,
    .quotaSet (hd 0 0) 256 quo0,
    .tenantRead (hd 0 0) 256,
    .progWrite (hd 0 0) [],
    .progWrite (hd 0 0) [(65536, 0)],
    .progLen (hd 0 0) 65536,
    .progRead (hd 0 0) 256 0 0,
    .progRead (hd 0 0) 0 65536 0,
    .progRead (hd 0 0) 0 0 256,
    .varWrite (hd 0 0) (List.replicate 256 (0, 0)),
    .varWrite (hd 0 0) [(2 ^ 32, 0)],
    .signal (hd 0 0) 256 0,
    .start (hd 0 0) 65536,
    .resume (hd 0 0) 256,
    .measCfg (hd 0 0) true true 256 0 0,
    .measCfg (hd 0 0) true true 0 256 0,
    .measCfg (hd 0 0) true true 0 0 256,
    .coefRead (hd 0 0) 256 0,
    .coefRead (hd 0 0) 0 256,
    .ocvTable (hd 0 0) (List.replicate 256 (0, 0)),
    .ocvTable (hd 0 0) [(2 ^ 32, 0)],
    .ocvTable (hd 0 0) [(0, 2147483648)],
    .meterRead (hd 0 0) 256,
    .meterSched (hd 0 0) 256 [0],
    .meterSched (hd 0 0) 0 (List.replicate 256 0),
    .ledgerFetch (hd 0 0) (2 ^ 64) 0 0 0 true,
    .ledgerFetch (hd 0 0) 0 (2 ^ 64) 0 0 true,
    .ledgerFetch (hd 0 0) 0 0 0 65536 true,
    .ledgerFetchBatch 256 .ok,
    .ledgerRetain (hd 0 0) 256 0,
    .ledgerRetain (hd 0 0) 0 (2 ^ 32),
    .handover (hd 0 0) (2 ^ 32),
    .wakeSet (hd 0 0) 256 true {} 0,
    .wakeSet (hd 0 0) 0 true {} (2 ^ 32),
    .calTrim (hd 0 0) 32768] : List Instr).all (fun i => !i.wf) = true := by decide

set_option maxRecDepth 8000 in
/-- Each of these has one operand that its field cannot carry. -/
theorem test_illformed_2 : ([
    .powerCtlBlockReset (hd 0 0) 256,
    .blockQuiesceDone 256 true,
    .blockResetReturn 256,
    .faultAck (hd 0 0) 65536,
    .selftest (hd 0 0) 256 0,
    .selftest (hd 0 0) 0 256,
    .refcheck (hd 0 0) 256 0,
    .retest (hd 0 0) 256 0 {},
    .retest (hd 0 0) 0 256 {},
    .retest (hd 0 0) 0 0 { d := List.replicate 6 (0, 0) },
    .setTimes (hd 0 0) 65536 0,
    .setTimes (hd 0 0) 0 65536,
    .calWrite (hd 0 0) [],
    .fwWriteData (hd 0 0) (2 ^ 32) (zeros 32),
    .fwWriteData (hd 0 0) 0 [],
    .regRead (hd 0 0) (2 ^ 32) 0,
    .regRead (hd 0 0) 0 256,
    .regWrite (hd 0 0) (2 ^ 32) [0],
    .regWrite (hd 0 0) 0 (List.replicate 256 0),
    .registerWrite (2 ^ 32) 0,
    .tenantDatagram dg0 (List.replicate 16 raw0),
    .tenantDatagram dg0 [[]],
    .hello 0 256 0 (zeros 16) [],
    .hello 0 0 256 (zeros 16) [],
    .hello 0 0 0 [] [],
    .confirm 0 65536 true,
    .establishmentExpiry 65536,
    .sessidleExpiry 65536,
    .unsupportedFrame 2,
    .icmpEcho 2 0,
    .addressResolution 2 true,
    .commandCreditSend 8192,
    .entrySend 8192 0,
    .entrySend 0 16,
    .retxExpiry 8192,
    .commandClaim 8192 {},
    .commandCompletion 8192,
    .coalescedPlace 256 0,
    .coalescedPlace 0 3,
    .stormEnd 256,
    .localRead (2 ^ 32) 0 (some clk0),
    .localRead 0 256 (some clk0),
    .localWrite (2 ^ 32) [0] true,
    .localWrite 0 (List.replicate 65 0) true,
    .qput [] true,
    .qput [[]] true,
    .qget { q := 256, clk := clk0 },
    .dmaBusError 0 (2 ^ 32) 0,
    .dmaBusError 0 0 (2 ^ 24),
    .controlCycle 0 { vbus := 0, ch := List.replicate 9 {} },
    .syncRelease 256 0] : List Instr).all (fun i => !i.wf) = true := by decide

set_option maxRecDepth 8000 in
/-- Each of these has one operand that its field cannot carry. -/
theorem test_illformed_3 : ([
    .syncRelease 0 16,
    .temperatureUpdate 0 (List.replicate 9 0) 0,
    .outputSample 0 (2 ^ 64) [] [],
    .outputSample 0 0 [1] [],
    .outrateChange 0 (2 ^ 64),
    .twinsample 0 (2 ^ 64) 0 0 0 0 0,
    .twinsample 0 0 0 0 4 0 0,
    .twinsample 0 0 0 0 0 256 0,
    .twinsample 0 0 0 0 0 0 16,
    .gatherCalibrationDone 0 (List.replicate 19 []) [],
    .converterCalDone 0 true { d := List.replicate 6 (0, 0) } 0,
    .selfcalDone 0 true [] [] 0,
    .eisToneStart 0 (2 ^ 64),
    .eisSettleEnd 0 (2 ^ 64) [],
    .eisSettleEnd 0 0 [2 ^ 32],
    .secondTick (2 ^ 64),
    .ptpSync 2 (0, 0) 0,
    .ptpSync 0 (2 ^ 64, 0) 0,
    .ptpSync 0 (0, 2 ^ 64) 0,
    .ptpAnnounce 2 0,
    .ptpDelayResp 2 (0, 0),
    .ptpPdelayReq 2,
    .ptpDelayReqSend 2,
    .ledgerRecovery [] [] [] true,
    .ledgerRecovery [{}, {}, {}, {}] [256] [0] true,
    .ledgerRecovery [{}, {}, {}, {}] [0] [] true,
    .eisWindowEnd 0 (2 ^ 64),
    .nvmeError 0 256 true,
    .heartbeat fh0 0 (2 ^ 32) 0 0 0,
    .heartbeat fh0 0 0 4 0 0,
    .heartbeat fh0 0 0 0 3 0,
    .heartbeat fh0 0 0 0 0 (2 ^ 32),
    .ident fh0 { id0 with mver := 65536 },
    .ident fh0 { id0 with inc := 2 ^ 32 },
    .ident fh0 { id0 with epoch := 2 ^ 32 },
    .reccopy fh0 [],
    .epochmark fh0 (2 ^ 64) true,
    .ack fh0 256 0,
    .ack fh0 0 (2 ^ 32),
    .handoverReady fh0 (2 ^ 64),
    .handoverTime fh0 (2 ^ 64),
    .trayTransferEnd 0 0 (List.replicate 33 0),
    .arbLost 0 0 (List.replicate 33 0),
    .targetWrite 0 0 [],
    .identityReadDone 0 128 0 none,
    .identityReadDone 0 0 256 none,
    .evrSourceAccept 0x300 true,
    .evrComplete 0 65536,
    .faultTaken (some (65536, 0)),
    .quietPeriodEnd 0x108,
    .recoveryEnd 0x108 true,
    .enrolmentCodeExpiry 256,
    .wardenReadingRefresh { vout := [] }] : List Instr).all (fun i => !i.wf) = true := by decide

set_option maxRecDepth 8000 in
/-- Each of these has one operand that its field cannot carry. -/
theorem test_illformed_4 : ([
    .wardenReadingRefresh { iout := [] },
    .wardenReadingRefresh { mon := [] },
    .wardenReadingRefresh { tdrv := [] }] : List Instr).all (fun i => !i.wf) = true := by decide

/-- Each of these has one field out of its width. -/
theorem test_illformed_CmdHead : (hd 0 0).wf = true ∧ ([
    { (hd 0 0) with tenant := 256 }, { (hd 0 0) with queue := 8192 }, { (hd 0 0) with channel := 256 }, { (hd 0 0) with corr := 2 ^ 32 }, { (hd 0
    0) with session := some 1024 }] : List CmdHead).all (fun x => !x.wf) = true := by decide

/-- Each of these has one field out of its width. -/
theorem test_illformed_LeaseFields : (lf 0).wf = true ∧ ([
    { (lf 0) with members := 256 }, { (lf 0) with track := 256 }, { (lf 0) with tenant := 256 }, { (lf 0) with ichg := 2 ^ 32 }, { (lf 0) with
    idis := 2 ^ 32 }, { (lf 0) with vmin := -2147483649 }, { (lf 0) with vmax := 2147483648 }, { (lf 0) with emax := 2 ^ 32 }, { (lf 0) with
    gpioev := 65536 }, { (lf 0) with shares := [] }, { (lf 0) with shares := List.replicate 8 65536 }] : List LeaseFields).all (fun x => !x.wf) =
    true := by decide

/-- Each of these has one field out of its width. -/
theorem test_illformed_QuotaFields : quo0.wf = true ∧ ([
    { quo0 with sessions := 65536 }, { quo0 with queues := 65536 }, { quo0 with ringkib := 2 ^ 32 }, { quo0 with recrate := 2 ^ 32 }, { quo0 with
    evrate := 2 ^ 32 }] : List QuotaFields).all (fun x => !x.wf) = true := by decide

/-- Each of these has one field out of its width. -/
theorem test_illformed_EstFields : ef0.wf = true ∧ ([
    { ef0 with mask := 256 }, { ef0 with cnom := 2 ^ 32 }, { ef0 with slopemin := 2 ^ 32 }, { ef0 with ocvrest := 2 ^ 32 }, { ef0 with rate :=
    65536 }, { ef0 with kskip := 65536 }, { ef0 with kmin := 65536 }, { ef0 with estrec := 65536 }] : List EstFields).all (fun x => !x.wf) = true
    := by decide

/-- Each of these has one field out of its width. -/
theorem test_illformed_CalTime : ({} : CalTime).wf = true ∧ ([
    { ({} : CalTime) with year := 65536 }, { ({} : CalTime) with month := 256 }, { ({} : CalTime) with day := 256 }, { ({} : CalTime) with hour
    := 256 }, { ({} : CalTime) with minute := 256 }, { ({} : CalTime) with second := 256 }, { ({} : CalTime) with wday := 256 }] : List
    CalTime).all (fun x => !x.wf) = true := by decide

/-- Each of these has one field out of its width. -/
theorem test_illformed_CalPair : cp0.wf = true ∧ ([
    { cp0 with channel := 256 }, { cp0 with qty := 256 }, { cp0 with offu := 2147483648 }, { cp0 with gainu := 2147483648 }, { cp0 with qu :=
    2147483648 }] : List CalPair).all (fun x => !x.wf) = true := by decide

/-- Each of these has one field out of its width. -/
theorem test_illformed_Datagram : dg0.wf = true ∧ ([
    { dg0 with port := 2 }, { dg0 with udp := 65536 }, { dg0 with session := 65536 }, { dg0 with queue := 65536 }, { dg0 with dseq := 2 ^ 64 }, {
    dg0 with cqueue := 65536 }, { dg0 with cack := 65536 }, { dg0 with climit := 65536 }] : List Datagram).all (fun x => !x.wf) = true := by
    decide

/-- Each of these has one field out of its width. -/
theorem test_illformed_FrameHead : fh0.wf = true ∧ ([
    { fh0 with epoch := 2 ^ 32 }, { fh0 with inc := 2 ^ 32 }, { fh0 with fseq := 2 ^ 32 }] : List FrameHead).all (fun x => !x.wf) = true := by decide

/-! ### Single steps and values from the spec's worked examples -/

/-- The command at the front runs and leaves the queue; IDENTIFY completes OK. -/
theorem test_step_takes_the_front :
    (match step { rdy with pending := [.identify (hd 0 255), .bootEnd] } with
     | .next t => t.pending == [.bootEnd] && t.inflight.any (fun r => r.opcode == 1 && r.status == .ok)
     | _ => false) = true := by decide

/-- An empty queue idles: the clocks move on by 1 ns. -/
theorem test_step_idles : (match step rdy with | .next t => t.now == 1 && t.pending.isEmpty | _ => false) = true := by decide

/-- R27: a write outside the fabric map stops. -/
theorem test_write_outside_the_map : exec (.registerWrite 0x2000000 0) rdy = .fault .outsideFabric := rfl

/-- R473: a STOP in ACTIVE is a ramped stop (Table 12-8). -/
theorem test_stop_ramps :
    (match exec (.stop (hd 0 0)) (live0 .active) with | .next t => (t.chan 0).loop.st == .stopping | _ => false) = true := by decide

/-- R385: the sixteen tag bytes sum to 0xA5, OWN taken as 0. -/
theorem test_tag_sum :
    byteSum (tagBytes { kind := 0x18, tenant := 7, channel := 12, seq := 0x1234, corr := 0xCAFE0001 } false) = 0xA5 := by decide

/-- The shares of the gang example of chapter 04: 20 % and 40 % of 140 A, and the leader's remainder. -/
theorem test_gang_shares :
    let s := (((rdy.setReg (gA 2 0x40) (0x8000 + 0x1000 + 0x100 + 7)).setFld (chA 16 0x0C) 0 16 13107).setFld (chA 18 0x0C) 0 16 26214)
    s.shareOf 16 140000000 = 27999572 ∧ s.shareOf 18 140000000 = 55999145 ∧ s.shareOf 17 140000000 = 56001283 := by decide

/-- The sweep example of chapter 08: 26 points from code 6,000 down to 1,000 in steps of 200. -/
theorem test_sweep_points :
    let w := BitVec.ofNat 256 (9 + (5 + 4 * 256) * 2 ^ 128 + (6000 + 1000 * 65536) * 2 ^ 176)
    eisCode w 0 = some 6000 ∧ eisCode w 4 = some 5200 ∧ eisCode w 25 = some 1000 ∧ eisCode w 26 = none := by decide

/-- The DCIR example of chapter 08: 196.03 µΩ, reported as 196. -/
theorem test_dcir_example :
    dcirOf { v := 3281420, i := -5600150, n := 1 } { v := 3271540, i := -56000900, n := 1 } 60000000 = 196 := by decide

/-- The pair example of chapter 06: in range U at 10 S/s the parts agree at 247 µA apart and not at 248 µA, at 687 µV and not at 688 µV. -/
theorem test_twin_example :
    let t (v i : Int) : TwinIn := { stamp := 0, v := v, i := i, rng := 3, calgen := 0, rate := 0 }
    rdy.twinAgrees 0 4200000 5000 3 0 (t 4200000 5247) = true ∧ rdy.twinAgrees 0 4200000 5000 3 0 (t 4200000 5248) = false ∧
    rdy.twinAgrees 0 4200000 5000 3 0 (t 4200687 5000) = true ∧ rdy.twinAgrees 0 4200000 5000 3 0 (t 4200688 5000) = false := by decide

/-- R554: February of a year divisible by 4, and of 2100, which is no leap year. -/
theorem test_leap_years :
    let c (y : Nat) : CalTime := { year := y, month := 2, day := 28, hour := 23, minute := 59, second := 59 }
    ((c 2024).nextSecond.1.month, (c 2024).nextSecond.1.day) = (2, 29) ∧ ((c 2100).nextSecond.1.month, (c 2100).nextSecond.1.day) = (3, 1) := by decide

end Sys2Proof.Tests
end

section
/-! The read-back of the two sparse memories, proved once for a list of (address, entry) pairs with rising addresses. -/

namespace Sys2Proof.Machine

open Sys2Proof

/-- Put or drop the entry at an address of a list whose addresses rise: `none` drops it. Both memories write by it. -/
def sparsePut {β : Type} (a : Nat) (x : Option β) : List (Nat × β) → List (Nat × β)
  | [] => (x.map (a, ·)).toList
  | (b, v) :: l =>
    if a < b then (x.map (a, ·)).toList ++ (b, v) :: l
    else if a = b then (x.map (a, ·)).toList ++ l
    else (b, v) :: sparsePut a x l

theorem cruPut_eq_sparsePut (a : Nat) (v : Byte) (l : List Host.Cell) : cruPut a v l = sparsePut a (if v = 0 then none else some v) l := by
  induction l with
  | nil => unfold cruPut sparsePut; split <;> rfl
  | cons y l ih =>
    unfold cruPut sparsePut
    rw [ih]
    by_cases hv : v = 0
    · simp only [if_pos hv]; rfl
    · simp only [if_neg hv]; rfl

theorem regsPut_eq_sparsePut (a d w : Nat) (l : List (Nat × Word32)) :
    regsPut a d w l = sparsePut a (if w = d then none else some (BitVec.ofNat 32 w)) l := by
  induction l with
  | nil => unfold regsPut sparsePut; split <;> rfl
  | cons y l ih =>
    unfold regsPut sparsePut
    rw [ih]
    by_cases hw : w = d
    · simp only [if_pos hw]; rfl
    · simp only [if_neg hw]; rfl

section
variable {β : Type}

theorem find?_none_of_lt {a : Nat} {l : List (Nat × β)} (h : ∀ x ∈ l, a < x.1) : l.find? (fun x => x.1 == a) = none :=
  List.find?_eq_none.2 (fun x hx => by simpa using (h x hx).ne')

/-- The entry at the address of a write is the written one. -/
theorem find?_sparsePut_same {a : Nat} {x : Option β} {l : List (Nat × β)} (hp : l.Pairwise (fun x y => x.1 < y.1)) :
    (sparsePut a x l).find? (fun y => y.1 == a) = x.map (a, ·) := by
  induction l with
  | nil => cases x <;> simp [sparsePut]
  | cons y l ih =>
    obtain ⟨b, v⟩ := y
    obtain ⟨hb, hl⟩ := List.pairwise_cons.1 hp
    unfold sparsePut
    split
    next hab =>
      have hn := find?_none_of_lt (l := (b, v) :: l) (List.forall_mem_cons.2 ⟨hab, fun z hz => hab.trans (hb z hz)⟩)
      rw [List.find?_append, hn]
      cases x <;> simp
    next hab =>
      split
      next hab => subst hab; cases x <;> simp [find?_none_of_lt hb]
      next hab => simpa [List.find?_cons, Ne.symm hab] using ih hl

/-- The entry at any other address is the old one. -/
theorem find?_sparsePut_ne {a b : Nat} (hba : b ≠ a) (x : Option β) (l : List (Nat × β)) :
    (sparsePut a x l).find? (fun y => y.1 == b) = l.find? (fun y => y.1 == b) := by
  have hx : (x.map (a, ·)).toList.find? (fun y => y.1 == b) = none := by cases x <;> simp [hba.symm]
  induction l with
  | nil => simpa [sparsePut] using hx
  | cons y l ih =>
    unfold sparsePut
    split
    · simp [List.find?_append, hx]
    · split
      next hab => simp [List.find?_append, hx, ← hab, hba.symm]
      · simp [List.find?_cons, ih]

/-- Where addresses rise, the entry found at an address is the only one there. -/
theorem find?_eq_some_iff_mem {l : List (Nat × β)} (hp : l.Pairwise (fun x y => x.1 < y.1)) (y : Nat × β) :
    l.find? (fun x => x.1 == y.1) = some y ↔ y ∈ l := by
  refine ⟨List.mem_of_find?_eq_some, fun hy => ?_⟩
  induction l with
  | nil => cases hy
  | cons z l ih =>
    obtain ⟨hz, hl⟩ := List.pairwise_cons.1 hp
    rcases List.mem_cons.1 hy with rfl | hm
    · simp
    · simpa [List.find?_cons, (hz y hm).ne] using ih hl hm

/-- Two lists with rising addresses and the same entry at every address are equal. -/
theorem eq_of_find?_eq {l m : List (Nat × β)} (hl : l.Pairwise (fun x y => x.1 < y.1)) (hm : m.Pairwise (fun x y => x.1 < y.1))
    (h : ∀ a, l.find? (fun x => x.1 == a) = m.find? (fun x => x.1 == a)) : l = m := by
  have : Std.Irrefl (fun x y : Nat × β => x.1 < y.1) := ⟨fun x => Nat.lt_irrefl x.1⟩
  have : Std.Antisymm (fun x y : Nat × β => x.1 < y.1) := ⟨fun x y hxy hyx => absurd hxy (Nat.lt_asymm hyx)⟩
  exact hl.eq_of_mem_iff hm (fun y => by rw [← find?_eq_some_iff_mem hl, ← find?_eq_some_iff_mem hm, h])

end

/-! ### The two memories -/

/-- A stored register reads back the low 32 bits written. -/
theorem State.setReg_reg (s : State) (a w : Nat) (h : regsWf s.regs = true) : (s.setReg a w).reg a = w % 2 ^ 32 := by
  obtain ⟨hp, -⟩ := (regsWf_iff _).1 h
  simp only [State.reg, State.setReg, regsPut_eq_sparsePut, find?_sparsePut_same hp]
  by_cases hw : w % 2 ^ 32 = regReset a
  · rw [if_pos hw]
    exact hw.symm
  · rw [if_neg hw]
    simp

/-- A register write leaves every other register. -/
theorem State.setReg_reg_ne (s : State) (a w : Nat) {b : Nat} (h : b ≠ a) : (s.setReg a w).reg b = s.reg b := by
  simp only [State.reg, State.setReg, regsPut_eq_sparsePut, find?_sparsePut_ne h]

theorem cruGet_cruPut_same {l : List Host.Cell} (a : Nat) (v : Byte) (h : cruWf l = true) : cruGet (cruPut a v l) a = v := by
  obtain ⟨hp, -⟩ := (cruWf_iff _).1 h
  simp only [cruGet, cruPut_eq_sparsePut, find?_sparsePut_same hp]
  split <;> simp_all

theorem cruGet_cruPut_ne (l : List Host.Cell) {a b : Nat} (v : Byte) (h : b ≠ a) : cruGet (cruPut a v l) b = cruGet l b := by
  simp only [cruGet, cruPut_eq_sparsePut, find?_sparsePut_ne h]

/-- A canonical Crucible lists no zero, so the byte that is read at an address determines the entry there. -/
theorem cruGet_find? {l : List Host.Cell} (h : cruWf l = true) (a : Nat) :
    l.find? (fun x => x.1 == a) = if cruGet l a = 0 then none else some (a, cruGet l a) := by
  obtain ⟨-, hn⟩ := (cruWf_iff _).1 h
  unfold cruGet
  cases hf : l.find? (fun x => x.1 == a) with
  | none => rfl
  | some x =>
    have ha : x.1 = a := by simpa using List.find?_some hf
    have h0 : x.2 ≠ 0 := hn x (List.mem_of_find?_eq_some hf)
    subst ha
    exact (if_neg h0).symm

/-- A canonical register list holds no reset value, so the word that is read at an address determines the entry there. -/
theorem State.reg_find? {s : State} (h : regsWf s.regs = true) (a : Nat) :
    s.regs.find? (fun x => x.1 == a) = if s.reg a = regReset a then none else some (a, BitVec.ofNat 32 (s.reg a)) := by
  obtain ⟨-, hn⟩ := (regsWf_iff _).1 h
  unfold State.reg
  cases hf : s.regs.find? (fun x => x.1 == a) with
  | none => simp
  | some x =>
    have ha : x.1 = a := by simpa using List.find?_some hf
    have h0 : x.2.toNat ≠ regReset x.1 := hn x (List.mem_of_find?_eq_some hf)
    subst ha
    simp [h0]

theorem cruGet_ext {l m : List Host.Cell} (hl : cruWf l = true) (hm : cruWf m = true) (h : ∀ a, cruGet l a = cruGet m a) : l = m :=
  eq_of_find?_eq ((cruWf_iff _).1 hl).1 ((cruWf_iff _).1 hm).1 (fun a => by rw [cruGet_find? hl, cruGet_find? hm, h])

theorem State.reg_ext {s t : State} (hs : regsWf s.regs = true) (ht : regsWf t.regs = true) (h : ∀ a, s.reg a = t.reg a) :
    s.regs = t.regs :=
  eq_of_find?_eq ((regsWf_iff _).1 hs).1 ((regsWf_iff _).1 ht).1 (fun a => by rw [State.reg_find? hs, State.reg_find? ht, h])

/-- Settles O49: both memories are sorted lists of what differs from the default, so a read-back law of such lists serves both. -/
theorem memoriesReadBack : Obligations.MemoriesReadBack :=
  ⟨fun s a w h => s.setReg_reg a w h, fun s a w _ _ h => s.setReg_reg_ne a w h, fun _ a v h => cruGet_cruPut_same a v h,
    fun l _ _ v _ h => cruGet_cruPut_ne l v h, fun _ _ => cruGet_ext, fun _ _ => State.reg_ext⟩

end Sys2Proof.Machine
end

section
/-! The invariants of every command and of a step, and what an absent option refuses. -/

namespace Sys2Proof.Machine

open Sys2Proof

/-- Every row of the table keeps the fuses, the queue behind it and the form of both memories: row by row, the law of its meaning. -/
theorem exec_keeps {s0 : State} (c : Instr) (s : State) (hk : Keeps s0 s) : KeepsOut s0 (exec c s) :=
  match c with
  | .identify h => execIdentify_keeps s h hk
  | .status h => execStatus_keeps s h hk
  | .qCreate h qkind size hold dflt pair => execQCreate_keeps s h qkind size hold dflt pair hk
  | .qDelete h q => execQDelete_keeps s h q hk
  | .qBind h q => execQBind_keeps s h q hk
  | .qRoute h q mask => execQRoute_keeps s h q mask hk
  | .keyWrite h slot secret => execKeyWrite_keeps s h slot secret hk
  | .keyClear h slot => execKeyClear_keeps s h slot hk
  | .tenantCreate h ttl => execTenantCreate_keeps s h ttl hk
  | .tenantSuspend h t => execTenantSuspend_keeps s h t hk
  | .tenantResume h t => execTenantResume_keeps s h t hk
  | .tenantRemove h t => execTenantRemove_keeps s h t hk
  | .tenantReenrol h t ttl => execTenantReenrol_keeps s h t ttl hk
  | .quotaSet h t q => execQuotaSet_keeps s h t q hk
  | .leaseGrant h l => execLeaseGrant_keeps s h l hk
  | .leaseModify h l => execLeaseModify_keeps s h l hk
  | .leaseEnd h => execLeaseEnd_keeps s h hk
  | .leaseRead h => execLeaseRead_keeps s h hk
  | .tenantRead h t => execTenantRead_keeps s h t hk
  | .progWrite h steps => execProgWrite_keeps s h steps hk
  | .progLen h len => execProgLen_keeps s h len hk
  | .progRead h which first count => execProgRead_keeps s h which first count hk
  | .progDiscard h => execProgDiscard_keeps s h hk
  | .commit h => execCommit_keeps s h hk
  | .commitCheckonly h => execCommitCheckonly_keeps s h hk
  | .commitSwap c => execCommitSwap_keeps s c hk
  | .commitBufferDrain g => execCommitBufferDrain_keeps s g hk
  | .varWrite h pairs => execVarWrite_keeps s h pairs hk
  | .varRead h => execVarRead_keeps s h hk
  | .signal h sig mask => execSignal_keeps s h sig mask hk
  | .start h entry => execStart_keeps s h entry hk
  | .stop h => execStop_keeps s h hk
  | .pause h => execPause_keeps s h hk
  | .resume h restart => execResume_keeps s h restart hk
  | .clear h => execClear_keeps s h hk
  | .measCfg h setRate setRange rate rng fix => execMeasCfg_keeps s h setRate setRange rate rng fix hk
  | .measRead h => execMeasRead_keeps s h hk
  | .coefRead h layer qty => execCoefRead_keeps s h layer qty hk
  | .chRead h => execChRead_keeps s h hk
  | .estSet h f => execEstSet_keeps s h f hk
  | .ocvTable h pts => execOcvTable_keeps s h pts hk
  | .estRead h table => execEstRead_keeps s h table hk
  | .relearn h => execRelearn_keeps s h hk
  | .counterRead h => execCounterRead_keeps s h hk
  | .meterRead h t => execMeterRead_keeps s h t hk
  | .meterClose h => execMeterClose_keeps s h hk
  | .meterLimits h imp exp => execMeterLimits_keeps s h imp exp hk
  | .meterSched h first words => execMeterSched_keeps s h first words hk
  | .ledgerRead h => execLedgerRead_keeps s h hk
  | .ledgerFetch h from_ to_ mask queue periodic => execLedgerFetch_keeps s h from_ to_ mask queue periodic hk
  | .ledgerFetchBatch t ans => execLedgerFetchBatch_keeps s t ans hk
  | .ledgerRetain h t days => execLedgerRetain_keeps s h t days hk
  | .ledgerSeal h => execLedgerSeal_keeps s h hk
  | .pairRead h => execPairRead_keeps s h hk
  | .handover h deadline => execHandover_keeps s h deadline hk
  | .timeRead h => execTimeRead_keeps s h hk
  | .timeSet h cal date wday => execTimeSet_keeps s h cal date wday hk
  | .summerForward h => execSummerForward_keeps s h hk
  | .summerBack h => execSummerBack_keeps s h hk
  | .wakeSet h which en cal period => execWakeSet_keeps s h which en cal period hk
  | .calTrim h pulses => execCalTrim_keeps s h pulses hk
  | .powerRead h => execPowerRead_keeps s h hk
  | .powerCtlShip h => execPowerCtlShip_keeps s h hk
  | .powerCtlWarmReset h => execPowerCtlWarmReset_keeps s h hk
  | .powerCtlBlockReset h block => execPowerCtlBlockReset_keeps s h block hk
  | .blockQuiesceDone block timeout => execBlockQuiesceDone_keeps s block timeout hk
  | .blockResetReturn block => execBlockResetReturn_keeps s block hk
  | .enter h => execEnter_keeps s h hk
  | .exit h => execExit_keeps s h hk
  | .houseClear h => execHouseClear_keeps s h hk
  | .faultAck h code => execFaultAck_keeps s h code hk
  | .selftest h g kind => execSelftest_keeps s h g kind hk
  | .deferredSelftestRun g => execDeferredSelftestRun_keeps s g hk
  | .selftestSlotEnd g pass loopOk => execSelftestSlotEnd_keeps s g pass loopOk hk
  | .refcheck h g ppm => execRefcheck_keeps s h g ppm hk
  | .retest h g conv p => execRetest_keeps s h g conv p hk
  | .nvmStat h => execNvmStat_keeps s h hk
  | .nvmScrub h => execNvmScrub_keeps s h hk
  | .setTimes h idle storm => execSetTimes_keeps s h idle storm hk
  | .calWrite h pairs => execCalWrite_keeps s h pairs hk
  | .calgenSwitch c => execCalgenSwitch_keeps s c hk
  | .fwWriteData h offset data => execFwWriteData_keeps s h offset data hk
  | .fwWriteFinish h sigOk => execFwWriteFinish_keeps s h sigOk hk
  | .fwWriteAbandon h => execFwWriteAbandon_keeps s h hk
  | .regRead h addr count => execRegRead_keeps s h addr count hk
  | .regWrite h addr data => execRegWrite_keeps s h addr data hk
  | .registerWrite addr data => execRegisterWrite_keeps s addr data hk
  | .tenantDatagram d entries => execTenantDatagram_keeps s d entries hk
  | .tenantCredit d => execTenantCredit_keeps s d hk
  | .hello addr t keyid nonceT share => execHello_keeps s addr t keyid nonceT share hk
  | .confirm addr session macOk => execConfirm_keeps s addr session macOk hk
  | .close d => execClose_keeps s d hk
  | .establishmentExpiry session => execEstablishmentExpiry_keeps s session hk
  | .sessidleExpiry session => execSessidleExpiry_keeps s session hk
  | .authThrottleEnd addr => execAuthThrottleEnd_keeps s addr hk
  | .unsupportedFrame port => execUnsupportedFrame_keeps s port hk
  | .icmpEcho port addr => execIcmpEcho_keeps s port addr hk
  | .addressResolution port forUs => execAddressResolution_keeps s port forUs hk
  | .bootDatagramDrop => execBootDatagramDrop_keeps s hk
  | .commandCreditSend q => execCommandCreditSend_keeps s q hk
  | .entrySend q n => execEntrySend_keeps s q n hk
  | .retxExpiry q => execRetxExpiry_keeps s q hk
  | .commandClaim q f => execCommandClaim_keeps s q f hk
  | .commandCompletion q => execCommandCompletion_keeps s q hk
  | .recordPlace => execRecordPlace_keeps s hk
  | .eventPlace => execEventPlace_keeps s hk
  | .coalescedPlace t cls => execCoalescedPlace_keeps s t cls hk
  | .decimationUpdate => execDecimationUpdate_keeps s hk
  | .stormEnd t => execStormEnd_keeps s t hk
  | .localRead addr count k => execLocalRead_keeps s addr count k hk
  | .localWrite addr data chkOk => execLocalWrite_keeps s addr data chkOk hk
  | .localStatus => execLocalStatus_keeps s hk
  | .qput entries chkOk => execQput_keeps s entries chkOk hk
  | .qget f => execQget_keeps s f hk
  | .dmaStart c => execDmaStart_keeps s c hk
  | .dmaStop c => execDmaStop_keeps s c hk
  | .dmaPoke c => execDmaPoke_keeps s c hk
  | .dmaDescriptorDone c => execDmaDescriptorDone_keeps s c hk
  | .dmaBusError c addr moved => execDmaBusError_keeps s c addr moved hk
  | .dmaBuserrClear => execDmaBuserrClear_keeps s hk
  | .controlCycle g x => execControlCycle_keeps s g x hk
  | .syncRelease t b => execSyncRelease_keeps s t b hk
  | .settleEnd c v => execSettleEnd_keeps s c v hk
  | .softstartEnd c => execSoftstartEnd_keeps s c hk
  | .rampedStopEnd c => execRampedStopEnd_keeps s c hk
  | .tcoffExpiry c => execTcoffExpiry_keeps s c hk
  | .pulseLevelChange c => execPulseLevelChange_keeps s c hk
  | .dcirPhaseChange c => execDcirPhaseChange_keeps s c hk
  | .dcirStepEnd c => execDcirStepEnd_keeps s c hk
  | .ocvRecord c => execOcvRecord_keeps s c hk
  | .crackOff x => execCrackOff_keeps s x hk
  | .crackOffRetry c => execCrackOffRetry_keeps s c hk
  | .retryCountReset c => execRetryCountReset_keeps s c hk
  | .slowOvl c => execSlowOvl_keeps s c hk
  | .reverseCell c => execReverseCell_keeps s c hk
  | .contactLoss c => execContactLoss_keeps s c hk
  | .temperatureUpdate g cells stage => execTemperatureUpdate_keeps s g cells stage hk
  | .stgtSensor g => execStgtSensor_keeps s g hk
  | .busWindow g v cur => execBusWindow_keeps s g v cur hk
  | .busStop g ovr => execBusStop_keeps s g ovr hk
  | .busSensor g => execBusSensor_keeps s g hk
  | .outputSample c stamp clocks raw => execOutputSample_keeps s c stamp clocks raw hk
  | .outrateChange c stamp => execOutrateChange_keeps s c stamp hk
  | .twinsample c stamp v cur rng calgen rate => execTwinsample_keeps s c stamp v cur rng calgen rate hk
  | .twinHoldExpiry c => execTwinHoldExpiry_keeps s c hk
  | .puntySwapStart g => execPuntySwapStart_keeps s g hk
  | .shadowDone g b dAbs => execShadowDone_keeps s g b dAbs hk
  | .converterCalDone g b p refPpm => execConverterCalDone_keeps s g b p refPpm hk
  | .returnShadowDone g b => execReturnShadowDone_keeps s g b hk
  | .selfcalDone g b d noise refPpm => execSelfcalDone_keeps s g b d noise refPpm hk
  | .swapAbandon r => execSwapAbandon_keeps s r hk
  | .converterHealthFail r conv => execConverterHealthFail_keeps s r conv hk
  | .gatherCalibrationDone g d noise => execGatherCalibrationDone_keeps s g d noise hk
  | .eisToneStart c stamp => execEisToneStart_keeps s c stamp hk
  | .eisSettleEnd c stamp amps => execEisSettleEnd_keeps s c stamp amps hk
  | .eisWindowEnd c stamp => execEisWindowEnd_keeps s c stamp hk
  | .busBalanceCycle late => execBusBalanceCycle_keeps s late hk
  | .defmaxExpiry c => execDefmaxExpiry_keeps s c hk
  | .takeoverRampEnd c => execTakeoverRampEnd_keeps s c hk
  | .counterCollect => execCounterCollect_keeps s hk
  | .meterNvmCommit => execMeterNvmCommit_keeps s hk
  | .estimatorUpdate c => execEstimatorUpdate_keeps s c hk
  | .hibernationEntry c => execHibernationEntry_keeps s c hk
  | .ocvCorrection c => execOcvCorrection_keeps s c hk
  | .estimatorRecord c => execEstimatorRecord_keeps s c hk
  | .secondTick stamp => execSecondTick_keeps s stamp hk
  | .minuteBoundary => execMinuteBoundary_keeps s hk
  | .meterStampSplit g => execMeterStampSplit_keeps s g hk
  | .periodicWakeExpiry => execPeriodicWakeExpiry_keeps s hk
  | .trimWindow => execTrimWindow_keeps s hk
  | .autotrim rate => execAutotrim_keeps s rate hk
  | .xtalFail => execXtalFail_keeps s hk
  | .keepLoadTime => execKeepLoadTime_keeps s hk
  | .keepLoadWday => execKeepLoadWday_keeps s hk
  | .calendarReadFreeze => execCalendarReadFreeze_keeps s hk
  | .keepYearRead => execKeepYearRead_keeps s hk
  | .freezeTimeout => execFreezeTimeout_keeps s hk
  | .ptpSync port t freq => execPtpSync_keeps s port t freq hk
  | .ptpAnnounce port rank => execPtpAnnounce_keeps s port rank hk
  | .ptpDelayResp port d => execPtpDelayResp_keeps s port d hk
  | .ptpPdelayReq port => execPtpPdelayReq_keeps s port hk
  | .ptpDelayReqSend port => execPtpDelayReqSend_keeps s port hk
  | .announceTimeout => execAnnounceTimeout_keeps s hk
  | .holdmaxExpiry mainsOk => execHoldmaxExpiry_keeps s mainsOk hk
  | .backwardStep => execBackwardStep_keeps s hk
  | .elapsedPairStore => execElapsedPairStore_keeps s hk
  | .mainsWindowEnd count => execMainsWindowEnd_keeps s count hk
  | .mainsRefInvalid => execMainsRefInvalid_keeps s hk
  | .ppsOut => execPpsOut_keeps s hk
  | .ppsIn => execPpsIn_keeps s hk
  | .wakeEvent src => execWakeEvent_keeps s src hk
  | .wakeIn => execWakeIn_keeps s hk
  | .pwroffEnd => execPwroffEnd_keeps s hk
  | .vkeepRise vin => execVkeepRise_keeps s vin hk
  | .vkeepLoss vin => execVkeepLoss_keeps s vin hk
  | .button => execButton_keeps s hk
  | .shipExit => execShipExit_keeps s hk
  | .longPress => execLongPress_keeps s hk
  | .longPressPathEnd => execLongPressPathEnd_keeps s hk
  | .packShipLow => execPackShipLow_keeps s hk
  | .inputLoss vin pathOk => execInputLoss_keeps s vin pathOk hk
  | .inputPresent vin => execInputPresent_keeps s vin hk
  | .pathReturn => execPathReturn_keeps s hk
  | .packExhausted => execPackExhausted_keeps s hk
  | .vinCollapse => execVinCollapse_keeps s hk
  | .vintPowerOn => execVintPowerOn_keeps s hk
  | .lehrRampDone => execLehrRampDone_keeps s hk
  | .lehrDone flushed => execLehrDone_keeps s flushed hk
  | .seqSlotDone => execSeqSlotDone_keeps s hk
  | .seqTimeout => execSeqTimeout_keeps s hk
  | .powerDownStep => execPowerDownStep_keeps s hk
  | .auxPgood k => execAuxPgood_keeps s k hk
  | .auxHiccup k => execAuxHiccup_keeps s k hk
  | .auxHiccupRestart k => execAuxHiccupRestart_keeps s k hk
  | .auxSlowLimit k => execAuxSlowLimit_keeps s k hk
  | .auxTwarn k t => execAuxTwarn_keeps s k t hk
  | .auxTshut k t => execAuxTshut_keeps s k t hk
  | .thermalPowerDown => execThermalPowerDown_keeps s hk
  | .railRange src => execRailRange_keeps s src hk
  | .wardenReadingRefresh r => execWardenReadingRefresh_keeps s r hk
  | .packPresent v => execPackPresent_keeps s v hk
  | .packRemoved => execPackRemoved_keeps s hk
  | .packNtc => execPackNtc_keeps s hk
  | .qualEnd => execQualEnd_keeps s hk
  | .preTimeout => execPreTimeout_keeps s hk
  | .searchStep vin => execSearchStep_keeps s vin hk
  | .searchHoldEnd => execSearchHoldEnd_keeps s hk
  | .chargeMeanUpdate v t => execChargeMeanUpdate_keeps s v t hk
  | .fastmaxExpiry => execFastmaxExpiry_keeps s hk
  | .chargerWatchdog => execChargerWatchdog_keeps s hk
  | .hldKick key => execHldKick_keeps s key hk
  | .packTest => execPackTest_keeps s hk
  | .stoptest => execStoptest_keeps s hk
  | .resetN => execResetN_keeps s hk
  | .brownout => execBrownout_keeps s hk
  | .warmResetRelease strap => execWarmResetRelease_keeps s strap hk
  | .imageCheck sig0 sig1 => execImageCheck_keeps s sig0 sig1 hk
  | .bootEnd => execBootEnd_keeps s hk
  | .ledgerRecovery found streams intact torn => execLedgerRecovery_keeps s found streams intact torn hk
  | .sealTick => execSealTick_keeps s hk
  | .batchDurable => execBatchDurable_keeps s hk
  | .stagingGap => execStagingGap_keeps s hk
  | .ledgerReclaim => execLedgerReclaim_keeps s hk
  | .nvmeTimeout d => execNvmeTimeout_keeps s d hk
  | .nvmeError d stream again => execNvmeError_keeps s d stream again hk
  | .driveLost d => execDriveLost_keeps s d hk
  | .resilverDone => execResilverDone_keeps s hk
  | .ledgerInitInit => execLedgerInitInit_keeps s hk
  | .ledgerInitErase => execLedgerInitErase_keeps s hk
  | .pipeInRise => execPipeInRise_keeps s hk
  | .fenceInRise => execFenceInRise_keeps s hk
  | .pipeInFall => execPipeInFall_keeps s hk
  | .pipeSense => execPipeSense_keeps s hk
  | .contention => execContention_keeps s hk
  | .heartbeatSend => execHeartbeatSend_keeps s hk
  | .heartbeat f lane hbseq role sync mseq => execHeartbeat_keeps s f lane hbseq role sync mseq hk
  | .heartbeatMiss => execHeartbeatMiss_keeps s hk
  | .laneDown lane => execLaneDown_keeps s lane hk
  | .ident f id => execIdent_keeps s f id hk
  | .mirror f lag items => execMirror_keeps s f lag items hk
  | .snapshot f items => execSnapshot_keeps s f items hk
  | .resyncDone => execResyncDone_keeps s hk
  | .resyncFail => execResyncFail_keeps s hk
  | .reccopy f train => execReccopy_keeps s f train hk
  | .epochmark f count within => execEpochmark_keeps s f count within hk
  | .epochUnlock => execEpochUnlock_keeps s hk
  | .ack f ftype fseq => execAck_keeps s f ftype fseq hk
  | .handoverPrep f => execHandoverPrep_keeps s f hk
  | .handoverReady f sAt => execHandoverReady_keeps s f sAt hk
  | .handoverTime f sAt => execHandoverTime_keeps s f sAt hk
  | .handoverState f items => execHandoverState_keeps s f items hk
  | .handoverPipeRelease => execHandoverPipeRelease_keeps s hk
  | .handoverPipeTake => execHandoverPipeTake_keeps s hk
  | .handoverAck f => execHandoverAck_keeps s f hk
  | .handoverTimeout => execHandoverTimeout_keeps s hk
  | .arbitrationStart => execArbitrationStart_keeps s hk
  | .arbitrationEnd line => execArbitrationEnd_keeps s line hk
  | .reacqExpiry => execReacqExpiry_keeps s hk
  | .rollCallPulse => execRollCallPulse_keeps s hk
  | .rollPulseDetect => execRollPulseDetect_keeps s hk
  | .rollCallReply => execRollCallReply_keeps s hk
  | .rollCallMiss => execRollCallMiss_keeps s hk
  | .rollCallSearchEnd => execRollCallSearchEnd_keeps s hk
  | .gpioEdge pin rising => execGpioEdge_keeps s pin rising hk
  | .trayTransferStart p => execTrayTransferStart_keeps s p hk
  | .go p => execGo_keeps s p hk
  | .abort p => execAbort_keeps s p hk
  | .trayTransferEnd p result data => execTrayTransferEnd_keeps s p result data hk
  | .arbLost p addr bytes => execArbLost_keeps s p addr bytes hk
  | .trayTimeout p => execTrayTimeout_keeps s p hk
  | .trayStuck p freed => execTrayStuck_keeps s p freed hk
  | .buslockRetry p freed => execBuslockRetry_keeps s p freed hk
  | .targetWrite p addr bytes => execTargetWrite_keeps s p addr bytes hk
  | .rxnewClear p => execRxnewClear_keeps s p hk
  | .alert p ans => execAlert_keeps s p ans hk
  | .alertReread p ans => execAlertReread_keeps s p ans hk
  | .idpoll p => execIdpoll_keeps s p hk
  | .identityReadDone p addr ofs val => execIdentityReadDone_keeps s p addr ofs val hk
  | .wdgKick w v => execWdgKick_keeps s w v hk
  | .wdgKey w v => execWdgKey_keeps s w v hk
  | .wdgLock w => execWdgLock_keeps s w hk
  | .wdgExpiry w => execWdgExpiry_keeps s w hk
  | .wdgHard w => execWdgHard_keeps s w hk
  | .wdgClock w => execWdgClock_keeps s w hk
  | .coreException x => execCoreException_keeps s x hk
  | .evrSourceAccept src level => execEvrSourceAccept_keeps s src level hk
  | .evrDeliver core => execEvrDeliver_keeps s core hk
  | .evrClaim core => execEvrClaim_keeps s core hk
  | .evrComplete core src => execEvrComplete_keeps s core src hk
  | .faultTaken ext => execFaultTaken_keeps s ext hk
  | .lockstep => execLockstep_keeps s hk
  | .refclkLost => execRefclkLost_keeps s hk
  | .wdnOsc => execWdnOsc_keeps s hk
  | .quietPeriodEnd unit => execQuietPeriodEnd_keeps s unit hk
  | .recoveryEnd unit pass => execRecoveryEnd_keeps s unit pass hk
  | .chCalselSnap c => execChCalselSnap_keeps s c hk
  | .nvmHkctlHken => execNvmHkctlHken_keeps s hk
  | .ethLinkDown port => execEthLinkDown_keeps s port hk
  | .ethLinkUp port => execEthLinkUp_keeps s port hk
  | .fenceInFall => execFenceInFall_keeps s hk
  | .mirrorSend => execMirrorSend_keeps s hk
  | .epochmarkSend => execEpochmarkSend_keeps s hk
  | .arbitrationRoundVoid => execArbitrationRoundVoid_keeps s hk
  | .buttonRelease ms => execButtonRelease_keeps s ms hk
  | .enrolmentCodeExpiry t => execEnrolmentCodeExpiry_keeps s t hk
  | .commandedWarmReset => execCommandedWarmReset_keeps s hk
  | .warmResetLedgerQuiesce timeout => execWarmResetLedgerQuiesce_keeps s timeout hk

/-- Settles O47: R4's invariant, for each row by the law of its meaning. -/
theorem everyCommandKeepsFusesAndForm : Obligations.EveryCommandKeepsFusesAndForm :=
  fun c s t e => exec_keeps c s (Keeps.refl s) t e

/-! ### Steps -/

theorem State.memWf_iff (s : State) : s.memWf = true ↔ cruWf s.cru = true ∧ regsWf s.regs = true := by
  simp [State.memWf]

theorem Keeps.memWf {s t : State} (k : Keeps s t) (h : s.memWf = true) : t.memWf = true := by
  obtain ⟨hc, hr⟩ := s.memWf_iff.1 h
  exact t.memWf_iff.2 ⟨k.cru hc, k.regs hr⟩

theorem step_nil {s : State} (h : s.pending = []) : step s = .next (idle s) := by
  simp only [step, h]

theorem step_cons {s : State} {c : Instr} {l : List Instr} (h : s.pending = c :: l) : step s = exec c { s with pending := l } := by
  simp only [step, h]

/-- A step keeps what a command keeps, of the state whose queue has lost its front. -/
theorem step_keeps {s t : State} (e : step s = .next t) : Keeps { s with pending := s.pending.tail } t := by
  cases hp : s.pending with
  | nil =>
    rw [step_nil hp] at e
    cases e
    exact ⟨rfl, rfl, hp, id, id⟩
  | cons c l =>
    rw [step_cons hp] at e
    exact exec_keeps c _ (Keeps.refl _) t e

/-- Settles O48: a step keeps what its command keeps, and its command runs on the queue without its front. -/
theorem stepKeepsCanonicalMemories : Obligations.StepKeepsCanonicalMemories := fun _ _ h e =>
  have k := step_keeps e
  ⟨k.memWf h, k.opt, k.serial, k.pending⟩

/-! ### A command that is taken at once -/

/-- An operation that a row of chapter 12 spells: its KIND is assigned, and its train and payload could be read. -/
def CmdOp.isRow : CmdOp → Bool
  | .badTrain _ | .badField .. | .unknown _ => false
  | _ => true

theorem commandOf_isRow {c : Instr} {h : CmdHead} {o : CmdOp} (e : commandOf c = some (h, o)) : o.isRow = true := by
  unfold commandOf at e
  split at e
  all_goals cases e
  all_goals rfl

/-- A row of chapter 12 submits its command. -/
theorem exec_command {c : Instr} {h : CmdHead} {o : CmdOp} (e : commandOf c = some (h, o)) (s : State) :
    exec c s = .next (s.submit h o) := by
  cases c
  all_goals cases e
  all_goals rfl

/-- A row never meets the check of its KIND. -/
theorem opAssigned_of_isRow {o : CmdOp} (h : o.isRow = true) : opAssigned o.opcode = true := by
  cases o with
  | badTrain | badField | unknown => cases h
  | _ => rfl

theorem State.taken_keeps (s : State) (h : CmdHead) : Keeps s (s.taken h) :=
  State.wakeFor_keeps _ _ (State.onQueue_keeps _ _ _ (Keeps.refl s))

/-- Of a command that is taken at once and waits for none, what its checks refuse is the completion alone. -/
theorem exec_refused {c : Instr} {s : State} {h : CmdHead} {o : CmdOp} {st : Status} {i : Nat} (hc : commandOf c = some (h, o))
    (ht : s.takesNow = true) (hb : (s.counted h).blocked (s.headOf h) o = false) (hr : (s.taken h).refusalOf (s.headOf h) o = some (st, i)) :
    exec c s = .next ((s.taken h).complete (s.headOf h) o { status := st, index := i }) := by
  rw [exec_command hc, State.submit_refused (st := st) (i := i)]
  simp [State.refuses, ht, hb, hr]

/-- An accepted row whose effect is known: the next state. -/
theorem exec_answered {c : Instr} {s t : State} {h : CmdHead} {o : CmdOp} {rs : List (List Byte)} (hc : commandOf c = some (h, o))
    (ha : s.accepts h o = true) (e : (s.taken h).apply (s.headOf h) o = (t, { results := rs })) :
    exec c s = .next (s.answered h o t rs) := by
  rw [exec_command hc]
  exact State.submit_answered ha e

/-! ### Absent options (R7) -/

/-- Only the fuses say which options are present. -/
theorem State.optAbsent_congr {s t : State} (h : t.opt = s.opt) (o : CmdOp) : t.optAbsent o = s.optAbsent o := by
  simp only [State.optAbsent, State.optL, State.optT, State.optM, h]

/-- The families that need an option: the ledger needs L, the pair T, and three of the meter commands M. -/
theorem State.optAbsent_iff (s : State) (o : CmdOp) : s.optAbsent o = true ↔
    (o.fam = .ledger ∧ s.optL = false) ∨ (o.fam = .pair ∧ s.optT = false) ∨
    (o.fam = .meter ∧ (o.opcode = 0x28 ∨ o.opcode = 0x29 ∨ o.opcode = 0x2B) ∧ s.optM = false) := by
  unfold State.optAbsent
  split <;> simp_all

/-- No row that an absent option bars carries a train of a length that it may not have: those rows belong to no option. -/
theorem State.trainBad_of_optAbsent {s : State} {o : CmdOp} (hr : o.isRow = true) (ha : s.optAbsent o = true) : o.trainBad = false := by
  cases o with
  | progWrite | calWrite | fwData => cases ha
  | badTrain => cases hr
  | _ => rfl

/-- The option is part of the second check; the first finds nothing to refuse in a row. -/
theorem State.refusalOf_optAbsent {s : State} (h : CmdHead) {o : CmdOp} (hr : o.isRow = true) (ha : s.optAbsent o = true) :
    ∃ i, s.refusalOf h o = some (.notPermitted, i) := by
  have hp : s.notPermitted h o = true := by simp [State.notPermitted, ha]
  unfold State.refusalOf
  rw [if_neg ?known, if_neg (by simp [State.trainBad_of_optAbsent hr ha]), if_pos hp]
  · exact ⟨_, rfl⟩
  case known =>
    rw [opAssigned_of_isRow hr]
    cases o with
    | unknown => cases hr
    | _ => exact Bool.false_ne_true

/-- Settles O51: the fuses of the counted state are those of the part, so check 2 bars the command. -/
theorem absentOptionRefuses : Obligations.AbsentOptionRefuses := by
  refine ⟨fun c s h o hc ht hb ha => ?_, fun s o => s.optAbsent_iff o⟩
  have ha' : (s.taken h).optAbsent o = true := (State.optAbsent_congr (s.taken_keeps h).opt o).trans ha
  obtain ⟨i, hi⟩ := State.refusalOf_optAbsent (s.headOf h) (commandOf_isRow hc) ha'
  exact ⟨i, exec_refused hc ht hb hi⟩

end Sys2Proof.Machine
end

section
/-! The session and lease commands (Tables 12-3 and 12-4): what each answers, and what a grant and an end do to the list of leases. -/

namespace Sys2Proof.Machine

open Sys2Proof

/-! ### What each command answers -/

/-- The house sees SYS_MODE, its cause and every channel. -/
theorem State.doStatus_house (s : State) {h : CmdHead} (ht : h.tenant = 0) : s.doStatus h = s.okWith
    [res32 [fN 16 4 s.sysMode, fN 20 4 s.sysCause, fN 24 8 (s.leasedAll &&& (2 ^ 64 - 1)), fN 32 8 (s.execMask &&& (2 ^ 64 - 1)),
      fN 40 8 (s.faultedMask &&& (2 ^ 64 - 1))]] := by
  simp only [State.doStatus, if_pos ht]

/-- A client sees its own view and its own channels (R106). -/
theorem State.doStatus_client (s : State) {h : CmdHead} (ht : h.tenant ≠ 0) : s.doStatus h = s.okWith
    [res32 [fN 16 4 (s.clientMode h.tenant), fN 20 4 0, fN 24 8 (s.leasedAll &&& s.leasedMask h.tenant),
      fN 32 8 (s.execMask &&& s.leasedMask h.tenant), fN 40 8 (s.faultedMask &&& s.leasedMask h.tenant)]] := by
  simp only [State.doStatus, if_neg ht]

theorem State.doLeaseRead_all (s : State) {h : CmdHead} (hc : h.channel = 255) : s.doLeaseRead h = s.okWith
    (chunks32 2 ((List.range 64).map (fun n =>
      match s.lessee n with
      | some t => if h.tenant = 0 ∨ t = h.tenant then BitVec.ofNat 8 t else 0xFF
      | none => 0xFF))) := by
  unfold State.doLeaseRead
  exact if_pos hc

theorem State.doLeaseRead_lease {s : State} {h : CmdHead} {l : Nat × Lease} (hc : h.channel ≠ 255) (hl : s.leaseOf h.channel = some l) :
    s.doLeaseRead h = s.okWith (chunks32 2 (leaseBytes l.2.f)) := by
  simp only [State.doLeaseRead, if_neg hc, hl]

theorem State.doTenantRead_some {s : State} {n : Nat} {x : Tenant} (hx : s.tenant? n = some x) : s.doTenantRead n = s.okWith
    [res32 [fN 16 1 (1 + 2 * b2n x.suspended + 4 * b2n x.key0.isSome + 8 * b2n x.key1.isSome + 16 * b2n x.code.isSome), fN 20 1 n,
      fN 24 2 x.qSess, fN 26 2 x.qQueues, fN 28 4 x.qRingKib, fN 32 4 x.qRecRate, fN 36 4 x.qEvRate],
     res32 [fN 16 2 (s.sessions.filter (fun y => y.tenant == n)).length, fN 18 2 (s.queuesOf n).length, fN 20 4 (s.kibOf n),
      fN 24 8 (s.leasedMask n)]] := by
  simp only [State.doTenantRead, hx]

theorem State.doTenantRead_none {s : State} {n : Nat} (hx : s.tenant? n = none) : s.doTenantRead n = s.okWith [zeros 32, zeros 32] := by
  simp only [State.doTenantRead, hx]
  rfl

/-- A grant whose members stand still and belong to nobody else: the replaced leases end, then the new lease stands (R443, R444). -/
theorem State.doGrant_granted {s : State} {h : CmdHead} {l : LeaseFields}
    (hf : (leaseChans h.channel l).any (fun c => s.fenced (uGat (gOf c))) = false)
    (ht : l.tenant = 0 ∨ (s.tenant? l.tenant).isSome)
    (hb : (leaseChans h.channel l).any (fun c =>
      (match s.lessee c.val with | some t => t != l.tenant | none => false) || s.memberBusy c) = false)
    (hn : s.takesNvm 3 = true) :
    s.doGrant h l = (((((s.copied 3).replaced h.channel l).foldl (fun v x => (v.endLease h 0 x).2) (s.copied 3)).forChans
      (leaseChans h.channel l) (fun c v => v.collect c)).newLease h h.channel l).settle.ok := by
  have ht' : (l.tenant != 0 && (s.tenant? l.tenant).isNone) = false := by
    rcases ht with ht | ht
    · simp [ht]
    · simp [← Option.not_isSome, ht]
  unfold State.doGrant
  rw [if_neg (by rw [hf, ht']; decide), if_neg (by rw [Bool.not_eq_true]; exact hb), State.stored_takes _ hn]

/-- A modify replaces the lease's fields and writes the new limits into the HL registers of every member (R445). -/
theorem State.doModify_modified {s : State} {h : CmdHead} {l : LeaseFields} (hn : s.takesNvm 3 = true) :
    s.doModify h l = ((((s.copied 3).onLease h.channel (fun x => { x with f := l })).forChans (leaseChans h.channel l) (fun c s =>
      ((((s.setReg (pgA c 0x10) l.ichg).setReg (pgA c 0x14) l.idis).setReg (pgA c 0x18) (w32 l.vmax)).setReg (pgA c 0x1C)
        (w32 l.vmin)).setReg (pgA c 0x20) l.emax)).leaseEvt h 1 h.channel l).ok :=
  State.stored_takes _ hn

/-- A lease that ends by the house, or by its lessee while no member runs or is paused (R446). -/
theorem State.doLeaseEnd_ended {s : State} {h : CmdHead} {x : Nat × Lease} (hx : s.leaseOf h.channel = some x)
    (hb : h.tenant = 0 ∨ ∀ c, chan? x.1 = some c → s.executing c = false ∧ s.isPaused c = false) (hn : s.takesNvm 3 = true) :
    s.doLeaseEnd h = ((s.copied 3).endLease h (if h.tenant = 0 then 0 else 1) x).2.settle.okWith
      [res32 [fN 16 4 ((s.copied 3).endLease h (if h.tenant = 0 then 0 else 1) x).1]] := by
  simp only [State.doLeaseEnd, hx]
  rw [if_neg ?idle, State.stored_takes _ hn]
  case idle =>
    rintro ⟨ht, hbusy⟩
    have hstill := hb.resolve_left ht
    cases hc : chan? x.1 with
    | none => simp [hc] at hbusy
    | some c => simp [hc, hstill c hc] at hbusy

/-! ### What leaves the list of leases as it is

A lease's end stops programs, empties images, frees the gang slot and reports it; none of these touches the leases. -/

@[simp] theorem State.onLoop_leases (s : State) (c : ChanNo) (f : LoopSt → LoopSt) : (s.onLoop c f).leases = s.leases := rfl
@[simp] theorem State.onProt_leases (s : State) (c : ChanNo) (f : ProtSt → ProtSt) : (s.onProt c f).leases = s.leases := rfl
@[simp] theorem State.onMeas_leases (s : State) (c : ChanNo) (f : MeasSt → MeasSt) : (s.onMeas c f).leases = s.leases := rfl
@[simp] theorem State.onProg_leases (s : State) (c : ChanNo) (f : ProgSt → ProgSt) : (s.onProg c f).leases = s.leases := rfl
@[simp] theorem State.onEis_leases (s : State) (c : ChanNo) (f : EisSt → EisSt) : (s.onEis c f).leases = s.leases := rfl
@[simp] theorem State.onEst_leases (s : State) (c : ChanNo) (f : EstSt → EstSt) : (s.onEst c f).leases = s.leases := rfl
@[simp] theorem State.setFld_leases (s : State) (a lo len v : Nat) : (s.setFld a lo len v).leases = s.leases := rfl
@[simp] theorem State.chanEvt_leases (s : State) (kind : Nat) (c : ChanNo) (ps : List (List Byte)) : (s.chanEvt kind c ps).leases = s.leases := rfl
@[simp] theorem State.estEvt_leases (s : State) (c : ChanNo) (code : Nat) (v : Int) : (s.estEvt c code v).leases = s.leases := rfl
@[simp] theorem State.exciteOn_leases (s : State) (c : ChanNo) : (s.exciteOn c).leases = s.leases := rfl
@[simp] theorem State.withdraw_leases (s : State) (c : ChanNo) : (s.withdraw c).leases = s.leases := rfl
@[simp] theorem State.fullMark_leases (s : State) (c : ChanNo) : (s.fullMark c).leases = s.leases := rfl
@[simp] theorem State.stepEndRec_leases (s : State) (c : ChanNo) (slot data fcode : Nat) : (s.stepEndRec c slot data fcode).leases = s.leases := rfl
@[simp] theorem State.endProg_leases (s : State) (c : ChanNo) : (s.endProg c).leases = s.leases := rfl
@[simp] theorem State.discardChan_leases (s : State) (c : ChanNo) : (s.discardChan c).leases = s.leases := rfl
@[simp] theorem State.collectCnt_leases (s : State) (c : ChanNo) : (s.collectCnt c).leases = s.leases := rfl
@[simp] theorem State.leaseEvt_leases (s : State) (h : CmdHead) (code lead : Nat) (f : LeaseFields) :
    (s.leaseEvt h code lead f).leases = s.leases := rfl
@[simp] theorem State.leaseEndEvt_leases (s : State) (h : CmdHead) (code lead : Nat) (f : LeaseFields) (eused : Nat) :
    (s.leaseEndEvt h code lead f eused).leases = s.leases := rfl

/-- A fold leaves the leases where each of its steps does. -/
theorem foldl_leases {α : Type} {f : State → α → State} (hf : ∀ s a, (f s a).leases = s.leases) (l : List α) (s : State) :
    (l.foldl f s).leases = s.leases := by
  induction l generalizing s with
  | nil => rfl
  | cons a l ih => exact (ih (f s a)).trans (hf s a)

theorem State.forChans_leases (s : State) (l : List ChanNo) {f : ChanNo → State → State} (hf : ∀ c s, (f c s).leases = s.leases) :
    (s.forChans l f).leases = s.leases :=
  foldl_leases (fun s c => hf c s) l s

@[simp] theorem State.credit_leases (s : State) (t imp exp : Nat) : (s.credit t imp exp).leases = s.leases := by
  unfold State.credit
  split <;> rfl

@[simp] theorem State.collectMet_leases (s : State) (c : ChanNo) : (s.collectMet c).leases = s.leases := by
  simp [State.collectMet]

@[simp] theorem State.collect_leases (s : State) (c : ChanNo) : (s.collect c).leases = s.leases := by
  unfold State.collect
  rw [State.collectMet_leases, State.collectCnt_leases]
  split
  · exact foldl_leases (fun s _ => s.credit_leases _ _ _) _ _
  · exact foldl_leases (fun s _ => s.credit_leases _ _ _) _ _

@[simp] theorem State.emptyMark_leases (s : State) (c : ChanNo) : (s.emptyMark c).leases = s.leases := by
  simp only [State.emptyMark]
  repeat' split
  all_goals simp

@[simp] theorem State.markEnd_leases (s : State) (c : ChanNo) (slot : Nat) : (s.markEnd c slot).leases = s.leases := by
  simp only [State.markEnd]
  repeat' split
  all_goals simp

@[simp] theorem State.endStep_leases (s : State) (c : ChanNo) (slot data fcode : Nat) (keep : Bool) :
    (s.endStep c slot data fcode keep).leases = s.leases := by
  simp only [State.endStep]
  repeat' split
  all_goals simp

@[simp] theorem State.termFirst_leases (s : State) (c : ChanNo) : (s.termFirst c).leases = s.leases := by
  unfold State.termFirst
  split
  · simp
  · rfl

@[simp] theorem State.setSt_leases (s : State) (c : ChanNo) (new : ChState) (k : StopKind) (fault : Nat) :
    (s.setSt c new k fault).leases = s.leases := by
  simp only [State.setSt]
  repeat' split
  all_goals simp

@[simp] theorem State.finishStop_leases (s : State) (c : ChanNo) : (s.finishStop c).leases = s.leases := by
  simp only [State.finishStop, State.onLoop_leases]
  rw [State.forChans_leases _ _ (fun m s => by simp)]
  split <;> simp

@[simp] theorem State.rampStop_leases (s : State) (c : ChanNo) (sf : StopFor) (corr : Option Nat) :
    (s.rampStop c sf corr).leases = s.leases := by
  simp only [State.rampStop]
  split
  · exact s.termFirst_leases c
  · split
    · rw [State.forChans_leases _ _ (fun m s => s.setSt_leases m _ _ _), State.onLoop_leases, State.forChans_leases, State.termFirst_leases]
      exact fun _ _ => rfl
    · rw [State.finishStop_leases, State.onLoop_leases, State.forChans_leases, State.termFirst_leases]
      exact fun _ _ => rfl

@[simp] theorem State.cancelRetry_leases (s : State) (c : ChanNo) (corr : Option Nat) : (s.cancelRetry c corr).leases = s.leases := by
  simp only [State.cancelRetry]
  rw [State.forChans_leases _ _ (fun m s => by split <;> simp)]
  simp

@[simp] theorem State.revokeStop_leases (s : State) (h : CmdHead) (c : ChanNo) : (s.revokeStop h c).leases = s.leases := by
  simp only [State.revokeStop]
  split
  · exact s.rampStop_leases c _ _
  · split
    · rw [State.forChans_leases _ _ (fun m s => s.setSt_leases m _ _ _), State.endProg_leases]
    · split
      · rw [State.forChans_leases]
        exact fun _ _ => rfl
      · split
        · exact s.cancelRetry_leases c _
        · rfl

@[simp] theorem State.dropSlot_leases (s : State) (lead : Nat) (f : LeaseFields) : (s.dropSlot lead f).leases = s.leases := by
  simp only [State.dropSlot]
  split
  · exact foldl_leases (fun s i => by split <;> simp) _ _
  · rfl

@[simp] theorem State.leaseRegs_leases (s : State) (lead : Nat) (f : LeaseFields) : (s.leaseRegs lead f).leases = s.leases := by
  simp only [State.leaseRegs]
  repeat' split
  · rw [State.forChans_leases _ _ (fun c s => s.setFld_leases _ _ _ _), State.setReg_leases, State.forChans_leases]
    simp only [State.setReg_leases, implies_true]
  · rw [State.forChans_leases]
    simp only [State.setReg_leases, implies_true]
  · rw [State.forChans_leases]
    simp only [State.setReg_leases, implies_true]

/-- An end takes exactly the leases of its leader off the list (R446). -/
theorem State.endLease_leases (s : State) (h : CmdHead) (code : Nat) (x : Nat × Lease) :
    (s.endLease h code x).2.leases = s.leases.filter (fun y => y.1 != x.1) := by
  simp only [State.endLease, State.leaseEndEvt_leases, State.dropSlot_leases]
  rw [State.forChans_leases _ _ (fun c s => s.discardChan_leases c)]
  split <;> simp [State.forChans_leases]

/-- A new lease stands last on the list, under its leader (R444). -/
theorem State.newLease_leases (s : State) (h : CmdHead) (lead : Nat) (f : LeaseFields) :
    ∃ b, (s.newLease h lead f).leases = s.leases ++ [(lead, { f, base := b })] := by
  unfold State.newLease
  rw [State.leaseEvt_leases, State.forChans_leases, State.leaseRegs_leases]
  · exact ⟨_, rfl⟩
  · exact fun _ _ => rfl

/-- Settles O1: each command's effect is known where it is accepted, and the frame laws above give the lists of leases. -/
theorem sessionAndLeaseCommandsComplete : Obligations.SessionAndLeaseCommandsComplete := by
  refine ⟨⟨?identify, ?house, ?client, ?readAll, ?readLease, ?tenant, ?noTenant⟩, ?grant, ?modify, ?ends, ?gone, ?stands⟩
  case identify => exact fun s h ha => exec_answered rfl ha rfl
  case house => exact fun s h ha ht => exec_answered rfl ha (State.doStatus_house _ ht)
  case client => exact fun s h ha ht => exec_answered rfl ha (State.doStatus_client _ ht)
  case readAll => exact fun s h ha hc => exec_answered rfl ha (State.doLeaseRead_all _ hc)
  case readLease => exact fun s h l ha hc hl => exec_answered rfl ha (State.doLeaseRead_lease hc hl)
  case tenant => exact fun s h n x ha hx => exec_answered rfl ha (State.doTenantRead_some hx)
  case noTenant => exact fun s h n ha hx => exec_answered rfl ha (State.doTenantRead_none hx)
  case grant => exact fun s h l ha hf ht hb hn => exec_answered rfl ha (State.doGrant_granted hf ht hb hn)
  case modify => exact fun s h l ha hn => exec_answered rfl ha (State.doModify_modified hn)
  case ends => exact fun s h x ha hx hb hn => exec_answered rfl ha (State.doLeaseEnd_ended hx hb hn)
  case gone => exact State.endLease_leases
  case stands => exact State.newLease_leases

end Sys2Proof.Machine
end

section
/-! The block's step on its queue, and that every row of the table but one answers a next state (R27). -/

namespace Sys2Proof.Machine

open Sys2Proof

/-- Settles O44: a step takes the front command off the queue, or idles. -/
theorem stepRunsTheFrontCommand : Obligations.StepRunsTheFrontCommand :=
  ⟨fun _ _ _ h => step_cons h, fun _ h => step_nil h⟩

/-! ### Outcomes that are a next state -/

/-- The outcome is a next state: neither a fault nor a refusal. -/
def Answers (o : Out) : Prop := ∃ t, o = .next t

theorem Answers.next (t : State) : Answers (.next t) := ⟨t, rfl⟩

section
variable {p : Prop} [Decidable p] {a b : Out} {t u : State}

theorem Answers.ite (ha : Answers a) (hb : Answers b) : Answers (if p then a else b) := by
  split
  · exact ha
  · exact hb

/-- A guard ends the row in a state at once, or lets it go on. -/
theorem Answers.guard (hb : Answers b) : Answers (if p then .next t else b) := .ite (.next t) hb

theorem Answers.either : Answers (if p then .next t else .next u) := .ite (.next t) (.next u)

end

/-! ### A register write from inside the part -/

theorem exec_registerWrite_inside (s : State) {a : Nat} (w : Word32) (h : inFabric a = true) :
    exec (.registerWrite a w) s = .next (s.regWrite a w.toNat) :=
  if_pos h

theorem exec_registerWrite_outside (s : State) {a : Nat} (w : Word32) (h : inFabric a = false) :
    exec (.registerWrite a w) s = .fault .outsideFabric :=
  if_neg (by rw [h]; exact Bool.false_ne_true)

/-- Every other row answers. The rows are listed by the shape of their meaning: first those that only test conditions, answering on either
side of each; then those that look something up or update the state before they test, by their cases; the rest, the commands among them,
answer without a condition. -/
theorem exec_answers (c : Instr) (s : State) (h : ∀ a w, c ≠ .registerWrite a w) : Answers (exec c s) := by
  cases c with
  | registerWrite a w => exact absurd rfl (h a w)
  | calgenSwitch | unsupportedFrame | icmpEcho | addressResolution | bootDatagramDrop | softstartEnd | rampedStopEnd | tcoffExpiry |
      pulseLevelChange | dcirPhaseChange | dcirStepEnd | crackOffRetry | retryCountReset | slowOvl | contactLoss | temperatureUpdate | stgtSensor
      | busWindow | busStop | busSensor | swapAbandon | gatherCalibrationDone | eisToneStart | eisSettleEnd | takeoverRampEnd | hibernationEntry
      | estimatorRecord => exact .either
  | secondTick | periodicWakeExpiry | autotrim | keepLoadTime | freezeTimeout | ptpAnnounce | ptpDelayResp | ptpPdelayReq | announceTimeout |
      elapsedPairStore | mainsWindowEnd | mainsRefInvalid | ppsOut | ppsIn | wakeEvent | wakeIn | vkeepRise | vkeepLoss | button | shipExit |
      longPress | packShipLow => exact .either
  | inputLoss | inputPresent | pathReturn | packExhausted | vinCollapse | lehrRampDone | lehrDone | seqTimeout | powerDownStep | auxPgood |
      auxHiccup | auxSlowLimit | auxTwarn | auxTshut | railRange | packPresent | packRemoved | packNtc | preTimeout | fastmaxExpiry | hldKick |
      packTest | stoptest | warmResetRelease | sealTick | stagingGap | ledgerReclaim | nvmeTimeout | resilverDone => exact .either
  | fenceInRise | pipeInFall | heartbeatSend | resyncDone | handoverPrep | handoverReady | handoverTime | handoverState |
      handoverAck | rollCallPulse | rollPulseDetect | rollCallReply | rollCallMiss | rollCallSearchEnd | go | targetWrite | alert | idpoll |
      identityReadDone | wdgExpiry | wdgClock | coreException | lockstep | refclkLost | wdnOsc | nvmHkctlHken | ethLinkDown | fenceInFall |
      epochmarkSend | arbitrationRoundVoid | buttonRelease | commandedWarmReset | warmResetLedgerQuiesce => exact .either
  | localStatus | ocvRecord | crackOff | reverseCell | puntySwapStart | shadowDone | estimatorUpdate | xtalFail | vintPowerOn | chargerWatchdog |
      epochmark | ack | abort | trayStuck | buslockRetry | wdgKick | wdgKey => exact .guard .either
  | close | dmaDescriptorDone | outputSample | selfcalDone | busBalanceCycle | ptpDelayReqSend | searchStep | imageCheck | ledgerRecovery |
      heartbeat | laneDown | snapshot => exact .guard (.guard .either)
  | localWrite | bootEnd | mirror | arbitrationEnd => exact .guard (.guard (.guard .either))
  | contention => exact .guard (.guard (.guard (.guard .either)))
  | ident => exact .guard (.guard (.guard (.guard (.guard .either))))
  | ptpSync => exact .guard (.ite .either (.ite (.guard .either) .either))
  | holdmaxExpiry | mirrorSend => exact .ite .either (.next _)
  | wardenReadingRefresh => exact .guard (.ite (.guard .either) (.next _))
  | commitSwap | ledgerFetchBatch | blockQuiesceDone | blockResetReturn | deferredSelftestRun | selftestSlotEnd | tenantDatagram | tenantCredit |
      hello | confirm | sessidleExpiry | commandCreditSend | retxExpiry | commandClaim | commandCompletion | recordPlace | eventPlace |
      coalescedPlace | stormEnd | localRead | qput | qget | syncRelease | outrateChange | twinHoldExpiry | converterCalDone | returnShadowDone |
      converterHealthFail | eisWindowEnd | defmaxExpiry | ocvCorrection | meterStampSplit | backwardStep | pwroffEnd | longPressPathEnd |
      seqSlotDone | auxHiccupRestart | thermalPowerDown | qualEnd | searchHoldEnd | chargeMeanUpdate | nvmeError | pipeInRise | pipeSense | heartbeatMiss |
      resyncFail | reccopy | epochUnlock | handoverPipeRelease | handoverPipeTake | handoverTimeout | arbitrationStart | reacqExpiry |
      trayTransferStart | trayTransferEnd | arbLost | trayTimeout | alertReread | wdgHard | faultTaken | quietPeriodEnd | recoveryEnd =>
    dsimp only [exec, execCommitSwap, execLedgerFetchBatch, execBlockQuiesceDone, execBlockResetReturn, execDeferredSelftestRun,
      execSelftestSlotEnd, execTenantDatagram, execTenantCredit, execHello, execConfirm, execSessidleExpiry, execCommandCreditSend,
      execRetxExpiry, execCommandClaim, execCommandCompletion, execRecordPlace, execEventPlace, execCoalescedPlace, execStormEnd, execLocalRead,
      execQput, execQget, execSyncRelease, execOutrateChange, execTwinHoldExpiry, execConverterCalDone, execReturnShadowDone,
      execConverterHealthFail, execEisWindowEnd, execDefmaxExpiry, execOcvCorrection, execMeterStampSplit, execBackwardStep, execPwroffEnd,
      execLongPressPathEnd, execSeqSlotDone, execAuxHiccupRestart, execThermalPowerDown, execQualEnd, execSearchHoldEnd, execChargeMeanUpdate,
      execNvmeError, execPipeInRise, execPipeSense, execHeartbeatMiss, execResyncFail, execReccopy, execEpochUnlock, execHandoverPipeRelease,
      execHandoverPipeTake, execHandoverTimeout, execArbitrationStart, execReacqExpiry, execTrayTransferStart, execTrayTransferEnd, execArbLost,
      execTrayTimeout, execAlertReread, execWdgHard, execFaultTaken, execQuietPeriodEnd, execRecoveryEnd]
    repeat' split
    all_goals exact .next _
  | _ => exact .next _

/-- Settles O46: the write outside the map is the one row that does not answer. -/
theorem onlyOutsideFabricStops : Obligations.OnlyOutsideFabricStops := by
  intro c s
  by_cases h : ∃ a w, c = .registerWrite a w
  · obtain ⟨a, w, rfl⟩ := h
    cases hf : inFabric a with
    | true => exact .inl ⟨_, exec_registerWrite_inside s w hf⟩
    | false => exact .inr ⟨exec_registerWrite_outside s w hf, a, w, rfl, hf⟩
  · exact .inl (exec_answers c s (fun a w e => h ⟨a, w, e⟩))

end Sys2Proof.Machine
end

section
/-! What only a lessee may send (R46, R450): the lease check bars a client from every channel that it does not lease. -/

namespace Sys2Proof.Machine

open Sys2Proof

/-! ### The leases in the state that meets the checks -/

@[simp] theorem State.updateEst_leases (s : State) (c : ChanNo) (dt : Nat) : (s.updateEst c dt).leases = s.leases := rfl

@[simp] theorem State.wakeFor_leases (s : State) (h : CmdHead) : (s.wakeFor h).leases = s.leases := by
  simp only [State.wakeFor, State.wakeEst]
  repeat' split
  all_goals simp

/-- Claiming a command changes no lease. -/
theorem State.taken_lessee (s : State) (h : CmdHead) (n : Nat) : (s.taken h).lessee n = s.lessee n := by
  simp [State.lessee, State.leaseOf, State.taken, State.counted]

/-! ### The checks of R467 -/

/-- A command that a mode treats apart it admits, or refuses with WRONG_MODE or NOT_OWNER (R91, Table 12-18). -/
theorem CmdOp.modeSpecial_status {o : CmdOp} {m : Mode} {st : Status} (e : o.modeSpecial m = some (some st)) :
    st = .wrongMode ∨ st = .notOwner := by
  unfold CmdOp.modeSpecial at e
  repeat' split at e
  all_goals simp_all

/-- What the mode refuses it refuses with WRONG_MODE or NOT_OWNER (R90, R91, Table 03-4). -/
theorem modeStatus_status {m : Mode} {h : CmdHead} {o : CmdOp} {st : Status} (e : modeStatus m h o = some st) :
    st = .wrongMode ∨ st = .notOwner := by
  unfold modeStatus at e
  split at e
  case h_1 hr => exact CmdOp.modeSpecial_status (hr.trans (congrArg some e))
  case h_2 =>
    repeat' split at e
    all_goals simp_all

/-- The status of each check of R467; the mode gives its own. -/
theorem State.refusalOf_status {s : State} {h : CmdHead} {o : CmdOp} {st : Status} {i : Nat} (e : s.refusalOf h o = some (st, i)) :
    st = .unknownKind ∨ st = .badTrain ∨ st = .notPermitted ∨ st = .notLeased ∨ st = .badField ∨ modeStatus (s.modeOf h) h o = some st := by
  unfold State.refusalOf at e
  cases hm : modeStatus (s.modeOf h) h o
  all_goals cases hf : s.badField h o
  all_goals
    simp only [hm, hf] at e
    split_ifs at e
    all_goals
      cases e
      simp

/-- A refusal never carries OK or OK_DEFERRED. -/
theorem State.refusalOf_not_done {s : State} {h : CmdHead} {o : CmdOp} {st : Status} {i : Nat} (e : s.refusalOf h o = some (st, i)) :
    st.done = false := by
  obtain rfl | rfl | rfl | rfl | rfl | hm := State.refusalOf_status e
  case inr.inr.inr.inr.inr => obtain rfl | rfl := modeStatus_status hm <;> rfl
  all_goals rfl

/-- A client acts as lessee on its own channels alone. -/
theorem State.leasedBy_client {s : State} {h : CmdHead} {n : Nat} (ht : h.tenant ≠ 0) (hl : s.lessee n ≠ some h.tenant) :
    s.leasedBy h n = false := by
  unfold State.leasedBy
  cases e : s.lessee n with
  | none => simp [ht]
  | some x => simpa [e] using hl

/-- Check 4 bars a client from a lessee's command on a channel that it does not lease. -/
theorem State.notLeased_client {s : State} {h : CmdHead} {o : CmdOp} (ho : o.lesseeOnly = true) (hp : packCmd h o = false) (ht : h.tenant ≠ 0)
    (hl : 64 ≤ h.channel ∨ s.lessee h.channel ≠ some h.tenant) : s.notLeased h o = true := by
  have hbar : (o.lesseeOnly && !packCmd h o
      && (decide (64 ≤ h.channel) || !(s.leasedBy h h.channel || (o.houseAny && h.tenant == 0)))) = true := by
    rcases hl with hl | hl
    · simp [ho, hp, hl]
    · simp [ho, hp, State.leasedBy_client ht hl, ht]
  cases o with
  | signal | qRoute | leaseModify | leaseEnd | leaseRead => cases ho
  | _ => exact hbar

/-- What check 4 bars is refused, by it or by an earlier check. -/
theorem State.refusalOf_notLeased {s : State} {h : CmdHead} {o : CmdOp} (hn : s.notLeased h o = true) : ∃ r, s.refusalOf h o = some r := by
  unfold State.refusalOf
  cases modeStatus (s.modeOf h) h o
  all_goals
    simp only [hn, if_true]
    split_ifs
    all_goals exact ⟨_, rfl⟩

/-- Settles O52: a refusal has no effect, and the lease check bars the command at the latest. -/
theorem clientsReachOnlyTheirChannels : Obligations.ClientsReachOnlyTheirChannels := by
  intro c s h o hc ho hp ht hl hnow hb
  have hn : (s.taken h).notLeased (s.headOf h) o = true :=
    State.notLeased_client ho hp ht (hl.imp_right (fun hl => (s.taken_lessee h h.channel).symm ▸ hl))
  obtain ⟨⟨st, i⟩, hr⟩ := State.refusalOf_notLeased hn
  exact ⟨st, i, State.refusalOf_not_done hr, exec_refused hc hnow hb hr⟩

end Sys2Proof.Machine
end

section
/-! The commands that write calibration, firmware and registers (Table 12-17): what each answers. -/

namespace Sys2Proof.Machine

open Sys2Proof

/-- An accepted row that completes later leaves its effect alone. -/
theorem exec_later {c : Instr} {s t : State} {h : CmdHead} {o : CmdOp} (hc : commandOf c = some (h, o)) (ha : s.accepts h o = true)
    (e : (s.taken h).apply (s.headOf h) o = (t, { later := true })) : exec c s = .next (s.caused h t) := by
  rw [exec_command hc]
  exact State.submit_later ha e

/-- Pairs that change no coefficient are answered at once, with the generation in force (R224). -/
theorem State.doCalWrite_same {s : State} (h : CmdHead) {ps : List CalPair} (hs : ps.filter s.calChanges = []) :
    s.doCalWrite h ps = s.okWith [res32 [fN 16 1 s.calgenCtr]] := by
  simp [State.doCalWrite, hs]

/-- Pairs that change a coefficient are stored under a new generation and sent to the Gathers of their channels (R223, R224). -/
theorem State.doCalWrite_sends {s : State} (h : CmdHead) {ps : List CalPair} (hn : s.takesNvm 2 = true) (hs : ps.filter s.calChanges ≠ []) :
    s.doCalWrite h ps =
      (let ch := ps.filter s.calChanges
      let v := s.copied 2
      let gen := nextGen v.calgenCtr
      let cs := allChans.filter (fun c => ch.any (fun p => p.channel == c.val))
      let u : State := { v with calgenCtr := gen, nvm := { v.nvm with calBy := v.nvm.calBy ++ [(h, gen, cs.map Fin.val)] } }
      u.forChans cs (fun c u => u.calSend c gen h.corr (ch.filter (fun p => p.channel == c.val)))).later := by
  unfold State.doCalWrite
  exact (if_neg (by simpa using hs)).trans (State.stored_takes _ hn)

/-- A slot whose hash and signatures verify becomes the primary one (R647, R648). -/
theorem State.doFwFinish_verified {s : State} {ok : Bool} (hi : s.imageOk (s.flash.slot s.flash.other) ok = true) :
    s.doFwFinish ok = ({ s with flash := { s.flash with primary := s.flash.other, dseq := s.flash.dseq + 1 } }).ok :=
  if_pos hi

theorem State.doRegRead_words {s : State} {a n : Nat} (hb : (List.range n).any (fun i => regBarred false (a + 4 * i)) = false) :
    s.doRegRead a n = (s.regWords a n).2.okWith [(s.regWords a n).1.flatten] :=
  if_neg (by rw [hb]; exact Bool.false_ne_true)

/-- The state that holds the NVM copy of the first of the registers that has one (R683). -/
def State.regsCopied (s : State) (a n : Nat) : State :=
  match (List.range n).findSome? (fun i => nvmHolds (a + 4 * i)) with
  | some k => s.copied k
  | none => s

theorem State.doRegWrite_words {s : State} {a : Nat} {ws : List Nat}
    (hb : (List.range ws.length).any (fun i => regBarred true (a + 4 * i)) = false)
    (hn : ∀ k, (List.range ws.length).findSome? (fun i => nvmHolds (a + 4 * i)) = some k → s.takesNvm k = true) :
    s.doRegWrite a ws =
      ((s.regsCopied a ws.length).writeWords a ws).2.okWith [((s.regsCopied a ws.length).writeWords a ws).1.flatten] := by
  unfold State.doRegWrite State.regsCopied
  rw [if_neg (by rw [hb]; exact Bool.false_ne_true)]
  cases hk : (List.range ws.length).findSome? (fun i => nvmHolds (a + 4 * i)) with
  | some k => exact State.stored_takes _ (hn k hk)
  | none => rfl

/-- Settles O12: each command's effect is known where it is accepted. -/
theorem writeCommandsComplete : Obligations.WriteCommandsComplete := by
  refine ⟨?same, ?sends, ?data, ?finish, ?abandon, ?read, ?write, ?inside, ?outside⟩
  case same => exact fun s h ps ha hs => exec_answered rfl ha (State.doCalWrite_same _ hs)
  case sends => exact fun s h ps ha hn hs => exec_later rfl ha (State.doCalWrite_sends _ hn hs)
  case data => exact fun s h ofs data ha => exec_answered rfl ha rfl
  case finish => exact fun s h ok ha hi => exec_answered rfl ha (State.doFwFinish_verified hi)
  case abandon => exact fun s h ha => exec_answered rfl ha rfl
  case read => exact fun s h a n ha hb => exec_answered rfl ha (State.doRegRead_words hb)
  case write => exact fun s h a data ha hb hn => exec_answered rfl ha (State.doRegWrite_words hb hn)
  case inside => exact fun s a w h => exec_registerWrite_inside s w h
  case outside => exact fun s a w h => exec_registerWrite_outside s w h

end Sys2Proof.Machine
end

section
/-! Where completions, records, events and coalesced entries are placed: what each of the four rows leaves. -/

namespace Sys2Proof.Machine

open Sys2Proof

/-- The completion that is next in a queue enters its ring where its train finds room (R30, R395, R396). -/
theorem exec_commandCompletion_placed {s : State} {q : Nat} {r : Reply} {y : Queue} (hs : s.stewardOn = true)
    (hr : s.inflight.find? (s.dueIn q) = some r) (hq : s.queue? q = some y) (hl : r.train.length ≤ y.free + r.head.resv) :
    exec (.commandCompletion q) s = .next ((s.writeReply r).onQueue q (fun y => y.takeReply r)) := by
  change execCommandCompletion q s = _
  simp only [execCommandCompletion, hr, hq]
  exact if_pos ⟨hs, hl⟩

/-- The state in which a record that has left the FIFO meets the rings: staged for the ledger and copied to the partner (R398, R531). -/
def State.recStaged (s : State) (r : RecIn) (periodic : Bool) : State :=
  (if s.stages r then s.stage r.tenant r.train periodic else s).copyRec r

/-- A record that is not periodic counts for its tenant and enters every queue that takes it (R399, R400). -/
theorem exec_recordPlace_single {s : State} {r : RecIn} {l : List RecIn} (ht : s.takeRec [] s.recFifo = some (r, l)) (hp : r.periodic = false) :
    exec .recordPlace s =
      (let b := ({ s with recFifo := l } : State).recStaged r false
      .next (if b.twinMute r = true then b
        else (b.recQueues r).foldl (fun s q => s.recInto q r.train false r.time) (b.countOther (destOf r.tenant)))) := by
  change execRecordPlace s = _
  simp only [execRecordPlace, ht, hp]
  exact (apply_ite Host.Outcome.next _ _ _).symm

/-- A periodic record in the rings: in those that take it where its decimation level lets it through, in none otherwise (R459, R460). -/
def State.placePeriodic (s : State) (r : RecIn) : State :=
  match (s.decimate r).2 with
  | some es => (s.recQueues r).foldl (fun s q => s.recInto q es true r.time) (s.decimate r).1
  | none => (s.decimate r).1

theorem exec_recordPlace_periodic {s : State} {r : RecIn} {l : List RecIn} (ht : s.takeRec [] s.recFifo = some (r, l)) (hp : r.periodic = true) :
    exec .recordPlace s =
      (let b := ({ s with recFifo := l } : State).recStaged r true
      .next (if b.twinMute r = true then b else b.placePeriodic r)) := by
  change execRecordPlace s = _
  simp only [execRecordPlace, ht, hp, if_true, apply_ite Host.Outcome.next]
  refine congrArg (ite _ _) ?_
  simp only [State.placePeriodic, State.recStaged]
  generalize State.decimate _ r = d
  obtain ⟨u, _ | es⟩ := d
  · rfl
  · rfl

/-- The oldest event enters each queue that takes it (R456, R472). -/
theorem exec_eventPlace_oldest {s : State} {e : EvtIn} {l : List EvtIn} (he : s.evtFifo = e :: l) :
    exec .eventPlace s =
      (let t : State := { s with evtFifo := l }
      .next ((t.evtQueues e).foldl (fun s q => s.placeEvt e.dest q e.train e.kind e.channel) t)) := by
  change execEventPlace s = _
  simp only [execEventPlace, he]

/-- A coalesced entry whose class has a token and whose queue has room is placed with LOSS and counted for the storm (R455, R457). -/
theorem exec_coalescedPlace_placed {s : State} {n cls : Nat} {x : Tenant} {c : Coal} {q : Queue} (hx : s.tenant? n = some x)
    (hc : oldestOf x.coal cls = some c) (hq : (s.onQueue c.queue Queue.settle).queue? c.queue = some q)
    (ht : x.hasToken cls s.now = true) (hl : c.entries.length ≤ q.free) :
    exec (.coalescedPlace n cls) s =
      (let a := (s.onQueue c.queue Queue.settle).onTenant n (fun x => ({ x with coal := x.coal.erase c } : Tenant).takeToken cls s.now)
      let b := a.onQueue c.queue (fun q => { q.push (markLoss c.entries) with losspend := false })
      .next ((b.stormCount n cls (fun m => { m with placed := m.placed + 1 })).stormStir n)) := by
  change execCoalescedPlace n cls s = _
  simp only [execCoalescedPlace, hx, hc, hq]
  exact if_pos (by simpa [ht] using hl)

/-- Settles O31: the four rows by what each leaves, a record by whether it is periodic. -/
theorem entriesArePlaced : Obligations.EntriesArePlaced := by
  refine ⟨?completion, ?single, ?periodic, ?event, ?coalesced⟩
  case completion => exact fun s q r y hs hr hq hl => exec_commandCompletion_placed hs hr hq hl
  case single => exact fun s r l ht hp => exec_recordPlace_single ht hp
  case periodic => exact fun s r l ht hp => exec_recordPlace_periodic ht hp
  case event => exact fun s e l he => exec_eventPlace_oldest he
  case coalesced => exact fun s n cls x c q hx hc hq ht hl => exec_coalescedPlace_placed hx hc hq ht hl

end Sys2Proof.Machine
end

section
/-! The interlock with the partner, heartbeats and lanes, and the arbitration (chapter 14): what each row leaves where its conditions hold. -/

namespace Sys2Proof.Machine

open Sys2Proof

@[simp] theorem State.onPair_pr (s : State) (f : Pair → Pair) : (s.onPair f).pr = f s.pr := rfl

/-! ### The interlock balls (R68, R69, R544, R545) -/

theorem exec_pipeInRise_eq (s : State) :
    exec .pipeInRise s =
      (let t := (s.onBoard (fun b => { b with pipeIn := true, barred := true, pair := { b.pair with pipeFallT := none } })).settle
      .next (if t.mode.mode = .boot ∧ t.pr.arb ≠ .none then (t.onPair (fun p => { p with arb := .none, roll := true })).bootTwin else t)) := by
  change execPipeInRise s = _
  simp only [execPipeInRise, apply_ite Host.Outcome.next]

theorem exec_fenceInRise_eq (s : State) :
    exec .fenceInRise s =
      (let t := (s.onBoard (fun b => { b with fenceIn := true, barred := true })).settle
      .next (if s.board.owner = true ∧ t.optT = true then (t.fault 0x0A 0x09).pairEvt 6 else t)) :=
  (apply_ite Host.Outcome.next _ _ _).symm

theorem exec_pipeInFall_high {s : State} (h : s.board.pipeIn = true) : exec .pipeInFall s =
    .next (s.fatalFirst.onBoard (fun b => { b with pipeIn := false, pair := { b.pair with pipeFallT := some s.now } })).tryWin.tryTakeover :=
  if_neg (by simp [h])

theorem exec_fenceInFall_high {s : State} (h : s.board.fenceIn = true) : exec .fenceInFall s =
    .next (s.fatalFirst.onBoard (fun b => { b with fenceIn := false })).tryWin.tryTakeover :=
  if_neg (by simp [h])

/-- A released Pipe that no handover explains is a fault of a part in TWIN that still hears its partner (R544). -/
theorem exec_pipeSense_unexpected {s : State} {t : Nat} (ht : s.pr.pipeFallT = some t) (hm : s.mode.mode = .twin) (hp : s.board.pipeIn = false)
    (hb : s.pr.hbMissed = false) (hd : ∀ d, (s.passTo (t + 10000)).pr.ho ≠ .due d) :
    exec .pipeSense s = .next ((s.passTo (t + 10000)).fault 0x0A 0x08) := by
  change execPipeSense s = _
  simp only [execPipeSense, ht]
  rw [if_neg (by simp [hm, hp, hb])]
  cases hho : (s.passTo (t + 10000)).pr.ho with
  | due d => exact absurd hho (hd d)
  | _ => exact if_neg Bool.false_ne_true

/-- Two owners of one ball both withdraw and arbitrate (R546). -/
theorem exec_contention_first {s : State} (ho : s.optT = true)
    (hb : (s.board.pipeOut && s.board.pipeIn || s.board.fenceOut && s.board.fenceIn) = true) (hd : s.pr.deadlock = false)
    (hc : s.pr.contend = false) :
    exec .contention s =
      (let t := s.onBoard (fun b => { b with
        owner := false, pair := { b.pair with contend := true, wasOwner := s.board.owner, won := false, rounds := 0, arb := .idle, ho := .none } })
      .next ((t.setBit 0x330028 3).fault 0x0A 0x0A).settle) :=
  (if_neg (by simp [ho, hb, hd])).trans (if_pos (by simp [hc]))

/-! ### Heartbeats (R520, R523) -/

theorem exec_heartbeatSend_eq {s : State} (ho : s.optT = true) (hp : s.pllOn = true) (hm : s.mode.mode ≠ .lockout) :
    exec .heartbeatSend s =
      (let a := match s.pr.hbSentT with | some t => s.passTo (t + 8000) | none => s
      let t := a.onPair (fun p => { p with hbSeq := (s.pr.hbSeq + 1) % 2 ^ 32, hbSentT := some a.now })
      .next ((maskList 2 t.pr.lanes).foldl (fun u _ => u.sendZl (.heartbeat s.pr.hbSeq s.role s.pr.sync s.pr.mseq)) t)) :=
  if_neg (by simp [ho, hp, hm])

/-- A heartbeat frame that is not taken ends the lane's run of valid ones. -/
theorem exec_heartbeat_dropped {s u : State} {f : FrameHead} (k : Fin 2) (n r y m : Nat) (ho : s.optT = true) (hp : s.pllOn = true)
    (hf : s.takeFrame f = (false, u)) :
    exec (.heartbeat f k n r y m) s =
      .next (u.onPair (fun p => if k.val = 0 then { p with run0 := 0 } else { p with run1 := 0 })) := by
  change execHeartbeat f k n r y m s = _
  unfold execHeartbeat
  rw [if_neg (by simp [ho, hp]), hf]
  rfl

/-- Of the state only registers, waiting events and the board have changed. -/
def BoardOnly (s t : State) : Prop := t = { s with regs := t.regs, evtFifo := t.evtFifo, board := t.board }

section
variable {s t u : State}

theorem BoardOnly.refl (s : State) : BoardOnly s s := rfl

theorem BoardOnly.trans (h : BoardOnly s t) (k : BoardOnly t u) : BoardOnly s u := by
  unfold BoardOnly at *
  rw [k, h]

theorem BoardOnly.ite {p : Prop} [Decidable p] (h : BoardOnly s t) (k : BoardOnly s u) : BoardOnly s (if p then t else u) := by
  split
  · exact h
  · exact k

/-- An update that is made under a condition. -/
theorem BoardOnly.optional {p : Prop} [Decidable p] (h : BoardOnly s t) (k : BoardOnly t u) : BoardOnly s (if p then u else t) :=
  .ite (h.trans k) h

/-- The same for a row's last update. -/
theorem BoardOnly.answer {p : Prop} [Decidable p] (h : BoardOnly s t) (k : BoardOnly t u) :
    ∃ v, (if p then Host.Outcome.next u else .next t : Out) = .next v ∧ BoardOnly s v :=
  ⟨_, (apply_ite Host.Outcome.next _ _ _).symm, h.optional k⟩

theorem BoardOnly.frame (h : BoardOnly s t) : t.mode = s.mode ∧ t.queues = s.queues ∧ t.leases = s.leases ∧ t.cru = s.cru := by
  rw [h]
  exact ⟨rfl, rfl, rfl, rfl⟩

theorem State.onBoard_boardOnly (s : State) (f : Board → Board) : BoardOnly s (s.onBoard f) := rfl
theorem State.onPair_boardOnly (s : State) (f : Pair → Pair) : BoardOnly s (s.onPair f) := rfl
theorem State.sendZl_boardOnly (s : State) (f : ZlFrame) : BoardOnly s (s.sendZl f) := rfl
theorem State.setBit_boardOnly (s : State) (a i : Nat) : BoardOnly s (s.setBit a i) := rfl
theorem State.bump_boardOnly (s : State) (a lo len : Nat) : BoardOnly s (s.bump a lo len) := rfl
theorem State.pairEvt_boardOnly (s : State) (code : Nat) : BoardOnly s (s.pairEvt code) := rfl
theorem State.inOrder_boardOnly (s : State) (ftype fseq : Nat) : BoardOnly s (s.inOrder ftype fseq).2 := rfl

theorem State.takeFrame_boardOnly (s : State) (f : FrameHead) : BoardOnly s (s.takeFrame f).2 := by
  unfold State.takeFrame
  split
  · exact (s.setBit_boardOnly _ _).trans (State.bump_boardOnly _ _ _ _)
  · split
    · exact (s.setBit_boardOnly _ _).trans (State.bump_boardOnly _ _ _ _)
    · exact .refl s

theorem State.startResync_boardOnly (s : State) : BoardOnly s s.startResync :=
  (BoardOnly.refl s).optional
    (((s.sendZl_boardOnly _).trans (State.onPair_boardOnly _ _)).trans (State.bump_boardOnly _ _ _ _))

theorem State.linkCame_boardOnly (s : State) (inc : Nat) : BoardOnly s (s.linkCame inc) :=
  (s.sendZl_boardOnly _).optional
    (((State.onPair_boardOnly _ _).trans (State.pairEvt_boardOnly _ _)).trans (State.startResync_boardOnly _))

/-- A heartbeat frame that is taken touches registers, events and the board alone. -/
theorem exec_heartbeat_taken {f : FrameHead} (k : Fin 2) (n r y m : Nat) (ho : s.optT = true) (hp : s.pllOn = true)
    (hf : s.takeFrame f = (true, u)) : ∃ t, exec (.heartbeat f k n r y m) s = .next t ∧ BoardOnly s t := by
  change ∃ t, execHeartbeat f k n r y m s = .next t ∧ BoardOnly s t
  unfold execHeartbeat
  rw [if_neg (by simp [ho, hp]), hf]
  have hu : BoardOnly s u := by simpa [hf] using s.takeFrame_boardOnly f
  refine BoardOnly.answer ?_ (State.onBoard_boardOnly _ _)
  refine .optional ?_ (State.startResync_boardOnly _)
  refine .trans (.trans ?_ (State.inOrder_boardOnly _ _ _)) (State.onPair_boardOnly _ _)
  refine .optional ?_ (State.linkCame_boardOnly _ _)
  exact hu.ite (.ite ((hu.trans (u.onPair_boardOnly _)).trans (State.onPair_boardOnly _ _)) (hu.trans (u.onPair_boardOnly _)))

end

/-- The first heartbeat that is missed counts, starts REACQ's wait where the partner is known, and may lead to a takeover (R523, R526). -/
theorem exec_heartbeatMiss_first {s : State} {t : Nat} (hf : s.noFatal = true) (ht : s.pr.hbLast = some t) (hb : s.pr.hbMissed = false) :
    exec .heartbeatMiss s =
      (let u := (s.passTo (t + 24000)).bump 0x330018 0 16
      .next (u.onPair (fun p => { p with hbMissed := true, reacqT := if p.known then some u.now else none })).tryTakeover) := by
  change execHeartbeatMiss s = _
  simp only [execHeartbeatMiss, State.fatalFirst_idle s hf, ht]
  exact if_neg (by simp [hb])

/-! ### Lanes (R527, R550) -/

/-- A lane that was up goes down; with the last one the link does, and a part that is not the owner falls out of sync. -/
theorem exec_laneDown_up {s : State} {k : Fin 2} (h : s.pr.lanes.testBit k.val = true) :
    exec (.laneDown k) s =
      (let t := s.onPair (fun p => { p with
        lanes := setBits p.lanes k.val 1 0, run0 := if k.val = 0 then 0 else p.run0, run1 := if k.val = 1 then 0 else p.run1 })
      .next (if t.board.linkUp then t.fault 0x0A 0x05
        else
          let u := (t.fault 0x0A 0x04).pairEvt 7
          if u.board.owner then u.onPair (fun p => { p with sync := 0, resyncT := none }) else u.outOfSync)) := by
  change execLaneDown k s = _
  unfold execLaneDown
  rw [if_neg (by simp [h])]
  simp only [apply_ite Host.Outcome.next]

/-! ### Arbitration and the loss of the partner (R85, R535, R546, R547) -/

theorem exec_arbitrationStart_idle {s : State} (hn : s.pr.noForm = false) (ha : s.pr.arb = .idle) :
    exec .arbitrationStart s = .next (s.onPair (fun p => { p with arb := .round, roll := false })) := by
  change execArbitrationStart s = _
  simp [execArbitrationStart, hn, ha]

/-- Outside a contention, a round in BOOT makes its winner the owner; the loser waits for the next. -/
theorem exec_arbitrationEnd_boot {s : State} (l : List Bool) (hn : s.pr.noForm = false) (ha : s.pr.arb = .round) (hc : s.pr.contend = false)
    (hm : s.mode.mode = .boot) :
    exec (.arbitrationEnd l) s =
      (let t := s.onPair (fun p => { p with arb := .none, roll := true })
      .next (if arbWon s.arbBits l then t.bootOwner else t.onPair (fun p => { p with arb := .lost t.now }))) := by
  change execArbitrationEnd l s = _
  unfold execArbitrationEnd
  rw [if_neg (by simp [hn, ha])]
  exact (if_neg (by simp [hc])).trans ((if_neg (not_not_intro hm)).trans (apply_ite Host.Outcome.next _ _ _).symm)

theorem exec_arbitrationRoundVoid_pending {s : State} (h : s.pr.arb ≠ .none) :
    exec .arbitrationRoundVoid s = .next (s.onPair (fun p => { p with arb := .idle, roll := true })) :=
  if_neg h

/-- A partner that does not come back within REACQ is lost (R526). -/
theorem exec_reacqExpiry_waiting {s : State} {t : Nat} (h : s.pr.reacqT = some t) :
    exec .reacqExpiry s =
      (let u := (s.passTo (t + s.fld 0x330000 8 8 * 100000000)).onPair (fun p => { p with reacqT := none, lostSeen := true })
      .next ((u.pairEvt 3).fault 0x0A 0x0C)) := by
  change execReacqExpiry s = _
  simp only [execReacqExpiry, h]

/-- Settles O41: each row under its conditions; a heartbeat that is taken by its frame, `BoardOnly`. -/
theorem interlockAndArbitration : Obligations.InterlockAndArbitration := by
  refine ⟨?pipeRise, ?fenceRise, ?pipeFall, ?fenceFall, ?sense, ?contention, ?send, ?dropped, ?taken, ?miss, ?lane, ?start, ?arbEnd, ?void, ?reacq⟩
  case pipeRise => exact exec_pipeInRise_eq
  case fenceRise => exact exec_fenceInRise_eq
  case pipeFall => exact fun s h => exec_pipeInFall_high h
  case fenceFall => exact fun s h => exec_fenceInFall_high h
  case sense => exact fun s t ht hm hp hb hd => exec_pipeSense_unexpected ht hm hp hb hd
  case contention => exact fun s ho hb hd hc => exec_contention_first ho hb hd hc
  case send => exact fun s ho hp hm => exec_heartbeatSend_eq ho hp hm
  case dropped => exact fun s f k n r y m ho hp hf => exec_heartbeat_dropped k n r y m ho hp (Prod.ext hf rfl)
  case taken =>
    intro s f k n r y m ho hp hf
    obtain ⟨t, e, ht⟩ := exec_heartbeat_taken k n r y m ho hp (Prod.ext hf rfl : s.takeFrame f = (true, (s.takeFrame f).2))
    exact ⟨t, e, ht.frame⟩
  case miss => exact fun s t hf ht hb => exec_heartbeatMiss_first hf ht hb
  case lane => exact fun s k h => exec_laneDown_up h
  case start => exact fun s hn ha => exec_arbitrationStart_idle hn ha
  case arbEnd => exact fun s l hn ha hc hm => exec_arbitrationEnd_boot l hn ha hc hm
  case void => exact fun s h => exec_arbitrationRoundVoid_pending h
  case reacq => exact fun s t h => exec_reacqExpiry_waiting h

end Sys2Proof.Machine
end

section
/-! The service commands and checks (Table 12-18, R91 to R94): what each answers. -/

namespace Sys2Proof.Machine

open Sys2Proof

/-- An accepted row whose effect and answer are known: the next state. -/
theorem exec_completed {c : Instr} {s t : State} {h : CmdHead} {o : CmdOp} {a : Ans} (hc : commandOf c = some (h, o))
    (ha : s.accepts h o = true) (e : (s.taken h).apply (s.headOf h) o = (t, a)) :
    exec c s = .next ((s.caused h t).complete (s.headOf h) o a) := by
  rw [exec_command hc, State.submit_accepted ha, e]

theorem onGatOf_some {s : State} {n : Nat} {g : GatherNo} {f : GatherNo → Done} (hg : gather? n = some g) : onGatOf s n f = f g := by
  simp only [onGatOf, hg]

/-! ### Mode changes of the house (R91, R93, R644) -/

theorem State.doEnter_entered {s : State} (hx : s.execMask = 0) (hm : s.mode.mode ≠ .service) (hp : s.holdsPipe = true) :
    s.doEnter = ((s.enterMode .service 0x0D 0).settle).ok :=
  (if_neg (by simp [hx, hm])).trans (if_neg (by simp [hp]))

theorem State.doExit_left {s : State} (hx : s.execMask = 0) :
    s.doExit = ((s.enterMode (if s.anyFence then .degraded else .ready) 0x0E 0).settle).ok :=
  if_neg (not_not_intro hx)

/-! ### Self-tests (R92) -/

/-- A test starts at once in a Gather that executes nothing and whose slot is free, in a mode that lets it. -/
theorem State.doSelftest_starts {s : State} {h : CmdHead} {g : GatherNo} {k : Nat}
    (hm : s.mode.mode = .ready ∨ s.mode.mode = .service ∨ s.mode.mode = .degraded) (hx : s.gatExec g = false) (hs : (s.gat g).slot = none) :
    s.doSelftest h g k = (s.onGat g (fun y => { y with slot := some k, slotBy := some h, slotDef := false })).later :=
  if_pos (by simpa [hx, hs, or_assoc] using hm)

/-- Any other test waits for its Gather. -/
theorem State.doSelftest_deferred {s : State} {h : CmdHead} {g : GatherNo} {k : Nat}
    (hd : (s.mode.mode ≠ .ready ∧ s.mode.mode ≠ .service ∧ s.mode.mode ≠ .degraded) ∨ s.gatExec g = true ∨ (s.gat g).slot ≠ none) :
    s.doSelftest h g k =
      ((s.onGat g (fun y => { y with deferred := y.deferred ++ [(h, k)] })).refreshMode, { status := .okDeferred }) := by
  refine if_neg ?_
  rcases hd with ⟨hr, hs, hg⟩ | hx | hs
  · simp [hr, hs, hg]
  · simp [hx]
  · simp [hs]

/-! ### Reference checks, retests and times (R229, R241, R439) -/

theorem State.doRefcheck_passes {s : State} {g : GatherNo} {ppm : Nat} (hp : ppm ≤ 200) :
    s.doRefcheck g ppm =
      (((s.onGat g (fun y => { y with refok := true, refHold := false })).syncHold g).refreshMode).okWith (passRes false) :=
  if_pos hp

theorem State.doRefcheck_fails {s : State} {g : GatherNo} {ppm : Nat} (hp : 200 < ppm) :
    s.doRefcheck g ppm =
      ((((s.onGat g (fun y => { y with refok := false, refHold := true })).merr g 2).fault (uGat g) 5).syncHold g).okWith (passRes true) :=
  if_neg (Nat.not_le.mpr hp)

theorem State.doRetest_passes {s : State} {g : GatherNo} {conv : Nat} {d : List (Int × Int)} {noise : List Nat}
    (hc : s.calOk g conv d noise = true) (hn : s.takesNvm 2 = true) :
    s.doRetest g conv d noise = ((((s.copied 2).unretire g conv d).syncHold g).trySwap g).okWith (passRes false) :=
  (if_pos hc).trans (State.stored_takes _ hn)

theorem State.doRetest_fails {s : State} {g : GatherNo} {conv : Nat} {d : List (Int × Int)} {noise : List Nat}
    (hc : s.calOk g conv d noise = false) : s.doRetest g conv d noise = s.okWith (passRes true) :=
  if_neg (by simp [hc])

/-- The times with those that the command gives; 0 keeps the present one (R439). -/
def State.withTimes (s : State) (idle storm : Nat) : State :=
  { s with sessidle := if idle = 0 then s.sessidle else idle, stormquiet := if storm = 0 then s.stormquiet else storm }

/-- Only a command that sets a time writes NVM. -/
theorem State.doSetTimes_set {s : State} {idle storm : Nat} (hn : idle = 0 ∧ storm = 0 ∨ s.takesNvm 1 = true) :
    s.doSetTimes idle storm =
      (let u := (if idle = 0 ∧ storm = 0 then s else s.copied 1).withTimes idle storm
      u.okWith [res32 [fN 16 2 u.sessidle, fN 18 2 u.stormquiet]]) := by
  by_cases h0 : idle = 0 ∧ storm = 0
  · simp only [if_pos h0]
    exact if_pos h0
  · simp only [if_neg h0]
    exact (if_neg h0).trans (State.stored_takes _ (hn.resolve_left h0))

/-- Settles O11: each command's effect is known where it is accepted, for a Gather's command on the Gather that it names. -/
theorem serviceCommandsAndChecksComplete : Obligations.ServiceCommandsAndChecksComplete := by
  refine ⟨⟨?enter, ?exit, ?clear, ?ack, ?starts, ?deferred⟩, ?refPass, ?refFail, ?retestPass, ?retestFail, ?stat, ?scrub, ?times⟩
  case enter => exact fun s h ha hx hm hp => exec_answered rfl ha (State.doEnter_entered hx hm hp)
  case exit => exact fun s h ha hx => exec_answered rfl ha (State.doExit_left hx)
  case clear => exact fun s h ha => exec_answered rfl ha rfl
  case ack => exact fun s h code ha => exec_answered rfl ha rfl
  case starts => exact fun s h n k g ha hg hm hx hs => exec_later rfl ha ((onGatOf_some hg).trans (State.doSelftest_starts hm hx hs))
  case deferred => exact fun s h n k g ha hg hd => exec_completed rfl ha ((onGatOf_some hg).trans (State.doSelftest_deferred hd))
  case refPass => exact fun s h n ppm g ha hg hp => exec_answered rfl ha ((onGatOf_some hg).trans (State.doRefcheck_passes hp))
  case refFail => exact fun s h n ppm g ha hg hp => exec_answered rfl ha ((onGatOf_some hg).trans (State.doRefcheck_fails hp))
  case retestPass => exact fun s h n conv g p ha hg hc hn => exec_answered rfl ha ((onGatOf_some hg).trans (State.doRetest_passes hc hn))
  case retestFail => exact fun s h n conv g p ha hg hc => exec_answered rfl ha ((onGatOf_some hg).trans (State.doRetest_fails hc))
  case stat => exact fun s h ha => exec_answered rfl ha rfl
  case scrub => exact fun s h ha => exec_answered rfl ha rfl
  case times => exact fun s h idle storm ha hn => exec_answered rfl ha (State.doSetTimes_set hn)

end Sys2Proof.Machine
end

section
/-! Wakes, the button, SHIP, and the supplies of KEEP and of the part (chapters 15, 16 and 18): what each row leaves where its conditions hold. -/

namespace Sys2Proof.Machine

open Sys2Proof

section
variable {s : State}

/-! ### Wakes (R563, R564) -/

/-- In KEEP a source wakes the part when it is enabled; the alarms, the button and the first supply always are. -/
theorem exec_wakeEvent_enabled {src : Fin 7} (hm : s.mode.mode = .keep) (h2 : src.val = 2 → s.bit 0x050030 31 = true)
    (h3 : src.val = 3 → s.bit 0x050034 0 = true) (h5 : src.val = 5 → s.bit 0x070010 26 = true) :
    exec (.wakeEvent src) s = .next (s.latchWake src.val).tryWake := by
  refine if_pos ?_
  rw [Bool.and_eq_true]
  refine ⟨decide_eq_true hm, ?_⟩
  split
  next h => exact h2 h
  next h => exact h3 h
  next h => exact h5 h
  next => rfl

theorem exec_wakeIn_enabled (hm : s.mode.mode = .keep) (he : s.bit 0x050034 0 = true) : exec .wakeIn s = .next (s.latchWake 3).tryWake :=
  if_pos (by simp [hm, he])

theorem exec_pwroffEnd_due {t : Nat} (ht : s.board.time.pwroffT = some t) (hd : t + s.fld 0x050034 8 8 * 10000000 ≤ s.now) :
    exec .pwroffEnd s = .next (s.onTime (fun t => { t with pwroffT := none })).tryWake := by
  change execPwroffEnd s = _
  simp only [execPwroffEnd, ht, if_pos hd]

/-! ### Button and SHIP (R80, R612 to R614) -/

theorem exec_button_keep (hm : s.mode.mode = .keep) : exec .button s = .next (s.latchWake 4).tryWake := if_pos hm

theorem exec_buttonRelease_short {ms : Nat} (hl : 50 ≤ ms) (hu : ms < 8000) (hm : modeWarden s.mode.mode = true) :
    exec (.buttonRelease ms) s = .next (s.powerEvt 9 ms) :=
  if_pos ⟨hl, hu, hm⟩

theorem exec_shipExit_ship (hm : s.mode.mode = .ship) :
    exec .shipExit s =
      (let t : State := { s with mode := { s.mode with mode := .keep, prev := .ship, wakecause := 2, history := .keep :: s.mode.history } }
      .next ((t.onPwr (fun p => { p with path := if p.input then .input else .parked })).latchWake 4).tryWake) :=
  if_neg (not_not_intro hm)

/-- The path opens at a long press, and the press is a wake (R613). -/
def State.pathOpened (s : State) : State := (s.onPwr (fun p => { p with path := .open_, longT := some s.now })).latchWake 4

/-- Where the warden runs the power collapses first. -/
theorem exec_longPress_on (hm : s.mode.mode ≠ .off) :
    exec .longPress s = .next (if modeWarden s.mode.mode then s.collapse 5 3 else s).pathOpened :=
  if_neg hm

theorem exec_longPress_warden (hm : modeWarden s.mode.mode = true) : exec .longPress s = .next (s.collapse 5 3).pathOpened := by
  have ho : s.mode.mode ≠ .off := fun h => by simp [h, modeWarden] at hm
  rw [exec_longPress_on ho, if_pos hm]

theorem exec_longPress_asleep (hm : s.mode.mode = .keep ∨ s.mode.mode = .ship) : exec .longPress s = .next s.pathOpened := by
  have ho : s.mode.mode ≠ .off := by rcases hm with hm | hm <;> simp [hm]
  have hw : modeWarden s.mode.mode = false := by rcases hm with hm | hm <;> simp [hm, modeWarden]
  rw [exec_longPress_on ho, hw, if_neg Bool.false_ne_true]

theorem exec_longPressPathEnd_due {t : Nat} (ht : s.board.pwr.longT = some t) (hd : t + 500000000 ≤ s.now) :
    exec .longPressPathEnd s = .next (s.onPwr (fun p => { p with longT := none, path := if p.input then .input else .parked })).tryWake := by
  change execLongPressPathEnd s = _
  simp only [execLongPressPathEnd, ht, if_pos hd]

theorem exec_packShipLow_ship (hm : s.mode.mode = .ship) :
    exec .packShipLow s = .next { s with mode := { s.mode with mode := .off, prev := .ship, history := .off :: s.mode.history } } :=
  if_pos hm

/-! ### The supplies (R80, R556, R593, R638) -/

theorem exec_vkeepRise_off (vin : Bool) (hm : s.mode.mode = .off) :
    exec (.vkeepRise vin) s =
      (let t : State := { s with mode := { s.mode with mode := .keep, prev := .off, cause := 1, history := .keep :: s.mode.history } }
      let u := t.onPwr (fun p => { p with input := vin, path := if vin then .input else .parked })
      .next (if vin then (u.latchWake 6).tryWake else u)) :=
  if_neg (not_not_intro hm)

/-- Without meters the calendar's loss touches the board alone. -/
theorem State.calInvalid_boardOnly (hM : s.optM = false) : BoardOnly s s.calInvalid := by
  unfold State.calInvalid
  refine BoardOnly.ite ?_ (.refl s)
  have hM' : (s.onTime (fun t => { t with valid := false })).optM = false := hM
  rw [if_neg (by rw [hM']; exact Bool.false_ne_true)]
  exact s.onBoard_boardOnly _

/-- KEEP memory is lost: calendar, KEEP registers, snapshots and the roll call's state (R556). -/
def State.keepLost (s : State) : State :=
  let t := s.calInvalid.onTime (fun t =>
    { t with cal := {}, valid := false, rcond := false, pair := none, vkeepLost := true, wake := false, fired0 := none, fired1 := none })
  let t : State := { t with regs := t.regs.filter (fun x => !(decide (0x050000 ≤ x.1 ∧ x.1 < 0x080000))) }
  (t.onPwr (fun p => { p with snap := [], snaps := 0 })).onBoard (fun b => { b with
    pair := { b.pair with rcKnown := false, rcPrimary := false, rcMisses := 0, rcSearch := false, rcAbsent := false, rcCalls := 0 } })

theorem State.keepLost_boardOnly (hM : s.optM = false) : BoardOnly s s.keepLost :=
  (State.calInvalid_boardOnly hM).trans rfl

theorem State.keepLost_regs {x : Nat × Word32} (hx : x ∈ s.keepLost.regs) : x.1 < 0x050000 ∨ 0x080000 ≤ x.1 := by
  obtain ⟨-, hout⟩ := List.mem_filter.mp hx
  simp only [Bool.not_eq_true', decide_eq_false_iff_not] at hout
  omega

/-- Without VIN the part goes from KEEP to OFF. -/
theorem exec_vkeepLoss_dark (hm : s.keepLost.mode.mode = .keep) :
    exec (.vkeepLoss false) s =
      (let t := s.keepLost
      .next { t with mode := { t.mode with mode := .off, prev := .keep, history := .off :: t.mode.history }
                     rst := { t.rst with latched := false, fcode := 0 } }) :=
  if_pos ⟨hm, rfl⟩

theorem exec_vinCollapse_warden (hm : modeWarden s.mode.mode = true) :
    exec .vinCollapse s = .next (((s.setBit 0x0600A4 7).keepFault 0x0207).collapse 1 2) :=
  if_pos hm

theorem exec_vintPowerOn_off (hm : s.mode.mode = .off) :
    exec .vintPowerOn s =
      (let t : State := { s with mode := { s.mode with mode := .keep, prev := .off, cause := 1, history := .keep :: s.mode.history }
                                 rst := { s.rst with kind := 1, source := 1, warms := 0, fcode := 0, latched := false } }
      .next ((t.onPwr (fun p => { p with input := true, inputT := s.now, path := .input })).latchWake 6).tryWake) :=
  if_pos hm

end

/-- Settles O24: each row under its conditions; a loss of VKEEP without meters by its frame, `BoardOnly`. -/
theorem wakesAndSupplies : Obligations.WakesAndSupplies := by
  refine ⟨⟨?event, ?wakeIn, ?button, ?release, ?pwroff, ?ship, ?long, ?longAsleep, ?pathEnd, ?shipLow⟩, ?rise, ?loss, ?collapse, ?power⟩
  case event => exact fun s src hm h2 h3 h5 => exec_wakeEvent_enabled hm h2 h3 h5
  case wakeIn => exact fun s hm he => exec_wakeIn_enabled hm he
  case button => exact fun s hm => exec_button_keep hm
  case release => exact fun s ms hl hu hm => exec_buttonRelease_short hl hu hm
  case pwroff => exact fun s t ht hd => exec_pwroffEnd_due ht hd
  case ship => exact fun s hm => exec_shipExit_ship hm
  case long => exact fun s hm => exec_longPress_warden hm
  case longAsleep => exact fun s hm => exec_longPress_asleep hm
  case pathEnd => exact fun s t ht hd => exec_longPressPathEnd_due ht hd
  case shipLow => exact fun s hm => exec_packShipLow_ship hm
  case rise => exact fun s vin hm => exec_vkeepRise_off vin hm
  case loss =>
    intro s hm hM
    obtain ⟨hmode, hqueues, hleases, hcru⟩ := (State.keepLost_boardOnly hM).frame
    have hkeep : s.keepLost.mode.mode = .keep := by rw [hmode, hm]
    exact ⟨_, exec_vkeepLoss_dark hkeep, rfl, rfl, rfl, rfl, rfl, fun x hx => State.keepLost_regs hx, rfl, hqueues, hleases, hcru⟩
  case collapse => exact fun s hm => exec_vinCollapse_warden hm
  case power => exact fun s hm => exec_vintPowerOn_off hm

end Sys2Proof.Machine
end

section
/-! Sessions: HELLO, CONFIRM, CLOSE and the expiries (chapter 11): what each row leaves where its conditions hold. -/

namespace Sys2Proof.Machine

open Sys2Proof

/-- An update that keeps the key changes what is found under the key. -/
theorem find?_updFirst {α : Type} {p : α → Bool} {f : α → α} (hf : ∀ a, p (f a) = p a) (l : List α) :
    (updFirst p f l).find? p = (l.find? p).map f := by
  induction l with
  | nil => rfl
  | cons a l ih =>
    cases ha : p a with
    | true => simp [updFirst, ha, hf]
    | false => simpa [updFirst, ha] using ih

theorem State.tenant?_onTenant (s : State) (n : Nat) {f : Tenant → Tenant} (hf : ∀ x, (f x).num = x.num) :
    (s.onTenant n f).tenant? n = (s.tenant? n).map f :=
  find?_updFirst (fun x => by rw [hf]) s.tenants

section
variable {s : State}

/-! ### Establishment (R434 to R436, R440) -/

/-- A HELLO that is well formed, from an address that is not throttled, reserves a free number and draws the part's nonce. -/
theorem exec_hello_challenge {addr t keyid n : Nat} {nonceT share : List Byte} {u : State} (hp : s.pllOn = true) (hm : s.mode.mode ≠ .boot)
    (ht : s.throttles.any (fun x => x.addr == addr && x.till.isSome) = false) (hk : helloOk keyid nonceT share = true)
    (hl : s.establish.length < 16) (hu : s.pick s.freeSess = (some n, u)) :
    exec (.hello addr t keyid nonceT share) s =
      (let np := Config.freeNat u.draws
      let body := leBytes 1 t ++ leBytes 1 keyid ++ zeros 2 ++ nonceT ++ share
      let signed := if keyid = 15 then Config.signedShare np (body ++ leBytes 16 np) else []
      .next { u with
        draws := u.draws + 1, establish := u.establish ++ [{ num := n, tenant := t, keyid, nonceT, nonceP := np, share, addr, since := u.now }]
        sent := .challenge n np signed :: u.sent }) := by
  change execHello addr t keyid nonceT share s = _
  unfold execHello
  rw [if_neg (by simp [hp]), if_neg hm, if_neg (by simp [ht]), if_neg (by simp [hk, hl]), hu]
  rfl

/-- A CONFIRM takes its reservation off the list. -/
def State.unreserved (s : State) (n : Nat) : State := { s with establish := s.establish.filter (fun e => e.num != n) }

/-- A MAC that verifies opens the session where the mode and the tenant's quota let it. -/
theorem exec_confirm_accepted {addr n : Nat} {e : Establish} {ikm salt : List Byte} {x : Tenant} (hp : s.pllOn = true)
    (hm : s.mode.mode ≠ .boot) (he : s.establish.find? (fun e => e.num == n) = some e) (hs : s.secretOf e = some (ikm, salt))
    (hn : s.newSessOk e.tenant = true) (hx : s.tenant? e.tenant = some x)
    (hq : (s.sessions.filter (fun y => y.tenant == e.tenant)).length < x.qSess) :
    ∃ mac keys, exec (.confirm addr n true) s = .next { s.unreserved n with
      sessions := s.sessions ++ [{ num := n, tenant := e.tenant, keyid := e.keyid, keys, lastRx := s.now, addr }]
      sent := .accept n mac :: s.sent } := by
  have hu : (s.unreserved n).secretOf e = some (ikm, salt) := hs
  have hmode : ¬ (!s.newSessOk e.tenant) = true := by simp [hn]
  have hquota : ¬ (s.tenant? e.tenant).elim true (fun x => decide (x.qSess ≤ (s.sessions.filter (fun y => y.tenant == e.tenant)).length)) = true := by
    simpa [hx] using hq
  change ∃ mac keys, execConfirm addr n true s = _
  unfold State.unreserved at hu
  unfold execConfirm
  rw [if_neg (by simp [hp]), if_neg hm]
  simp only [he, hu]
  exact ⟨_, _, (if_neg (by decide)).trans ((if_neg hmode).trans ((if_neg hquota).trans rfl))⟩

/-- A MAC that does not verify, or one that no secret of the tenant can, is refused and counts against its address. -/
theorem exec_confirm_refused {addr n : Nat} {ok : Bool} {e : Establish} (hp : s.pllOn = true) (hm : s.mode.mode ≠ .boot)
    (he : s.establish.find? (fun e => e.num == n) = some e) (hf : ok = false ∨ s.secretOf e = none) :
    exec (.confirm addr n ok) s =
      .next ({ s.unreserved n with sent := .refuse n (statusCode .authFailed) :: s.sent }.authFail addr) := by
  change execConfirm addr n ok s = _
  unfold execConfirm
  rw [if_neg (by simp [hp]), if_neg hm]
  have hu : (s.unreserved n).secretOf e = s.secretOf e := rfl
  unfold State.unreserved at hu
  simp only [he, hu]
  cases hs : s.secretOf e with
  | none => rfl
  | some y =>
    have hok : ok = false := hf.resolve_right (by simp [hs])
    exact if_pos (by simp [hok])

/-- BOOT drops and counts a CONFIRM (R89). -/
theorem exec_confirm_boot {addr n : Nat} {ok : Bool} (hm : s.mode.mode = .boot) (hp : s.pllOn = true) :
    exec (.confirm addr n ok) s = .next (s.bump 0x320018 0 32) :=
  (if_neg (by simp [hp])).trans (if_pos hm)

/-! ### Close and expiries (R89, R429, R434, R435, R439) -/

/-- BOOT drops and counts a CLOSE (R89). -/
theorem exec_close_boot {d : Datagram} (hm : s.mode.mode = .boot) (hp : s.portUp d.port = true) :
    exec (.close d) s = .next (s.bump 0x320018 0 32) :=
  if_pos (by simp [hm, hp])

theorem exec_close_authentic {d : Datagram} (hp : s.portUp d.port = true) (hm : s.mode.mode ≠ .boot) (hf : d.formOk = true)
    (ha : d.authOk = true) (hs : (s.session? d.session).isSome) : exec (.close d) s = .next (s.closeSession d.session) :=
  (if_neg (by simp [hm])).trans (if_pos (by simp [hp, hf, ha, hs]))

theorem exec_sessidleExpiry_due {n : Nat} {x : Session} (hx : s.session? n = some x) (hd : x.lastRx + s.sessidle * 1000000000 ≤ s.now) :
    exec (.sessidleExpiry n) s = .next (s.closeSession n) := by
  change execSessidleExpiry n s = _
  simp only [execSessidleExpiry, hx, if_pos hd]

end

/-- A throttle of the address whose time has come leaves the list, and no other does. -/
theorem exec_authThrottleEnd_mem (s : State) (addr : Nat) : ∃ t, exec (.authThrottleEnd addr) s = .next t ∧ t = { s with throttles := t.throttles } ∧
    ∀ x, x ∈ t.throttles ↔ x ∈ s.throttles ∧ ¬ (x.addr = addr ∧ ∃ e, x.till = some e ∧ e ≤ s.now) := by
  refine ⟨_, rfl, rfl, fun x => ?_⟩
  cases ht : x.till with
  | none => simp [List.mem_filter, ht]
  | some e => simp [List.mem_filter, ht, imp_iff_not_or]

/-- An enrolment code ends at its expiry. -/
def Tenant.codeAt (x : Tenant) (now : Nat) : Tenant :=
  match x.code with
  | some c => if c.expiry ≤ now then { x with code := none } else x
  | none => x

theorem Tenant.codeAt_num (x : Tenant) (now : Nat) : (x.codeAt now).num = x.num := by
  unfold Tenant.codeAt
  split
  · split <;> rfl
  · rfl

theorem Tenant.codeAt_some {x : Tenant} {now : Nat} {c : EnrolCode} (hc : x.code = some c) :
    (x.codeAt now).code = if c.expiry ≤ now then none else some c := by
  simp only [Tenant.codeAt, hc]
  split
  · rfl
  · exact hc

theorem Tenant.codeAt_none {x : Tenant} {now : Nat} (hc : x.code = none) : (x.codeAt now).code = none := by
  simp only [Tenant.codeAt, hc]

theorem exec_enrolmentCodeExpiry_eq (s : State) (n : Nat) : exec (.enrolmentCodeExpiry n) s = .next (s.onTenant n (fun x => x.codeAt s.now)) := rfl

/-- Settles O29: each row under its conditions; the two expiries that state a list's members or a tenant's code by their lemmas. -/
theorem sessionsOpenAndClose : Obligations.SessionsOpenAndClose := by
  refine ⟨?hello, ?accepted, ?refused, ?boot, ?close, ?establishment, ?idle, ?throttle, ?code⟩
  case hello => exact fun s addr t keyid n nonceT share u hp hm ht hk hl hu => exec_hello_challenge hp hm ht hk hl hu
  case accepted =>
    intro s addr n e ikm salt x hp hm he hs hn hx hq
    obtain ⟨mac, keys, h⟩ := exec_confirm_accepted (addr := addr) hp hm he hs hn hx hq
    exact ⟨_, mac, keys, h, rfl, rfl, rfl, rfl⟩
  case refused => exact fun s addr n ok e hp hm he hf => exec_confirm_refused hp hm he hf
  case boot => exact fun s addr n ok d hm => ⟨fun hp => exec_confirm_boot hm hp, fun hp => exec_close_boot hm hp⟩
  case close => exact fun s d hp hm hf ha hs => exec_close_authentic hp hm hf ha hs
  case establishment => exact fun s n => rfl
  case idle => exact fun s n x hx hd => exec_sessidleExpiry_due hx hd
  case throttle =>
    intro s addr
    obtain ⟨t, h, ht, hmem⟩ := exec_authThrottleEnd_mem s addr
    refine ⟨t, h, ht, fun x hx => ?_, fun x hx => (hmem x).1 hx⟩
    rw [hmem]
    tauto
  case code =>
    intro s n x hx
    refine ⟨_, exec_enrolmentCodeExpiry_eq s n, rfl, x.codeAt s.now, ?_, fun c hc => Tenant.codeAt_some hc, fun hc => Tenant.codeAt_none hc⟩
    rw [State.tenant?_onTenant _ _ (fun y => y.codeAt_num s.now), hx]
    rfl

end Sys2Proof.Machine
end

section
/-! Frames, links and what the network island sends (chapter 10): what each row leaves where its conditions hold. -/

namespace Sys2Proof.Machine

open Sys2Proof

/-! ### Frames and links (R89, R403, R404, R423) -/

/-- A bit that is set reads 1. -/
theorem testBit_setBits_one (w i : Nat) : (setBits w i 1 1).testBit i = true := by
  have hw : setBits w i 1 1 = 2 ^ i * (2 * (w / 2 ^ i / 2) + 1) + w % 2 ^ i := by
    have hq : w / 2 ^ i = 2 * (w / 2 ^ i / 2) + w / 2 ^ i % 2 := (Nat.div_add_mod _ _).symm
    have hd : w = 2 ^ i * (2 * (w / 2 ^ i / 2)) + w / 2 ^ i % 2 * 2 ^ i + w % 2 ^ i := by
      rw [Nat.mul_comm (w / 2 ^ i % 2), ← Nat.mul_add, ← hq, Nat.div_add_mod]
    simp only [setBits, bitsOf, Nat.mul_add, pow_one]
    omega
  rw [hw, Nat.testBit_eq_decide_div_mod_eq, Nat.mul_add_div (Nat.two_pow_pos i), Nat.div_eq_of_lt (Nat.mod_lt _ (Nat.two_pow_pos i))]
  simp

section
variable {s : State} {p : Nat}

theorem exec_unsupportedFrame_up (hp : s.portUp p = true) : exec (.unsupportedFrame p) s = .next (s.bump 0x320010 0 32) := if_pos hp

/-- An echo is answered while fewer than 100 have been on its port within a second. -/
theorem exec_icmpEcho_up (a : Nat) (hp : s.portUp p = true) (hm : s.mode.mode ≠ .boot) :
    exec (.icmpEcho p a) s =
      (let l := s.board.echoes.filter (fun e => decide (s.now < e.2 + 1000000000))
      .next (if (l.filter (fun e => e.1 == p)).length < 100 then
        { s.onBoard (fun b => { b with echoes := (p, s.now) :: l }) with sent := .icmpReply p a :: s.sent } else s)) :=
  (if_congr (by simp [hp, hm]) rfl rfl).trans (apply_ite Host.Outcome.next _ _ _).symm

theorem exec_addressResolution_ours (hp : s.portUp p = true) (hm : s.mode.mode ≠ .boot) :
    exec (.addressResolution p true) s = .next { s with sent := .addrReply p :: s.sent } :=
  if_pos (by simp [hp, hm])

theorem exec_addressResolution_other : exec (.addressResolution p false) s = .next s := if_neg (by simp)

theorem exec_bootDatagramDrop_boot (hm : s.mode.mode = .boot) : exec .bootDatagramDrop s = .next (s.bump 0x320018 0 32) := if_pos hm

theorem exec_ethLinkDown_up {k : Fin 2} (hl : s.links.testBit k.val = true) :
    exec (.ethLinkDown k) s =
      (let t : State := { s with links := setBits s.links k.val 1 0 }
      .next (if modeUp s.mode.mode then t.fault 0x09 0x01 else t)) :=
  if_pos hl

theorem exec_ethLinkUp_eq (s : State) (k : Fin 2) : exec (.ethLinkUp k) s = .next { s with links := setBits s.links k.val 1 1 } := rfl

/-! ### Sending (R408, R409) -/

/-- A due credit goes alone where no completion queue is paired. -/
theorem exec_commandCreditSend_alone {q : Nat} {x : Queue} (hx : s.queue? q = some x) (hk : x.kind = .command) (hd : x.creditDue = true)
    (ht : x.creditT + 100000 ≤ s.now) (hc : x.pair.bind s.queue? = none) : exec (.commandCreditSend q) s = .next (s.sendCredit q) := by
  change execCommandCreditSend q s = _
  simp only [execCommandCreditSend, hx, hc]
  exact if_pos ⟨hk, hd, ht⟩

/-- With one, it rides in a completion datagram when there is one to send and a session to send it in. -/
theorem exec_commandCreditSend_paired {q : Nat} {x c : Queue} (hx : s.queue? q = some x) (hk : x.kind = .command) (hd : x.creditDue = true)
    (ht : x.creditT + 100000 ≤ s.now) (hc : x.pair.bind s.queue? = some c) :
    exec (.commandCreditSend q) s =
      .next (if (takeTrains 15 15 (c.sendable c.sent)).isEmpty ∨ (s.via c).isNone then s.sendCredit q else s.sendEntries c.num 15) := by
  change execCommandCreditSend q s = _
  simp only [execCommandCreditSend, hx, hc]
  exact (if_pos ⟨hk, hd, ht⟩).trans (apply_ite Host.Outcome.next _ _ _).symm

/-- What was sent and not acknowledged goes again from CACK, marked as a repetition. -/
theorem exec_retxExpiry_due {q n : Nat} {x : Queue} (hx : s.queue? q = some x) (hv : s.via x = some n) (hk : x.kind ≠ .command)
    (ho : 0 < (x.sent + 65536 - x.cack) % 65536) (ht : x.ackT + s.fld 0x320004 0 8 * 1000000 ≤ s.now) :
    exec (.retxExpiry q) s =
      (let out := (x.sent + 65536 - x.cack) % 65536
      .next ((datagrams out ((x.sendable x.cack).take out)).foldl (fun u es => u.sendIn n (.entries n q true none es))
        (s.onQueue q (fun y => { y with ackT := s.now })))) := by
  change execRetxExpiry q s = _
  simp only [execRetxExpiry, hx, hv]
  exact if_pos ⟨hk, ho, ht⟩

end

/-- Settles O30: each row under its conditions. -/
theorem framesLinksAndSending : Obligations.FramesLinksAndSending := by
  refine ⟨⟨?unsupported, ?echo, ?address, ?drop, ?down, ?up⟩, ?credit, ?send, ?again⟩
  case unsupported => exact fun s p hp => exec_unsupportedFrame_up hp
  case echo => exact fun s p a hp hm => exec_icmpEcho_up a hp hm
  case address => exact fun s p hp hm => ⟨exec_addressResolution_ours hp hm, exec_addressResolution_other⟩
  case drop => exact fun s hm => exec_bootDatagramDrop_boot hm
  case down => exact fun s p hl => exec_ethLinkDown_up hl
  case up => exact fun s p => ⟨_, exec_ethLinkUp_eq s p, rfl, testBit_setBits_one s.links p.val⟩
  case credit =>
    exact fun s q x hx hk hd ht =>
      ⟨fun hc => exec_commandCreditSend_alone hx hk hd ht hc, fun c hc => exec_commandCreditSend_paired hx hk hd ht hc⟩
  case send => exact fun s q n => rfl
  case again => exact fun s q n x hx hv hk ho ht => exec_retxExpiry_due hx hv hk ho ht

end Sys2Proof.Machine
end

section
/-! The claim of a command train and the local management port (chapter 10, R705): what each row leaves where its conditions hold. -/

namespace Sys2Proof.Machine

open Sys2Proof

section
variable {s : State}

theorem exec_commandClaim_turn {q : Nat} {x : Queue} {e : Entry} (f : Finding) (hx : s.queue? q = some x) (he : x.ring.head? = some e)
    (hr : s.eloawenRuns = true) (hc : s.claimable x = true) (ht : s.claimTurn x = true) : exec (.commandClaim q f) s = .next (s.claim x e f) := by
  change execCommandClaim q f s = _
  simp only [execCommandClaim, hx, he]
  exact if_pos ⟨hr, hc, ht⟩

/-! ### Frames and their timing (R412, R705) -/

/-- A frame whose idle time lasts tRD sends the bytes that were read, with their CHK. -/
theorem State.sends_whole (s : State) (head d : List Byte) {k : FrameClk} {trd : Nat} (hg : trd ≤ k.gap) :
    s.sends head d k trd = (d ++ [chkByte (head ++ d)], s) := by
  have hk : k.early trd d.length = 0 := if_pos hg
  exact if_pos hk

/-- The first two tests of every frame: the port is on, and the last WRITE or QPUT has crossed. -/
theorem localFrame_taken {a b : Out} (ho : s.localOn = true) (he : s.early = false) :
    (if !s.localOn then .next s else if s.early then a else b) = b := by
  rw [if_neg (by simp [ho]), if_neg (by simp [he])]

theorem localFrame_ignored {a b : Out} (ho : s.localOn = true) (he : s.early = true) :
    (if !s.localOn then .next s else if s.early then a else b) = a := by
  rw [if_neg (by simp [ho]), if_pos he]

/-! ### READ and WRITE (R413, R414) -/

theorem exec_localRead_words {a n : Nat} (k : FrameClk) (ho : s.localOn = true) (he : s.early = false) (hl : 1 ≤ n) (hu : n ≤ 64)
    (hr : localReach a n = true) :
    exec (.localRead a n (some k)) s =
      (let r := (s.clocked k).regWords a n
      let o := r.2.sends ([1] ++ leBytes 4 a ++ leBytes 1 n) r.1.flatten k (crossNs a n)
      .next (o.2.frameEnd 0 o.1 none)) :=
  (localFrame_taken ho he).trans ((if_neg (by simp [localCount, hl, hu])).trans (if_pos hr))

/-- A READ that was not clocked as a whole. -/
theorem exec_localRead_cut {a n : Nat} (ho : s.localOn = true) (he : s.early = false) :
    exec (.localRead a n none) s = .next (s.frameEnd 1 [] none) :=
  localFrame_taken ho he

theorem exec_localWrite_words {a : Nat} {l : List Word32} (ho : s.localOn = true) (he : s.early = false) (hl : 1 ≤ l.length)
    (hu : l.length ≤ 64) (hr : localReach a l.length = true) :
    exec (.localWrite a l true) s =
      (let r := (s.crossing (crossNs a l.length)).localWords a l
      .next (r.1.frameEnd (if r.2 then 3 else 0) [] none)) :=
  (localFrame_taken ho he).trans ((if_neg (by simp [localCount, hl, hu])).trans (if_neg (by simp [hr])))

/-- A WRITE with a wrong CHK or COUNT changes no register. -/
theorem exec_localWrite_check {a : Nat} {l : List Word32} {ok : Bool} (ho : s.localOn = true) (he : s.early = false)
    (hc : ok = false ∨ l.length = 0 ∨ 64 < l.length) :
    exec (.localWrite a l ok) s = .next ((s.crossing (crossNs a l.length)).frameEnd 1 [] none) := by
  have hbad : !ok ∨ !localCount l.length := by
    rcases hc with hc | hc | hc
    · simp [hc]
    · simp [localCount, hc]
    · simp [localCount, hc]
  exact (localFrame_taken ho he).trans (if_pos hbad)

/-! ### STATUS, QPUT and QGET (R412, R413, R415) -/

theorem exec_localStatus_plain (ho : s.localOn = true) (he : s.early = false) (hg : s.localPort.getQ = none) :
    exec .localStatus s =
      (let o := s.sends [3] (leBytes 1 s.localPort.lstatus) s.localPort.clk 500
      .next (o.2.frameEnd 0 o.1 none)) := by
  refine (localFrame_taken ho he).trans ?_
  simp only [hg]
  rfl

/-- A STATUS that reads 0 frees the slot of the QGET before it. -/
theorem exec_localStatus_frees {q : Nat} (ho : s.localOn = true) (he : s.early = false) (hk : 500 ≤ s.localPort.clk.gap)
    (hg : s.localPort.getQ = some q) (hl : s.localPort.lstatus = 0) :
    exec .localStatus s = .next ((s.freeGet q).frameEnd 0 [0, chkByte [3, 0]] none) := by
  refine (localFrame_taken ho he).trans ?_
  rw [State.sends_whole _ _ _ hk]
  simp only [hg, hl]
  rfl

theorem exec_qput_placed {b : RawEntry} {l : List RawEntry} {q : Queue} (ho : s.localOn = true) (he : s.early = false)
    (hq : s.queue? 0 = some q) (hl : (b :: l).length ≤ 15) (hc : trainCheck (b :: l) 0 = .ok) (hf : (b :: l).length ≤ q.free) :
    exec (.qput (b :: l) true) s =
      .next (((s.crossing (2000 + (b :: l).length * 100)).placeTrain 0 ((b :: l).map parseEntry)).frameEnd 0 [] none) := by
  have hq' : (s.crossing (2000 + (b :: l).length * 100)).queue? 0 = some q := hq
  refine (localFrame_taken ho he).trans ((if_neg (by decide)).trans ?_)
  simp only [hq', hc]
  exact (if_neg (Nat.not_lt.mpr hl)).trans ((if_neg (not_not_intro rfl)).trans (if_neg (Nat.not_lt.mpr hf)))

/-- The bytes of the oldest entry of a local queue, and zeros for an empty one. -/
theorem exec_qget_local {q : Nat} (k : FrameClk) (ho : s.localOn = true) (he : s.early = false) (hl : 1 ≤ q) (hu : q ≤ 3) :
    (∀ e, (s.queue? q).bind (fun x => x.ring.head?) = some e → exec (.qget ⟨q, k⟩) s =
      (let o := (s.clocked k).sends ([5] ++ leBytes 4 q) (entryBytes e) k 2000
      .next (o.2.frameEnd 0 o.1 (some q)))) ∧
    ((s.queue? q).bind (fun x => x.ring.head?) = none → exec (.qget ⟨q, k⟩) s =
      (let o := (s.clocked k).sends ([5] ++ leBytes 4 q) (zeros 64) k 2000
      .next (o.2.frameEnd 0 o.1 none))) := by
  have hin : ¬ (q < 1 ∨ 3 < q) := by omega
  have hq : (s.clocked k).queue? q = s.queue? q := rfl
  constructor
  · intro e hh
    refine (localFrame_taken ho he).trans ((if_neg hin).trans ?_)
    simp only [hq, hh]
    rfl
  · intro hh
    refine (localFrame_taken ho he).trans ((if_neg hin).trans ?_)
    simp only [hq, hh]
    rfl

end

/-- Settles O33: each row under its conditions; an early frame of any kind is ignored by `localFrame_ignored`. -/
theorem claimAndLocalPort : Obligations.ClaimAndLocalPort := by
  refine ⟨?claim, ?sends, ?early, ?read, ?cut, ?write, ?check, ?status, ?frees, ?put, ?get⟩
  case claim => exact fun s q f x e hx he hr hc ht => exec_commandClaim_turn f hx he hr hc ht
  case sends => exact fun s head d k trd hg => s.sends_whole head d hg
  case early =>
    exact fun s a n k f ok l e ho he =>
      ⟨localFrame_ignored ho he, localFrame_ignored ho he, localFrame_ignored ho he, localFrame_ignored ho he, localFrame_ignored ho he, rfl⟩
  case read => exact fun s a n k ho he hl hu hr => exec_localRead_words k ho he hl hu hr
  case cut => exact fun s a n ho he => exec_localRead_cut ho he
  case write => exact fun s a l ho he hl hu hr => exec_localWrite_words ho he hl hu hr
  case check => exact fun s a l ok ho he hc => exec_localWrite_check ho he hc
  case status => exact fun s ho he hg => exec_localStatus_plain ho he hg
  case frees => exact fun s q ho he hk hg hl => exec_localStatus_frees ho he hk hg hl
  case put => exact fun s b l q ho he hq hl hc hf => exec_qput_placed ho he hq hl hc hf
  case get => exact fun s q k ho he hl hu => exec_qget_local k ho he hl hu

end Sys2Proof.Machine
end

section
/-! Warm resets, the image check, the end of BOOT and block resets (chapter 18): what each row leaves where its conditions hold. -/

namespace Sys2Proof.Machine

open Sys2Proof

section
variable {s : State}

/-! ### Warm resets (R638, R640) -/

theorem exec_commandedWarmReset_due (hc : s.rst.commanded = true) (ht : s.rst.commandedT + 10000000 ≤ s.now) :
    exec .commandedWarmReset s = .next (({ s with rst := { s.rst with commanded := false } }).warmReset s.rst.commandedSrc) :=
  if_pos ⟨hc, ht⟩

theorem exec_warmResetLedgerQuiesce_over {tmo : Bool} (hw : s.rst.warm = true) (hq : s.rst.ledgerQuiesce = true)
    (ht : tmo = true → s.rst.quiesceT ≤ s.now) : exec (.warmResetLedgerQuiesce tmo) s = .next (s.holdLedger tmo) := by
  refine if_pos ⟨hw, hq, ?_⟩
  cases tmo with
  | false => exact .inl rfl
  | true => exact .inr (ht rfl)

theorem exec_warmResetRelease_quiet (st : BitVec 6) (hw : s.rst.warm = true) (hq : s.rst.ledgerQuiesce = false) :
    exec (.warmResetRelease st) s = .next (({ s with rst := { s.rst with warm := false } }).enterBoot (some st.toNat) 0x17) :=
  if_pos (by simp [hw, hq])

/-! ### The image check (R644, R649, R650) -/

/-- A slot whose image verifies; each signature verdict is for its slot. -/
def State.slotOk (s : State) (g0 g1 : Bool) (n : Nat) : Bool := s.imageOk (s.flash.slot n) (if n = 0 then g0 else g1)

/-- The state that runs the first image, or the other one after its fault. -/
def State.imageTaken (s : State) (g0 g1 : Bool) : State :=
  if s.slotOk g0 g1 s.firstSlot then s.acceptImage s.firstSlot else (s.acceptImage (1 - s.firstSlot)).fault 0x00 0x02

theorem exec_imageCheck_none {g0 g1 : Bool} (hm : s.mode.mode = .boot) (hf : s.fw = none) (ha : s.slotOk g0 g1 s.firstSlot = false)
    (hb : s.slotOk g0 g1 (1 - s.firstSlot) = false) :
    exec (.imageCheck g0 g1) s = .next ((s.fault 0x00 0x01).enterLockout 0x08 0) := by
  have hnone : (!s.slotOk g0 g1 s.firstSlot) = true ∧ (!s.slotOk g0 g1 (1 - s.firstSlot)) = true := by simp [ha, hb]
  exact (if_neg (by simp [hm, hf])).trans (if_pos hnone)

/-- An image is taken; a latched F fault then leads to LOCKOUT again (R644). -/
theorem exec_imageCheck_some {g0 g1 : Bool} (hm : s.mode.mode = .boot) (hf : s.fw = none)
    (hok : s.slotOk g0 g1 s.firstSlot = true ∨ s.slotOk g0 g1 (1 - s.firstSlot) = true) :
    exec (.imageCheck g0 g1) s =
      (let t := s.imageTaken g0 g1
      if t.rst.latched then .next ((t.fault (t.rst.fcode / 256) (t.rst.fcode % 256)).enterLockout 0x15 t.rst.fcode) else .next t) := by
  have hsome : ¬ ((!s.slotOk g0 g1 s.firstSlot) = true ∧ (!s.slotOk g0 g1 (1 - s.firstSlot)) = true) := by
    rcases hok with h | h <;> simp [h]
  exact (if_neg (by simp [hm, hf])).trans (if_neg hsome)

theorem State.imageTaken_first {g0 g1 : Bool} (ha : s.slotOk g0 g1 s.firstSlot = true) : s.imageTaken g0 g1 = s.acceptImage s.firstSlot :=
  if_pos ha

theorem State.imageTaken_other {g0 g1 : Bool} (ha : s.slotOk g0 g1 s.firstSlot = false) :
    s.imageTaken g0 g1 = (s.acceptImage (1 - s.firstSlot)).fault 0x00 0x02 :=
  if_neg (by simp [ha])

/-! ### The end of BOOT (R85, R526, R645) -/

/-- After calibration the part is alone, finds a partner, or begins to arbitrate. -/
theorem exec_bootEnd_done (hd : s.bootDone = true) :
    exec .bootEnd s = .next (if s.optT = false then s.bootOwner
      else if s.board.pair.noForm = true ∨ s.board.pipeIn = true then s.bootTwin
      else if s.board.pair.arb = .none then s.onBoard (fun b => { b with pair := { b.pair with arb := .idle } }) else s) := by
  change execBootEnd s = _
  unfold execBootEnd
  rw [if_neg (by simp [hd])]
  simp only [apply_ite Host.Outcome.next, Bool.not_eq_true']

/-! ### Block resets (R654, R655) -/

/-- The block is quiet, or its timeout is over: it is reset and held. -/
theorem exec_blockQuiesceDone_over {k : Nat} {b : BlockReset} {tmo : Bool} (hb : s.rst.blocks.find? (fun b => b.block == k) = some b)
    (hq : b.quieted = false) (ht : tmo = true → b.at_ + s.quiesceTo k ≤ s.now) :
    exec (.blockQuiesceDone k tmo) s =
      (let a := if tmo then (if k = 8 then s.fault 0x08 0x09 else s.faultD 0x00 0x04 (leBytes 1 k)) else s
      let c := if k = 8 ∧ tmo = false then a.durable else a
      let d := c.resetBlock k
      let bs := updFirst (fun b => b.block == k) (fun b => { b with quieted := true, at_ := d.now }) d.rst.blocks
      .next ({ d with rst := { d.rst with blocks := bs } }).settle) := by
  have hover : ¬ (b.quieted = true ∨ tmo = true ∧ s.now < b.at_ + s.quiesceTo k) := by
    rintro (h | ⟨h, hlt⟩)
    · simp [hq] at h
    · exact absurd (ht h) (Nat.not_le.mpr hlt)
  change execBlockQuiesceDone k tmo s = _
  simp only [execBlockQuiesceDone, hb]
  refine (if_neg hover).trans ?_
  simp only [Bool.and_eq_true, decide_eq_true_eq, Bool.not_eq_true']

/-- A Gather's reset ends with its calibration; every command that asked for the block completes. -/
theorem exec_blockResetReturn_back {k : Nat} {b : BlockReset} (hb : s.rst.blocks.find? (fun b => b.block == k) = some b)
    (hq : b.quieted = true) (ht : b.at_ + 10000 ≤ s.now)
    (hg : ∀ g, gather? (k - 0x10) = some g → 0x10 ≤ k → (s.gat g).calibrated = true) :
    exec (.blockResetReturn k) s = .next { s with
      rst := { s.rst with blocks := s.rst.blocks.filter (fun x => x.block != k) }
      inflight := s.inflight ++ (b.head.toList ++ b.more).map (fun h => { head := h, opcode := 0x3A, status := .ok, applied := s.ptp }) } := by
  change execBlockResetReturn k s = _
  simp only [execBlockResetReturn, hb]
  refine if_pos ?_
  cases hgk : gather? (k - 0x10) with
  | none => simp [hq, ht]
  | some g =>
    have hcal := hg g hgk
    by_cases hk : 0x10 ≤ k
    · simp [hq, ht, hcal hk]
    · simp [hq, ht, hk]

end

/-- Settles O37: each row under its conditions; an image check by whether a slot verifies, and by the latch. -/
theorem resetsAndBoot : Obligations.ResetsAndBoot := by
  refine ⟨?causes, ?commanded, ?hold, ?release, ?image, ?bootEnd, ?quiesce, ?back⟩
  case causes => exact fun s => ⟨rfl, rfl⟩
  case commanded => exact fun s hc ht => exec_commandedWarmReset_due hc ht
  case hold => exact fun s tmo hw hq ht => exec_warmResetLedgerQuiesce_over hw hq ht
  case release => exact fun s st hw hq => exec_warmResetRelease_quiet st hw hq
  case image =>
    intro s g0 g1 hm hf
    refine ⟨fun ha hb => exec_imageCheck_none hm hf ha hb, fun ha hl => ?first, fun ha hl => ?latched, fun ha hb hl => ?other⟩
    case first =>
      rw [exec_imageCheck_some hm hf (.inl ha), State.imageTaken_first ha]
      exact if_neg (by simp [hl])
    case latched =>
      rw [exec_imageCheck_some hm hf (.inl ha), State.imageTaken_first ha]
      exact if_pos hl
    case other =>
      rw [exec_imageCheck_some hm hf (.inr hb), State.imageTaken_other ha]
      exact if_neg (by simp [hl])
  case bootEnd => exact fun s hd => exec_bootEnd_done hd
  case quiesce => exact fun s k b tmo hb hq ht => exec_blockQuiesceDone_over hb hq ht
  case back => exact fun s k b hb hq ht hg => exec_blockResetReturn_back hb hq ht hg

end Sys2Proof.Machine
end

section
/-! Fetches from the ledger, its initialisation, and the end of LEHR (chapter 13, R99): what each row leaves where its conditions hold. -/

namespace Sys2Proof.Machine

open Sys2Proof

section
variable {s : State}

/-! ### Fetches (R474, R515) -/

section
variable {n : Nat} {f : Fetch} {b : Batch} {l : List Batch}

/-- The fetch whose turn it is belongs to the tenant. -/
theorem fetchTurn_some (hf : s.led.fetches.head? = some f) (hn : f.head.tenant = n) :
    s.led.fetches.head?.filter (fun f => f.head.tenant == n) = some f := by
  simp [hf, hn]

theorem exec_ledgerFetchBatch_end (a : DriveAns) (hf : s.led.fetches.head? = some f) (hn : f.head.tenant = n)
    (hr : s.led.inRange n f.from_ f.to_ f.next = []) : exec (.ledgerFetchBatch n a) s = .next (s.endFetch f .ok) := by
  change execLedgerFetchBatch n a s = _
  simp only [execLedgerFetchBatch, fetchTurn_some hf hn, hr]

theorem exec_ledgerFetchBatch_timeout (hf : s.led.fetches.head? = some f) (hn : f.head.tenant = n)
    (hr : s.led.inRange n f.from_ f.to_ f.next = b :: l) :
    exec (.ledgerFetchBatch n .timeout) s = .next ((s.setBit 0x31001C 2).endFetch f .timeout) := by
  change execLedgerFetchBatch n .timeout s = _
  simp only [execLedgerFetchBatch, fetchTurn_some hf hn, hr]

theorem exec_ledgerFetchBatch_error (hf : s.led.fetches.head? = some f) (hn : f.head.tenant = n)
    (hr : s.led.inRange n f.from_ f.to_ f.next = b :: l) :
    exec (.ledgerFetchBatch n .error) s = .next ((s.setBit 0x31001C 1).endFetch f .media) := by
  change execLedgerFetchBatch n .error s = _
  simp only [execLedgerFetchBatch, fetchTurn_some hf hn, hr]

/-- A batch that arrives gives the trains that the fetch takes; the fetch goes on behind it, or ends with its last batch. -/
theorem exec_ledgerFetchBatch_ok (hf : s.led.fetches.head? = some f) (hn : f.head.tenant = n)
    (hr : s.led.inRange n f.from_ f.to_ f.next = b :: l) (hb : s.led.readable (b.laddr / 1048576) = true) :
    exec (.ledgerFetchBatch n .ok) s =
      (let rs := ((trainsOf b.entries.length b.entries).filter f.takes).filterMap (fetchedRec f.queue)
      let g : Fetch := { f with next := b.bseq + 1, placed := f.placed + rs.length }
      let t := { s with recFifo := s.recFifo ++ rs }.onLed (fun l =>
        ({ l with fetches := l.fetches.drop 1 ++ [g] } : Ledger).fetchFrom (b.laddr / 1048576) (b.laddr / 4096 % 256) b.nblk)
      .next (if l = [] then t.endFetch g .ok else t)) := by
  change execLedgerFetchBatch n .ok s = _
  simp only [execLedgerFetchBatch, fetchTurn_some hf hn, hr]
  rw [if_neg (by simp [hb])]
  simp only [List.isEmpty_iff]

end

/-! ### Initialisation (R518) -/

theorem State.ledgerInit_unlabelled (hr : s.led.running = true) (hs : s.led.st = .unlabelled) : s.ledgerInit false = s.initLedger :=
  if_neg (by simp [hr, hs])

theorem State.ledgerInit_labelled (hs : s.led.st ≠ .unlabelled) : s.ledgerInit false = s :=
  if_pos (by simp [hs])

/-- The erasing form wipes the labels of the drives that work first. -/
theorem State.ledgerInit_erase (hr : s.led.running = true) (hs : s.led.st = .foreign ∨ s.led.st = .incomplete) :
    s.ledgerInit true = (s.onLed (fun l => (List.range 4).foldl (fun (l : Ledger) d =>
      if (l.drive d).alive then l.sendTo d (.writeZeroes 0 2) else l) l)).initLedger :=
  if_neg (by rcases hs with hs | hs <;> simp [hr, hs])

/-! ### The end of LEHR (R99, R592, R614) -/

theorem exec_lehrRampDone_rest (hm : s.mode.mode = .lehr) (hr : s.board.pwr.lehrRest = false) (hx : s.execMask = 0) :
    exec .lehrRampDone s =
      (let t := if s.writeResume.led.running then s.writeResume.sealAll 4 else s.writeResume
      .next (t.onPwr (fun p => { p with lehrRest := true, lehrSealT := t.now }))) :=
  if_pos (by simp [hm, hr, hx])

/-- A fold leaves the clock where each of its steps does. -/
theorem foldl_ptp {α : Type} {f : State → α → State} (hf : ∀ s a, (f s a).ptp = s.ptp) (l : List α) (s : State) :
    (l.foldl f s).ptp = s.ptp :=
  (List.foldl_hom State.ptp (g₂ := fun t _ => t) (fun s a => (hf s a).symm)).symm.trans (List.foldl_fixed l)

/-- A Flush takes no time of its own. -/
theorem State.durable_ptp (s : State) : s.durable.ptp = s.ptp := by
  unfold State.durable
  refine (foldl_ptp ?completions _ _).trans (foldl_ptp ?streams _ _)
  case completions => exact fun _ _ => rfl
  case streams => exact fun _ _ => rfl

/-- The flush has ended, or its second is over: the shutdown record, PERST_N, the snapshot, and the way to KEEP or SHIP. -/
theorem exec_lehrDone_over {fl : Bool} (hm : s.mode.mode = .lehr) (hr : s.board.pwr.lehrRest = true)
    (ho : fl = true ∨ s.board.pwr.lehrSealT + 1000000000 ≤ s.now) :
    exec (.lehrDone fl) s =
      (let a := (if fl then s.durable else s).onLed (fun l =>
        { (if l.isMounted then (l.writeShut (if fl then 1 else 3) s.ptp).endQueues else l) with perst := true })
      .next ((a.snapshot 4).toKeep (if s.board.pwr.ship then .ship else .keep) 0x14 0x0A true)) := by
  have hover : (s.mode.mode = .lehr && s.board.pwr.lehrRest && (fl || decide (s.board.pwr.lehrSealT + 1000000000 ≤ s.now))) = true := by
    simpa [hm, hr] using ho
  have hptp : (if fl then s.durable else s).ptp = s.ptp := by
    split
    · exact s.durable_ptp
    · rfl
  refine (if_pos hover).trans ?_
  simp only [hptp]

end

/-- Settles O39: each row under its conditions. -/
theorem fetchInitAndLehr : Obligations.FetchInitAndLehr := by
  refine ⟨?ended, ?batch, ?init, ?rest, ?done⟩
  case ended => exact fun s n f a hf hn hr => exec_ledgerFetchBatch_end a hf hn hr
  case batch =>
    exact fun s n f b l hf hn hr =>
      ⟨exec_ledgerFetchBatch_timeout hf hn hr, exec_ledgerFetchBatch_error hf hn hr, fun hb => exec_ledgerFetchBatch_ok hf hn hr hb⟩
  case init =>
    exact fun s hr =>
      ⟨fun hs => congrArg Host.Outcome.next (State.ledgerInit_unlabelled hr hs), fun hs => congrArg Host.Outcome.next (State.ledgerInit_labelled hs),
        fun hs => congrArg Host.Outcome.next (State.ledgerInit_erase hr hs)⟩
  case rest => exact fun s hm hr hx => exec_lehrRampDone_rest hm hr hx
  case done => exact fun s fl hm hr ho => exec_lehrDone_over hm hr ho

end Sys2Proof.Machine
end

section
/-! Settles, ramped stops and the levels of the channel balls (chapter 04): what the shared operations do to a channel that stands in no gang. -/

namespace Sys2Proof.Machine

open Sys2Proof

/-! ### One channel among the others -/

/-- What each step of a sweep over channels leaves as it was, the sweep leaves so. -/
theorem State.forChans_fixes {β : Type} (p : State → β) (s : State) (l : List ChanNo) {f : ChanNo → State → State}
    (hf : ∀ c s, p (f c s) = p s) : p (s.forChans l f) = p s :=
  (List.foldl_hom p (g₂ := fun b _ => b) (fun s c => (hf c s).symm)).symm.trans (List.foldl_fixed l)

@[simp] theorem State.onLoop_chan (s : State) (c : ChanNo) (f : LoopSt → LoopSt) :
    (s.onLoop c f).chan c = { s.chan c with loop := f (s.chan c).loop } :=
  s.onChan_chan c _

@[simp] theorem State.onProt_chan (s : State) (c : ChanNo) (f : ProtSt → ProtSt) :
    (s.onProt c f).chan c = { s.chan c with prot := f (s.chan c).prot } :=
  s.onChan_chan c _

theorem State.onLoop_chan_ne (s : State) {c d : ChanNo} (f : LoopSt → LoopSt) (h : d ≠ c) : (s.onLoop c f).chan d = s.chan d :=
  s.onChan_chan_ne _ h

theorem State.onProt_chan_ne (s : State) {c d : ChanNo} (f : ProtSt → ProtSt) (h : d ≠ c) : (s.onProt c f).chan d = s.chan d :=
  s.onChan_chan_ne _ h

/-- Excitation is a matter of measurement: the loop does not see it. -/
@[simp] theorem State.exciteOn_loop (s : State) (c : ChanNo) : ((s.exciteOn c).chan c).loop = (s.chan c).loop := by
  simp [State.exciteOn, State.onMeas_eq]

theorem State.exciteOn_chan_ne (s : State) {c d : ChanNo} (h : d ≠ c) : (s.exciteOn c).chan d = s.chan d :=
  s.onChan_chan_ne (fun x => { x with meas := { x.meas with tdiscard := 1 } }) h

/-- Channels see of a change of state the new state and, where the channel was released, its excitation; the event goes elsewhere. -/
theorem State.setSt_chan {s : State} {c : ChanNo} {new : ChState} (k : StopKind) (fault : Nat) (d : ChanNo) (h : (s.chan c).loop.st ≠ new) :
    (s.setSt c new k fault).chan d =
      (let t := s.onLoop c (fun l => { l with st := new })
      if (s.chan c).loop.st = .released then t.exciteOn c else t).chan d := by
  simp only [State.setSt, if_neg h]
  generalize (if (s.chan c).loop.st = .released then _ else _) = t
  split
  · rfl
  · rfl

/-- Of its channel's loop a change of state touches the state alone. -/
theorem State.setSt_loop (s : State) (c : ChanNo) (new : ChState) (k : StopKind) (fault : Nat) :
    ((s.setSt c new k fault).chan c).loop = { (s.chan c).loop with st := new } := by
  by_cases h : (s.chan c).loop.st = new
  · rw [State.setSt, if_pos h, ← h]
  · rw [State.setSt_chan k fault c h]
    split
    · rw [State.exciteOn_loop, State.onLoop_chan]
    · rw [State.onLoop_chan]

theorem State.setSt_chan_ne (s : State) {c d : ChanNo} (new : ChState) (k : StopKind) (fault : Nat) (hd : d ≠ c) :
    (s.setSt c new k fault).chan d = s.chan d := by
  by_cases h : (s.chan c).loop.st = new
  · rw [State.setSt, if_pos h]
  · rw [State.setSt_chan k fault d h]
    split
    · rw [State.exciteOn_chan_ne _ hd, State.onLoop_chan_ne _ _ hd]
    · rw [State.onLoop_chan_ne _ _ hd]

/-! ### A channel in no gang (R138, R143, R290) -/

section
variable {s : State} {c : ChanNo}

/-- Two updates of one channel are one. -/
theorem State.onChan_onChan (s : State) (c : ChanNo) (f g : Chan → Chan) : (s.onChan c f).onChan c g = s.onChan c (fun x => g (f x)) := by
  simp only [State.onChan, State.chan, Vector.set_set, Fin.getElem_fin, Vector.getElem_set_self]

theorem State.membersOf_alone (hg : s.gangOf c = none) : s.membersOf c = [c] := by
  simp only [State.membersOf, hg]

/-- The loop of a channel whose settle begins: switches low, CON closed (R138). -/
def LoopSt.settling (l : LoopSt) (w : SettleFor) : LoopSt := { l.quiet with con := true, settle := w, tcoff := false, kind := .rest }

theorem State.beginSettle_alone {w : SettleFor} (hg : s.gangOf c = none) (hw : (s.chan c).loop.con = false ∨ w ≠ .start) :
    s.beginSettle c w =
      (((s.onLoop c (fun l => l.settling w)).onProt c (fun p => { p with shortWait := 0 })).setSt c .settling .none 0, false) := by
  have hopen : ¬ ((s.chan c).loop.con = true ∧ w = .start) := by
    rintro ⟨hc, rfl⟩
    simp [hc] at hw
  rw [State.beginSettle, if_neg hopen, State.membersOf_alone hg]
  rfl

/-- The loop of a channel whose ramped stop begins from its present reference (R143, R145). -/
def LoopSt.ramping (l : LoopSt) (w : StopFor) (corr : Option Nat) : LoopSt :=
  { l with stopFor := w, ramp := 0, rampFrom := l.total, tkramp := false, ff := false, evCorr := corr }

theorem State.rampStop_alone {w : StopFor} {corr : Option Nat} (hg : s.gangOf c = none)
    (hs : (s.chan c).loop.st = .softstart ∨ (s.chan c).loop.st = .active) (he : s.endingSlot c = none) :
    s.rampStop c w corr = (s.onChan c (fun x => { x with loop := x.loop.ramping w corr, cap := none })).setSt c .stopping .ramped 0 := by
  have hexec : stExec (s.chan c).loop.st = true := by rcases hs with hs | hs <;> rw [hs] <;> rfl
  have hsw : stSwitch (s.chan c).loop.st = true := by rcases hs with hs | hs <;> rw [hs] <;> rfl
  have hterm : s.termFirst c = s := by simp only [State.termFirst, he]
  have hg' : ∀ f, (s.onChan c f).gangOf c = none := fun _ => hg
  simp only [State.rampStop, hterm, hexec, hsw, State.membersOf_alone hg, State.forChans, List.foldl, State.onLoop_eq, State.onChan_onChan,
    State.membersOf_alone (hg' _)]
  rw [if_neg (by simp), if_pos trivial]
  rfl

end

/-! ### PWH and PWL in a period (R66, R113, R149) -/

/-- PWH leads: it is high for its on-time, and PWL rises only DTHL after it has fallen. -/
theorem Duty.levels_pwh {d : Duty} (per dthl dtlh : Nat) (zc : Option Nat) (t : Nat) (hd : d.pwl = false) :
    ((d.levels per dthl dtlh zc t).1 = true ↔ t < d.ton) ∧ ((d.levels per dthl dtlh zc t).2 = true → d.ton + dthl ≤ t) := by
  simp only [Duty.levels, hd, Bool.false_eq_true, if_false, decide_eq_true_eq]
  exact ⟨trivial, fun ⟨_, hrise, _⟩ => hrise⟩

/-- PWL leads: it is high for its on-time, and PWH rises only DTLH after it has fallen. -/
theorem Duty.levels_pwl {d : Duty} (per dthl dtlh : Nat) (zc : Option Nat) (t : Nat) (hd : d.pwl = true) :
    ((d.levels per dthl dtlh zc t).2 = true ↔ t < d.ton) ∧ ((d.levels per dthl dtlh zc t).1 = true → d.ton + dtlh ≤ t) := by
  simp only [Duty.levels, hd, if_true, decide_eq_true_eq]
  exact ⟨trivial, fun ⟨_, hrise, _⟩ => hrise⟩

/-- The switch that leads has fallen when the other rises. -/
theorem Duty.levels_exclusive (d : Duty) (per dthl dtlh : Nat) (zc : Option Nat) (t : Nat) :
    ¬ ((d.levels per dthl dtlh zc t).1 = true ∧ (d.levels per dthl dtlh zc t).2 = true) := by
  rintro ⟨hh, hl⟩
  cases hd : d.pwl with
  | false =>
    obtain ⟨hon, hrise⟩ := d.levels_pwh per dthl dtlh zc t hd
    have hhigh := hon.1 hh
    have hfell := hrise hl
    omega
  | true =>
    obtain ⟨hon, hrise⟩ := d.levels_pwl per dthl dtlh zc t hd
    have hhigh := hon.1 hl
    have hfell := hrise hh
    omega

/-- Settles O6: a channel in no gang is the only one that a settle or a ramped stop names; the levels by which switch leads. -/
theorem settleAndRamp : Obligations.SettleAndRamp := by
  refine ⟨?settle, ?stop, fun d per dthl dtlh zc t u => ⟨d.levels_exclusive per dthl dtlh zc t, ?pwh, ?pwl⟩, ?released⟩
  case settle =>
    intro s c w hg hw
    have hloop : ((s.beginSettle c w).1.chan c).loop = { (s.chan c).loop.settling w with st := .settling } := by
      rw [State.beginSettle_alone hg hw, State.setSt_loop, State.onProt_chan, State.onLoop_chan]
    refine ⟨congrArg Prod.snd (State.beginSettle_alone hg hw), congrArg LoopSt.st hloop, congrArg LoopSt.con hloop, congrArg LoopSt.ramp hloop,
      congrArg LoopSt.settle hloop, fun d hd => ?_⟩
    rw [State.beginSettle_alone hg hw, State.setSt_chan_ne _ _ _ _ hd, State.onProt_chan_ne _ _ hd, State.onLoop_chan_ne _ _ hd]
  case stop =>
    intro s c w hg hs corr he
    have hloop : ((s.rampStop c w corr).chan c).loop = { (s.chan c).loop.ramping w corr with st := .stopping } := by
      rw [State.rampStop_alone hg hs he, State.setSt_loop, State.onChan_chan]
    refine ⟨congrArg LoopSt.st hloop, congrArg LoopSt.stopFor hloop, (congrArg LoopSt.con hloop).trans rfl, fun d hd => ?_⟩
    rw [State.rampStop_alone hg hs he, State.setSt_chan_ne _ _ _ _ hd, State.onChan_chan_ne _ _ hd]
  case pwh =>
    intro hd hh hl
    have hfall := (d.levels_pwh per dthl dtlh zc t hd).1.1 hh
    have hrise := (d.levels_pwh per dthl dtlh zc u hd).2 hl
    omega
  case pwl =>
    intro hd hl hh
    have hfall := (d.levels_pwl per dthl dtlh zc t hd).1.1 hl
    have hrise := (d.levels_pwl per dthl dtlh zc u hd).2 hh
    omega
  case released =>
    intro s c h
    simp [State.conBall, State.tmpExcite, h]

end Sys2Proof.Machine
end

section
/-! Ends of settles and ramps, and the phases inside a step (chapters 04, 07 and 08): what each row leaves where its conditions hold. -/

namespace Sys2Proof.Machine

open Sys2Proof

section
variable {s : State} {c : ChanNo} {v : Int}

/-! ### The end of a settle (R138) -/

theorem State.onLoop_prog (s : State) (c : ChanNo) (f : LoopSt → LoopSt) (d : ChanNo) : ((s.onLoop c f).chan d).prog = (s.chan d).prog := by
  by_cases h : d = c
  · rw [h, State.onLoop_chan]
  · rw [State.onLoop_chan_ne _ _ h]

/-- A leader and its members as the settle ends, with the loop sample of that boundary. -/
def State.settled (s : State) (l : ChanNo) (v : Int) : State :=
  (s.forChans (s.membersOf l) (fun m u => u.onLoop m (fun y => { y with ramp := 0 }))).onLoop l (fun y => { y with vloop := v })

theorem State.settled_prog (s : State) (l : ChanNo) (v : Int) : ((s.settled l v).chan l).prog = (s.chan l).prog :=
  (State.onLoop_prog _ _ _ _).trans (State.forChans_fixes (fun u => (u.chan l).prog) s _ (fun _ u => u.onLoop_prog _ _ _))

/-- The settle of a leader is over: TCON has passed, and no member's cell lies below SHVMIN (R138, R184). -/
structure State.SettleOver (s : State) (l : ChanNo) (v : Int) : Prop where
  st   : (s.chan l).loop.st = .settling
  tcon : s.fld (gA (gOf l) 0x0C) 0 16 * 800000 ≤ (s.chan l).loop.ramp
  cell : ∀ m, m ∈ s.membersOf l → (s.settled l v).bit (chA m 0xAC) 1 = true →
    sx 32 ((s.settled l v).reg (chA m 0xA0)) ≤ ((s.settled l v).chan m).loop.vloop

theorem State.SettleOver.notLow (h : s.SettleOver c v) :
    (s.membersOf c).find? (fun m => (s.settled c v).bit (chA m 0xAC) 1
      && decide (((s.settled c v).chan m).loop.vloop < sx 32 ((s.settled c v).reg (chA m 0xA0)))) = none :=
  List.find?_eq_none.2 (fun m hm hlow => by
    obtain ⟨hbit, hv⟩ := (Bool.and_eq_true _ _).mp hlow
    exact absurd (of_decide_eq_true hv) (not_lt.mpr (h.cell m hm hbit)))

/-- A start goes on with its first step, a step that waited for CON begins. -/
theorem State.settleEnd_over (h : s.SettleOver (s.leaderOf c) v) :
    let l := s.leaderOf c
    let t := s.settled l v
    ((s.chan l).loop.settle = .start → s.settleEnd c v = (t.firstStep l (t.chan l).prog.pc).goSwitch l) ∧
    ((s.chan l).loop.settle = .step → s.settleEnd c v = (t.stepOn l true).goSwitch l) := by
  have hlow := h.notLow
  have hdue := not_or.2 ⟨not_not_intro h.st, not_lt.2 h.tcon⟩
  simp only [State.settled_prog]
  unfold State.settled at *
  constructor <;> intro hw <;> simp only [State.settleEnd, if_neg hdue, hlow, hw]

/-! ### The ends of ramps (R140, R143, R538) -/

theorem exec_softstartEnd_full (hs : (s.chan (s.leaderOf c)).loop.st = .softstart)
    (hr : s.fld (gA (gOf (s.leaderOf c)) 0x0C) 16 16 * 800000 ≤ (s.chan (s.leaderOf c)).loop.ramp) :
    exec (.softstartEnd c) s =
      (let l := s.leaderOf c
      let r := s.xover l
      let t := r.1.forChans (r.1.membersOf l) (fun m u => u.setSt m .active .none 0)
      .next (if r.2 then t.faultStop l [9] else t).refreshMode) :=
  if_neg (not_or.2 ⟨not_not_intro hs, not_lt.2 hr⟩)

theorem exec_rampedStopEnd_zero (hs : (s.chan (s.leaderOf c)).loop.st = .stopping)
    (hr : s.fld (gA (gOf (s.leaderOf c)) 0x10) 0 16 * 800000 ≤ (s.chan (s.leaderOf c)).loop.ramp) :
    exec (.rampedStopEnd c) s = .next (s.finishStop (s.leaderOf c)).refreshMode :=
  if_neg (not_or.2 ⟨not_not_intro hs, not_lt.2 hr⟩)

theorem exec_tcoffExpiry_over (ht : (s.chan c).loop.tcoff = true) (hr : s.fld (gA (gOf c) 0x10) 16 16 * 800000 ≤ (s.chan c).loop.ramp) :
    exec (.tcoffExpiry c) s = .next (s.onLoop c (fun l => { l with tcoff := false, con := false, ramp := 0 })) :=
  if_neg (by simp [ht, hr])

theorem exec_takeoverRampEnd_full (ht : (s.chan (s.leaderOf c)).loop.tkramp = true)
    (hr : s.fld 0x330000 0 8 * 400000 ≤ (s.chan (s.leaderOf c)).loop.tkT) :
    exec (.takeoverRampEnd c) s =
      .next (s.forChans (s.membersOf (s.leaderOf c)) (fun m u => u.onLoop m (fun y => { y with tkramp := false, tkT := 0, tkFrom := 0 }))) :=
  if_neg (by simp [ht, hr])

/-! ### Phases inside a step (R125, R261, R325, R327) -/

/-- The duration in ticks that a PULSE step gives its present level (R261). -/
def Chan.pulseDur (x : Chan) : Nat :=
  let unit := if slotVref x.cur 2 then 8000000 else 80000
  let n := if x.prog.pulseB then bitsOf (slotVal x.cur 2) 16 16 else bitsOf (slotVal x.cur 2) 0 16
  n * unit

theorem exec_pulseLevelChange_due (ht : s.tests (s.leaderOf c) = true) (hk : stepKind (s.chan (s.leaderOf c)).cur = 7)
    (hd : pulseCycles (s.chan (s.leaderOf c)).pulseDur (s.period (gOf (s.leaderOf c))) * s.period (gOf (s.leaderOf c))
      ≤ (s.chan (s.leaderOf c)).prog.phaseT) :
    exec (.pulseLevelChange c) s = .next (s.onProg (s.leaderOf c) (fun p => { p with pulseB := !p.pulseB, phaseT := 0 })) := by
  have hnow : (s.tests (s.leaderOf c) && stepKind (s.chan (s.leaderOf c)).cur == 7
      && decide (pulseCycles (s.chan (s.leaderOf c)).pulseDur (s.period (gOf (s.leaderOf c))) * s.period (gOf (s.leaderOf c))
        ≤ (s.chan (s.leaderOf c)).prog.phaseT)) = true := by
    rw [ht, hk, decide_eq_true hd]
    rfl
  exact if_pos hnow

theorem exec_dcirPhaseChange_due (ht : s.tests (s.leaderOf c) = true) (hk : stepKind (s.chan (s.leaderOf c)).cur = 8)
    (hb : (s.chan (s.leaderOf c)).prog.dcirB = false)
    (hd : dcirT (s.chan (s.leaderOf c)).cur false ≤ (s.chan (s.leaderOf c)).prog.phaseT) :
    exec (.dcirPhaseChange c) s = .next (s.onProg (s.leaderOf c) (fun p => { p with dcirB := true, phaseT := 0 })) :=
  if_pos (by simp [ht, hk, hb, hd])

theorem exec_dcirStepEnd_due (ht : s.tests (s.leaderOf c) = true) (hk : stepKind (s.chan (s.leaderOf c)).cur = 8)
    (hb : (s.chan (s.leaderOf c)).prog.dcirB = true)
    (hd : dcirT (s.chan (s.leaderOf c)).cur true ≤ (s.chan (s.leaderOf c)).prog.phaseT) :
    exec (.dcirStepEnd c) s = .next ((s.slotOrEnd (s.leaderOf c)).driveCycle (s.leaderOf c) true true).refreshMode :=
  if_pos (by simp [ht, hk, hb, hd])

end

theorem four_le_pulseCycles (dur period : Nat) : 4 ≤ pulseCycles dur period := Nat.le_max_left _ _

/-- The whole number of periods nearest a duration lies within half a period of it. -/
theorem pulseCycles_nearest {dur period : Nat} (hp : 0 < period) (h4 : 4 ≤ (2 * dur + period) / (2 * period)) :
    2 * dur < (2 * pulseCycles dur period + 1) * period ∧ 2 * pulseCycles dur period * period ≤ 2 * dur + period := by
  have hq : pulseCycles dur period = (2 * dur + period) / (2 * period) := by
    rw [pulseCycles, show Nat.max 1 period = period from Nat.max_eq_right hp]
    exact Nat.max_eq_right h4
  rw [hq]
  have hle := Nat.mul_div_le (2 * dur + period) (2 * period)
  have hlt := Nat.lt_mul_div_succ (2 * dur + period) (show 0 < 2 * period by omega)
  constructor <;> linarith

/-- Settles O13: each row at its time, the two settles by what they settled for. -/
theorem rampsAndStepPhases : Obligations.RampsAndStepPhases := by
  refine ⟨⟨?start, ?step, ?soft, ?stop, ?tcoff, ?takeover⟩, ?pulse, ?dcirPhase, ?dcirEnd, ?cycles⟩
  case start =>
    intro s c v l x t hs hr hw hv
    exact congrArg (fun u : State => Host.Outcome.next u.refreshMode) ((State.settleEnd_over ⟨hs, hr, hv⟩).1 hw)
  case step =>
    intro s c v l x t hs hr hw hv
    exact congrArg (fun u : State => Host.Outcome.next u.refreshMode) ((State.settleEnd_over ⟨hs, hr, hv⟩).2 hw)
  case soft => exact fun s c hs hr => exec_softstartEnd_full hs hr
  case stop => exact fun s c hs hr => exec_rampedStopEnd_zero hs hr
  case tcoff => exact fun s c ht hr => exec_tcoffExpiry_over ht hr
  case takeover => exact fun s c ht hr => exec_takeoverRampEnd_full ht hr
  case pulse => exact fun s c ht hk hd => exec_pulseLevelChange_due ht hk hd
  case dcirPhase => exact fun s c ht hk hb hd => exec_dcirPhaseChange_due ht hk hb hd
  case dcirEnd => exact fun s c ht hk hb hd => exec_dcirStepEnd_due ht hk hb hd
  case cycles => exact fun dur period hp => ⟨four_le_pulseCycles dur period, pulseCycles_nearest hp⟩

end Sys2Proof.Machine
end

section
/-! Control cycles, barriers, GPIO edges and self-tests (chapters 03, 04 and 07): what each row leaves where its conditions hold. -/

namespace Sys2Proof.Machine

open Sys2Proof

section
variable {s : State} {g : GatherNo}

/-! ### The control cycle (R111, R116 to R158) -/

/-- A Gather that stands still runs no cycle; any other runs the cycle's work in its order. -/
theorem exec_controlCycle_running (x : CycleIn) (hg : s.gatOff g = false) :
    exec (.controlCycle g x) s =
      (let a := (s.tickTo x.epoch).nextPeriod g
      let b := a.forChans (chansOf g) (fun c u => u.sampleOne c (x.ch.getD (kOf c) {}))
      let d := if x.integ then b.integrate g { x with ch := (chansOf g).map (fun c => a.calIn c (x.ch.getD (kOf c) {})) } else b
      let lead := (chansOf g).filter (fun c => !d.follower c)
      let e := d.forChans lead (fun c u =>
        let v := ((u.pushTotal c).countTicks c).demodCycle a x c
        if x.grid100 then v.onProg c ProgSt.point100 else v)
      .next ((e.forChans lead (fun c u => u.leaderCycle c)).takeInputs g).refreshMode) :=
  congrArg Host.Outcome.next (if_neg (by simp [hg]))

theorem mem_chansOf (c : ChanNo) : c ∈ chansOf (gOf c) :=
  List.mem_map.2 ⟨⟨c.val % 8, Nat.mod_lt _ (by decide)⟩, List.mem_finRange _, Fin.ext (Nat.div_add_mod c.val 8)⟩

theorem State.forChans_concat (s : State) (l : List ChanNo) (d : ChanNo) (f : ChanNo → State → State) :
    s.forChans (l ++ [d]) f = f d (s.forChans l f) :=
  List.foldl_concat ..

/-- Where each channel of a list gets a START that rests on registers alone, it is the one that the state before gives: by the list from its end,
as the last write at a channel stands. -/
theorem State.forChans_start (s : State) {l : List ChanNo} {c : ChanNo} {f : ChanNo → State → Nat} (hc : c ∈ l)
    (hf : ∀ d (t : State), t.regs = s.regs → f d t = f d s) :
    ((s.forChans l (fun d t => t.onLoop d (fun x => { x with start := f d t }))).chan c).loop.start = f c s := by
  induction l using List.reverseRecOn with
  | nil => cases hc
  | append_singleton l d ih =>
    simp only [State.forChans_concat]
    by_cases hd : c = d
    · rw [← hd, State.onLoop_chan]
      exact hf c _ (State.forChans_fixes State.regs s l (fun _ _ => rfl))
    · rw [State.onLoop_chan_ne _ _ hd]
      exact ih ((List.mem_append.1 hc).resolve_right (fun h => hd (List.mem_singleton.1 h)))

section
variable {t : State}

theorem State.reg_congr (h : t.regs = s.regs) (a : Nat) : t.reg a = s.reg a := by
  simp only [State.reg, h]

theorem State.period_congr (h : t.regs = s.regs) (g : GatherNo) : t.period g = s.period g := by
  simp only [State.period, State.fld, State.reg_congr h]

theorem State.phase_congr (h : t.regs = s.regs) (c : ChanNo) : t.phase c = s.phase c := by
  rw [State.phase, State.phase, State.bit, State.bit, State.period_congr h, State.reg_congr h]

end

/-- Each channel's period begins at its own phase behind the Gather's (R111, R112, R157). -/
theorem State.nextPeriod_start (s : State) (c : ChanNo) :
    ((s.nextPeriod (gOf c)).chan c).loop.start =
      (s.gat (gOf c)).epoch + ((s.gat (gOf c)).perN + 1) * s.period (gOf c) + s.phase c := by
  refine (State.forChans_start _ (mem_chansOf c) (fun d t ht => ?_)).trans ?_
  · simp only [State.period_congr ht, State.phase_congr ht]
  · rw [State.onGat_gat]
    rfl

/-! ### Barriers and edges (R269, R283) -/

theorem exec_syncRelease_due {t b : Nat} {x : Barrier}
    (hx : s.barriers.find? (fun y => y.tenant == t && y.num == b && y.trel.isSome) = some x) (hd : x.trel.getD 0 ≤ s.ptp) :
    exec (.syncRelease t b) s =
      (let u := { s with barriers := s.barriers.filter (fun y => y ≠ x) }
      .next (u.forChans ((x.arrived.filterMap chan?).filter (fun c => (u.chan c).prog.sync && u.tests c))
        (fun c v => (v.slotOrEnd c).driveCycle c true true)).refreshMode) := by
  change execSyncRelease t b s = _
  simp only [execSyncRelease, hx]
  exact if_neg (not_lt.2 hd)

/-! ### Self-tests (R92 to R94, R173) -/

section
variable {h : CmdHead} {k : Nat}

theorem exec_deferredSelftestRun_atRest {rest : List (CmdHead × Nat)} (hd : (s.gat g).deferred = (h, k) :: rest) (hs : (s.gat g).slot = none)
    (hr : s.gatAtRest g = true) :
    exec (.deferredSelftestRun g) s =
      .next (s.onGat g (fun y => { y with slot := some k, slotBy := some h, slotDef := true, deferred := rest })).refreshMode := by
  change execDeferredSelftestRun g s = _
  simp only [execDeferredSelftestRun, hd, hs]
  exact if_pos hr

/-- The end of a slot frees it and gives what the test found, to the event of a deferred test or to the command's completion. -/
theorem exec_selftestSlotEnd_running (pass : BitVec 8) (loopOk : Bool) (hk : (s.gat g).slot = some k) (hb : (s.gat g).slotBy = some h)
    (hg : s.gatOff g = false) :
    exec (.selftestSlotEnd g pass loopOk) s =
      (let m := if k = 1 then pass.toNat else if loopOk then 255 else 0
      let t := (s.testResult g k pass.toNat loopOk).onGat g (fun y => { y with slot := none, slotBy := none, slotDef := false })
      .next (if (s.gat g).slotDef then t.selftestEvt g h k 0 m (255 - m) else t.complete h (.selftest g.val k) {})) := by
  change execSelftestSlotEnd g pass loopOk s = _
  simp only [execSelftestSlotEnd, hk, hb]
  exact (if_neg (by simp [hg])).trans (apply_ite Host.Outcome.next _ _ _).symm

end

end

/-- Settles O14: each row under its conditions; a self-test's end by whether the test was deferred. -/
theorem cyclesEventsAndSelfTests : Obligations.CyclesEventsAndSelfTests := by
  refine ⟨⟨?cycle, ?start, ?sync, ?edge⟩, ?deferred, ?completes, ?event⟩
  case cycle => exact fun s g x hg => exec_controlCycle_running x hg
  case start =>
    rintro s g c rfl
    exact (s.nextPeriod_start c).trans (Nat.add_assoc _ _ _).symm
  case sync => exact fun s t b x hx hd => exec_syncRelease_due hx hd
  case edge => exact fun s pin rising => rfl
  case deferred => exact fun s g h k rest hd hs hr => exec_deferredSelftestRun_atRest hd hs hr
  case completes =>
    exact fun s g pass loopOk k h hk hb hd hg =>
      (exec_selftestSlotEnd_running pass loopOk hk hb hg).trans (congrArg Host.Outcome.next (if_neg (by simp [hd])))
  case event =>
    exact fun s g pass loopOk k h hk hb hd hg =>
      (exec_selftestSlotEnd_running pass loopOk hk hb hg).trans (congrArg Host.Outcome.next (if_pos hd))

end Sys2Proof.Machine
end

section
/-! Protections of a channel (chapter 05): the Crack-off latch and its retry, slow overload, the reverse cell and the lost contact. -/

namespace Sys2Proof.Machine

open Sys2Proof

section
variable {s : State} {c : ChanNo} {v : Int}

/-! ### Crack-off (R164 to R171) -/

/-- VCK with its fraction cleared: 16 mV × (255 + 7 CKTH), against 255 times the shunt voltage in nV (R164). -/
theorem State.ckReached_iff (s : State) (c : ChanNo) (v : Int) :
    s.ckReached c v = true ↔ 16 * (255 + 7 * (s.fld (chA c 0x84) 0 8 : Int)) * 1000000 ≤ 255 * (v.natAbs : Int) := by
  rw [State.ckReached, decide_eq_true_iff]
  omega

/-- A channel whose comparator trips at a time: the latch holds both switches low, TCOFF counts, and the trip is counted (R167, R170). -/
def Chan.tripped (x : Chan) (at_ : Nat) : Chan :=
  { x with
    prot := { x.prot with ckLatch := true, ckOff := !stSwitch x.loop.st && decide (x.loop.mid.ton = 0), noTripT := 0, tripT := at_ }
    loop := { x.loop with mid := {}, next := {}, tcoff := x.loop.con, ramp := if x.loop.tcoff then x.loop.ramp else 0 }
    cntNew := { x.cntNew with ckoff := x.cntNew.ckoff + 1 } }

theorem exec_crackOff_below (hr : s.ckReached c v = false) : exec (.crackOff ⟨c, v⟩) s = .next s :=
  if_pos (.inl (by simp [hr]))

section
variable (hr : s.ckReached c v = true) (hl : (s.chan c).prot.ckLatch = false)
include hr hl

theorem State.crackOff_not_ignored : ¬ (!s.ckReached c v ∨ (s.chan c).prot.ckLatch) := by
  simp [hr, hl]

theorem exec_crackOff_trips (hs : (s.chan c).loop.st ≠ .released) :
    exec (.crackOff ⟨c, v⟩) s = .next (s.onChan c (fun x => x.tripped s.ptp)) := by
  refine ((if_neg (State.crackOff_not_ignored hr hl)).trans (if_neg hs)).trans (congrArg Host.Outcome.next ?_)
  simp only [State.onProt_eq, State.onLoop_eq, State.onChan_onChan]
  rfl

theorem exec_crackOff_twin (hs : (s.chan c).loop.st = .released) (hm : s.mode.mode = .twin) :
    exec (.crackOff ⟨c, v⟩) s = .next (s.onProt c (fun p => { p with twinck := Nat.min 15 (p.twinck + 1) })) :=
  ((if_neg (State.crackOff_not_ignored hr hl)).trans (if_pos hs)).trans (congrArg Host.Outcome.next (if_pos hm))

end

theorem exec_crackOffRetry_due (hs : (s.chan (s.leaderOf c)).loop.st = .faulted) (hw : (s.chan (s.leaderOf c)).prot.retryWait = true)
    (ht : (s.chan (s.leaderOf c)).prot.tripT + 100000000 ≤ s.ptp) :
    exec (.crackOffRetry c) s =
      (let l := s.leaderOf c
      .next ((s.forChans (s.membersOf l) (fun m u => u.onProt m (fun p => { p with retryWait := false }))).beginSettle l .retry).1.refreshMode) :=
  if_neg (by simp [hs, hw, ht])

theorem exec_retryCountReset_due (ht : 80000000000 ≤ (s.chan c).prot.noTripT) :
    exec (.retryCountReset c) s = .next (s.onProt c (fun p => { p with retries := 0 })) :=
  if_neg (not_lt.2 ht)

/-! ### Slow overload, the reverse cell and the lost contact (R174, R186, R187) -/

theorem exec_slowOvl_met (h : s.slowMet c = true) : exec (.slowOvl c) s = .next (s.faultStop c [0x0A]).refreshMode :=
  if_pos h

section
variable (hr : s.reversed c = true) (hm : s.mode.mode ≠ .twin)
include hr hm

theorem State.reverseCell_not_ignored : ¬ (!s.reversed c ∨ s.mode.mode = .twin) := by
  simp [hr, hm]

/-- With CON high a reverse cell stops the channel. -/
theorem exec_reverseCell_stops (hc : (s.chan c).loop.con = true) (hs : (s.chan c).stoppable = true) :
    exec (.reverseCell c) s = .next (((s.faultStop c [7]).onProt c (fun p => { p with revSeen := true })).refreshMode) :=
  ((if_neg (State.reverseCell_not_ignored hr hm)).trans (if_pos hc)).trans (congrArg (fun t : State => Host.Outcome.next t.refreshMode) (if_pos hs))

/-- With CON low there is nothing to stop: the first finding gives its event. -/
theorem exec_reverseCell_reports (hn : (s.chan c).prot.revSeen = false) (hc : (s.chan c).loop.con = false) :
    exec (.reverseCell c) s = .next (((s.faultEvent c 7).onProt c (fun p => { p with revSeen := true })).refreshMode) :=
  ((if_neg (State.reverseCell_not_ignored hr hm)).trans (if_neg (by simp [hc]))).trans
    (congrArg (fun t : State => Host.Outcome.next t.refreshMode) (if_neg (by simp [hn])))

end

theorem exec_contactLoss_stops (hb : s.bit (chA c 0xAC) 3 = true) (hm : s.mode.mode ≠ .twin) (hc : (s.chan c).loop.con = true)
    (hs : (s.chan c).stoppable = true) : exec (.contactLoss c) s = .next (((s.faultStop c [8]).cellChange c 0).refreshMode) :=
  (if_neg hm).trans (congrArg (fun t : State => Host.Outcome.next (t.cellChange c 0).refreshMode)
    ((if_neg (by simp [hb])).trans (if_pos ⟨hc, hs⟩)))

/-- Where the protection is off, the lost contact is a cell change alone. -/
theorem exec_contactLoss_off (hb : s.bit (chA c 0xAC) 3 = false) (hm : s.mode.mode ≠ .twin) :
    exec (.contactLoss c) s = .next (s.cellChange c 0).refreshMode :=
  (if_neg hm).trans (congrArg (fun t : State => Host.Outcome.next (t.cellChange c 0).refreshMode) (if_pos (by simp [hb])))

end

/-- Settles O15: each row under its conditions; a trip changes its channel alone. -/
theorem channelProtections : Obligations.ChannelProtections := by
  refine ⟨?trip, fun s c v hr => exec_crackOff_below hr, State.ckReached_iff, ?twin, ?retry, ?reset, ?slow, ?reverse, ?reverseOpen, ?contact,
    ?contactOff⟩
  case trip =>
    intro s c v hr hl hs l
    have hx : (s.onChan c (fun x => x.tripped s.ptp)).chan c = (s.chan c).tripped s.ptp := s.onChan_chan c _
    exact ⟨_, exec_crackOff_trips hr hl hs, congrArg Chan.prot hx, congrArg Chan.loop hx, congrArg Chan.cntNew hx,
      fun d hd => s.onChan_chan_ne _ hd, s.onChan_regs c _, s.onChan_gathers c _, s.onChan_board c _⟩
  case twin => exact fun s c v hr hl hs hm => exec_crackOff_twin hr hl hs hm
  case retry => exact fun s c hs hw ht => exec_crackOffRetry_due hs hw ht
  case reset => exact fun s c ht => exec_retryCountReset_due ht
  case slow => exact fun s c h => exec_slowOvl_met h
  case reverse => exact fun s c hr hm hc hs => exec_reverseCell_stops hr hm hc hs
  case reverseOpen => exact fun s c hr hm hn hc => exec_reverseCell_reports hr hm hn hc
  case contact => exact fun s c hb hm hc hs => exec_contactLoss_stops hb hm hc hs
  case contactOff => exact fun s c hb hm => exec_contactLoss_off hb hm

end Sys2Proof.Machine
end

section
/-! Protections of a Gather and its bus flags (chapters 05 and 09): temperature, the sensors' faults, bus stops and the bus window. -/

namespace Sys2Proof.Machine

open Sys2Proof

/-! ### Warnings with hysteresis (R350) -/

section
variable {p q : Prop} [Decidable p] [Decidable q]

theorem hystFlag_beyond (old : Bool) (hp : p) : hystFlag old (decide p) (decide q) = true := by
  simp [hystFlag, hp]

theorem hystFlag_back (old : Bool) (hp : ¬ p) (hq : q) : hystFlag old (decide p) (decide q) = false := by
  simp [hystFlag, hp, hq]

theorem hystFlag_between (old : Bool) (hp : ¬ p) (hq : ¬ q) : hystFlag old (decide p) (decide q) = old := by
  simp [hystFlag, hp, hq]

end

section
variable {s : State} {g : GatherNo}

/-! ### Temperature and sensors (R176 to R179, R210, R351) -/

theorem exec_temperatureUpdate_running (cells : List Nat) (stage : Nat) (hg : s.gatOff g = false) :
    exec (.temperatureUpdate g cells stage) s =
      (let t := (s.forChans (chansOf g) (fun c u => u.cellTemp c (cells.getD (kOf c) 0))).stageTemp g stage
      .next (if (t.gat g).stgSeen then t.forChans (chansOf g) (fun c u => u.thermal c) else t).refreshMode) :=
  if_neg (by simp [hg])

theorem exec_stgtSensor_invalid (hb : 10 ≤ (s.gat g).stgBadMs) (hf : s.fenced (uGat g) = false) :
    exec (.stgtSensor g) s = .next (s.fault (uGat g) 1) :=
  if_neg (by simp [hb, hf])

theorem exec_busSensor_invalid (hb : 80000000 ≤ (s.gat g).senBad) (hf : s.fenced (uGat g) = false) :
    exec (.busSensor g) s = .next (s.fault (uGat g) 8) :=
  if_neg (by simp [hb, hf])

/-! ### Bus stops (R350) -/

theorem exec_busStop_running (ovr : Bool) (hg : s.gatOff g = false) :
    exec (.busStop g ovr) s =
      (let code := if ovr then 0x16 else 0x15
      .next (s.forChans (chansOf g) (fun c u => if (u.busCauses c).contains code then u.faultStop c [code] else u)).refreshMode) :=
  if_neg (by simp [hg])

/-- An undervoltage stops the channels that draw from the bus. -/
theorem State.busCauses_undervoltage (s : State) (c : ChanNo) :
    (s.busCauses c).contains 0x15 = true ↔
      (s.gat (gOf c)).uvs = true ∧ stSwitch (s.chan c).loop.st = true ∧ 0 < (s.chan c).loop.iref := by
  have hov : 0x15 ∉ (if (s.gat (gOf c)).ovs ∧ (s.chan c).loop.iref < 0 then [0x16] else []) := by
    split <;> simp
  cases hsw : stSwitch (s.chan c).loop.st with
  | false => simp [State.busCauses, hsw]
  | true => simp [State.busCauses, hsw, hov]

end

/-- Settles O16: each row under its conditions; a bus window by its flags, each against its own threshold. -/
theorem gatherProtectionsAndBusFlags : Obligations.GatherProtectionsAndBusFlags := by
  refine ⟨⟨fun s g cells stage hg => exec_temperatureUpdate_running cells stage hg, ?stage, ?sense, ?stop⟩, State.busCauses_undervoltage, ?window⟩
  case stage => exact fun s g hb hf => ⟨_, rfl, rfl, rfl, exec_stgtSensor_invalid hb hf⟩
  case sense => exact fun s g hb hf => ⟨_, rfl, rfl, rfl, exec_busSensor_invalid hb hf⟩
  case stop => exact fun s g ovr hg => exec_busStop_running ovr hg
  case window =>
    intro s g v i hg vb uvw uvs ovw ovs h db
    refine ⟨_, if_neg (by simp [hg]), ?_⟩
    simp only [State.onGat_gat]
    refine ⟨rfl,
      fun hu => hystFlag_beyond _ hu, fun hu hb => hystFlag_back _ (not_lt.2 hu) hb, fun hu hb => hystFlag_between _ (not_lt.2 hu) (not_le.2 hb),
      fun ho => hystFlag_beyond _ ho, fun ho hb => hystFlag_back _ (not_lt.2 ho) hb, fun ho hb => hystFlag_between _ (not_lt.2 ho) (not_le.2 hb),
      rfl, rfl, fun hn => hystFlag_beyond _ hn, fun hn => hystFlag_beyond _ hn,
      ?bad, ?good, fun e he => s.onGat_gat_ne _ he, rfl, rfl, rfl, rfl⟩
    case bad =>
      intro hbad
      have hout : (decide (2450000 < v) || decide (64000000 < i.natAbs)) = true := by simpa using hbad
      simp [hout]
    case good =>
      intro hv hi
      simp [hv, hi]

end Sys2Proof.Machine
end

section
/-! The measurement commands (Table 12-9): what each answers on the channel that it names. -/

namespace Sys2Proof.Machine

open Sys2Proof

theorem onChanOf_some {s : State} {n : Nat} {c : ChanNo} {f : ChanNo → Done} (hc : chan? n = some c) : onChanOf s n f = f c := by
  simp only [onChanOf, hc]

/-- Settles O7: each command's effect is known on the channel that its head names. -/
theorem measureCommandsComplete : Obligations.MeasureCommandsComplete := by
  refine ⟨?cfg, ?read, ?coef, ?chRead⟩
  case cfg => exact fun s h c setRate setRange rate rng fix ha hc => exec_answered rfl ha (onChanOf_some hc)
  case read => exact fun s h c ha hc => exec_answered rfl ha (onChanOf_some hc)
  case coef => exact fun s h c layer qty ha hc => exec_answered rfl ha (onChanOf_some hc)
  case chRead => exact fun s h c ha hc => exec_answered rfl ha (onChanOf_some hc)

end Sys2Proof.Machine
end

section
/-! Output samples and twin sensing (R203 to R207, R243 to R248): what each row leaves where its conditions hold. -/

namespace Sys2Proof.Machine

open Sys2Proof

section
variable {s : State} {c : ChanNo}

@[simp] theorem State.onMeas_chan (s : State) (c : ChanNo) (f : MeasSt → MeasSt) :
    (s.onMeas c f).chan c = { s.chan c with meas := f (s.chan c).meas } :=
  s.onChan_chan c _

@[simp] theorem State.onEst_chan (s : State) (c : ChanNo) (f : EstSt → EstSt) :
    (s.onEst c f).chan c = { s.chan c with est := f (s.chan c).est } :=
  s.onChan_chan c _

theorem State.onMeas_chan_ne (s : State) {c d : ChanNo} (f : MeasSt → MeasSt) (h : d ≠ c) : (s.onMeas c f).chan d = s.chan d :=
  s.onChan_chan_ne _ h

/-! ### Output samples (R203, R204, R206, R218) -/

/-- The measurement whose output window ends at a stamp with known values and status; the next window begins (R203, R249). -/
def MeasSt.sampled (m : MeasSt) (l : LoopSt) (stamp : Nat) (v i : Int) (status : Nat) : MeasSt :=
  { m with
    vout := v, iout := i, stamp, mstat := status, winFlags := 0, winParts := [], winEnd := some stamp
    smpTcell := m.tcell, smpIref := l.iref, smpState := stCode l.st }

/-- Holding a sample adds it to those held and changes nothing else of the channel (R244). -/
theorem State.holdSmp_chan (s : State) (c : ChanNo) :
    ∃ l, (s.holdSmp c).chan c = { s.chan c with meas := { (s.chan c).meas with held := l } } := by
  unfold State.holdSmp
  split
  · exact ⟨_, s.onMeas_chan c _⟩
  · exact ⟨_, rfl⟩

/-- An output window has ended with known values, and its sample is held where the channel has a twin. -/
def State.windowTaken (s : State) (c : ChanNo) (stamp : Nat) (v i : Int) : State :=
  (s.onMeas c (fun m => m.sampled (s.chan c).loop stamp v i ((s.chan c).meas.winFlags ||| s.statusNow c))).holdSmp c

theorem State.windowTaken_chan (s : State) (c : ChanNo) (stamp : Nat) (v i : Int) :
    ∃ l, (s.windowTaken c stamp v i).chan c =
      { s.chan c with meas :=
        { (s.chan c).meas.sampled (s.chan c).loop stamp v i ((s.chan c).meas.winFlags ||| s.statusNow c) with held := l } } := by
  obtain ⟨l, hl⟩ := State.holdSmp_chan (s.onMeas c _) c
  exact ⟨l, hl.trans (by rw [State.onMeas_chan])⟩

/-- A window of which some clock counts gives its values; where no saved OCV awaits its first sample, nothing else follows (R218, R342). -/
theorem State.takeSample_known {stamp : Nat} {raw : List RawPart} {v i : Int} (hv : s.winV c raw = some v) (hi : s.winI c raw = some i)
    (ho : (s.chan c).est.savedOcv = none) :
    s.takeSample c stamp raw = (s.windowTaken c stamp v i).onEst c
      (fun e => { e with stamped := true, savedOcv := if ((s.windowTaken c stamp v i).chan c).resume then none else e.savedOcv }) := by
  obtain ⟨l, hl⟩ := s.windowTaken_chan c stamp v i
  have he : ((s.windowTaken c stamp v i).chan c).est.savedOcv = none := by rw [hl]; exact ho
  simp only [State.takeSample, State.winValue, hv, hi]
  split
  next o hsaved => cases he.symm.trans hsaved
  next => rfl

theorem exec_outputSample_executing {stamp : Nat} {ns : List Nat} {raw : List (Int × Int)} (hg : s.gatOff (gOf c) = false)
    (hw : s.windowEnds c stamp = true) (hm : (s.takeSample c stamp (rawParts ns raw)).mode.mode ≠ .twin)
    (hx : stExec ((s.takeSample c stamp (rawParts ns raw)).chan c).loop.st = true)
    (hf : (s.takeSample c stamp (rawParts ns raw)).follower c = false) :
    exec (.outputSample c stamp ns raw) s =
      (let t := s.takeSample c stamp (rawParts ns raw)
      let m := (t.chan c).meas
      .next (t.sampleRec 0x60 c stamp (t.samplePayload c stamp m.vout (t.recI c) m.mstat))) :=
  (if_neg (by simp [hg, hw])).trans ((if_neg hm).trans (if_pos (by simp [hx, hf])))

/-! ### Output rates (R207) -/

theorem exec_outrateChange_due {r due : Nat} (hn : (s.chan c).meas.newRate = some (r, due)) :
    exec (.outrateChange c due) s = .next ((s.setFld (chA c 0xC0) 0 4 r).onMeas c (fun m => { m with newRate := none })) := by
  change execOutrateChange c due s = _
  simp only [execOutrateChange, hn]
  exact if_pos trivial

/-- The next multiple of the grids' common period is the first point after now on both (R207). -/
theorem State.rateTime_first (s : State) {old new : Nat} (ho : 0 < outPeriod old) (hn : 0 < outPeriod new) :
    s.ptp < s.rateTime old new ∧ s.rateTime old new % outPeriod old = 0 ∧ s.rateTime old new % outPeriod new = 0 ∧
      ∀ t, s.ptp < t → t % outPeriod old = 0 → t % outPeriod new = 0 → s.rateTime old new ≤ t := by
  have hl : 0 < Nat.lcm (outPeriod old) (outPeriod new) := Nat.lcm_pos ho hn
  have hd : Nat.lcm (outPeriod old) (outPeriod new) ∣ s.rateTime old new := Nat.dvd_mul_left _ _
  refine ⟨Nat.lt_mul_of_div_lt (Nat.lt_succ_self _) hl, Nat.mod_eq_zero_of_dvd ((Nat.dvd_lcm_left _ _).trans hd),
    Nat.mod_eq_zero_of_dvd ((Nat.dvd_lcm_right _ _).trans hd), fun t hp h1 h2 => ?least⟩
  obtain ⟨k, rfl⟩ := Nat.lcm_dvd (Nat.dvd_of_mod_eq_zero h1) (Nat.dvd_of_mod_eq_zero h2)
  exact (Nat.mul_le_mul_right _ (Nat.div_lt_of_lt_mul hp)).trans_eq (Nat.mul_comm _ _)

/-! ### Twin sensing (R243 to R248) -/

/-- The end of the oldest hold, by what the comparison gives (R244, R246, R247). -/
theorem exec_twinHoldExpiry_oldest {h : HeldSmp} {rest : List HeldSmp} (hh : (s.chan c).meas.held = h :: rest) :
    exec (.twinHoldExpiry c) s =
      (let r := s.twinResult c h
      let t := s.onMeas c (fun m => { m.twinRun r with held := rest })
      let m := (s.chan c).meas.twinRun r
      let u := { t with recFifo := releaseHeld c.val h.stamp (r == some true) m.twinBits s.recFifo }
      .next (if r == some false && decide (4 ≤ m.diffRun) && m.diffArmed
        then (u.onMeas c (fun m => { m with diffArmed := false })).faultEvent c 0x0E else u)) := by
  change execTwinHoldExpiry c s = _
  simp only [execTwinHoldExpiry, hh, State.onMeas_chan]
  rfl

theorem State.twinResult_comparable {h : HeldSmp} {t : TwinIn} (ht : (s.chan c).meas.twin = some t) (hs : t.stamp = h.stamp)
    (hg : t.calgen = h.calgen) (hr : t.rate = h.rate) (hl : s.board.linkUp = true) :
    s.twinResult c h = some (s.twinAgrees c h.v h.i h.rng h.rate t) := by
  simp only [State.twinResult, ht]
  exact if_pos ⟨hs, hg, hr, hl⟩

theorem State.twinResult_none_iff (s : State) (c : ChanNo) (h : HeldSmp) : s.twinResult c h = none ↔
    ((s.chan c).meas.twin = none ∨ s.board.linkUp = false ∨
      ∃ t, (s.chan c).meas.twin = some t ∧ (t.stamp ≠ h.stamp ∨ t.calgen ≠ h.calgen ∨ t.rate ≠ h.rate)) := by
  unfold State.twinResult
  cases ht : (s.chan c).meas.twin with
  | none => simp
  | some t => 
    simp only [ite_eq_right_iff, reduceCtorEq, imp_false, not_and_or, Option.some.injEq, exists_eq_left', Bool.not_eq_true, false_or]
    tauto

end

/-- Settles O17: each row under its conditions; the end of a hold by what the comparison gives. -/
theorem samplesAndTwins : Obligations.SamplesAndTwins := by
  refine ⟨?window, ?sample, ?change, ?grid, ?arrives, ?alone, ?agrees, ?differs, ?compared, ?notCompared⟩
  case window => exact fun s c stamp ns raw hg hw hm hx hf => exec_outputSample_executing hg hw hm hx hf
  case sample =>
    intro s c stamp raw v i hv hi m ho
    obtain ⟨l, hl⟩ := s.windowTaken_chan c stamp v i
    simp only [m, State.takeSample_known hv hi ho, State.onEst_chan, hl]
    exact ⟨rfl, rfl, rfl, rfl, rfl, rfl, rfl, rfl⟩
  case change => exact fun s c r due hn => exec_outrateChange_due hn
  case grid => exact fun s old new ho hn => s.rateTime_first ho hn
  case arrives => exact fun s c stamp v i rng calgen rate => rfl
  case alone =>
    intro s c h rest hh hr t
    rw [exec_twinHoldExpiry_oldest hh, hr]
    rfl
  case agrees =>
    intro s c h rest hh hr t
    rw [exec_twinHoldExpiry_oldest hh, hr]
    rfl
  case differs =>
    intro s c h rest hh hr raise t u
    rw [exec_twinHoldExpiry_oldest hh, hr]
    rfl
  case compared => exact fun s c h t ht hs hg hr hl => State.twinResult_comparable ht hs hg hr hl
  case notCompared => exact fun s c h hn => (s.twinResult_none_iff c h).2 hn

end Sys2Proof.Machine
end

section
/-! The Punty rotation (R230 to R237): each stage of a swap by what it leaves of the Gather. -/

namespace Sys2Proof.Machine

open Sys2Proof

/-! ### One Punty beside the other -/

/-- Of its Gather an update of a Punty changes that Punty alone. -/
theorem Gather.onPunty_eq (y : Gather) (b : Bool) (f : Punty → Punty) :
    y.onPunty b f = { y with pa := if b then y.pa else f y.pa, pb := if b then f y.pb else y.pb } := by
  cases b <;> rfl

@[simp] theorem Gather.onPunty_punty (y : Gather) (b : Bool) (f : Punty → Punty) : (y.onPunty b f).punty b = f (y.punty b) := by
  cases b <;> rfl

@[simp] theorem Gather.onPunty_punty_not (y : Gather) (b : Bool) (f : Punty → Punty) : (y.onPunty b f).punty (!b) = y.punty (!b) := by
  cases b <;> rfl

section
variable {s : State} {g : GatherNo} {b : Bool}

/-- Two updates of one Gather are one. -/
theorem State.onGat_onGat (s : State) (g : GatherNo) (f k : Gather → Gather) : (s.onGat g f).onGat g k = s.onGat g (fun y => k (f y)) := by
  simp only [State.onGat, State.gat, Vector.set_set, Fin.getElem_fin, Vector.getElem_set_self]

/-- An update counts by what it makes of the Gather as it stands. -/
theorem State.onGat_congr {f k : Gather → Gather} (h : f (s.gat g) = k (s.gat g)) : s.onGat g f = s.onGat g k := by
  rw [State.onGat, State.onGat, h]

/-! ### The start of a swap (R230, R231) -/

/-- The next swap begins with a Punty, which shadows the swap's input. -/
def Gather.swapBegun (y : Gather) (b : Bool) (now : Nat) : Gather :=
  ({ y with waiting := false, swapNo := y.swapNo + 1 }).onPunty b (fun p => { p.enter .shadow (y.swapNo % 16) now with swap := true, num := y.swapNo })

/-- The Punty that R230 names for the next swap. -/
def Gather.firstPunty (y : Gather) : Bool := decide ((y.swapNo + y.swapNo / 16) % 2 = 1)

/-- The input of the next swap has no Punty that stands in, and no converter shadows its way back. -/
def Gather.swapClear (y : Gather) : Prop :=
  ∀ x, (y.punty x).back = false ∧ ((y.punty x).st = .standin → (y.punty x).input ≠ y.swapNo % 16)

theorem State.trySwap_begins {y : Gather} (hy : s.gat g = y) (hw : y.waiting = true) (hr : y.refHold = false) (hon : s.bit (gA g 0x200) 0 = true)
    (hc : y.swapClear) (hf : (y.punty b).st = .free) (hb : b = y.firstPunty ∨ (y.punty y.firstPunty).st ≠ .free) :
    s.trySwap g = s.onGat g (fun y => y.swapBegun b s.now) := by
  subst hy
  obtain ⟨hba, hia⟩ := hc false
  obtain ⟨hbb, hib⟩ := hc true
  have hfree : ¬ (!(s.gat g).waiting || (s.gat g).refHold || !s.bit (gA g 0x200) 0 || (s.gat g).pa.back || (s.gat g).pb.back) = true := by
    simpa [hw, hr, hon] using ⟨hba, hbb⟩
  have hinput : ¬ ((s.gat g).pa.st == .standin && (s.gat g).pa.input == (s.gat g).swapNo % 16 ||
      (s.gat g).pb.st == .standin && (s.gat g).pb.input == (s.gat g).swapNo % 16) = true := by
    simpa using ⟨hia, hib⟩
  refine ((if_neg hfree).trans (if_neg hinput)).trans ?_
  rcases hb with rfl | hn
  · exact if_pos (beq_iff_eq.2 hf)
  · obtain rfl : b = !(s.gat g).firstPunty := Bool.eq_not_of_ne (fun e => hn (e ▸ hf))
    exact (if_neg (mt beq_iff_eq.1 hn)).trans (if_pos (beq_iff_eq.2 hf))

/-- The rotation timer has run out and a Punty is free, with no shadow to try again: a swap waits, and begins where it can. -/
theorem exec_puntySwapStart_due (hg : s.gatOff g = false) (hc : (s.gat g).calibrated = true) (hon : s.bit (gA g 0x200) 0 = true)
    (hr : (s.gat g).refHold = false) (ht : (s.gat g).rotT + s.fld (gA g 0x200) 4 12 * 1000000000 ≤ s.now)
    (hs : ∀ x, ((s.gat g).punty x).stuck = false) (hf : ((s.gat g).punty b).st = .free) :
    exec (.puntySwapStart g) s = .next ((s.onGat g (fun y => { y with rotT := s.now, waiting := true })).trySwap g) := by
  have hb : (s.gat g).canFree b = true := by simp [Gather.canFree, hf]
  have hcan : ¬ (!(s.gat g).canFree false ∧ !(s.gat g).canFree true) := by cases b <;> simp [hb]
  refine (if_neg (by simp [hg, hc, hon, hr, ht])).trans ((if_neg hcan).trans
    (congrArg (fun t : State => Host.Outcome.next (t.trySwap g)) ((State.onGat_onGat _ _ _ _).trans (State.onGat_congr ?_))))
  simp only [show (s.gat g).pa.stuck = false from hs false, show (s.gat g).pb.stuck = false from hs true, Bool.false_eq_true, if_false]

theorem exec_puntySwapStart_begins (hg : s.gatOff g = false) (hc : (s.gat g).calibrated = true) (hon : s.bit (gA g 0x200) 0 = true)
    (hr : (s.gat g).refHold = false) (ht : (s.gat g).rotT + s.fld (gA g 0x200) 4 12 * 1000000000 ≤ s.now)
    (hs : ∀ x, ((s.gat g).punty x).stuck = false) (hclear : (s.gat g).swapClear) (hf : ((s.gat g).punty b).st = .free)
    (hb : b = (s.gat g).firstPunty ∨ ((s.gat g).punty (s.gat g).firstPunty).st ≠ .free) :
    exec (.puntySwapStart g) s = .next (s.onGat g (fun y => ({ y with rotT := s.now, waiting := true } : Gather).swapBegun b s.now)) :=
  (exec_puntySwapStart_due hg hc hon hr ht hs hf).trans (congrArg Host.Outcome.next
    ((State.trySwap_begins (s.onGat_gat g _) rfl hr hon hclear hf hb).trans (s.onGat_onGat g _ _)))

/-! ### Shadows, take-overs and calibrations (R232, R233, R236) -/

section
variable {d : Nat} (hg : s.gatOff g = false) (hst : ((s.gat g).punty b).st = .shadow) (hsh : ((s.gat g).punty b).shadowed s.now = true)
  (hp : (s.gat g).planned b = false)
include hg hst hsh hp

theorem State.shadowDone_not_ignored :
    ¬ (s.gatOff g ∨ ((s.gat g).punty b).st ≠ .shadow ∨ !((s.gat g).punty b).shadowed s.now ∨ (s.gat g).planned b) := by
  simp [hg, hst, hsh, hp]

/-- On a match the Punty takes the input at the next boundary. -/
theorem exec_shadowDone_match (hd : d * 1000000 * 8 ≤ s.fld (gA g 0x200) 16 8 * s.matchAcc g ((s.gat g).punty b).input) :
    exec (.shadowDone g b d) s = .next (s.onGat g (fun y => y.plan (y.punty b).input (puntyConv b) (some (b, .standin)))) := by
  refine (if_neg (State.shadowDone_not_ignored hg hst hsh hp)).trans ((if_neg (by simp [hd])).trans ?_)
  exact congrArg Host.Outcome.next (if_pos (by simpa using hd))

/-- Without a match the swap is repeated once, after a self-calibration of the Punty. -/
theorem exec_shadowDone_mismatch (hd : s.fld (gA g 0x200) 16 8 * s.matchAcc g ((s.gat g).punty b).input < d * 1000000 * 8) :
    exec (.shadowDone g b d) s = .next (if ((s.gat g).punty b).again
      then ((s.onGat g (fun y => y.plan (y.punty b).input (puntyConv b) (some (b, .standin)))).merr g 0).fault (uGat g) 4
      else s.onGat g (fun y => y.onPunty b (fun p => { p with st := .selfcal, again := true, since := s.now }))) := by
  refine (if_neg (State.shadowDone_not_ignored hg hst hsh hp)).trans ?_
  cases ha : ((s.gat g).punty b).again with
  | false => exact if_pos (by simp [hd])
  | true => exact (if_neg (by simp)).trans (congrArg Host.Outcome.next (if_neg (by simpa using hd)))

end

@[simp] theorem State.onEis_gat (s : State) (c : ChanNo) (f : EisSt → EisSt) (g : GatherNo) : (s.onEis c f).gat g = s.gat g := rfl
@[simp] theorem State.cutWin_gat (s : State) (c : ChanNo) (was : WinPart) (g : GatherNo) : (s.cutWin c was).gat g = s.gat g := rfl

/-- Of its Gather a take-over changes the seat alone. -/
theorem State.seat_gat (s : State) (g : GatherNo) (input conv : Nat) :
    (s.seat g input conv).gat g = { s.gat g with seats := (s.gat g).seats.set input conv } := by
  simp only [State.seat]
  split
  · rw [State.onEis_gat, State.onChan_gat, State.onGat_gat, State.cutWin_gat]
  · rw [State.onChan_gat, State.onGat_gat, State.cutWin_gat]

/-- A Punty that takes an input releases the converter that was seated there. -/
def Gather.stoodIn (y : Gather) (b : Bool) (input old now : Nat) : Gather :=
  (({ y with seats := y.seats.set input (puntyConv b), due := [] } : Gather).onPunty b
    (fun p => { p with st := .standin, rel := some old, again := false, since := now })).forget old

theorem Gather.stoodIn_punty (y : Gather) (b : Bool) (input old now : Nat) :
    (y.stoodIn b input old now).punty b = { y.punty b with st := .standin, rel := some old, again := false, since := now } :=
  Gather.onPunty_punty _ b _

theorem Gather.stoodIn_seats (y : Gather) (b : Bool) (input old now : Nat) :
    (y.stoodIn b input old now).seats = y.seats.set input (puntyConv b) ∧ (y.stoodIn b input old now).due = [] := by
  rw [Gather.stoodIn, Gather.onPunty_eq]
  exact ⟨rfl, rfl⟩

theorem State.takeInputs_standin {input : Nat} (hd : (s.gat g).due = [{ input, conv := puntyConv b, punty := some (b, .standin) }]) :
    (s.takeInputs g).gat g = (s.gat g).stoodIn b input (s.seated g input) s.now := by
  simp only [State.takeInputs, hd, List.foldl_cons, List.foldl_nil, State.onGat_gat, State.seat_gat, List.erase_cons_head]
  rfl

theorem exec_converterCalDone_passes {conv ppm : Nat} {pts : CalPoints} (hg : s.gatOff g = false) (hst : ((s.gat g).punty b).st = .standin)
    (hrel : ((s.gat g).punty b).rel = some conv) (hback : ((s.gat g).punty b).back = false) (hstuck : ((s.gat g).punty b).stuck = false)
    (ht : ((s.gat g).punty b).since + calNs conv ≤ s.now) (hok : s.calOk g conv pts.d pts.noise = true) :
    exec (.converterCalDone g b pts ppm) s = .next (s.onGat g (fun y =>
      (({ y with prev := (conv, y.drift.getD conv {}) :: y.prev.filter (fun x => x.1 != conv) }).renew conv (driftOf conv pts.d)).onPunty b (fun p =>
        { p with back := true, begun := s.now, since := s.now }))) := by
  change execConverterCalDone g b pts ppm s = _
  simp only [execConverterCalDone, hrel]
  exact (if_neg (by simp [hg, hst, hback, hstuck, ht])).trans (if_pos hok)

theorem exec_returnShadowDone_over {conv : Nat} (hg : s.gatOff g = false) (hst : ((s.gat g).punty b).st = .standin)
    (hrel : ((s.gat g).punty b).rel = some conv) (hback : ((s.gat g).punty b).back = true)
    (hsh : ((s.gat g).punty b).shadowed s.now = true) :
    exec (.returnShadowDone g b) s = .next ((s.onGat g (fun y =>
      (y.onPunty b (fun p => { p with back := false })).plan ((s.gat g).punty b).input conv (some (b, .selfcal)))).trySwap g) := by
  change execReturnShadowDone g b s = _
  simp only [execReturnShadowDone, hrel]
  exact if_neg (by simp [hg, hst, hback, hsh])

theorem exec_selfcalDone_passes {d : List (Int × Int)} {noise : List Nat} {ppm : Nat} (hg : s.gatOff g = false)
    (hst : ((s.gat g).punty b).st = .selfcal) (hc : (s.gat g).calibrated = true)
    (ht : ((s.gat g).punty b).since + calNs (puntyConv b) ≤ s.now) (hok : s.calOk g (puntyConv b) d noise = true) :
    exec (.selfcalDone g b d noise ppm) s =
      (let p := (s.gat g).punty b
      .next (if p.swap && p.again
        then s.onGat g (fun y => (y.renew (puntyConv b) (driftOf (puntyConv b) d)).onPunty b (fun p =>
          { p with st := .shadow, begun := s.now, since := s.now }))
        else (s.onGat g (fun y =>
          let y := (y.renew (puntyConv b) (driftOf (puntyConv b) d)).onPunty b (fun p => p.enter .free 0 s.now)
          if p.swap then y.swapDone p.num else y)).rotate g ppm)) :=
  (if_neg (by simp [hg, hst, hc, ht])).trans ((if_neg (by simp [hok])).trans (apply_ite Host.Outcome.next _ _ _).symm)

/-! ### Abandoned swaps (R234) -/

/-- What SWAP_ABANDON does with one Punty, judged by the state `s` that the row finds: a late shadow of step 1 is given up, a late shadow of
step 4 stays to be tried again. -/
def State.abandonLate (s : State) (g : GatherNo) (t : State) (b : Bool) : State :=
  let p := (s.gat g).punty b
  let late := decide (p.begun + s.fld (gA g 0x200) 4 12 * 1000000000 ≤ s.now)
  if p.st == .shadow && late && !(s.gat g).planned b then
    (t.onGat g (fun y => (y.onPunty b (fun p => p.enter .free 0 t.now)).swapAbandoned (y.punty b).num)).merr g 3
  else if p.st == .standin && p.back && late then t.onGat g (fun y => y.onPunty b (fun p => { p with back := false, stuck := true }))
  else t

theorem exec_swapAbandon_running {ppm : Nat} (hg : s.gatOff g = false) :
    exec (.swapAbandon ⟨g, ppm⟩) s = .next (([false, true].foldl (s.abandonLate g) s).rotate g ppm) :=
  if_neg (by simp [hg])

theorem State.abandonLate_free (t : State) (hf : ((s.gat g).punty b).st = .free) : s.abandonLate g t b = t :=
  (if_neg (by simp [hf])).trans (if_neg (by simp [hf]))

/-- A row that finds one Punty free is about the other. -/
theorem State.abandonLate_other (ho : ((s.gat g).punty (!b)).st = .free) : [false, true].foldl (s.abandonLate g) s = s.abandonLate g s b := by
  cases b with
  | false => exact State.abandonLate_free _ ho
  | true => exact congrArg (s.abandonLate g · true) (State.abandonLate_free s ho)

theorem State.abandonLate_shadow (hst : ((s.gat g).punty b).st = .shadow) (hp : (s.gat g).planned b = false)
    (hl : ((s.gat g).punty b).begun + s.fld (gA g 0x200) 4 12 * 1000000000 ≤ s.now) :
    s.abandonLate g s b =
      (s.onGat g (fun y => (y.onPunty b (fun p => p.enter .free 0 s.now)).swapAbandoned ((s.gat g).punty b).num)).merr g 3 :=
  (if_pos (by simp [hst, hp, hl])).trans (congrArg (State.merr · g 3) (State.onGat_congr rfl))

end

end Sys2Proof.Machine
end

section
/-! Failed converters, the calibration of a Gather and calibration generations (R223 to R227, R237 to R242). -/

namespace Sys2Proof.Machine

open Sys2Proof

section
variable {s : State} {g : GatherNo}

/-! ### Failures and the calibration at once (R237 to R242) -/

/-- A failed converter of an input: it is retired, its samples no longer count, and its input gets a replacement. -/
theorem exec_converterHealthFail_seated {conv : Fin 18} {input ppm : Nat} (hg : s.gatOff g = false) (hr : (s.gat g).retired.testBit conv.val = false)
    (hi : (List.range 16).find? (fun i => (s.gat g).seatSoon i == conv.val) = some input) (hc : conv.val < 16) :
    exec (.converterHealthFail ⟨g, ppm⟩ conv) s =
      (let c := chanOfInput g input
      let a := (s.onGat g (fun y => y.retire conv.val)).merr g 4
      let t := (a.cutWin c (a.winNow c)).onChan c (fun x =>
        { x with
          meas := { x.meas with winFlags := x.meas.winFlags ||| 64, lostV := x.meas.lostV || input % 2 == 0, lostI := x.meas.lostI || input % 2 == 1 }
          loop := { x.loop with hold := 2 } })
      let l := t.leaderOf c
      let u := if (t.chan l).eis.phase = 3 then t.onEis l (fun e => { e with bad := e.bad ||| 128 }) else t
      .next (((u.replaceConv g input conv.val).noSpare g (s.gat g).spares).rotate g ppm).refreshMode) := by
  change execConverterHealthFail ⟨g, ppm⟩ conv s = _
  simp only [execConverterHealthFail, hi, if_neg (not_le.2 hc)]
  exact if_neg (by simp [hg, hr])

theorem exec_gatherCalibrationDone_due {d : List (List (Int × Int))} {noise : List (List Nat)} (hg : s.gatOff g = false)
    (hc : (s.gat g).calibrated = false) (ht : (s.gat g).rotT + 2500000000 ≤ s.now) :
    exec (.gatherCalibrationDone g d noise) s =
      (let a := (16 :: 17 :: List.range 16).foldl (fun u k => u.calAtOnce g d noise k) s
      let b := (a.takeInputs g).onGat g (fun y => { y with calibrated := true, rotT := a.now })
      let e := { b with col := { b.col with fences := b.col.fences.map (fun (f : Fence) =>
        if f.unit == uGat g && f.recov then { f with probation := true } else f) } }
      .next (((e.noSpare g (s.gat g).spares).syncHold g).settle)) :=
  if_neg (by simp [hg, hc, ht])

theorem State.calAtOnce_passes {d : List (List (Int × Int))} {noise : List (List Nat)} {k : Nat} (hk : k < 16)
    (hr : (s.gat g).retired.testBit k = false) (hok : s.calOk g k (d.getD k []) (noise.getD k []) = true) :
    s.calAtOnce g d noise k = s.onGat g (fun y => y.setDrift k (driftOf k (d.getD k []))) := by
  have hconv : ∀ y : Gather, ¬ (16 ≤ k ∧ (y.punty (k == 17)).st = .selfcal) := fun y h => absurd h.1 (not_le.2 hk)
  refine (if_neg (by simp [hr])).trans ((if_pos hok).trans ?_)
  simp only [if_neg (hconv _)]

/-! ### Calibration generations (R224 to R227) -/

variable {c : ChanNo} {gen corr : Nat} {ps : List CalPair}

/-- A switch takes CALGEN of the generation that waited, and none waits any longer. -/
theorem MeasSt.calSwitched_calgen {m : MeasSt} (h : m.calNext = some (gen, corr, ps)) : m.calSwitched.calgen = gen ∧ m.calSwitched.calNext = none := by
  simp only [MeasSt.calSwitched, h]
  exact List.foldlRecOn (motive := fun m : MeasSt => m.calgen = gen ∧ m.calNext = none) ps _ ⟨rfl, rfl⟩ (fun _ hm _ _ => hm)

/-- The record of a switch to the house (R226). -/
def RecIn.ofCalSwitch (r : RecIn) (c : ChanNo) (gen corr pairs : Nat) : Prop :=
  r.kind = 0x65 ∧ r.tenant = 255 ∧ r.channel = c.val ∧ r.calgen = gen ∧ r.corr = corr ∧ r.payloads.length = pairs

/-- The measurement switches, the house gets the record, and a client that leases the channel its event (R225, R226). -/
theorem State.calSwitch_eq (h : (s.chan c).meas.calNext = some (gen, corr, ps)) :
    ∃ (r : RecIn) (p : List (List Byte)), r.ofCalSwitch c gen corr ps.length ∧ s.calSwitch c =
      (let t := (s.onMeas c MeasSt.calSwitched).pushRec r
      (if s.ownerOf c.val = 0 then t else t.byCorr c corr (State.chanEvt · 0xA6 c p)).calAck c) := by
  simp only [State.calSwitch, h]
  exact ⟨_, _, ⟨rfl, rfl, rfl, rfl, rfl, List.length_map _⟩, rfl⟩

theorem State.byCorr_chanEvt_meas (s : State) (c : ChanNo) (corr kind : Nat) (p : List (List Byte)) :
    ((s.byCorr c corr (State.chanEvt · kind c p)).chan c).meas = (s.chan c).meas := by
  simp [State.byCorr, State.chanEvt]

theorem State.byCorr_chanEvt_chan_ne (s : State) {c d : ChanNo} (corr kind : Nat) (p : List (List Byte)) (h : d ≠ c) :
    (s.byCorr c corr (State.chanEvt · kind c p)).chan d = s.chan d := by
  simp [State.byCorr, State.chanEvt, State.onLoop_chan_ne _ _ h]

/-- What a switch makes of its channel's measurement, of the ways to the rings and of the other channels. -/
theorem State.calSwitch_effect (h : (s.chan c).meas.calNext = some (gen, corr, ps)) :
    ((s.calSwitch c).chan c).meas = (s.chan c).meas.calSwitched ∧
      (∃ r : RecIn, (s.calSwitch c).recFifo = s.recFifo ++ [r] ∧ r.ofCalSwitch c gen corr ps.length) ∧
      (s.ownerOf c.val = 0 → (s.calSwitch c).evtFifo = s.evtFifo) ∧
      (s.ownerOf c.val ≠ 0 → ∃ e : EvtIn, (s.calSwitch c).evtFifo = s.evtFifo ++ [e] ∧ e.kind = 0xA6 ∧ e.dest = s.ownerOf c.val) ∧
      ∀ d, d ≠ c → (s.calSwitch c).chan d = s.chan d := by
  obtain ⟨r, p, hr, he⟩ := State.calSwitch_eq h
  have hm : ((s.onMeas c MeasSt.calSwitched).chan c).meas = (s.chan c).meas.calSwitched := by rw [State.onMeas_chan]
  rw [he]
  by_cases ho : s.ownerOf c.val = 0
  · simp only [if_pos ho]
    exact ⟨hm, ⟨r, rfl, hr⟩, fun _ => rfl, fun hn => absurd ho hn, fun d hd => s.onMeas_chan_ne _ hd⟩
  · simp only [if_neg ho]
    exact ⟨(State.byCorr_chanEvt_meas _ c corr 0xA6 p).trans hm, ⟨r, rfl, hr⟩, fun h0 => absurd h0 ho, fun _ => ⟨_, rfl, rfl, rfl⟩,
      fun d hd => (State.byCorr_chanEvt_chan_ne _ corr 0xA6 p hd).trans (s.onMeas_chan_ne _ hd)⟩

theorem exec_calgenSwitch_running (hg : s.gatOff (gOf c) = false) : exec (.calgenSwitch c) s = .next (s.calSwitch c) :=
  if_neg (by simp [hg])

theorem exec_chCalselSnap_eq (s : State) (c : ChanNo) :
    exec (.chCalselSnap c) s =
      (let k := s.coefs c (s.fld (chA c 0xE4) 0 2) (s.fld (chA c 0xE4) 2 3)
      .next (s.onMeas c (fun m => { m with snapOff := k.1, snapGain := k.2.1, snapQ := k.2.2, snapGen := m.calgen, snapOk := true }))) := rfl

end

/-- Settles O18: each stage of a swap, and each row of failures and calibrations, under its conditions. -/
theorem convertersAndPuntySwap : Obligations.ConvertersAndPuntySwap := by
  refine ⟨⟨?start, ?isMatch, ?mismatch, ?takes, ?calibrated, ?back, ?selfcal, ?abandon⟩, ?fails, ?gather, ?atOnce, ?switch, ?snap⟩
  case start =>
    intro s g b hg hc hon hr ht hx n first hi hf hb
    refine ⟨_, exec_puntySwapStart_begins hg hc hon hr ht (fun x => (hx x).1) (fun x => ⟨(hx x).2, hi x⟩) hf hb, ?_⟩
    simp only [State.onGat_gat, Gather.swapBegun, Gather.onPunty_punty, Gather.onPunty_punty_not]
    rw [Gather.onPunty_eq]
    exact ⟨rfl, rfl, rfl, rfl, rfl, rfl, rfl, fun e he => s.onGat_gat_ne _ he, rfl, rfl⟩
  case isMatch => exact fun s g b d hg hst hsh hp hd => exec_shadowDone_match hg hst hsh hp hd
  case mismatch => exact fun s g b d hg hst hsh hp hd => exec_shadowDone_mismatch hg hst hsh hp hd
  case takes =>
    intro s g input b hd t
    have ht : t.gat g = (s.gat g).stoodIn b input (s.seated g input) s.now := State.takeInputs_standin hd
    obtain ⟨hseats, hdue⟩ := (s.gat g).stoodIn_seats b input (s.seated g input) s.now
    rw [ht, Gather.stoodIn_punty]
    exact ⟨hseats, hdue, rfl, rfl, rfl⟩
  case calibrated =>
    exact fun s g b conv ppm pts hg hst hrel hback hstuck ht hok => exec_converterCalDone_passes hg hst hrel hback hstuck ht hok
  case back => exact fun s g b conv hg hst hrel hback hsh => exec_returnShadowDone_over hg hst hrel hback hsh
  case selfcal => exact fun s g b d noise ppm hg hst hc ht hok => exec_selfcalDone_passes hg hst hc ht hok
  case abandon =>
    exact fun s g b ppm hg hst hp hl ho => (exec_swapAbandon_running hg).trans (congrArg (fun t : State => Host.Outcome.next (t.rotate g ppm))
      ((State.abandonLate_other ho).trans (State.abandonLate_shadow hst hp hl)))
  case fails => exact fun s g conv input ppm hg hr hi hc => exec_converterHealthFail_seated hg hr hi hc
  case gather => exact fun s g d noise hg hc ht => exec_gatherCalibrationDone_due hg hc ht
  case atOnce => exact fun s g d noise k hk hr hok => State.calAtOnce_passes hk hr hok
  case switch =>
    intro s c gen corr ps hg h
    obtain ⟨hm, hrec, hhouse, hclient, hother⟩ := State.calSwitch_effect h
    obtain ⟨hgen, hnext⟩ := MeasSt.calSwitched_calgen h
    exact ⟨_, exec_calgenSwitch_running hg, hm, hm ▸ hgen, hm ▸ hnext, hrec, hhouse, hclient, hother⟩
  case snap => exact fun s c => exec_chCalselSnap_eq s c

end Sys2Proof.Machine
end

section
/-! The checks of COMMIT, and where an accepted image leads (R265, R270, R277 to R280, R287, R292). -/

namespace Sys2Proof.Machine

open Sys2Proof

theorem Image.firstBad_none_iff {m : Image} {ok : Nat → Bool} : m.firstBad ok = none ↔ ∀ i, i < m.length → ok i = true := by
  simp [Image.firstBad]

/-- COMMIT accepts exactly the images of which every step passes the three checks (R292). -/
theorem Image.check_none_iff {m : Image} {z : Bool} {gpio : Nat} {l : Limits} : m.check z gpio l = none ↔
    ∀ i, i < m.length → stepAllowed z gpio (m.at_ i) = true ∧ m.stepOk i = true ∧ l.step (m.at_ i) = true := by
  unfold Image.check
  simp only [forall_and, ← Image.firstBad_none_iff]
  cases m.firstBad (fun i => stepAllowed z gpio (m.at_ i)) with
  | some i => simp
  | none =>
    cases m.firstBad m.stepOk with
    | some i => simp
    | none => cases m.firstBad (fun i => l.step (m.at_ i)) <;> simp

/-! ### Work steps -/

section
variable {m : Image} {len idx : Nat} {w : StepWord}

/-- The parameters are the last slots, and each carries the condition code of a parameter (R257). -/
theorem slotCond_of_param {k : Nat} (hk : k < 4) (h : 4 ≤ k + paramsOf w) : slotCond w k = 13 := by
  unfold paramsOf at h
  interval_cases k
  all_goals split_ifs at h
  all_goals omega

/-- A slot of an accepted work step that is no parameter is a termination. -/
theorem workOk_termSlot (h : workOk len idx w = true) {k : Nat} (hk : k < 4) (hp : slotCond w k ≠ 13) : termSlotOk len w k = true := by
  simp only [workOk, Bool.and_eq_true, List.all_eq_true, List.mem_range] at h
  obtain ⟨⟨-, hslots⟩, -⟩ := h
  have hslot := hslots k hk
  rwa [if_neg (fun hn => hp (slotCond_of_param hk hn))] at hslot

theorem termSlotOk_target {k : Nat} (h : termSlotOk len w k = true) (ha : slotAct w k = 1) : slotTarget w k < len := by
  simp only [termSlotOk, if_pos ha, Bool.and_eq_true, decide_eq_true_eq] at h
  obtain ⟨⟨-, htgt⟩, -⟩ := h
  exact htgt

/-- A work step that ends as NEXT, by itself or by a slot, is not the last (R287). -/
theorem workOk_next (h : workOk len idx w = true)
    (hn : endsItself (stepKind w) = true ∨ ∃ k, k < 4 ∧ slotCond w k ≠ 0 ∧ slotCond w k ≠ 13 ∧ slotAct w k = 0) : idx + 1 < len := by
  simp only [workOk, Bool.and_eq_true] at h
  obtain ⟨-, hnext⟩ := h
  simp only [nextOk, Bool.or_eq_true, decide_eq_true_eq, Bool.and_eq_true, Bool.not_eq_true', List.all_eq_true, List.mem_range,
    beq_iff_eq, bne_iff_ne] at hnext
  obtain hlt | ⟨hself, hslots⟩ := hnext
  · exact hlt
  · obtain he | ⟨k, hk, h0, h13, hact⟩ := hn
    · rw [hself] at he
      cases he
    · exact absurd (hslots k hk) (by simp [h0, h13, hact])

/-! ### Control steps -/

/-- Every control step but GOTO and END needs a step behind it, every TARGET lies in the image, and a LOOP's body begins before it (R277 to R280,
R287). -/
theorem controlOk_stays (h : controlOk m idx w = true) :
    (stepKind w ≠ 0x12 → stepKind w ≠ 0x1F → idx + 1 < m.length) ∧
    ((stepKind w = 0x11 ∨ stepKind w = 0x12 ∨ stepKind w = 0x13) → ctlTarget w < m.length) ∧ (stepKind w = 0x13 → ctlTarget w ≤ idx) := by
  unfold controlOk at h
  split at h
  case h_8 => cases h
  all_goals
    next hk =>
      simp only [Bool.and_eq_true, decide_eq_true_eq] at h
      simp [hk, h]

end

theorem Image.stepOk_work {m : Image} {idx : Nat} (h : m.stepOk idx = true) (hw : isWork (stepKind (m.at_ idx)) = true) :
    workOk m.length idx (m.at_ idx) = true := by
  rwa [Image.stepOk, if_pos hw] at h

theorem Image.stepOk_control {m : Image} {idx : Nat} (h : m.stepOk idx = true) (hw : isWork (stepKind (m.at_ idx)) = false) :
    controlOk m idx (m.at_ idx) = true := by
  rw [Image.stepOk, if_neg (by simp [hw]), Bool.and_eq_true] at h
  exact h.1

theorem isWork_false_of_control {k : Nat} (h : k = 0x11 ∨ k = 0x12 ∨ k = 0x13) : isWork k = false := by
  obtain rfl | rfl | rfl := h <;> rfl

/-- Settles O55: each step passes its own check, a work step by its slots and its end, a control step by its kind. -/
theorem acceptedImagesStayInside : Obligations.AcceptedImagesStayInside := by
  intro m z gpio l hc i hi w
  obtain ⟨-, hok, -⟩ := Image.check_none_iff.1 hc i hi
  refine ⟨fun hw hn => workOk_next (Image.stepOk_work hok hw) hn,
    fun hw k hk _ hp ha => termSlotOk_target (workOk_termSlot (Image.stepOk_work hok hw) hk hp) ha,
    fun hw hgo hend => ?last, fun ht => ?target, fun hl => ?body⟩
  case last =>
    obtain ⟨hnext, -, -⟩ := controlOk_stays (Image.stepOk_control hok hw)
    exact hnext hgo hend
  case target =>
    obtain ⟨-, htgt, -⟩ := controlOk_stays (Image.stepOk_control hok (isWork_false_of_control ht))
    exact htgt ht
  case body =>
    obtain ⟨-, -, hbody⟩ := controlOk_stays (Image.stepOk_control hok (isWork_false_of_control (.inr (.inr hl))))
    exact hbody hl

end Sys2Proof.Machine
end

section
/-! The program commands (Table 12-6): what each answers, and the swap that ends a COMMIT (R252, R254, R274, R291 to R295). -/

namespace Sys2Proof.Machine

open Sys2Proof

/-- An accepted row whose effect and answer are known: the next state. -/
theorem exec_accepted {c : Instr} {s t : State} {h : CmdHead} {o : CmdOp} {a : Ans} (hc : commandOf c = some (h, o))
    (ha : s.accepts h o = true) (e : (s.taken h).apply (s.headOf h) o = (t, a)) :
    exec c s = .next ((s.caused h t).complete (s.headOf h) o a) := by
  rw [exec_command hc, State.submit_accepted ha, e]

@[simp] theorem State.onProg_chan (s : State) (c : ChanNo) (f : ProgSt → ProgSt) :
    (s.onProg c f).chan c = { s.chan c with prog := f (s.chan c).prog } :=
  s.onChan_chan c _

/-! ### COMMIT and its swap (R292 to R295) -/

section
variable {s : State} {c : ChanNo}

/-- An image that passes every check waits in the commit buffer (R293). -/
theorem State.doCommit_waits (h : CmdHead) (hc : s.commitCheck c = none) :
    s.doCommit h c false = (s.onProg c (fun p => { p with commit := some p.shadowImage, commitBy := some h })).later := by
  simp only [State.doCommit, hc]
  exact if_neg Bool.false_ne_true

theorem State.doCommit_checkOnly (h : CmdHead) (hc : s.commitCheck c = none) :
    s.doCommit h c true = s.okWith (commitRes (s.chan c).prog.imggen (s.chan c).prog.shLen) := by
  simp only [State.doCommit, hc]
  exact if_pos trivial

theorem State.doCommit_refused (h : CmdHead) (only : Bool) {st : Status} {i : Nat} (hc : s.commitCheck c = some (st, i)) :
    s.doCommit h c only = s.noAt st i := by
  simp only [State.doCommit, hc]

/-- The state in which the swap has put an image in force; the commit buffer drains (R293, R295). -/
def State.swappedIn (s : State) (c : ChanNo) (m : Image) : State :=
  (s.onProg c (fun p => p.swapped m)).onGat (gOf c) (fun y => { y with draining := true })

theorem State.swappedIn_prog (s : State) (c : ChanNo) (m : Image) : ((s.swappedIn c m).chan c).prog = (s.chan c).prog.swapped m := by
  rw [State.swappedIn, State.onGat_chan, State.onProg_chan]

theorem exec_commitSwap_swaps {m : Image} {h : CmdHead} (hm : (s.chan c).prog.commit = some m) (hh : (s.chan c).prog.commitBy = some h)
    (hb : (s.chan c).prog.swapBusy m = false) (hs : s.stewardOn = true) (hg : s.gatOff (gOf c) = false) :
    exec (.commitSwap c) s = .next ((s.swappedIn c m).complete h (.commit false)
      { results := commitRes (nextGen (s.chan c).prog.imggen) m.length }).runWaiting := by
  have hq := s.swappedIn_prog c m
  change execCommitSwap c s = _
  simp only [execCommitSwap, hm, hh]
  rw [if_neg (by simp [hs, hg]), if_neg (by simp [hb])]
  change Host.Outcome.next (State.complete (s.swappedIn c m) h (.commit false)
    { results := commitRes ((s.swappedIn c m).chan c).prog.imggen ((s.swappedIn c m).chan c).prog.live.length }).runWaiting = _
  rw [hq]
  rfl

end

/-- Settles O4: each command's effect is known on the channel that its head names; a COMMIT by what its checks give. -/
theorem programCommandsComplete : Obligations.ProgramCommandsComplete := by
  refine ⟨⟨?write, ?len, ?read, ?discard, ?varWrite, ?varRead⟩, ?waits, ?checkOnly, ?refused, ?swap, ?drain⟩
  case write => exact fun s h c steps ha hc => exec_answered rfl ha (onChanOf_some hc)
  case len => exact fun s h c len ha hc => exec_answered rfl ha (onChanOf_some hc)
  case read => exact fun s h c which first count ha hc => exec_accepted rfl ha (onChanOf_some hc)
  case discard => exact fun s h c ha hc => exec_answered rfl ha (onChanOf_some hc)
  case varWrite => exact fun s h c pairs ha hc => exec_answered rfl ha (onChanOf_some hc)
  case varRead => exact fun s h c ha hc => exec_answered rfl ha (onChanOf_some hc)
  case waits => exact fun s h c ha hc hk => exec_later rfl ha ((onChanOf_some hc).trans (State.doCommit_waits _ hk))
  case checkOnly => exact fun s h c ha hc hk => exec_answered rfl ha ((onChanOf_some hc).trans (State.doCommit_checkOnly _ hk))
  case refused => exact fun s h c st i ha hc hk => exec_accepted rfl ha ((onChanOf_some hc).trans (State.doCommit_refused _ false hk))
  case swap => exact fun s c m h hm hh hb hs hg => exec_commitSwap_swaps hm hh hb hs hg
  case drain => exact fun s g => rfl

end Sys2Proof.Machine
end

section
/-! The shadow and the live image (R291): what the editing commands write, and that they leave what executes. -/

namespace Sys2Proof.Machine

open Sys2Proof

/-! ### The steps of the shadow image (R254) -/

/-- A shadow image of which every step up to LEN is written is the list of its steps. -/
theorem ProgSt.shadowImage_full {p : ProgSt} (h : p.shLen = p.shadow.length) : p.shadowImage = p.shadow := by
  apply List.ext_getElem <;> simp +contextual [ProgSt.shadowImage, h]

theorem ProgSt.shadowImage_length (p : ProgSt) : p.shadowImage.length = p.shLen := by
  simp [ProgSt.shadowImage]

/-- A step that is written stands at its index. -/
theorem putStep_same (l : List StepWord) (i : Nat) (w : StepWord) : (putStep l i w)[i]? = some w := by
  unfold putStep
  split
  next hi => simp [hi]
  next hi =>
    have hlen : (l ++ List.replicate (i - l.length) 0).length = i := by
      rw [List.length_append, List.length_replicate]
      omega
    rw [List.getElem?_append_right hlen.le, hlen, Nat.sub_self]
    rfl

/-- A step that stands at another index stays. -/
theorem putStep_ne {l : List StepWord} {i j : Nat} {v : StepWord} (w : StepWord) (h : j ≠ i) (hv : l[j]? = some v) :
    (putStep l i w)[j]? = some v := by
  have hj : j < l.length := (List.getElem?_eq_some_iff.1 hv).1
  unfold putStep
  split
  · rw [List.getElem?_set_ne h.symm, hv]
  · rw [List.append_assoc, List.getElem?_append_left hj, hv]

theorem putSteps_ne {steps : List (Nat × StepWord)} {l : List StepWord} {j : Nat} {v : StepWord} (h : j ∉ steps.map Prod.fst)
    (hv : l[j]? = some v) : (steps.foldl (fun l x => putStep l x.1 x.2) l)[j]? = some v := by
  induction steps generalizing l with
  | nil => exact hv
  | cons y steps ih =>
    simp only [List.map_cons, List.mem_cons, not_or] at h
    exact ih h.2 (putStep_ne y.2 h.1 hv)

/-- Of steps written at different indices each stands at its own. -/
theorem putSteps_mem {steps : List (Nat × StepWord)} (hd : (steps.map Prod.fst).Nodup) {x : Nat × StepWord} (hx : x ∈ steps)
    (l : List StepWord) : (steps.foldl (fun l x => putStep l x.1 x.2) l)[x.1]? = some x.2 := by
  induction steps generalizing l with
  | nil => cases hx
  | cons y steps ih =>
    rw [List.map_cons, List.nodup_cons] at hd
    obtain ⟨hy, hd⟩ := hd
    rw [List.foldl_cons]
    obtain rfl | hx := List.mem_cons.1 hx
    · exact putSteps_ne hy (putStep_same l x.1 x.2)
    · exact ih hd hx _

/-! ### What executes -/

/-- What executes on a channel: the live image, the step in execution, the variables and the loop. -/
def Chan.running (x : Chan) : (Image × Nat × Bool × List Int) × LoopSt :=
  ((x.prog.live, x.prog.pc, x.prog.inStep, x.prog.vars), x.loop)

theorem Chan.running_eq_iff {x y : Chan} : x.running = y.running ↔
    x.prog.live = y.prog.live ∧ x.prog.pc = y.prog.pc ∧ x.prog.inStep = y.prog.inStep ∧ x.prog.vars = y.prog.vars ∧ x.loop = y.loop := by
  simp [Chan.running, and_assoc]

/-- An update of one channel that leaves what executes there leaves what executes on every channel. -/
theorem State.onChan_running (s : State) (c : ChanNo) {f : Chan → Chan} (hf : ∀ x, (f x).running = x.running) (d : ChanNo) :
    ((s.onChan c f).chan d).running = (s.chan d).running := by
  by_cases h : d = c
  · rw [h, State.onChan_chan, hf]
  · rw [State.onChan_chan_ne _ _ h]

theorem State.onEst_running (s : State) (c : ChanNo) (f : EstSt → EstSt) (d : ChanNo) :
    ((s.onEst c f).chan d).running = (s.chan d).running :=
  s.onChan_running c (f := fun x => { x with est := f x.est }) (fun _ => rfl) d

theorem State.updateEst_running (s : State) (c : ChanNo) (dt : Nat) (d : ChanNo) :
    ((s.updateEst c dt).chan d).running = (s.chan d).running :=
  State.onEst_running s.draw.2 c _ d

theorem State.wakeFor_running (s : State) (h : CmdHead) (d : ChanNo) : ((s.wakeFor h).chan d).running = (s.chan d).running := by
  unfold State.wakeFor
  split
  next c _ =>
    simp only [State.wakeEst]
    split
    · exact (State.onEst_running _ c _ d).trans (s.updateEst_running c _ d)
    · rfl
  next => rfl

theorem State.complete_running (s : State) (h : CmdHead) (o : CmdOp) (a : Ans) (d : ChanNo) :
    ((s.complete h o a).chan d).running = (s.chan d).running := by
  unfold State.complete
  split <;> rfl

/-- A command whose effect leaves what executes leaves it from its claim to its completion, or waits. -/
theorem State.submit_running {s : State} {h : CmdHead} {o : CmdOp} (ht : s.takesNow = true)
    (ha : ∀ (u : State) (k : CmdHead) d, ((u.apply k o).1.chan d).running = (u.chan d).running) (d : ChanNo) :
    ((s.submit h o).chan d).running = (s.chan d).running := by
  rw [State.submit_takesNow h o ht, State.runOrWait]
  split
  next => rfl
  next =>
    have hw : (((s.counted h).wakeFor (s.headOf h)).chan d).running = (s.chan d).running := State.wakeFor_running _ _ d
    simp only [State.runCmd]
    split
    next => exact (State.complete_running _ _ _ _ d).trans hw
    next => exact (State.complete_running _ _ _ _ d).trans ((ha _ _ d).trans hw)

theorem State.taken_running (s : State) (h : CmdHead) (d : ChanNo) : ((s.taken h).chan d).running = (s.chan d).running :=
  State.wakeFor_running (s.counted h) h d

/-- A completion and the CORR of what a command caused are no matter of a channel. -/
theorem State.answered_chan (s : State) (h : CmdHead) (o : CmdOp) (t : State) (rs : List (List Byte)) (c : ChanNo) :
    (s.answered h o t rs).chan c = t.chan c := rfl

/-- The commands that edit the shadow image (Table 12-6). -/
def CmdOp.edits : CmdOp → Bool
  | .progDiscard | .progLen _ | .progWrite _ => true
  | _ => false

/-- An edit writes the shadow image of one channel, or names none. -/
theorem State.apply_edit_running {o : CmdOp} (ho : o.edits = true) (s : State) (h : CmdHead) (d : ChanNo) :
    ((s.apply h o).1.chan d).running = (s.chan d).running := by
  cases o with
  | progDiscard | progLen | progWrite =>
    simp only [State.apply, onChanOf, State.doDiscard, State.doProgLen, State.doProgWrite, State.ok, State.onProg_eq]
    split
    · refine s.onChan_running _ ?_ d
      exact fun _ => rfl
    · rfl
  | _ => cases ho

/-- Settles O54: the swap and each edit by what they write into the shadow image; none of the edits writes what executes. -/
theorem shadowAndLiveImage : Obligations.ShadowAndLiveImage := by
  obtain ⟨⟨write, len, -, discard, -⟩, -⟩ := programCommandsComplete
  refine ⟨?swap, ?discard, ?write, ?len, ?frame⟩
  case swap =>
    intro s c m h hm hh hb hs hg hw
    refine ⟨_, (exec_commitSwap_swaps hm hh hb hs hg).trans (congrArg _ (State.runWaiting_idle _ hw)), ?_⟩
    have hp := s.swappedIn_prog c m
    exact ⟨congrArg ProgSt.live hp, (congrArg ProgSt.shadowImage hp).trans (ProgSt.shadowImage_full rfl)⟩
  case discard =>
    intro s h c hc ha
    refine ⟨_, discard s h c ha hc, ?_⟩
    obtain ⟨hlive, -⟩ := Chan.running_eq_iff.1 (s.taken_running h c)
    rw [State.answered_chan, State.onProg_chan, ProgSt.shadowImage_full rfl]
    exact hlive
  case write =>
    intro s h c l hc ha
    refine ⟨_, write s h c l ha hc, fun hd x hx => ?_⟩
    rw [State.answered_chan, State.onProg_chan]
    exact putSteps_mem hd hx _
  case len =>
    intro s h c n hc ha
    refine ⟨_, len s h c n ha hc, ?_⟩
    rw [State.answered_chan, State.onProg_chan, ProgSt.shadowImage_length]
  case frame =>
    intro i s t h hi ht e c
    refine Chan.running_eq_iff.1 ?_
    obtain rfl | ⟨n, rfl⟩ | ⟨l, rfl⟩ := hi
    all_goals
      cases e
      exact State.submit_running ht (State.apply_edit_running rfl) c

end Sys2Proof.Machine
end

section
/-! The channel commands (Table 12-8): what each answers in the states in which it takes effect (R102, R138, R172, R269, R290, R473). -/

namespace Sys2Proof.Machine

open Sys2Proof

/-- A channel command answers the state in which it leaves its channel (R473). -/
def State.stateAnswer (s : State) (c : ChanNo) : List (List Byte) := [res32 [fN 16 1 (stCode (s.refreshMode.chan c).loop.st)]]

/-- The states in which a stop or a pause begins a ramped stop (R290, Table 12-8). -/
def ChState.rampable (x : ChState) : Prop := x = .settling ∨ x = .softstart ∨ x = .active ∨ x = .resting

/-- An accepted channel command whose effect on its channel is known: the next state. -/
theorem exec_chanCommand {i : Instr} {s t : State} {h : CmdHead} {o : CmdOp} {c : ChanNo} {f : ChanNo → Done}
    (hi : commandOf i = some (h, o)) (ha : s.accepts h o = true) (hc : chan? h.channel = some c)
    (hf : (s.taken h).apply (s.headOf h) o = onChanOf (s.taken h) h.channel f) (e : f c = t.chanDone c) :
    exec i s = .next (s.answered h o t.refreshMode (t.stateAnswer c)) :=
  exec_answered hi ha (hf.trans ((onChanOf_some hc).trans e))

section
variable {s : State} {c : ChanNo}

theorem State.startChan_forward (h : CmdHead) (entry : Nat) (hr : s.reversed c = false) :
    s.startChan h c entry =
      (let r := (s.onProg c (fun p => p.started entry h.corr)).beginSettle c .start
      if r.2 then (r.1.firstStep c entry).goSwitch c else r.1) :=
  if_neg (by simp [hr])

theorem State.doStart_stopped (h : CmdHead) (entry : Nat) (hs : (s.chan c).loop.st = .stopped) (hl : (s.chan c).prog.live ≠ []) :
    s.doStart h c entry = ((s.startChan h c entry).lehrRamp c).chanDone c := by
  simp only [State.doStart, hs]
  exact if_neg (by simpa using hl)

theorem State.doStop_rampable (h : CmdHead) (hs : (s.chan c).loop.st.rampable) :
    s.doStop h c = (s.rampStop c .stop (some h.corr)).chanDone c := by
  obtain hs | hs | hs | hs := hs
  all_goals simp only [State.doStop, hs]

theorem State.doStop_paused (h : CmdHead) (hs : (s.chan c).loop.st = .paused) :
    s.doStop h c = (s.byCorr c h.corr (State.dropPaused · c)).chanDone c := by
  simp only [State.doStop, hs]

theorem State.doPause_rampable (h : CmdHead) (hs : (s.chan c).loop.st.rampable) :
    s.doPause h c = (s.rampStop c .pause (some h.corr)).chanDone c := by
  obtain hs | hs | hs | hs := hs
  all_goals simp only [State.doPause, hs]

/-- A program that was paused inside a step settles into it (R102). -/
theorem State.resumeChan_inStep (h : CmdHead) (restart : Nat) (hi : (s.chan c).prog.inStep = true) :
    s.resumeChan h c restart =
      (let u := s.onChan c (fun x => { x with resume := false, prog := { x.prog with corr := h.corr } })
      ((if restart = 1 then u.restartStep c else u).beginSettle c .resume).1) :=
  if_pos (by rw [State.onChan_chan]; exact hi)

theorem State.doResume_paused (h : CmdHead) (restart : Nat) (hs : (s.chan c).loop.st = .paused) :
    s.doResume h c restart = ((s.resumeChan h c restart).lehrRamp c).chanDone c := by
  simp only [State.doResume, hs]

/-- A latched channel none of whose members is fenced or hot clears (R172). -/
theorem State.doClear_latched (h : CmdHead) (hs : (s.chan c).loop.st = .faulted) (hw : (s.chan c).prot.retryWait = false)
    (hf : (s.membersOf c).any (fun m => s.chanFenced m) = false) (hh : (s.membersOf c).any s.hotFor = false) :
    s.doClear h c = (s.byCorr c h.corr (State.clearChan · c)).chanDone c := by
  simp only [State.doClear, hs, hw, hf, hh]
  rfl

end

/-- Settles O5: SIGNAL by its fold over the mask, each other command by the state of its channel. -/
theorem channelCommandsComplete : Obligations.ChannelCommandsComplete := by
  refine ⟨?signal, ?start, ?stop, ?drop, ?pause, ?resume, ?clear⟩
  case signal => exact fun s h sig mask ha => exec_answered rfl ha rfl
  case start =>
    intro s h c entry ha hc hs hl hr
    have e := State.doStart_stopped (s.headOf h) entry hs hl
    rw [State.startChan_forward _ entry hr] at e
    exact exec_chanCommand rfl ha hc rfl e
  case stop => exact fun s h c ha hc hs => exec_chanCommand rfl ha hc rfl (State.doStop_rampable _ hs)
  case drop => exact fun s h c ha hc hs => exec_chanCommand rfl ha hc rfl (State.doStop_paused _ hs)
  case pause => exact fun s h c ha hc hs => exec_chanCommand rfl ha hc rfl (State.doPause_rampable _ hs)
  case resume =>
    intro s h c restart ha hc hs hi
    have e := State.doResume_paused (s.headOf h) restart hs
    rw [State.resumeChan_inStep _ restart hi] at e
    exact exec_chanCommand rfl ha hc rfl e
  case clear => exact fun s h c ha hc hs hw hf hh => exec_chanCommand rfl ha hc rfl (State.doClear_latched _ hs hw hf hh)

end Sys2Proof.Machine
end

section
/-! The estimator, bus balance, counters and meters (chapters 08 and 09): what each row leaves where its conditions hold. -/

namespace Sys2Proof.Machine

open Sys2Proof

section
variable {s : State} {c : ChanNo}

/-! ### OCV records (R263, R337) -/

/-- An OCVWATCH step stands at a multiple of its interval (R263). -/
structure State.OcvDue (s : State) (c : ChanNo) : Prop where
  inStep : (s.chan c).prog.inStep = true
  begun  : (s.chan c).prog.newStep = false
  kind   : stepKind (s.chan c).cur = 10
  st     : (s.chan c).loop.st = .resting
  pos    : 0 < (s.chan c).prog.seta
  le     : (s.chan c).prog.seta.toNat ≤ tMs (s.chan c).prog.stepT
  mult   : tMs (s.chan c).prog.stepT % (s.chan c).prog.seta.toNat = 0

/-- The estimator takes the OCV of a channel at its step time into its fit (R337). -/
def State.ocvTaken (s : State) (c : ChanNo) : State :=
  s.onEst c (fun e => ({ e with ocvs := e.ocvs ++ [(tMs (s.chan c).prog.stepT, (s.chan c).meas.vout)] }).fit)

theorem State.ocvTaken_est (s : State) (c : ChanNo) : ((s.ocvTaken c).chan c).est =
    ({ (s.chan c).est with ocvs := (s.chan c).est.ocvs ++ [(tMs (s.chan c).prog.stepT, (s.chan c).meas.vout)] }).fit := by
  rw [State.ocvTaken, State.onEst_chan]

theorem State.ocvTaken_chan_ne (s : State) {c d : ChanNo} (h : d ≠ c) : (s.ocvTaken c).chan d = s.chan d :=
  s.onChan_chan_ne _ h

@[simp] theorem State.sampleRec_chan (s : State) (kind : Nat) (c : ChanNo) (stamp : Nat) (pl : List Byte) (d : ChanNo) :
    (s.sampleRec kind c stamp pl).chan d = s.chan d := rfl

/-- The payload of an OCV record with the leakage that the fit gives (R263, Table 12-22). -/
def Chan.ocvPayload (x : Chan) (k : Option Int) : List Byte :=
  payload [fN 0 8 x.meas.stamp, fI 8 4 x.meas.vout, fI 12 2 x.meas.tcell, fN 14 2 x.meas.mstat, fN 16 4 (tMs x.prog.stepT),
    fI 20 4 (k.getD invalid32)]

/-- The event of a fit that gives K for the first time (R337). -/
def State.firstK (s : State) (c : ChanNo) (had new : Option Int) : State :=
  match had, new with
  | none, some k => s.estEvt c 4 k
  | _, _ => s

@[simp] theorem State.firstK_recFifo (s : State) (c : ChanNo) (had new : Option Int) : (s.firstK c had new).recFifo = s.recFifo := by
  unfold State.firstK
  split <;> rfl

@[simp] theorem State.firstK_chan (s : State) (c : ChanNo) (had new : Option Int) (d : ChanNo) : (s.firstK c had new).chan d = s.chan d := by
  unfold State.firstK
  split <;> rfl

theorem exec_ocvRecord_due (hd : s.OcvDue c) (hg : s.gatOff (gOf c) = false) (hs : s.stewardOn = true) (hm : s.mode.mode ≠ .twin) :
    exec (.ocvRecord c) s =
      (let k := ((s.ocvTaken c).chan c).est.k
      .next (((s.ocvTaken c).sampleRec 0x63 c (s.chan c).meas.stamp ((s.chan c).ocvPayload k)).firstK c (s.chan c).est.k k)) := by
  have hdue : (s.mode.mode != .twin && (s.chan c).prog.inStep && !(s.chan c).prog.newStep && stepKind (s.chan c).cur == 10
      && decide ((s.chan c).loop.st = .resting) && decide (0 < (s.chan c).prog.seta.toNat
        ∧ (s.chan c).prog.seta.toNat ≤ tMs (s.chan c).prog.stepT ∧ tMs (s.chan c).prog.stepT % (s.chan c).prog.seta.toNat = 0)) = true := by
    simp [hm, hd.inStep, hd.begun, hd.kind, hd.st, hd.pos, hd.le, hd.mult]
  refine (if_neg (by simp [hg])).trans ((if_pos hdue).trans ?_)
  simp only [hs]
  rfl

/-! ### The estimator's updates (R329, R331, R335, R336, R338) -/

/-- Awake the estimator updates every 100 ms; in hibernation it updates every 10 s, or when the current has risen (R336, R338). -/
theorem exec_estimatorUpdate_due (hm : s.mode.mode ≠ .twin) (hs : s.stewardOn = true)
    (hd : (s.chan c).est.hib = false ∨ s.lowI c = false ∨ 9900 ≤ (s.chan c).est.hibMs) :
    exec (.estimatorUpdate c) s = .next (s.updateEst c ((s.chan c).est.hibMs + 100)) := by
  refine (if_neg (by simp [hm, hs])).trans (if_neg ?_)
  rintro ⟨hhib, hms, hlow⟩
  obtain h | h | h := hd
  · exact Bool.false_ne_true (h.symm.trans hhib)
  · exact Bool.false_ne_true (h.symm.trans hlow)
  · omega

theorem exec_estimatorUpdate_sleeps (hm : s.mode.mode ≠ .twin) (hs : s.stewardOn = true) (hh : (s.chan c).est.hib = true)
    (hl : s.lowI c = true) (ht : (s.chan c).est.hibMs < 9900) :
    exec (.estimatorUpdate c) s = .next (s.onEst c (fun e => { e with hibMs := (s.chan c).est.hibMs + 100 })) :=
  (if_neg (by simp [hm, hs])).trans (if_pos ⟨hh, by omega, hl⟩)

theorem exec_hibernationEntry_due (ht : 60000 ≤ (s.chan c).est.lowT) (hs : s.stewardOn = true) (hm : s.mode.mode ≠ .twin) :
    exec (.hibernationEntry c) s = .next (s.onEst c (fun e => { e with hib := true })) :=
  if_pos ⟨hs, hm, ht⟩

/-- A rest of OCVREST ends, or a hibernation sample after it, where the table is steep enough (R335). -/
theorem exec_ocvCorrection_due {q sl : Int} (hr : (s.chan c).est.ocvrest * 1000 ≤ (s.chan c).est.restMs)
    (hd : if (s.chan c).est.hib then (s.chan c).est.hibMs = 0 else (s.chan c).est.restMs < (s.chan c).est.ocvrest * 1000 + 100)
    (hc : (s.chan c).est.cap ≠ 0) (hs : s.stewardOn = true) (hm : s.mode.mode ≠ .twin)
    (hv : ocvSeg (s.chan c).est.table (s.chan c).meas.vout = some (q, sl)) (hsl : ((s.chan c).est.slopemin : Int) ≤ sl) :
    exec (.ocvCorrection c) s = .next (s.onEst c (fun e => { e with soc := some q, corrd := true })) := by
  have hdue : (decide ((s.chan c).est.ocvrest * 1000 ≤ (s.chan c).est.restMs) && (if (s.chan c).est.hib then (s.chan c).est.hibMs == 0
      else decide ((s.chan c).est.restMs < (s.chan c).est.ocvrest * 1000 + 100))) = true := by
    cases hh : (s.chan c).est.hib <;> simp_all
  refine (if_pos ⟨hs, hm, hdue, hc⟩).trans ?_
  simp only [hv]
  exact if_pos hsl

theorem exec_estimatorRecord_outsideTwin (hm : s.mode.mode ≠ .twin) (hs : s.stewardOn = true) :
    exec (.estimatorRecord c) s =
      .next ((s.chanRec 0x66 c 65535 s.ptp false [estPayload (s.chan c).est]).onEst c (fun e => { e with corrd := false })) :=
  if_neg (by simp [hm, hs])

/-! ### Bus balance (R352, R355, R356) -/

/-- The part that holds the Pipe balances the bus in the modes that work, while the Steward does (R39, R352). -/
structure State.Balances (s : State) : Prop where
  pipe    : s.holdsPipe = true
  mode    : modeWorks s.mode.mode = true
  steward : s.stewardOn = true

theorem exec_busBalanceCycle_late (h : s.Balances) :
    exec (.busBalanceCycle true) s =
      .next (({ s with bal := { s.bal with overruns := satAdd 0xFFFF s.bal.overruns 1 } }).fault 0x0C 0x01) :=
  (if_neg (by simp [h.pipe, h.mode, h.steward])).trans (if_pos rfl)

theorem exec_busBalanceCycle_off (h : s.Balances) (hb : s.bit 0x200000 0 = false) :
    exec (.busBalanceCycle false) s =
      (let t := s.deferredChans.foldl (fun u c => u.release c) s
      let u := t.forChans allChans (fun c v => v.onChan c (fun x => { x with cap := none, flextrim := false, proptrim := false }))
      .next ({ u with bal := { u.bal with holdChg := false, holdDis := false, stage := 0, mchg := 65536, mdis := 65536 } }).refreshMode) :=
  (if_neg (by simp [h.pipe, h.mode, h.steward])).trans ((if_neg Bool.false_ne_true).trans (if_pos (by simp [hb])))

theorem exec_busBalanceCycle_on (h : s.Balances) (hb : s.bit 0x200000 0 = true) :
    exec (.busBalanceCycle false) s =
      (let eff := Nat.max 500 (s.fld 0x200000 16 10)
      let live (u : State) : List Demand := (allChans.filter u.demands).map (fun c => u.demandOf c false)
      let t := s.releases eff s.deferredChans (((live s).map (busPow eff)).sum)
      .next (t.balance eff (live t)).refreshMode) :=
  (if_neg (by simp [h.pipe, h.mode, h.steward])).trans ((if_neg Bool.false_ne_true).trans (if_neg (by simp [hb])))

theorem exec_defmaxExpiry_due {t : Nat} (hd : (s.chan c).prog.deferT = some t) (hm : s.fld 0x20000C 0 16 ≠ 0)
    (ht : t + s.fld 0x20000C 0 16 * 1000000000 ≤ s.now) (hg : s.gatOff (gOf c) = false) :
    exec (.defmaxExpiry c) s = .next (s.release c).refreshMode := by
  change execDefmaxExpiry c s = _
  simp only [execDefmaxExpiry, hd]
  exact if_pos ⟨hm, ht, by simp [hg]⟩

/-! ### Counters and meters (R362, R364, R367) -/

theorem exec_counterCollect_running (hs : s.stewardOn = true) :
    exec .counterCollect s = .next (s.catchUp.forChans allChans (fun c u => u.collectOpen c)) :=
  congrArg Host.Outcome.next (if_pos hs)

/-- Region 4 takes the copy of the counters and meters while it takes writes (R362). -/
theorem State.commitCounters_copied (hn : s.takesNvm 4 = true) :
    s.commitCounters =
      (let t := (s.copied 4).forChans allChans (fun c u => u.onChan c (fun x => { x with cntNvm := x.cnt }))
      { t with met := { t.met with nvm := t.met.meters, dirty := false } }) := by
  simp only [State.takesNvm, Bool.and_eq_true, Bool.not_eq_true'] at hn
  obtain ⟨hworn, htaken⟩ := hn
  have hp : s.placeCounters = s.nvmWrite 4 := if_neg (by simp [hworn])
  simp only [State.commitCounters, hp, htaken]
  rfl

theorem exec_meterNvmCommit_due (hs : s.stewardOn = true) (ht : s.met.commitT + s.commitInt ≤ s.now) :
    exec .meterNvmCommit s =
      .next { s.commitCounters with met := { s.commitCounters.met with commitT := s.commitCounters.now } } :=
  congrArg Host.Outcome.next (if_pos ⟨hs, ht⟩)

theorem exec_meterStampSplit_due {g : GatherNo} {t : Nat} (ht : s.met.stamps[(s.gat g).pieces]? = some t) (hp : t ≤ s.ptp)
    (hg : s.gatOff g = false) :
    exec (.meterStampSplit g) s =
      .next ((s.forChans (chansOf g) (fun c u => u.split c)).onGat g (fun y => { y with pieces := y.pieces + 1 })) := by
  change execMeterStampSplit g s = _
  simp only [execMeterStampSplit, ht]
  exact if_pos ⟨hp, by simp [hg]⟩

theorem State.handleMinute_due (hd : s.met.due = true) :
    s.handleMinute =
      (let t := { s with met := { s.met with due := false } }
      if s.stewardOn then ((t.catchUp.takePieces true).minuteBoundary s.board.time.stamp).predict s.board.time.stamp 60
      else { t with met := { t.met with missed := s.met.missed ++ [(s.board.time.stamp, s.board.time.cal)] } }) :=
  if_neg (by simp [hd])

end

/-- Settles O20: each row under its conditions; an OCV record by what the fit leaves of the channel. -/
theorem estimatorBalanceAndMeterEvents : Obligations.EstimatorBalanceAndMeterEvents := by
  refine ⟨⟨?ocv, ?update, ?wakes, ?sleeps, ?hibernate, ?correct, ?record⟩, ?off, ?on, ?late, ?defmax, ?collect, ?nvm, ?split, ?minute, ?missed,
    ?idle⟩
  case ocv =>
    intro s c hi hn hk hst hp hle hmod hg hs hm
    refine ⟨_, _, exec_ocvRecord_due ⟨hi, hn, hk, hst, hp, hle, hmod⟩ hg hs hm, State.firstK_recFifo _ _ _ _, rfl, rfl, rfl, ?_,
      fun d hd => ?_⟩
    · rw [State.firstK_chan, State.sampleRec_chan, State.ocvTaken_est]
    · rw [State.firstK_chan, State.sampleRec_chan, State.ocvTaken_chan_ne _ hd]
  case update => exact fun s c hm hs hh => exec_estimatorUpdate_due hm hs (.inl hh)
  case wakes => exact fun s c hm hs _ hd => exec_estimatorUpdate_due hm hs (.inr hd)
  case sleeps => exact fun s c hm hs hh hl ht => exec_estimatorUpdate_sleeps hm hs hh hl ht
  case hibernate => exact fun s c ht hs hm => exec_hibernationEntry_due ht hs hm
  case correct => exact fun s c q sl hr hd hc hs hm hv hsl => exec_ocvCorrection_due hr hd hc hs hm hv hsl
  case record => exact fun s c hm hs => exec_estimatorRecord_outsideTwin hm hs
  case off => exact fun s hp hm hs hb => exec_busBalanceCycle_off ⟨hp, hm, hs⟩ hb
  case on => exact fun s hp hm hs hb => exec_busBalanceCycle_on ⟨hp, hm, hs⟩ hb
  case late => exact fun s hp hm hs => exec_busBalanceCycle_late ⟨hp, hm, hs⟩
  case defmax => exact fun s c t hd hm ht hg => exec_defmaxExpiry_due hd hm ht hg
  case collect => exact fun s hs => exec_counterCollect_running hs
  case nvm =>
    intro s hs hn ht
    rw [exec_meterNvmCommit_due hs ht, State.commitCounters_copied hn]
  case split => exact fun s g t ht hp hg => exec_meterStampSplit_due ht hp hg
  case minute => exact fun s hd hs => congrArg Host.Outcome.next ((State.handleMinute_due hd).trans (if_pos hs))
  case missed => exact fun s hd hs => congrArg Host.Outcome.next ((State.handleMinute_due hd).trans (if_neg (by simp [hs])))
  case idle => exact fun s hd => congrArg Host.Outcome.next (if_pos (by simp [hd]))

end Sys2Proof.Machine
end

section
/-! The points of a sweep (R306): their number, and how far each lies from FSTART. -/

namespace Sys2Proof.Machine

open Sys2Proof

/-! ### The codes of a sweep (R262, R306) -/

section
variable (w : StepWord)

/-- FSTART of an EIS step (Table 07-3). -/
def sweepStart : Nat := bitsOf (slotVal w 2) 0 16

/-- FSTOP of an EIS step (Table 07-3). -/
def sweepStop : Nat := bitsOf (slotVal w 2) 16 16

/-- PPD of an EIS step, points per decade, at least 1 (Table 07-3). -/
def sweepPpd : Nat := Nat.max 1 (bitsOf (slotVal w 1) 0 8)

/-- The spacing of a sweep's codes, round(1,000 / PPD) (R306). -/
def sweepStep : Nat := (2000 + sweepPpd w) / (2 * sweepPpd w)

/-- The codes between FSTART and FSTOP. -/
def sweepSpan : Nat := if sweepStart w ≤ sweepStop w then sweepStop w - sweepStart w else sweepStart w - sweepStop w

/-- The number of a sweep's points: its whole spacings, a shorter last one, and the point that they start from. -/
def sweepCount : Nat := if sweepSpan w % sweepStep w = 0 then sweepSpan w / sweepStep w + 1 else sweepSpan w / sweepStep w + 2

/-- How far from FSTART a point lies. -/
def sweepOffset (i : Nat) : Nat := Nat.min (i * sweepStep w) (sweepSpan w)

/-- The code that lies so far from FSTART toward FSTOP. -/
def sweepCode (d : Nat) : Nat := if sweepStart w ≤ sweepStop w then sweepStart w + d else sweepStart w - d

variable {w}

theorem sweepStep_pos : 0 < sweepStep w := by
  have hlo : 1 ≤ sweepPpd w := Nat.le_max_left _ _
  have hhi : sweepPpd w ≤ 255 := Nat.max_le.2 ⟨by decide, Nat.le_of_lt_succ (Nat.mod_lt _ (by decide))⟩
  exact Nat.div_pos (by omega) (by omega)

theorem sweepCount_pos : 1 ≤ sweepCount w := by
  unfold sweepCount
  split <;> exact Nat.succ_pos _

/-- A point has a successor exactly where whole spacings leave it short of FSTOP. -/
theorem succ_lt_sweepCount_iff {i : Nat} : i + 1 < sweepCount w ↔ i * sweepStep w < sweepSpan w := by
  have hpos : 0 < sweepStep w := sweepStep_pos
  have hdiv := Nat.div_add_mod' (sweepSpan w) (sweepStep w)
  unfold sweepCount
  split
  next hmod =>
    calc i + 1 < sweepSpan w / sweepStep w + 1 ↔ i < sweepSpan w / sweepStep w := Nat.succ_lt_succ_iff
      _ ↔ i * sweepStep w < sweepSpan w / sweepStep w * sweepStep w := (Nat.mul_lt_mul_right hpos).symm
      _ ↔ i * sweepStep w < sweepSpan w := by rw [← hdiv, hmod]; simp [hpos]
  next hmod =>
    calc i + 1 < sweepSpan w / sweepStep w + 2 ↔ i ≤ sweepSpan w / sweepStep w := by omega
      _ ↔ i * sweepStep w ≤ sweepSpan w := Nat.le_div_iff_mul_le hpos
      _ ↔ i * sweepStep w < sweepSpan w :=
        ⟨fun h => h.lt_of_ne fun e => hmod (by rw [← e, Nat.mul_mod_left]), Nat.le_of_lt⟩

theorem sweepOffset_of_le {i : Nat} (h : i * sweepStep w ≤ sweepSpan w) : sweepOffset w i = i * sweepStep w := Nat.min_eq_left h

theorem sweepOffset_of_ge {i : Nat} (h : sweepSpan w ≤ i * sweepStep w) : sweepOffset w i = sweepSpan w := Nat.min_eq_right h

theorem sweepCode_zero : sweepCode w 0 = sweepStart w := by simp [sweepCode]

theorem sweepCode_span : sweepCode w (sweepSpan w) = sweepStop w := by
  unfold sweepCode sweepSpan
  split <;> omega

theorem eisCode_of_ge {i : Nat} (h : sweepCount w ≤ i) : eisCode w i = none :=
  if_pos h

theorem eisCode_of_lt {i : Nat} (h : i < sweepCount w) : eisCode w i = some (sweepCode w (sweepOffset w i)) := by
  refine (if_neg (Nat.not_le.2 h)).trans ?_
  change (if i ≤ sweepSpan w / sweepStep w then some (sweepCode w (i * sweepStep w)) else some (sweepStop w)) = _
  simp only [Nat.le_div_iff_mul_le sweepStep_pos]
  split
  next hle => rw [sweepOffset_of_le hle]
  next hgt => rw [sweepOffset_of_ge (Nat.le_of_not_le hgt), sweepCode_span]

theorem eisCode_isSome {i : Nat} : (eisCode w i).isSome = decide (i < sweepCount w) := by
  by_cases h : i < sweepCount w
  · simp [eisCode_of_lt h, h]
  · simp [eisCode_of_ge (Nat.not_lt.1 h), h]

theorem eisCode_eq_some_iff {i c : Nat} : eisCode w i = some c ↔ i < sweepCount w ∧ sweepCode w (sweepOffset w i) = c := by
  by_cases h : i < sweepCount w
  · simp [eisCode_of_lt h, h]
  · simp [eisCode_of_ge (Nat.not_lt.1 h), h]

theorem sweepOffset_le {i : Nat} : sweepOffset w i ≤ sweepSpan w := Nat.min_le_right _ _

theorem sweepOffset_zero : sweepOffset w 0 = 0 := (sweepOffset_of_le (by simp)).trans (Nat.zero_mul _)

theorem sweepOffset_last : sweepOffset w (sweepCount w - 1) = sweepSpan w := by
  refine sweepOffset_of_ge (Nat.le_of_not_lt fun h => ?_)
  have hlt := succ_lt_sweepCount_iff.2 h
  rw [Nat.sub_add_cancel sweepCount_pos] at hlt
  exact lt_irrefl _ hlt

theorem sweepOffset_lt_succ {i : Nat} (h : i + 1 < sweepCount w) : sweepOffset w i < sweepOffset w (i + 1) := by
  have hi : i * sweepStep w < sweepSpan w := succ_lt_sweepCount_iff.1 h
  rw [sweepOffset_of_le hi.le]
  exact lt_min (Nat.mul_lt_mul_of_pos_right (Nat.lt_succ_self i) sweepStep_pos) hi

theorem sweepCount_of_eq (h : sweepStart w = sweepStop w) : sweepCount w = 1 := by
  have hs : sweepSpan w = 0 := by simp [sweepSpan, h]
  simp [sweepCount, hs]

theorem sweepCode_between {d : Nat} (hd : d ≤ sweepSpan w) :
    Nat.min (sweepStart w) (sweepStop w) ≤ sweepCode w d ∧ sweepCode w d ≤ Nat.max (sweepStart w) (sweepStop w) := by
  change min (sweepStart w) (sweepStop w) ≤ _ ∧ _ ≤ max (sweepStart w) (sweepStop w)
  unfold sweepSpan at hd
  unfold sweepCode
  by_cases h : sweepStart w ≤ sweepStop w
  · rw [if_pos h] at hd ⊢
    omega
  · rw [if_neg h] at hd ⊢
    omega

/-- Codes rise or fall with their offset, as the sweep does. -/
theorem sweepCode_rises {d e : Nat} (h : d < e) (he : e ≤ sweepSpan w) :
    (sweepStart w < sweepStop w → sweepCode w d < sweepCode w e) ∧ (sweepStop w < sweepStart w → sweepCode w e < sweepCode w d) := by
  unfold sweepSpan at he
  unfold sweepCode
  by_cases h : sweepStart w ≤ sweepStop w
  · rw [if_pos h] at he
    rw [if_pos h, if_pos h]
    omega
  · rw [if_neg h] at he
    rw [if_neg h, if_neg h]
    omega

end

/-- Settles O56: a point lies its offset from FSTART toward FSTOP, and the offsets rise from 0 to the whole span. -/
theorem sweepPointsRunFromStartToStop : Obligations.SweepPointsRunFromStartToStop := by
  intro w fs fe
  refine ⟨sweepCount w, sweepCount_pos, fun _ => eisCode_isSome, ?first, ?last, ?between, sweepCount_of_eq, ?rises⟩
  case first => rw [eisCode_of_lt sweepCount_pos, sweepOffset_zero, sweepCode_zero]; rfl
  case last => rw [eisCode_of_lt (Nat.sub_lt sweepCount_pos Nat.one_pos), sweepOffset_last, sweepCode_span]; rfl
  case between =>
    intro i c hc
    obtain ⟨-, rfl⟩ := eisCode_eq_some_iff.1 hc
    exact sweepCode_between sweepOffset_le
  case rises =>
    intro i c d hc hd
    obtain ⟨-, rfl⟩ := eisCode_eq_some_iff.1 hc
    obtain ⟨hi, rfl⟩ := eisCode_eq_some_iff.1 hd
    exact sweepCode_rises (sweepOffset_lt_succ hi) sweepOffset_le

end Sys2Proof.Machine
end

section
/-! The estimator and meter commands (Tables 12-10 and 12-11): what each answers on the estimator or the meter that it names. -/

namespace Sys2Proof.Machine

open Sys2Proof

/-- What RELEARN leaves of an estimator (R341). -/
def EstSt.forgotten (e : EstSt) : EstSt := { e with cmeas := none, k := none, isd := none, dcir := none, stale := false }

section
variable {s : State} {n : Nat}

/-- Without STALE there is nothing to clear, and no event (R341). -/
theorem State.doRelearn_fresh (hs : (s.estAt n).stale = false) : s.doRelearn n = (s.onEstAt n EstSt.forgotten).ok := by
  simp only [State.doRelearn, hs]
  split <;> rfl

/-- A channel whose STALE is cleared gives the event of a new capacity, CNOM (R341). -/
theorem State.doRelearn_stale {c : ChanNo} (hc : chan? n = some c) (hs : (s.chan c).est.stale = true) :
    s.doRelearn n =
      (let t := s.onEst c EstSt.forgotten
      (t.estEvt c 1 (t.chan c).est.cnom).ok) := by
  simp only [State.doRelearn, State.estAt, State.onEstAt, hc, hs]
  rfl

theorem State.doMeterLimits_takes (imp exp : Nat) (hn : s.takesNvm 1 = true) :
    s.doMeterLimits imp exp = (((s.copied 1).setReg 0x200004 imp).setReg 0x200008 exp).ok :=
  State.stored_takes _ hn

/-- The words of a schedule as METER_SCHED writes them, one entry after another from the first (R374). -/
def State.schedWritten (s : State) (first : Nat) (words : List Nat) : State :=
  (List.range words.length).foldl
    (fun u i => u.writeSched (first + i) (bitsOf (words.getD i 0) 0 14 + 32768 * bitsOf (words.getD i 0) 15 8)) s

theorem State.doMeterSched_takes (first : Nat) (words : List Nat) (hn : s.takesNvm 1 = true) :
    s.doMeterSched first words = ((s.copied 1).schedWritten first words).ok :=
  State.stored_takes _ hn

end

/-- Settles O8: each command's effect is known where it is accepted; RELEARN by whether STALE was set. -/
theorem estimatorAndMeterCommandsComplete : Obligations.EstimatorAndMeterCommandsComplete := by
  refine ⟨⟨?set, ?table, ?read, ?fresh, ?stale⟩, ?counter, ?meter, ?close, ?limits, ?sched⟩
  case set => exact fun s h f ha => exec_answered rfl ha rfl
  case table => exact fun s h pts ha => exec_answered rfl ha rfl
  case read => exact fun s h table ha => exec_answered rfl ha rfl
  case fresh => exact fun s h ha hs => exec_answered rfl ha (State.doRelearn_fresh hs)
  case stale => exact fun s h c ha hc hs => exec_answered rfl ha (State.doRelearn_stale hc hs)
  case counter => exact fun s h c ha hc => exec_answered rfl ha (onChanOf_some hc)
  case meter => exact fun s h n ha => exec_answered rfl ha rfl
  case close => exact fun s h ha => exec_answered rfl ha rfl
  case limits => exact fun s h imp exp ha hn => exec_answered rfl ha (State.doMeterLimits_takes _ _ hn)
  case sched => exact fun s h first words ha hn => exec_answered rfl ha (State.doMeterSched_takes _ _ hn)

end Sys2Proof.Machine
end

section
/-! The stages of a sweep's point (R305, R312, R315 to R319): what its start, its settle and its window leave where their conditions hold. -/

namespace Sys2Proof.Machine

open Sys2Proof

section
variable {s : State} {c : ChanNo}

/-! ### The start of a tone and the end of a settle (R305, R312) -/

/-- Each member of a gang scales its own VAMP by the current that it measured, within 0.5 to 2 (R312). -/
def State.vampScaled (s : State) (w : StepWord) (amps : List Nat) (m : ChanNo) (v : Nat) : Nat :=
  let want := (s.shareOf m (stepAmp w)).natAbs
  let amp := amps.getD (kOf m) 0
  if amp * 2 ≤ want then v * 2 else if want * 2 ≤ amp then v / 2 else v * want / amp

theorem exec_eisToneStart_due {stamp : Nat} (hi : s.inEis (s.leaderOf c) = true) (hp : (s.chan (s.leaderOf c)).eis.phase = 1)
    (hg : stamp % 1000000 = 0) (hl : s.ptp < stamp + 1000000) (hh : stamp < s.ptp + 1000000)
    (ha : (s.chan (s.leaderOf c)).loop.st = .active)
    (hr : (s.chan (s.leaderOf c)).loop.iref = s.shareOf (s.leaderOf c) (s.limTotal (s.leaderOf c) (s.chan (s.leaderOf c)).prog.seta)) :
    exec (.eisToneStart c stamp) s =
      (let l := s.leaderOf c
      let x := s.chan l
      .next (((s.tickTo stamp).onEis l (fun e => { e with ph := 0, sin9 := 0, tone := 0 })).eisPoint l stamp x.eis.point
        ((eisCode x.cur x.eis.point).getD x.eis.code))) :=
  if_pos ⟨hi, hp, hg, hl, hh, ha, hr⟩

theorem exec_eisSettleEnd_due (amps : List Nat) (hi : s.inEis (s.leaderOf c) = true) (hp : (s.chan (s.leaderOf c)).eis.phase = 2) :
    (let l := s.leaderOf c
    let x := s.chan l
    let stamp := x.eis.settleT + eisSettle x.eis.code * 3125
    let t := s.tickTo stamp
    let u := if x.eis.ffpath then t.forChans (t.membersOf l) (fun m v => v.onEis m (fun e => { e with vamp := t.vampScaled x.cur amps m e.vamp }))
      else t
    exec (.eisSettleEnd c stamp amps) s = .next (u.onEis l (fun e => { e.cleared with phase := 3, wstart := stamp }))) :=
  if_pos ⟨hi, hp, rfl⟩

/-! ### The end of a window (R314 to R319) -/

/-- The window of a leading channel's point holds all its samples (R307, R314). -/
structure State.WindowFull (s : State) (l : ChanNo) : Prop where
  inEis : s.inEis l = true
  phase : (s.chan l).eis.phase = 3
  full  : s.eisLen l ≤ (s.chan l).eis.window.n

/-- The time at which the window of a point ends (R314). -/
def State.windowStamp (s : State) (l : ChanNo) : Nat := (s.chan l).eis.wstart + s.eisLen l * 3125

/-- The end of a window takes three free values, for a result that its sums leave without a stated value. -/
def State.windowEnded (s : State) (l : ChanNo) : State :=
  let u := s.tickTo (s.windowStamp l)
  { u with draws := u.draws + 3 }

/-- Three draws, one after another, change the count of draws alone (log entry 2). -/
theorem State.draw_thrice (u : State) : ∃ f₁ f₂ f₃ s₁ s₂,
    u.draw = (f₁, s₁) ∧ s₁.draw = (f₂, s₂) ∧ s₂.draw = (f₃, { u with draws := u.draws + 3 }) :=
  ⟨_, _, _, _, _, rfl, rfl, rfl⟩

theorem State.windowEnded_draws (s : State) (l : ChanNo) : ∃ f₁ f₂ f₃ s₁ s₂,
    (s.tickTo (s.windowStamp l)).draw = (f₁, s₁) ∧ s₁.draw = (f₂, s₂) ∧ s₂.draw = (f₃, s.windowEnded l) :=
  State.draw_thrice _

/-- The amplitude of the current of a point in µA (R314). -/
def State.pointAmp (s : State) (l : ChanNo) : Nat :=
  let x := (s.chan l).eis.window
  cAbs (2 * x.ire) (2 * x.iim) (s.eisLen l * 1000000000000)

/-- A point with a result, none of whose three faults stands: a bad sample, a low coherence, a current out of range (R315, R316). -/
structure State.PointValid (s : State) (l : ChanNo) (zre zim : Int) (coh : Nat) : Prop where
  clean     : (s.chan l).eis.bad = 0
  z         : zOf (s.chan l).eis.window = some (zre, zim)
  cohStands : cohOf (s.chan l).eis.eighths = some coh
  coherent  : bitsOf (s.chan l).eis.cfg 16 16 ≤ coh
  notLow    : stepAmp (s.chan l).cur ≤ s.pointAmp l * 2
  notHigh   : s.pointAmp l ≤ stepAmp (s.chan l).cur * 2

/-- The payload of the record of a valid point (R319, Table 08-1). -/
def State.pointPayload (s : State) (l : ChanNo) (zre zim : Int) (coh : Nat) : List Byte :=
  let ch := s.chan l
  let e := ch.eis
  let x := e.window
  let n := s.eisLen l
  payload [fN 0 2 e.point, fN 2 2 e.code, fN 4 8 (eisToneU (s.eisStagger l) (stepNper ch.cur) e.code (gOf l).val), fN 12 8 e.wstart, fI 20 4 zre,
    fI 24 4 zim, fN 28 2 coh, fN 30 4 (cAbs (2 * x.vre) (2 * x.vim) (n * 1000000000000)), fN 34 4 (s.pointAmp l),
    fI 38 4 (rdiv e.vsum (1000 * n)), fI 42 2 ch.meas.tcell, fN 44 2 (b2n e.ffpath + 2 * b2n e.rep + 256 * b2n e.swap), fN 46 2 ch.meas.mstat]

theorem State.WindowFull.ends (h : s.WindowFull c) :
    (!(s.inEis c && (s.chan c).eis.phase == 3 && decide (s.eisLen c ≤ (s.chan c).eis.window.n)
      && decide (s.windowStamp c = (s.chan c).eis.wstart + s.eisLen c * 3125))) = false := by
  simp [h.inEis, h.phase, h.full, State.windowStamp]

/-- An invalid point is repeated once, where EIS_CFG asks for it: its window begins anew (R317). -/
theorem exec_eisWindowEnd_repeats (h : s.WindowFull (s.leaderOf c)) (hr : (s.chan (s.leaderOf c)).eis.rep = false)
    (hb : (s.chan (s.leaderOf c)).eis.bad ≠ 0) (hc : (s.chan (s.leaderOf c)).eis.cfg.testBit 1 = true) :
    (let l := s.leaderOf c
    let a := eisA (gOf l) 0x30
    exec (.eisWindowEnd c (s.windowStamp l)) s = .next ((((s.windowEnded l).setBit a 0).setBit a 1).onEis l (fun e =>
      { e.cleared with rep := true, wstart := s.windowStamp l }))) := by
  obtain ⟨f₁, f₂, f₃, s₁, s₂, h₁, h₂, h₃⟩ := s.windowEnded_draws (s.leaderOf c)
  have hbad : ((s.chan (s.leaderOf c)).eis.bad != 0) = true := bne_iff_ne.2 hb
  change execEisWindowEnd c _ s = _
  simp only [execEisWindowEnd, h.ends, h₁, h₂, h₃, hbad, Bool.or_true, hr, hc]
  rfl

/-- A valid point writes its record, and the sweep goes on to the next code where there is one (R306, R319). -/
theorem exec_eisWindowEnd_valid {zre zim : Int} {coh code : Nat} (h : s.WindowFull (s.leaderOf c))
    (hv : s.PointValid (s.leaderOf c) zre zim coh)
    (hn : eisCode (s.chan (s.leaderOf c)).cur ((s.chan (s.leaderOf c)).eis.point + 1) = some code) :
    (let l := s.leaderOf c
    let x := s.chan l
    let t := (s.windowEnded l).chanRec 0x64 l x.prog.pc (s.windowStamp l) false [s.pointPayload l zre zim coh]
    exec (.eisWindowEnd c (s.windowStamp l)) s = .next (((t.bumpWrap (eisA (gOf l) 0x34) 0 16).onEis l (fun e =>
      { e with done := e.point + 1 })).eisPoint l (s.windowStamp l) (x.eis.point + 1) code)) := by
  obtain ⟨f₁, f₂, f₃, s₁, s₂, h₁, h₂, h₃⟩ := s.windowEnded_draws (s.leaderOf c)
  have hlow : decide (coh < bitsOf (s.chan (s.leaderOf c)).eis.cfg 16 16) = false := decide_eq_false (Nat.not_lt.2 hv.coherent)
  have hsmall := decide_eq_false (Nat.not_lt.2 hv.notLow)
  have hlarge := decide_eq_false (Nat.not_lt.2 hv.notHigh)
  unfold State.pointAmp at hsmall hlarge
  change execEisWindowEnd c _ s = _
  simp only [execEisWindowEnd, h.ends, h₁, h₂, h₃, hv.z, hv.cohStands, Option.getD_some, hlow, hsmall, hlarge, hv.clean, hn]
  rfl

end

/-- Settles O19: each row under its conditions; the end of a window by whether the point is valid. -/
theorem sweepPointStages : Obligations.SweepPointStages := by
  refine ⟨?start, ?settled, ?repeats, ?goesOn⟩
  case start => exact fun s c stamp hi hp hg hl hh ha hr => exec_eisToneStart_due hi hp hg hl hh ha hr
  case settled => exact fun s c amps hi hp => exec_eisSettleEnd_due amps hi hp
  case repeats => exact fun s c hi hp hw hr hb hc => exec_eisWindowEnd_repeats ⟨hi, hp, hw⟩ hr hb hc
  case goesOn =>
    exact fun s c zre zim coh code hi hp hw hb hz hco hmin hlo hhi hn =>
      exec_eisWindowEnd_valid ⟨hi, hp, hw⟩ ⟨hb, hz, hco, hmin, hlo, hhi⟩ hn

end Sys2Proof.Machine
end

section
/-! The bytes of a tag and of an entry (Table 10-4, R384 to R389): their sum, their train ends, and that what is written reads back. -/

namespace Sys2Proof.Machine

open Sys2Proof

/-! ### Bytes and numbers -/

theorem leBytes_length (n v : Nat) : (leBytes n v).length = n := by
  induction n generalizing v with
  | zero => rfl
  | succ n ih => simp [leBytes, ih]

theorem leNat_leBytes (n v : Nat) : leNat (leBytes n v) = v % 256 ^ n := by
  induction n generalizing v with
  | zero => simp [leBytes, leNat, Nat.mod_one]
  | succ n ih => simp [leBytes, leNat, ih, Nat.pow_succ', Nat.mod_mul]

theorem sliceB_append_left {a : List Byte} {n : Nat} (l : List Byte) (h : a.length = n) : sliceB (a ++ l) 0 n = a := by
  subst h
  apply List.ext_getElem
  · simp [sliceB]
  · intro i _ hi
    simp [sliceB, List.getD_eq_getElem?_getD, List.getElem?_append_left hi, List.getElem?_eq_getElem hi]

/-- Past the first bytes a slice is one of what follows them. -/
theorem sliceB_append_right {a : List Byte} {o : Nat} (l : List Byte) (n : Nat) (h : a.length ≤ o) :
    sliceB (a ++ l) o n = sliceB l (o - a.length) n := by
  refine List.map_congr_left fun i _ => ?_
  rw [List.getD_append_right _ _ _ _ (Nat.le_add_right_of_le h), Nat.sub_add_comm h]

/-- A field reads back as the number written there. -/
theorem numAt_leBytes (n v : Nat) (l : List Byte) : numAt (leBytes n v ++ l) 0 n = v % 256 ^ n := by
  rw [numAt, sliceB_append_left l (leBytes_length n v), leNat_leBytes]

/-- A field that stands behind another. -/
theorem numAt_leBytes_right {m o : Nat} (v n : Nat) (l : List Byte) (h : m ≤ o) : numAt (leBytes m v ++ l) o n = numAt l (o - m) n := by
  rw [numAt, sliceB_append_right l n (by rwa [leBytes_length]), leBytes_length, numAt]

theorem byteSum_foldl (l : List Byte) (a : Nat) :
    l.foldl (fun a b => (a + b.toNat) % 256) (a % 256) = (a + (l.map BitVec.toNat).sum) % 256 := by
  induction l generalizing a with
  | nil => simp
  | cons b l ih => rw [List.foldl_cons, Nat.mod_add_mod, ih, List.map_cons, List.sum_cons, Nat.add_assoc]

theorem byteSum_eq_sum_mod (l : List Byte) : byteSum l = (l.map BitVec.toNat).sum % 256 :=
  (byteSum_foldl l 0).trans (by rw [Nat.zero_add])

/-! ### The tag (R385, R387) -/

/-- What follows FLAGS in a tag: no byte of it depends on OWN. -/
def tagTail (t : Tag) : List Byte := (tagBytes t false).drop 2

theorem tagBytes_eq_cons (t : Tag) (own : Bool) :
    tagBytes t own = BitVec.ofNat 8 t.kind :: BitVec.ofNat 8 (tagFlags t + b2n own) :: tagTail t := rfl

theorem tagBytes_length (t : Tag) (own : Bool) : (tagBytes t own).length = 16 := by
  simp only [tagBytes, tagBody, List.length_append, leBytes_length]

/-- The bits of FLAGS are independent of one another. -/
theorem flags_bits (own first last urgent stale twin loss : Bool) :
    let n := 2 * b2n first + 4 * b2n last + 8 * b2n urgent + 16 * b2n stale + 32 * b2n twin + 64 * b2n loss + b2n own
    n < 128 ∧ n.testBit 0 = own ∧ n.testBit 1 = first ∧ n.testBit 2 = last ∧ n.testBit 3 = urgent ∧ n.testBit 6 = loss := by
  revert own first last urgent stale twin loss
  decide

theorem tagFlags_bits (t : Tag) (own : Bool) :
    tagFlags t + b2n own < 128 ∧ (tagFlags t + b2n own).testBit 0 = own ∧ (tagFlags t + b2n own).testBit 1 = (t.tidx == 0) ∧
      (tagFlags t + b2n own).testBit 2 = (t.tidx + 1 == t.tcnt) ∧ (tagFlags t + b2n own).testBit 3 = t.urgent ∧
      (tagFlags t + b2n own).testBit 6 = t.loss :=
  flags_bits own _ _ t.urgent t.stale t.twin t.loss

theorem tagFlags_lt (t : Tag) (own : Bool) : tagFlags t + b2n own < 128 := (tagFlags_bits t own).1

/-- The FLAGS byte of a tag. -/
theorem numAt_tagBytes_flags (t : Tag) (own : Bool) : numAt (tagBytes t own) 1 1 = tagFlags t + b2n own := by
  have hlt := tagFlags_lt t own
  simp only [tagBytes, tagBody, List.append_assoc]
  rw [numAt_leBytes_right _ _ _ (by decide), numAt_leBytes]
  omega

/-- With OWN taken as 0, HCHK completes the sum of the other bytes to 0xA5 (R385). -/
theorem byteSum_tagBytes_unowned (t : Tag) : byteSum (tagBytes t false) = 0xA5 := by
  have hsum : byteSum (tagBytes t false) =
      (byteSum (tagBody t (tagFlags t)) + (BitVec.ofNat 8 (0xA5 + 256 - byteSum (tagBody t (tagFlags t)))).toNat) % 256 := by
    simp [byteSum, tagBytes, leBytes, b2n]
  have hlt : byteSum (tagBody t (tagFlags t)) < 256 := by
    rw [byteSum_eq_sum_mod]
    exact Nat.mod_lt _ (by decide)
  rw [hsum, BitVec.toNat_ofNat]
  omega

/-- OWN adds itself to the sum. -/
theorem byteSum_tagBytes (t : Tag) (own : Bool) : byteSum (tagBytes t own) = 0xA5 + b2n own := by
  have h0 := byteSum_tagBytes_unowned t
  have hf := tagFlags_lt t own
  have hf0 := tagFlags_lt t false
  have hown : b2n own ≤ 1 := by cases own <;> decide
  have hno : b2n false = 0 := rfl
  simp only [byteSum_eq_sum_mod, tagBytes_eq_cons, List.map_cons, List.sum_cons, BitVec.toNat_ofNat] at h0 ⊢
  omega

/-- Settles O57: FLAGS is the byte that holds OWN, FIRST and LAST, and HCHK is computed with OWN as 0. -/
theorem tagSumAndTrainEnds : Obligations.TagSumAndTrainEnds := by
  have hends (t : Tag) (own : Bool) : (numAt (tagBytes t own) 1 1).testBit 1 = decide (t.tidx = 0) ∧
      (numAt (tagBytes t own) 1 1).testBit 2 = decide (t.tidx + 1 = t.tcnt) := by
    obtain ⟨-, -, hfirst, hlast, -, -⟩ := tagFlags_bits t own
    rw [numAt_tagBytes_flags]
    exact ⟨hfirst, hlast⟩
  refine ⟨byteSum_tagBytes_unowned, ?others, ?owned, hends, ?single⟩
  case others =>
    intro t i hi
    rw [tagBytes_eq_cons, tagBytes_eq_cons]
    match i, hi with
    | 0, _ => rfl
    | n + 2, _ => rfl
  case owned =>
    intro t
    rw [numAt_tagBytes_flags, numAt_tagBytes_flags]
    rfl
  case single =>
    intro t own h0 h1
    obtain ⟨hfirst, hlast⟩ := hends t own
    exact ⟨by simp [hfirst, h0], by simp [hlast, h0, h1]⟩

/-! ### The entry (R384, R386 to R389) -/

section
variable {e : Entry}

theorem entryBytes_length (hp : e.payload.length = 48) : (entryBytes e).length = 64 := by
  rw [entryBytes, List.length_append, tagBytes_length, hp]

/-- The fields of an entry, one behind another (Table 10-4). -/
theorem entryBytes_eq_append (e : Entry) : entryBytes e =
    leBytes 1 e.tag.kind ++ (leBytes 1 (tagFlags e.tag + b2n true) ++ (leBytes 1 e.tag.tidx ++ (leBytes 1 e.tag.tcnt ++ (leBytes 1 e.tag.tenant ++
    (leBytes 1 e.tag.channel ++ (leBytes 2 e.tag.seq ++ (leBytes 4 e.tag.corr ++ (leBytes 2 e.tag.stepref ++ (leBytes 1 e.tag.calgen ++
    (leBytes 1 (0xA5 + 256 - byteSum (tagBody e.tag (tagFlags e.tag))) ++ e.payload)))))))))) := by
  simp only [entryBytes, tagBytes, tagBody, List.append_assoc]

theorem numAt_entryBytes_flags : numAt (entryBytes e) 1 1 = tagFlags e.tag + b2n true := by
  have hlt := tagFlags_lt e.tag true
  rw [entryBytes_eq_append, numAt_leBytes_right _ _ _ (by decide), numAt_leBytes]
  omega

theorem numAt_entryBytes_tidx (h : e.tag.tidx < 256) : numAt (entryBytes e) 2 1 = e.tag.tidx := by
  simp [entryBytes_eq_append, numAt_leBytes_right, numAt_leBytes, Nat.mod_eq_of_lt h]

theorem numAt_entryBytes_tcnt (h : e.tag.tcnt < 256) : numAt (entryBytes e) 3 1 = e.tag.tcnt := by
  simp [entryBytes_eq_append, numAt_leBytes_right, numAt_leBytes, Nat.mod_eq_of_lt h]

theorem rawOwn_entryBytes : rawOwn (entryBytes e) = true := by
  obtain ⟨-, hown, -⟩ := tagFlags_bits e.tag true
  rw [rawOwn, numAt_entryBytes_flags, hown]

/-- The tag is the first 16 bytes, and its sum less OWN is 0xA5 (R385). -/
theorem rawChk_entryBytes : rawChk (entryBytes e) = true := by
  have htag : sliceB (entryBytes e) 0 16 = tagBytes e.tag true :=
    sliceB_append_left e.payload (tagBytes_length e.tag true)
  rw [rawChk, htag, byteSum_tagBytes, rawOwn_entryBytes]
  rfl

theorem rawEnds_entryBytes (hi : e.tag.tidx < 256) (hn : e.tag.tcnt < 256) : rawEnds (entryBytes e) = true := by
  obtain ⟨-, -, hfirst, hlast, -⟩ := tagFlags_bits e.tag true
  rw [rawEnds, numAt_entryBytes_flags, numAt_entryBytes_tidx hi, numAt_entryBytes_tcnt hn, hfirst, hlast]
  simp

end

/-- Settles O58: each field stands in bytes of its own, and parseEntry leaves out STALE and TWIN alone. -/
theorem entryReadsBackFromItsBytes : Obligations.EntryReadsBackFromItsBytes := by
  intro e hkind hidx hcnt htenant hchannel hseq hcorr hstepref hcalgen hpay
  refine ⟨?parse, entryBytes_length hpay, rawChk_entryBytes, rawOwn_entryBytes, rawEnds_entryBytes hidx hcnt⟩
  obtain ⟨-, -, -, -, hurgent, hloss⟩ := tagFlags_bits e.tag true
  have payload : sliceB (entryBytes e) 16 48 = e.payload := by
    rw [entryBytes, sliceB_append_right _ _ (tagBytes_length e.tag true).le, tagBytes_length]
    simpa using sliceB_append_left [] hpay
  norm_num at hcorr
  simp only [parseEntry, payload, numAt_entryBytes_flags, hurgent, hloss]
  simp [entryBytes_eq_append, numAt_leBytes_right, numAt_leBytes, Nat.mod_eq_of_lt, hkind, hidx, hcnt, htenant, hchannel, hseq, hcorr, hstepref,
    hcalgen]

end Sys2Proof.Machine
end

section
/-! Datagrams (R404 to R408, R438, R439): which are taken, what they move, and a train that a queue has no room for (R378, R393). -/

namespace Sys2Proof.Machine

open Sys2Proof

theorem State.queue?_onQueue (s : State) (n : Nat) {f : Queue → Queue} (hf : ∀ q, (f q).num = q.num) :
    (s.onQueue n f).queue? n = (s.queue? n).map f :=
  find?_updFirst (fun q => by rw [hf]) s.queues

theorem State.session?_onSession (s : State) (n : Nat) {f : Session → Session} (hf : ∀ x, (f x).num = x.num) :
    (s.onSession n f).session? n = (s.session? n).map f :=
  find?_updFirst (fun x => by rw [hf]) s.sessions

section
variable {s : State} {d : Datagram} {x : Session}

/-! ### An authenticated datagram (R404, R438, R439) -/

theorem State.session?_of_authentic (h : s.authentic d = some x) : s.session? d.session = some x := by
  unfold State.authentic at h
  split at h
  next y hy =>
    split at h
    · rwa [h] at hy
    · cases h
  next => cases h

/-- What an authenticated datagram leaves of its session: the window moved on, the idle time and the reply address set anew. -/
def Session.heard (x : Session) (d : Datagram) (now : Nat) : Session :=
  let high := Nat.max x.rxHigh d.dseq
  { x with rxHigh := high, rxSeen := (d.dseq :: x.rxSeen).filter (fun n => decide (high ≤ n + 127)), lastRx := now,
           port := d.port, addr := d.addr, udp := d.udp }

theorem State.session?_accepted (h : s.authentic d = some x) (hd : d.dseq < 2 ^ 48) :
    (s.accepted d).session? d.session = some (x.heard d s.now) := by
  have hs : s.accepted d = s.onSession d.session (fun y => y.heard d s.now) := if_neg (Nat.not_le.2 hd)
  rw [hs, State.session?_onSession s d.session (f := fun y => y.heard d s.now) (fun _ => rfl), State.session?_of_authentic h]
  rfl

theorem Session.heard_window (x : Session) (d : Datagram) (now : Nat) : ∀ n ∈ (x.heard d now).rxSeen, (x.heard d now).rxHigh ≤ n + 127 :=
  fun _ hn => of_decide_eq_true (List.mem_filter.mp hn).2

/-- The same DSEQ is not taken again: it lies before the window, or is noted in it. -/
theorem Session.heard_not_fresh (x : Session) (d : Datagram) (now : Nat) : (x.heard d now).fresh d.dseq = false := by
  have hhigh : ¬ (x.heard d now).rxHigh < d.dseq := Nat.not_lt.2 (Nat.le_max_right _ _)
  by_cases hw : (x.heard d now).rxHigh ≤ d.dseq + 127
  · have hseen : d.dseq ∈ (x.heard d now).rxSeen := List.mem_filter.mpr ⟨List.mem_cons_self, decide_eq_true hw⟩
    simp [Session.fresh, hhigh, hseen]
  · simp [Session.fresh, hhigh, hw]

/-! ### What each datagram leaves (R406, R407) -/

/-- The first two tests of a datagram: its port is up, and BOOT is over (R89, R404). -/
theorem portUp_next {a b c : Out} {p : Nat} (hp : s.portUp p = true) (hm : s.mode.mode ≠ .boot) :
    (if !s.portUp p then a else if s.mode.mode = .boot then b else c) = c :=
  (if_neg (by simp [hp])).trans (if_neg hm)

theorem portUp_boot {a b c : Out} {p : Nat} (hp : s.portUp p = true) (hm : s.mode.mode = .boot) :
    (if !s.portUp p then a else if s.mode.mode = .boot then b else c) = b :=
  (if_neg (by simp [hp])).trans (if_pos hm)

theorem exec_tenantDatagram_boot (l : List RawEntry) (hp : s.portUp d.port = true) (hm : s.mode.mode = .boot) :
    exec (.tenantDatagram d l) s = .next (s.bump 0x320018 0 32) :=
  portUp_boot hp hm

theorem exec_tenantCredit_boot (hp : s.portUp d.port = true) (hm : s.mode.mode = .boot) :
    exec (.tenantCredit d) s = .next (s.bump 0x320018 0 32) :=
  portUp_boot hp hm

theorem exec_tenantDatagram_unauthentic (l : List RawEntry) (hp : s.portUp d.port = true) (hm : s.mode.mode ≠ .boot)
    (hx : s.authentic d = none) : exec (.tenantDatagram d l) s = .next (s.bump 0x320014 0 16) := by
  refine (portUp_next hp hm).trans ?_
  simp only [hx]
  rfl

theorem exec_tenantCredit_authentic (hp : s.portUp d.port = true) (hm : s.mode.mode ≠ .boot) (hx : s.authentic d = some x) :
    exec (.tenantCredit d) s =
      (let t := (s.accepted d).bump 0x32000C 0 32
      .next (if d.cvalid then t.takeCredit x.tenant d else t)) := by
  refine (portUp_next hp hm).trans ?_
  simp only [hx]

/-- The state in which an authenticated datagram of entries meets its queue: accepted, with its credit taken. -/
def State.admitted (s : State) (d : Datagram) (x : Session) : State := if d.cvalid then (s.accepted d).takeCredit x.tenant d else s.accepted d

/-- Entries for a queue of the session: in sequence they are taken train by train, out of sequence they are answered with the credit. -/
theorem exec_tenantDatagram_entries {l : List RawEntry} {q : Queue} {b : RawEntry} (hp : s.portUp d.port = true) (hm : s.mode.mode ≠ .boot)
    (hx : s.authentic d = some x) (hb : l.head? = some b) (hl : l.length ≤ 15) (hq : (s.admitted d x).cmdQueueOf x d.queue = some q) :
    exec (.tenantDatagram d l) s = .next (if (parseEntry b).tag.seq = q.cack
      then State.takeTrains4 15 d.queue x.tenant l ((s.admitted d x).bump 0x32000C 0 32)
      else ((s.admitted d x).bump 0x320014 16 16).sendCredit d.queue) := by
  have hne : l ≠ [] := by
    rintro rfl
    cases hb
  refine (portUp_next hp hm).trans ?_
  unfold State.admitted at hq ⊢
  simp only [hx, hq, hb]
  refine (if_neg (by simp [hne, hl])).trans ?_
  by_cases hs : (parseEntry b).tag.seq = q.cack
  · simp [hs]
  · simp [hs, State.dropOrder]

/-! ### A train without room (R378, R393, R406) -/

theorem State.queue?_of_cmdQueueOf {q : Queue} {n : Nat} (h : s.cmdQueueOf x n = some q) : s.queue? n = some q := by
  unfold State.cmdQueueOf at h
  split at h
  next y hy =>
    split at h
    · rwa [h] at hy
    · cases h
  next => cases h

/-- A refusal of a train whose completion ring has room: its completion, and its SEQ values consumed (R393, R406). -/
theorem State.refuseTrain_roomy {n : Nat} {q r : Queue} (e : Entry) (k : Nat) (st : Status) (hq : s.queue? n = some q)
    (hr : q.pair.bind s.queue? = some r) (hf : 1 ≤ r.free) :
    s.refuseTrain n e k st = some ((s.onQueue r.num (fun c => c.put [s.refusal e st])).onQueue n
      (fun y => { y with cack := (y.cack + k) % 65536, nseq := (y.nseq + k) % 65536, creditDue := true })) := by
  simp only [State.refuseTrain, hq, Option.bind_some, hr, if_pos hf]

theorem State.takeTrains4_nil (k n tenant : Nat) (s : State) : State.takeTrains4 k n tenant [] s = s := by
  cases k <;> rfl

/-- A train that alone fills its datagram, sound but longer than the free slots: QUOTA, and no entry of it is placed. -/
theorem State.takeTrains4_quota {n tenant k : Nat} {q r : Queue} {b : RawEntry} {l : List RawEntry} (hq : s.queue? n = some q)
    (hseq : (parseEntry b).tag.seq = q.cack) (hlen : (b :: l).length ≤ 15) (hcnt : (parseEntry b).tag.tcnt = (b :: l).length)
    (hok : trainCheck (b :: l) tenant = .ok) (hfree : q.free < (b :: l).length) (hr : q.pair.bind s.queue? = some r) (hf : 1 ≤ r.free) :
    State.takeTrains4 (k + 1) n tenant (b :: l) s =
      (s.onQueue r.num (fun c => c.put [s.refusal (parseEntry b) .quota])).onQueue n
        (fun y => { y with cack := (y.cack + (b :: l).length) % 65536, nseq := (y.nseq + (b :: l).length) % 65536, creditDue := true }) := by
  have hbounds : ¬ ((parseEntry b).tag.tcnt = 0 ∨ 15 < (parseEntry b).tag.tcnt ∨ l.length + 1 < (parseEntry b).tag.tcnt) := by
    rw [hcnt]
    simp only [List.length_cons] at hlen ⊢
    omega
  rw [State.takeTrains4]
  simp only [hq]
  rw [if_neg (not_not_intro hseq), if_neg hbounds]
  simp only [hcnt, List.take_length, List.drop_length, hok, hfree, and_self, if_true, State.refuseTrain_roomy _ _ _ hq hr hf,
    State.takeTrains4_nil, reduceCtorEq, if_false]

end

/-- Settles O59: the one train of the datagram is sound and in sequence, and the count of the datagram changes no queue. -/
theorem fullQueueRefusesTheTrainWhole : Obligations.FullQueueRefusesTheTrainWhole := by
  intro s d b l x q r hp hm hx hc hlen hq hseq hcnt hok hfree hr _ hf
  have hadmitted : s.admitted d x = s.accepted d := if_neg (by simp [hc])
  have hq' : ((s.accepted d).bump 0x32000C 0 32).queue? d.queue = some q := State.queue?_of_cmdQueueOf (s := s.accepted d) hq
  rw [exec_tenantDatagram_entries hp hm hx rfl hlen (by rw [hadmitted]; exact hq), if_pos hseq, hadmitted,
    State.takeTrains4_quota hq' hseq hlen hcnt hok hfree hr hf]

/-- Settles O28: each datagram under its conditions; the session that has heard one by its new window. -/
theorem datagramsComplete : Obligations.DatagramsComplete := by
  refine ⟨?entries, ?check, ?boot, ?credit, ?window⟩
  case entries => exact fun s d l x q b hp hm hx hb hl hq => exec_tenantDatagram_entries hp hm hx hb hl hq
  case check => exact fun s d l hp hm hx => exec_tenantDatagram_unauthentic l hp hm hx
  case boot => exact fun s d l hp hm => ⟨exec_tenantDatagram_boot l hp hm, exec_tenantCredit_boot hp hm⟩
  case credit => exact fun s d x hp hm hx => exec_tenantCredit_authentic hp hm hx
  case window =>
    exact fun s d x hx hd => ⟨x.heard d s.now, State.session?_accepted hx hd, rfl, rfl, rfl, rfl, rfl, x.heard_window d s.now,
      x.heard_not_fresh d s.now⟩

end Sys2Proof.Machine
end

section
/-! The queue commands: what each answers, and the queue that a creation adds (R376, R382, R383, R447, R472). -/

namespace Sys2Proof.Machine

open Sys2Proof

/-! ### Q_CREATE (R376, R447) -/

theorem getD_find?_num (l : List Queue) (q : Queue) : ((l.find? (fun x => x.num == q.num)).getD q).num = q.num := by
  cases h : l.find? (fun x => x.num == q.num) with
  | none => rfl
  | some y => simpa using List.find?_some h

/-- Rings may move, but no queue changes its number. -/
theorem State.repack_nums (s : State) : s.repack.queues.map Queue.num = s.queues.map Queue.num := by
  simp only [State.repack, List.map_map]
  exact List.map_congr_left fun q _ => getD_find?_num _ q

/-- A base for a new ring leaves the numbers of the queues and the tenants as they are. -/
theorem State.newBase_nums (s : State) (size : Nat) :
    (s.newBase size).2.queues.map Queue.num = s.queues.map Queue.num ∧ (s.newBase size).2.tenants = s.tenants := by
  unfold State.newBase
  split
  · exact ⟨s.repack_nums, rfl⟩
  · exact ⟨rfl, rfl⟩

/-- A creation within the quotas, while a number is free, adds one empty queue behind the others. -/
theorem State.doQCreate_creates {s : State} {h : CmdHead} {k : QKind} {kind size hold pair : Nat} (dflt : Bool) {x : Tenant}
    (hk : qkind? kind = some k) (hx : s.tenant? h.tenant = some x) (hq : (s.queuesOf h.tenant).length < x.qQueues)
    (hkib : s.kibOf h.tenant + (2 ^ size + (hold + 15) / 16) ≤ x.qRingKib) (hfree : s.freeQueues ≠ []) :
    ∃ (n b : Nat) (t : State),
      s.doQCreate h kind size hold dflt pair = (t, { results := [res32 [fN 16 2 n]] }) ∧
      (∃ r, t.queues = r ++ [{ num := n, kind := k, size, tenant := h.tenant, holdCap := hold, base := b, bind := h.session,
                               pair := if kind = 0 then some pair else none, creditDue := kind == 0 }] ∧
        r.map Queue.num = s.queues.map Queue.num) ∧
      t.tenants = (if dflt then updFirst (fun y => y.num == h.tenant) (fun y => y.setDefault k (some n)) s.tenants else s.tenants) := by
  have hquota : ¬ (x.qQueues ≤ (s.queuesOf h.tenant).length ∨ x.qRingKib < s.kibOf h.tenant + (ringKib size + (hold + 15) / 16)) := by
    unfold ringKib
    omega
  obtain ⟨hnums, htenants⟩ := State.newBase_nums (s.pick s.freeQueues).2 size
  unfold State.doQCreate
  simp only [hx, hk, if_neg hquota, List.isEmpty_iff, if_neg hfree]
  cases dflt with
  | false => exact ⟨_, _, _, rfl, ⟨_, rfl, hnums⟩, htenants⟩
  | true => exact ⟨_, _, _, rfl, ⟨_, rfl, hnums⟩, congrArg (updFirst _ _) htenants⟩

/-! ### Q_DELETE and Q_BIND (R382, R383) -/

/-- A queue that is neither the sender's own nor paired goes. -/
theorem State.doQDelete_drops {s : State} {h : CmdHead} {n : Nat} (hn : n ≠ h.queue) (hp : (s.queue? h.queue).bind Queue.pair ≠ some n)
    (hc : s.queues.any (fun q => q.kind == .command && q.pair == some n) = false) : s.doQDelete h n = (s.dropQueue n, {}) :=
  if_neg (by simp [hn, hp, hc])

/-- Binding answers the CACK from which delivery resumes. -/
theorem State.doQBind_binds {s : State} (h : CmdHead) {n : Nat} {x : Queue} (hx : s.queue? n = some x) :
    s.doQBind h n = (s.onQueue n (fun y => { y with bind := h.session, sent := y.cack, ackT := s.now }),
      { results := [res32 [fN 16 2 x.cack]] }) := by
  simp only [State.doQBind, State.queue?_onQueue s n (f := fun y => { y with bind := h.session, sent := y.cack, ackT := s.now }) (fun _ => rfl),
    hx, Option.map_some]
  rfl

/-- Settles O2: each command answers OK on the state that it takes. -/
theorem queueCommandsComplete : Obligations.QueueCommandsComplete := by
  refine ⟨?create, ?delete, ?bind, ?route⟩
  case create =>
    intro s h k kind size hold dflt pair x ha hk hx hq hkib hfree
    obtain ⟨n, b, t, hdo, hqueues, htenants⟩ := State.doQCreate_creates (h := s.headOf h) (pair := pair) dflt hk hx hq hkib hfree
    exact ⟨n, b, t, exec_answered rfl ha hdo, hqueues, htenants⟩
  case delete => exact fun s h q ha hn hp hc => exec_answered rfl ha (State.doQDelete_drops (h := s.headOf h) hn hp hc)
  case bind => exact fun s h q x ha hx => exec_answered rfl ha (State.doQBind_binds (s.headOf h) hx)
  case route => exact fun s h q mask ha => exec_answered rfl ha rfl

end Sys2Proof.Machine
end

section
/-! The DMA engine (R418 to R421): what starts, stops and ends a channel's work, and that a bus error halts every channel at work. -/

namespace Sys2Proof.Machine

open Sys2Proof

/-! ### What leaves the DMA channels as they are -/

@[simp] theorem State.setFld_dma (s : State) (a lo len v : Nat) : (s.setFld a lo len v).dma = s.dma := rfl
@[simp] theorem State.setBit_dma (s : State) (a i : Nat) : (s.setBit a i).dma = s.dma := rfl
@[simp] theorem State.bump_dma (s : State) (a lo len : Nat) : (s.bump a lo len).dma = s.dma := rfl
@[simp] theorem State.fault_dma (s : State) (uu cc : Nat) : (s.fault uu cc).dma = s.dma := rfl

@[simp] theorem State.evrAccept_dma (s : State) (i : Nat) (level : Bool) : (s.evrAccept i level).dma = s.dma := by
  simp only [State.evrAccept]
  split
  · rfl
  · split
    · split <;> rfl
    · rfl

@[simp] theorem State.evrPulse_dma (s : State) (i : Nat) : (s.evrPulse i).dma = s.dma := by
  unfold State.evrPulse
  split
  · rw [State.evrAccept_dma, State.evrAccept_dma]
  · rfl

@[simp] theorem State.cruPoke_dma (s : State) (a : Nat) (v : Byte) : (s.cruPoke a v).dma = s.dma := by
  unfold State.cruPoke
  split
  · split <;> rfl
  · split <;> rfl

@[simp] theorem State.cruWrite_dma (s : State) (a : Nat) (bs : List Byte) : (s.cruWrite a bs).dma = s.dma := by
  unfold State.cruWrite
  induction List.range bs.length generalizing s with
  | nil => rfl
  | cons i l ih => rw [List.foldl_cons, ih, State.cruPoke_dma]

@[simp] theorem State.dmaStat_dma (s : State) (o moved code : Nat) : (s.dmaStat o moved code).dma = s.dma := s.cruWrite_dma _ _

theorem State.onDma_same (s : State) (c : Fin 32) (f : DmaChan → DmaChan) : (s.onDma c f).dma[c] = f s.dma[c] := by
  simp [State.onDma]

theorem State.onDma_ne (s : State) {c k : Fin 32} (f : DmaChan → DmaChan) (h : k ≠ c) : (s.onDma c f).dma[k] = s.dma[k] := by
  have hv : c.val ≠ k.val := fun hv => h (Fin.ext hv.symm)
  simp [State.onDma, hv]

section
variable {s : State} {c : Fin 32}

/-! ### START, POKE and a finished descriptor (R418, R419) -/

theorem State.dmaStart_fetches (hb : s.bit 0x300000 0 = false) (hs : s.dma[c].state = .idle ∨ s.dma[c].state = .stopped) :
    s.dmaStart c = s.dmaFetch c (s.dmaHead c) := by
  have hrun : ¬ (s.dmaBuserr = true ∨ s.dma[c].state = .running ∨ s.dma[c].state = .stopping) := by
    rw [State.dmaBuserr, hb]
    rcases hs with hs | hs <;> rw [hs] <;> decide
  have hhalt : ¬ s.dma[c].state = .halted := by
    rcases hs with hs | hs <;> rw [hs] <;> decide
  exact (if_neg hrun).trans (if_neg hhalt)

theorem State.dmaPoke_fetches (hb : s.bit 0x300000 0 = false) (hs : s.dma[c].state = .idle) : s.dmaPoke c = s.dmaFetch c s.dma[c].cur :=
  if_neg (by rw [State.dmaBuserr, hb, hs]; decide)

theorem exec_dmaDescriptorDone_moving (hs : s.dma[c].state = .running ∨ s.dma[c].state = .stopping) :
    exec (.dmaDescriptorDone c) s =
      (let o := s.dma[c].cur
      let w := s.cruNum o 4
      let nx := s.cruNum (o + 4) 4 % 65536 / 32 * 32
      let a := ((s.dmaMove o).dmaStat o (bitsOf w 0 24) 0).cruWrite o (leBytes 4 (w % 2 ^ 31))
      let b := a.onDma c (fun d => { d with code := 0, done := (d.done + 1) % 65536 })
      let e := if w.testBit 25 then b.evrPulse (0x140 + c.val) else b
      .next (if s.dma[c].state = .stopping then e.onDma c (fun d => { d with state := .stopped, cur := if w.testBit 24 then o else nx })
        else if w.testBit 24 then e.onDma c (fun d => { d with state := .idle }) else e.dmaFetch c nx)) := by
  have hmoves : ¬ (s.dma[c].state ≠ .running ∧ s.dma[c].state ≠ .stopping) := fun h => hs.elim h.1 h.2
  refine (if_neg hmoves).trans ?_
  simp only [apply_ite Host.Outcome.next]

end

/-! ### A bus error (R420) -/

/-- A bus error on channel c reaches channel k. -/
def State.dmaHalt (s : State) (c : Fin 32) (moved : Nat) (k : Fin 32) : State :=
  let d := s.dma[k]
  if d.state = .running ∨ d.state = .stopping then
    let (n, s) := s.draw
    let len := bitsOf (s.cruNum d.cur 4) 0 24
    let m := if k = c then moved else n % Nat.max 1 len
    let code := if k = c then 1 else 2
    (s.dmaStat d.cur m code).onDma k (fun d => { d with state := .halted, code })
  else s

/-- A channel as a bus error leaves it; `own` says that the error is its own. -/
def DmaChan.halt (d : DmaChan) (own : Bool) : DmaChan :=
  if d.state = .running ∨ d.state = .stopping then { d with state := .halted, code := if own then 1 else 2 } else d

theorem DmaChan.halt_halt (d : DmaChan) (own : Bool) : (d.halt own).halt own = d.halt own := by
  unfold DmaChan.halt
  by_cases h : d.state = .running ∨ d.state = .stopping
  · simp [h]
  · simp [h]

theorem State.dmaHalt_same (s : State) (c : Fin 32) (moved : Nat) (k : Fin 32) : (s.dmaHalt c moved k).dma[k] = s.dma[k].halt (k == c) := by
  unfold State.dmaHalt DmaChan.halt
  by_cases h : s.dma[k].state = .running ∨ s.dma[k].state = .stopping
  · simp only [if_pos h, State.onDma_same, State.dmaStat_dma, State.draw, beq_iff_eq]
  · simp only [if_neg h]

theorem State.dmaHalt_ne (s : State) (c : Fin 32) (moved : Nat) {k j : Fin 32} (h : j ≠ k) : (s.dmaHalt c moved k).dma[j] = s.dma[j] := by
  unfold State.dmaHalt
  by_cases hw : s.dma[k].state = .running ∨ s.dma[k].state = .stopping
  · simp only [if_pos hw, State.onDma_ne _ _ h, State.dmaStat_dma, State.draw]
  · simp only [if_neg hw]

/-- Each of the channels that the error reaches halts where it is at work; the others stay as they are. -/
theorem State.dmaHalt_foldl (c : Fin 32) (moved : Nat) (l : List (Fin 32)) (s : State) (k : Fin 32) :
    (l.foldl (fun s k => s.dmaHalt c moved k) s).dma[k] = if k ∈ l then s.dma[k].halt (k == c) else s.dma[k] := by
  induction l generalizing s with
  | nil => rfl
  | cons j l ih =>
    rw [List.foldl_cons, ih]
    by_cases hj : k = j
    · subst hj
      simp only [State.dmaHalt_same, DmaChan.halt_halt, List.mem_cons, true_or, if_true, ite_self]
    · simp only [State.dmaHalt_ne _ _ _ hj, List.mem_cons, hj, false_or]

/-- A bus error halts every channel that is at work, and no register of the error changes a channel. -/
theorem exec_dmaBusError_halts (s : State) (c : Fin 32) (addr moved : Nat) :
    ∃ t, exec (.dmaBusError c addr moved) s = .next t ∧ ∀ k : Fin 32, t.dma[k] = s.dma[k].halt (k == c) := by
  refine ⟨_, rfl, fun k => ?_⟩
  simp only [State.fault_dma, State.evrPulse_dma, State.setReg_dma, State.bump_dma, State.setFld_dma, State.setBit_dma]
  exact (State.dmaHalt_foldl c moved (List.finRange 32) s k).trans (if_pos (List.mem_finRange k))

/-- Settles O34: each row under its conditions; a bus error by what it does to each channel. -/
theorem dmaCompletes : Obligations.DmaCompletes := by
  refine ⟨?start, ?stop, ?poke, ?done, ?error, fun s => rfl, ?unowned, ?reserved⟩
  case start => exact fun s c hb hs => congrArg Host.Outcome.next (State.dmaStart_fetches hb hs)
  case stop =>
    refine fun s c => ⟨s.dmaStop c, rfl, rfl, ?_, fun k hk => s.onDma_ne _ hk⟩
    rw [State.dmaStop, State.onDma_same]
  case poke => exact fun s c hb hs => congrArg Host.Outcome.next (State.dmaPoke_fetches hb hs)
  case done => exact fun s c hs => exec_dmaDescriptorDone_moving hs
  case error =>
    intro s c addr moved
    obtain ⟨t, ht, hdma⟩ := exec_dmaBusError_halts s c addr moved
    refine ⟨t, ht, fun k hk => ?_, fun k hr hst => ?_⟩
    · rw [hdma, DmaChan.halt, if_pos hk]
      simp
    · rw [hdma, DmaChan.halt, if_neg (not_or.mpr ⟨hr, hst⟩)]
  case unowned => exact fun s c o hw => if_pos (by simp [hw])
  case reserved => exact fun s c o hw hr => (if_neg (by simp [hw])).trans (if_pos hr)

end Sys2Proof.Machine
end

section
/-! Faults (R423, R642, R662, R673 to R678): what the collector takes, what a lost clock or core leaves, and the recovery of a fence. -/

namespace Sys2Proof.Machine

open Sys2Proof

theorem chan?_val (c : ChanNo) : chan? c.val = some c := dif_pos c.isLt

section
variable {s : State}

/-! ### The collector's input (R423, R673, R677) -/

/-- The collector takes the next fault at its input, where there is one. -/
def State.takeNext (s : State) : State :=
  match nextFault s.col.fifo with
  | some f => ({ s with col := { s.col with fifo := s.col.fifo.erase f } }).takeFault f
  | none => s

theorem exec_faultTaken_none (s : State) : exec (.faultTaken none) s = .next s.takeNext := by
  change execFaultTaken none s = _
  simp only [execFaultTaken, State.takeNext]
  cases nextFault s.col.fifo <;> rfl

/-- A fault from a unit without a command of its own joins the input before the next is taken. -/
theorem exec_faultTaken_external {code arg : Nat} (hc : extCode code = true) (hm : modeUp s.mode.mode = true) :
    exec (.faultTaken (some (code, arg))) s = .next ((s.extActs code arg).fault (code / 256) (code % 256)).takeNext := by
  rw [← exec_faultTaken_none]
  change execFaultTaken (some (code, arg)) s = execFaultTaken none _
  simp only [execFaultTaken, hc, hm, Bool.and_self, if_true]

/-! ### Lockstep, clocks and cores (R642, R662, R673) -/

/-- The test that comes first in the rows of this group: the part is up. -/
theorem whileUp_next {a b : Out} (hm : modeUp s.mode.mode = true) : (if !modeUp s.mode.mode then a else b) = b := if_neg (by simp [hm])

theorem exec_lockstep_up (hm : modeUp s.mode.mode = true) : exec .lockstep s =
    (let t := (s.forChans allChans (fun c s => s.hardStop c)).wdnRestart
    .next (if t.mode.mode = .lehr then (t.keepFault 0x0E01).lehrAbort else t.fault 0x0E 0x01)) :=
  whileUp_next hm

theorem exec_refclkLost_up (hm : modeUp s.mode.mode = true) : exec .refclkLost s =
    (let t := (s.forChans allChans (fun c s => s.hardStop c)).clockStop
    .next (if t.mode.mode = .lehr then (t.keepFault 0x0003).lehrAbort else t.fault 0x00 0x03)) :=
  whileUp_next hm

theorem exec_wdnOsc_up (hm : modeUp s.mode.mode = true) : exec .wdnOsc s =
    (let t := s.forChans allChans (fun c s => s.hardStop c)
    .next (((if t.bit 0x020080 1 then t else ((t.setBit 0x020080 1).setBit 0x02008C 2).fault 0x0D 0x07).fault 0x0E 0x04).wdgExpire 4)) :=
  whileUp_next hm

theorem exec_coreException_up (x : CoreTrap) (hm : modeUp s.mode.mode = true) : exec (.coreException x) s =
    (let t := s.abortClaimed.faultD 0x0D 0x01 (leBytes 1 x.core.val)
    .next (if x.inHandler then t.stallCore x.core.val else t)) :=
  whileUp_next hm

/-! ### The recovery of a fence (R678, Table 18-9) -/

variable {u : Nat} {f : Fence}

theorem exec_quietPeriodEnd_due {t : Nat} (hf : s.col.fences.find? (fun f => f.unit == u) = some f) (hq : f.quietT = some t)
    (hr : f.recovers = true) (hn : f.recov = false) (ht : t + s.fld 0x04000C 0 10 * 1000000000 ≤ s.now) :
    exec (.quietPeriodEnd u) s =
      (let r := s.onFence u (fun f => { f with recov := true, quietT := none })
      .next (match gather? (u - 0x10) with | some g => if 0x10 ≤ u then (r.resetGather g).settle else r | none => r)) := by
  change execQuietPeriodEnd u s = _
  simp only [execQuietPeriodEnd, hf, hq]
  refine (if_pos ⟨hr, by simp [hn], ht⟩).trans ?_
  cases gather? (u - 0x10) with
  | none => rfl
  | some g => exact (apply_ite Host.Outcome.next _ _ _).symm

/-- The end of a recovery that runs: of a Gather, once its calibration has ended too. -/
structure State.Recovers (s : State) (u : Nat) (f : Fence) : Prop where
  found : s.col.fences.find? (fun f => f.unit == u) = some f
  runs : f.recov = true
  calibrated : u < 0x10 ∨ 0x18 ≤ u ∨ f.probation = true

theorem State.Recovers.ends (h : s.Recovers u f) : ¬ (!f.recov ∨ (0x10 ≤ u ∧ u < 0x18 ∧ !f.probation)) := by
  have := h.calibrated
  simp only [h.runs, Bool.not_true, Bool.false_eq_true, false_or, Bool.not_eq_true']
  rintro ⟨hl, hu, hp⟩
  simp [hp] at this
  omega

theorem exec_recoveryEnd_fails (h : s.Recovers u f) : exec (.recoveryEnd u false) s =
    .next (s.onFence u (fun f => { f with recov := false, probation := false, failed := true, quietT := none })).settle := by
  change execRecoveryEnd u false s = _
  simp only [execRecoveryEnd, h.found]
  rw [if_neg h.ends]
  rfl

/-- What a recovered unit does once its fence has lifted: a channel stops, the charger starts again. -/
def State.recovered (s : State) (u : Nat) (f : Fence) : State :=
  let s := s.liftFence u
  let s := match (if 0x40 ≤ u ∧ u < 0x80 then chan? (u - 0x40) else none) with
    | some c => s.recoverChan c f.cc
    | none => s
  if u = 3 then (if s.board.pwr.chg == .fault then s.chgTo .off 0 else s).chgStart else s

theorem exec_recoveryEnd_passes (h : s.Recovers u f) (hp : u ≠ 3 ∨ (s.board.pwr.present = true ∧ s.board.pwr.ntcBad = false)) :
    exec (.recoveryEnd u true) s = .next (s.recovered u f).settle := by
  have hpass : (true && (u != 3 || (s.board.pwr.present && !s.board.pwr.ntcBad))) = true := by
    rcases hp with hp | ⟨hpres, hntc⟩
    · simp [hp]
    · simp [hpres, hntc]
  change execRecoveryEnd u true s = _
  simp only [execRecoveryEnd, h.found]
  rw [if_neg h.ends, if_pos hpass]
  rfl

theorem State.recovered_lifts (s : State) (f : Fence) (h3 : u ≠ 3) (hc : ¬ (0x40 ≤ u ∧ u < 0x80)) : s.recovered u f = s.liftFence u := by
  simp only [State.recovered, if_neg hc, if_neg h3]

theorem State.recovered_chan (s : State) (f : Fence) (c : ChanNo) :
    s.recovered (uChan c) f = (s.liftFence (uChan c)).recoverChan c f.cc := by
  have hlo : 0x40 ≤ uChan c := Nat.le_add_right _ _
  have hhi : uChan c < 0x80 := Nat.add_lt_add_left c.isLt 0x40
  have h3 : uChan c ≠ 3 := by omega
  have hc : chan? (uChan c - 0x40) = some c := by rw [uChan, Nat.add_sub_cancel_left, chan?_val]
  simp only [State.recovered, if_pos (And.intro hlo hhi), hc, if_neg h3]

theorem State.recovered_charger (s : State) (f : Fence) : s.recovered 3 f =
    (let t := s.liftFence 3
    (if t.board.pwr.chg = .fault then t.chgTo .off 0 else t).chgStart) := by
  simp [State.recovered]

end

/-- Settles O35: each row under its conditions; the end of a recovery by the unit that it frees. -/
theorem faultsComplete : Obligations.FaultsComplete := by
  refine ⟨?taken, ?external, ?clocks, ?quiet, ?fails, ?lifts, ?chan, ?charger, ?core⟩
  case taken =>
    intro s f hf
    rw [exec_faultTaken_none, State.takeNext, hf]
  case external => exact fun s code arg hc hm => exec_faultTaken_external hc hm
  case clocks => exact fun s hm => ⟨exec_lockstep_up hm, exec_refclkLost_up hm, exec_wdnOsc_up hm⟩
  case quiet => exact fun s f u t hf hq hr hn ht => exec_quietPeriodEnd_due hf hq hr hn ht
  case fails => exact fun s f u hf hr hc => exec_recoveryEnd_fails ⟨hf, hr, hc⟩
  case lifts =>
    intro s f u hf hr hg h3 hc
    rw [exec_recoveryEnd_passes ⟨hf, hr, hg⟩ (.inl h3), s.recovered_lifts f h3 hc]
  case chan =>
    intro s f c hf hr
    have hlo : 0x40 ≤ uChan c := Nat.le_add_right _ _
    rw [exec_recoveryEnd_passes ⟨hf, hr, .inr (.inl (by omega))⟩ (.inl (by omega)), s.recovered_chan f c]
  case charger =>
    intro s f hf hr hpres hntc
    rw [exec_recoveryEnd_passes ⟨hf, hr, .inl (by decide)⟩ (.inr ⟨hpres, hntc⟩), s.recovered_charger f]
  case core => exact fun s k hm => ⟨exec_coreException_up ⟨k, false⟩ hm, exec_coreException_up ⟨k, true⟩ hm⟩

end Sys2Proof.Machine
end

section
/-! Token buckets (R455): what a bucket holds at a time, and what taking a token leaves. -/

namespace Sys2Proof.Machine

open Sys2Proof

/-! ### The level of a bucket -/

/-- A bucket holds up to one second of its refill, and 16 tokens at least. -/
theorem bucketCap_eq_max (cls ev : Nat) : bucketCap cls ev = Nat.max (16 * tokenUnit) (bucketRate cls ev * 1000000000) := by
  unfold bucketCap bucketRate tokenUnit
  rw [Nat.mul_comm ev 2]
  exact Nat.max_comm _ _

theorem minTokens_le_bucketCap (cls ev : Nat) : 16 * tokenUnit ≤ bucketCap cls ev := by
  rw [bucketCap_eq_max]
  exact Nat.le_max_left _ _

theorem Bucket.levelAt_le_cap (b : Bucket) (cls ev now : Nat) : b.levelAt cls ev now ≤ bucketCap cls ev := Nat.min_le_left _ _

theorem Bucket.levelAt_mono (b : Bucket) (cls ev : Nat) : Monotone (b.levelAt cls ev) := fun _ _ h =>
  min_le_min_left _ (Nat.add_le_add_left (Nat.mul_le_mul_left _ (Nat.sub_le_sub_right h _)) _)

theorem bucketRate_pos {ev : Nat} (cls : Nat) (h : 0 < ev) : 0 < bucketRate cls ev := by
  unfold bucketRate
  split
  · exact Nat.mul_pos Nat.two_pos h
  · exact h

/-- One second of refill fills a cap of one second; 16 tokens' worth of ns fills a cap of 16 tokens, since the rate is at least 1 per ns. -/
theorem Bucket.levelAt_full (b : Bucket) {cls ev n : Nat} (hev : 0 < ev) (hn : b.since + 16 * tokenUnit + 1000000000 ≤ n) :
    b.levelAt cls ev n = bucketCap cls ev := by
  have hspan : 16 * tokenUnit + 1000000000 ≤ n - b.since := by omega
  have hcap : bucketCap cls ev ≤ bucketRate cls ev * (n - b.since) := by
    rw [bucketCap_eq_max]
    refine max_le ?_ (Nat.mul_le_mul_left _ (Nat.le_of_add_left_le hspan))
    exact (Nat.le_of_add_right_le hspan).trans (Nat.le_mul_of_pos_left _ (bucketRate_pos cls hev))
  exact Nat.min_eq_left (hcap.trans (Nat.le_add_left _ _))

/-! ### Taking a token -/

/-- The bucket of the class holds one token less from now. -/
theorem Tenant.bucket_takeToken_same (t : Tenant) (cls now : Nat) : (t.takeToken cls now).bucket cls =
    { level := (t.bucket cls).levelAt cls t.qEvRate now - tokenUnit, since := now } := by
  by_cases h0 : cls = 0
  · simp [Tenant.bucket, Tenant.takeToken, h0]
  · by_cases h1 : cls = 1
    · simp [Tenant.bucket, Tenant.takeToken, h1]
    · simp [Tenant.bucket, Tenant.takeToken, h0, h1]

/-- The buckets of the other classes stay as they are. -/
theorem Tenant.bucket_takeToken_other (t : Tenant) {cls k : Nat} (now : Nat) (hcls : cls < 3) (hk : k < 3) (hne : k ≠ cls) :
    (t.takeToken cls now).bucket k = t.bucket k := by
  obtain rfl | rfl | rfl : cls = 0 ∨ cls = 1 ∨ cls = 2 := by omega
  · simp [Tenant.bucket, Tenant.takeToken, hne]
  · simp [Tenant.bucket, Tenant.takeToken, hne]
  · have h : k = 0 ∨ k = 1 := by omega
    obtain rfl | rfl := h
    all_goals simp [Tenant.bucket, Tenant.takeToken]

/-- At the time at which its level was set, a bucket holds that level. -/
theorem Bucket.levelAt_since {cls ev level now : Nat} (h : level ≤ bucketCap cls ev) :
    Bucket.levelAt { level, since := now } cls ev now = level := by
  simp only [Bucket.levelAt, Nat.sub_self, Nat.mul_zero, Nat.add_zero]
  exact Nat.min_eq_right h

theorem Tenant.levelAt_takeToken {t : Tenant} {cls now : Nat} (h : t.hasToken cls now = true) :
    ((t.takeToken cls now).bucket cls).levelAt cls t.qEvRate now + tokenUnit = (t.bucket cls).levelAt cls t.qEvRate now := by
  rw [Tenant.bucket_takeToken_same, Bucket.levelAt_since ((Nat.sub_le _ _).trans (Bucket.levelAt_le_cap _ _ _ _))]
  exact Nat.sub_add_cancel (of_decide_eq_true h)

/-- Settles O60: the level is the cap or what has flowed in, and a token leaves one bucket alone. -/
theorem tokenBucketsAreBounded : Obligations.TokenBucketsAreBounded := by
  refine ⟨?cap, ?grows, ?fills, ?takes⟩
  case cap => exact fun b cls ev now => ⟨b.levelAt_le_cap cls ev now, minTokens_le_bucketCap cls ev, bucketCap_eq_max cls ev⟩
  case grows => exact fun b cls ev n m h => b.levelAt_mono cls ev h
  case fills => exact fun b cls ev n hev hn => b.levelAt_full hev hn
  case takes => exact fun t cls now hcls ht => ⟨Tenant.levelAt_takeToken ht, fun k hk hne => t.bucket_takeToken_other now hcls hk hne⟩

end Sys2Proof.Machine
end

section
/-! The commands on keys and tenants (Tables 12-3 and 12-4): what each answers where its conditions hold (R426 to R432, R439, R447 to R449, R491). -/

namespace Sys2Proof.Machine

open Sys2Proof

section
variable {s : State} {h : CmdHead} {slot n : Nat} {x : Tenant}

/-! ### Keys (R428 to R432) -/

@[simp] theorem Tenant.setKey_num (y : Tenant) (slot : Nat) (k : Option (List Byte)) : (y.setKey slot k).num = y.num := by
  unfold Tenant.setKey
  split <;> rfl

@[simp] theorem Tenant.setKey_enrolled (y : Tenant) (slot : Nat) (k : Option (List Byte)) : (y.setKey slot k).enrolled = y.enrolled := by
  unfold Tenant.setKey
  split <;> rfl

/-- A secret enters its empty slot. -/
theorem State.doKeyWrite_writes (sec : List Byte) (hx : s.tenant? h.tenant = some x) (hk : x.key slot = none)
    (hn : s.takesNvm 3 = true) (he : (s.copied 3).enrolling h = false) :
    s.doKeyWrite h slot sec = (((s.copied 3).onTenant h.tenant (fun y => y.setKey slot (some sec))).keyDue h.tenant false).ok := by
  simp only [State.doKeyWrite, hx]
  rw [if_neg (by simp [hk]), State.stored_takes _ hn]
  simp [he]

/-- An enrolment's secret voids the code and closes the session that brought it (R429, R430). -/
theorem State.doKeyWrite_enrols (sec : List Byte) (hx : s.tenant? h.tenant = some x) (hk : x.key slot = none)
    (hn : s.takesNvm 3 = true) (he : (s.copied 3).enrolling h = true) (hs : h.session = some n) :
    s.doKeyWrite h slot sec = ((((s.copied 3).onTenant h.tenant (fun y =>
      { (y.setKey slot (some sec)) with code := none, enrolled := y.enrolled || y.num == 0 })).keyDue h.tenant false).closeSession n).ok := by
  simp only [State.doKeyWrite, hx]
  rw [if_neg (by simp [hk]), State.stored_takes _ hn]
  simp [he, hs]

/-- A slot is cleared that is neither the session's own nor the last that holds a secret (R432, Table 12-3). -/
theorem State.doKeyClear_clears (hx : s.tenant? h.tenant = some x)
    (hown : ∀ y, h.session.bind s.session? = some y → y.keyid ≠ slot) (hlast : x.key slot = none ∨ (x.key (1 - slot)).isSome)
    (hn : s.takesNvm 3 = true) :
    s.doKeyClear h slot = (((s.copied 3).onTenant h.tenant (fun y => y.setKey slot none)).keyDue h.tenant false).ok := by
  simp only [State.doKeyClear, hx]
  rw [if_neg ?free, State.stored_takes _ hn]
  case free =>
    rintro (hkeys | hkept)
    · cases hy : h.session.bind s.session? with
      | none => simp [hy] at hkeys
      | some y => exact hown y hy (by simpa [hy] using hkeys)
    · rcases hlast with hnone | hother
      · simp [hnone] at hkept
      · simp [← Option.not_isSome, hother] at hkept

/-! ### Creation and removal (R426, R427, R447 to R449, R491) -/

/-- A creation within the ring quota takes the lowest free number, a code and a data key (R429, R491). -/
theorem State.doTenantCreate_creates (ttl : Nat)
    (hfree : ((List.range 253).map (fun i => i + 1)).find? (fun t => (s.tenant? t).isNone) = some n) (hq : s.quotaSum + 512 ≤ 11968)
    (hn : s.takesNvm 3 = true) :
    s.doTenantCreate ttl =
      (let u := s.copied 3
      let code := leBytes 8 (Config.freeNat u.draws)
      let key := leBytes 32 (Config.freeNat (u.draws + 1))
      let v := { u with draws := u.draws + 2, tenants := u.tenants ++ [newTenant n code key (u.now + enrTtl ttl) u.now] }.keyDue n true
      (v.onTenant n (fun x => { x with viewBits := v.viewBitsOf n })).okWith [res32 [fN 16 1 n, (24, code)]]) := by
  simp only [State.doTenantCreate, hfree]
  rw [if_neg (Nat.not_lt.mpr hq), State.stored_takes _ hn]
  rfl

theorem State.doSuspend_suspends (hx : (s.tenant? n).isSome) (hn : s.takesNvm 3 = true) :
    s.doSuspend n = (((s.copied 3).onTenant n (fun y => { y with suspended := true })).closeSessions n).ok :=
  (if_neg (ne_true_of_eq_false (Option.isNone_eq_false_iff.mpr hx))).trans (State.stored_takes _ hn)

theorem State.doResumeTenant_resumes (hx : (s.tenant? n).isSome) (hn : s.takesNvm 3 = true) :
    s.doResumeTenant n = ((s.copied 3).onTenant n (fun y => { y with suspended := false })).ok :=
  (if_neg (ne_true_of_eq_false (Option.isNone_eq_false_iff.mpr hx))).trans (State.stored_takes _ hn)

/-- Closing sessions touches no tenant and nothing of the board. -/
theorem State.closeSessions_frame (s : State) (t : Nat) : (s.closeSessions t).tenants = s.tenants ∧ (s.closeSessions t).board = s.board := by
  unfold State.closeSessions
  exact List.foldlRecOn (motive := fun u : State => u.tenants = s.tenants ∧ u.board = s.board) _ _ ⟨rfl, rfl⟩ fun _ hu _ _ => hu

/-- Only the tenants and the ledger say what a tenant's data key is. -/
theorem State.dataKey_congr {u v : State} (ht : u.tenants = v.tenants) (hb : u.board = v.board) (n : Nat) : u.dataKey n = v.dataKey n := by
  simp only [State.dataKey, State.led, State.tenant?, ht, hb]

/-- A tenant without leases whose meters hold nothing goes, and all that is its own with it. -/
theorem State.doRemove_removes (hx : (s.tenant? n).isSome) (hl : s.leases.any (fun l => l.2.f.tenant == n) = false)
    (hm : (s.meterOf n).isZero = true) (hn : s.takesNvm 3 = true) :
    s.doRemove n =
      (let v := (s.copied 3).closeSessions n
      let u := v.onLed (fun l => if l.hasPending n then { l with lastKeys := (n, v.dataKey n) :: l.lastKeys.filter (fun x => x.1 != n) } else l)
      { u with queues := u.queues.filter (fun q => q.tenant != n), tenants := u.tenants.filter (fun y => y.num != n)
               inflight := u.inflight.filter (fun r => r.head.tenant != n), waiting := u.waiting.filter (fun w => w.1.tenant != n)
               met := { u.met with meters := u.met.meters.filter (fun m => m.tenant != n) } }).ok := by
  unfold State.doRemove
  rw [if_neg (ne_true_of_eq_false (Option.isNone_eq_false_iff.mpr hx)), if_neg (by simp [hl, hm]), State.stored_takes _ hn]
  obtain ⟨ht, hb⟩ := (s.copied 3).closeSessions_frame n
  rw [← State.dataKey_congr ht hb n]

/-- A new enrolment voids both secrets, draws a code and a data key and closes the sessions (R429, R491). -/
theorem State.doReenrol_reenrols (ttl : Nat) (hx : (s.tenant? n).isSome) (hn : s.takesNvm 3 = true) :
    s.doReenrol n ttl =
      (let u := s.copied 3
      let code := leBytes 8 (Config.freeNat u.draws)
      let key := leBytes 32 (Config.freeNat (u.draws + 1))
      let v := { u with draws := u.draws + 2 }.onTenant n (fun y =>
        { y with key0 := none, key1 := none, dataKey := key, code := some { code, expiry := u.now + enrTtl ttl } })
      ((v.keyDue n true).closeSessions n).okWith [res32 [(24, code)]]) :=
  (if_neg (ne_true_of_eq_false (Option.isNone_eq_false_iff.mpr hx))).trans (State.stored_takes _ hn)

/-! ### Quotas (R447, R448) -/

/-- The value that a quota write leaves: 0 keeps the old one. -/
def keptQuota (new old : Nat) : Nat := if new = 0 then old else new

/-- Quotas that cover what the tenant uses, with ring quotas that fit together, replace the old ones. -/
theorem State.doQuota_sets {q : QuotaFields} (hx : s.tenant? n = some x) (hn : s.takesNvm 3 = true)
    (hsess : (s.sessions.filter (fun y => y.tenant == n)).length ≤ keptQuota q.sessions x.qSess)
    (hqueues : (s.queuesOf n).length ≤ keptQuota q.queues x.qQueues) (hring : s.kibOf n ≤ keptQuota q.ringkib x.qRingKib)
    (hsum : s.quotaSum - x.qRingKib + keptQuota q.ringkib x.qRingKib ≤ 11968) :
    s.doQuota n q = ((s.copied 3).onTenant n (fun y => { y.rebucket (s.copied 3).now (keptQuota q.evrate y.qEvRate) with
      qSess := keptQuota q.sessions x.qSess, qQueues := keptQuota q.queues x.qQueues, qRingKib := keptQuota q.ringkib x.qRingKib
      qRecRate := keptQuota q.recrate y.qRecRate })).ok := by
  simp only [State.doQuota, hx]
  refine (if_neg ?used).trans ((if_neg (Nat.not_lt.mpr hsum)).trans (State.stored_takes _ hn))
  case used =>
    rintro (h | h | h)
    · exact Nat.not_lt.mpr hsess h
    · exact Nat.not_lt.mpr hqueues h
    · exact Nat.not_lt.mpr hring h

end

/-- Settles O3: each command's effect is known where it is accepted. -/
theorem tenantCommandsComplete : Obligations.TenantCommandsComplete := by
  refine ⟨?write, ?enrol, ?clear, ?create, ?suspend, ?resume, ?remove, ?reenrol, ?quota⟩
  case write =>
    exact fun s h slot sec x ha hx hk hn he => exec_answered rfl ha (State.doKeyWrite_writes (h := s.headOf h) sec hx hk hn he)
  case enrol =>
    exact fun s h slot n sec x ha hx hk hn he hs =>
      exec_answered rfl ha (State.doKeyWrite_enrols (h := s.headOf h) sec hx hk hn he hs)
  case clear =>
    exact fun s h slot x ha hx hown hlast hn => exec_answered rfl ha (State.doKeyClear_clears (h := s.headOf h) hx hown hlast hn)
  case create => exact fun s h ttl n ha hfree hq hn => exec_answered rfl ha (State.doTenantCreate_creates ttl hfree hq hn)
  case suspend => exact fun s h n ha hx hn => exec_answered rfl ha (State.doSuspend_suspends hx hn)
  case resume => exact fun s h n ha hx hn => exec_answered rfl ha (State.doResumeTenant_resumes hx hn)
  case remove => exact fun s h n ha hx hl hm hn => exec_answered rfl ha (State.doRemove_removes hx hl hm hn)
  case reenrol => exact fun s h n ttl ha hx hn => exec_answered rfl ha (State.doReenrol_reenrols ttl hx hn)
  case quota =>
    exact fun s h n q x ha hx hn hsess hqueues hring hsum => exec_answered rfl ha (State.doQuota_sets hx hn hsess hqueues hring hsum)

end Sys2Proof.Machine
end

section
/-! Decimation and storms (R459, R461): the level that a tenant's rates call for, and what the end of a storm leaves. -/

namespace Sys2Proof.Machine

open Sys2Proof

/-! ### The level (R459) -/

section
variable {p n rate : Nat}

/-- The level fits, with every lower one too low; or no level fits, and it is the highest. -/
theorem decimLevel_cases (p n rate : Nat) :
    (decimLevel p n rate < 16 ∧ p + n * 2 ^ decimLevel p n rate ≤ rate * 2 ^ decimLevel p n rate ∧
      ∀ l, l < decimLevel p n rate → rate * 2 ^ l < p + n * 2 ^ l) ∨
    (decimLevel p n rate = 15 ∧ ∀ l, l < 16 → rate * 2 ^ l < p + n * 2 ^ l) := by
  unfold decimLevel
  cases hf : (List.range 16).find? (fun l => decide (p + n * 2 ^ l ≤ rate * 2 ^ l)) with
  | some L =>
    obtain ⟨hfits, hlt, hlower⟩ := List.find?_range_eq_some.mp hf
    refine .inl ⟨List.mem_range.mp hlt, of_decide_eq_true hfits, fun l hl => ?_⟩
    simpa using hlower l hl
  | none => exact .inr ⟨rfl, fun l hl => by simpa using List.find?_range_eq_none.mp hf l hl⟩

theorem decimLevel_le (p n rate : Nat) : decimLevel p n rate ≤ 15 := by
  obtain ⟨hlt, -, -⟩ | ⟨htop, -⟩ := decimLevel_cases p n rate
  · exact Nat.le_of_lt_succ hlt
  · exact htop.le

theorem lt_of_lt_decimLevel {l : Nat} (h : l < decimLevel p n rate) : rate * 2 ^ l < p + n * 2 ^ l := by
  obtain ⟨-, -, hlower⟩ | ⟨htop, hall⟩ := decimLevel_cases p n rate
  · exact hlower l h
  · exact hall l (by omega)

/-- Rates that the highest level brings within RECRATE are within it at the level chosen. -/
theorem decimLevel_fits (hp : p ≤ (rate - n) * 2 ^ 15) (hn : n ≤ rate) :
    p + n * 2 ^ decimLevel p n rate ≤ rate * 2 ^ decimLevel p n rate := by
  obtain ⟨-, hfits, -⟩ | ⟨-, hall⟩ := decimLevel_cases p n rate
  · exact hfits
  · have htop := hall 15 (by decide)
    omega

end

/-! ### The end of a storm (R461) -/

/-- The part-wide storm ends with its summary to the house once no tenant's storm runs. -/
def State.endPartStorm (s : State) : State :=
  if s.tenants.any (fun y => y.storm.isSome) then s
  else match s.storm with
    | some p => ({ s with storm := none } : State).stormEvt p 255 0
    | none => s

theorem exec_stormEnd_calm {s : State} {n : Nat} {x : Tenant} {w : Storm} (hx : s.tenant? n = some x) (hw : x.storm = some w)
    (hc : x.coal.isEmpty) (hd : x.decim = 0) (ht : w.calmT + s.stormquiet * 100000000 ≤ s.now) :
    exec (.stormEnd n) s = .next ((s.onTenant n (fun x => { x with storm := none })).stormEvt w n n).endPartStorm := by
  change execStormEnd n s = _
  simp only [execStormEnd, hx, hw]
  rw [if_pos ⟨hc, hd, ht⟩]
  generalize ((s.onTenant n (fun x => { x with storm := none })).stormEvt w n n) = t
  unfold State.endPartStorm
  split
  · rfl
  · cases t.storm with
    | some p => rfl
    | none => rfl

/-- Settles O32: the level is the first of the sixteen that fits. -/
theorem decimationAndStorms : Obligations.DecimationAndStorms := by
  refine ⟨?update, ?level, ?stormEnd⟩
  case update => exact fun s => rfl
  case level => exact fun p n rate => ⟨decimLevel_le p n rate, fun l hl => lt_of_lt_decimLevel hl, fun hp hn => decimLevel_fits hp hn⟩
  case stormEnd => exact fun s n x w hx hw hc hd ht => exec_stormEnd_calm hx hw hc hd ht

end Sys2Proof.Machine
end

section
/-! Commands that leave the part as it is: those that the checks of R467 refuse, and the reads (R465). -/

namespace Sys2Proof.Machine

open Sys2Proof

/-- Settles O50: the checks come before every effect, and none of them answers with a status of success. -/
theorem refusedCommandsChangeNothing : Obligations.RefusedCommandsChangeNothing := by
  refine ⟨?completionAlone, fun s h o st i hr => State.refusalOf_not_done hr⟩
  intro c s h o st i hc hr
  rw [exec_command hc, State.submit_refused hr]

/-! ### Reads (R465) -/

/-- A command that adds no event and no record has none to carry its CORR. -/
theorem State.byCommand_self (s : State) (corr : Nat) : s.byCommand s corr = s := by
  simp [State.byCommand, State.corrFrom]

theorem State.caused_taken (s : State) (h : CmdHead) : s.caused h (s.taken h) = s.taken h :=
  (s.taken h).byCommand_self h.corr

theorem onChanOf_leaves {s : State} {n : Nat} {f : ChanNo → Done} (hf : ∀ c, (f c).1 = s) : (onChanOf s n f).1 = s := by
  unfold onChanOf
  split
  · exact hf _
  · rfl

theorem State.doLeaseRead_leaves (s : State) (h : CmdHead) : (s.doLeaseRead h).1 = s := by
  by_cases hc : h.channel = 255
  · rw [State.doLeaseRead_all s hc]
    rfl
  · unfold State.doLeaseRead
    rw [if_neg hc]
    cases s.leaseOf h.channel with
    | some x => rfl
    | none => rfl

theorem State.doTenantRead_leaves (s : State) (n : Nat) : (s.doTenantRead n).1 = s := by
  cases hx : s.tenant? n with
  | some x => rw [State.doTenantRead_some hx]; rfl
  | none => rw [State.doTenantRead_none hx]; rfl

/-- Every row that its table marks Read, but for REG, answers on the state that it reads. -/
theorem State.apply_read (s : State) (h : CmdHead) {o : CmdOp} (hrow : o.isRow = true) (ho : o.isRead = true) (hreg : ∀ a n, o ≠ .regRead a n) :
    (s.apply h o).1 = s := by
  cases o with
  | badField => cases hrow
  | regRead a n => exact absurd rfl (hreg a n)
  | leaseRead => exact s.doLeaseRead_leaves h
  | tenantRead n => exact s.doTenantRead_leaves n
  | progRead | varRead | measRead | coefRead | chRead | counterRead => exact onChanOf_leaves fun _ => rfl
  | identify | status | estRead | meterRead | ledgerRead | pairRead | timeRead | powerRead | nvmStat => rfl
  | _ => cases ho

/-- Settles O53: the state that a read answers on is the one that it was accepted in. -/
theorem readsChangeNothing : Obligations.ReadsChangeNothing := by
  intro c s h o hc ho hreg ha
  have hleaves : ((s.taken h).apply (s.headOf h) o).1 = s.taken h := (s.taken h).apply_read _ (commandOf_isRow hc) ho hreg
  refine ⟨((s.taken h).apply (s.headOf h) o).2, ?_⟩
  rw [exec_command hc, State.submit_accepted ha, hleaves, State.caused_taken]

end Sys2Proof.Machine
end

section
/-! The calendar (R554, R555): the next day and the next second keep every field in its range. -/

namespace Sys2Proof.Machine

open Sys2Proof

theorem CalTime.ok_iff (c : CalTime) : c.ok = true ↔
    (2000 ≤ c.year ∧ c.year ≤ 2199) ∧ (1 ≤ c.month ∧ c.month ≤ 12) ∧ (1 ≤ c.day ∧ c.day ≤ monthDays c.year c.month) ∧
      c.hour ≤ 23 ∧ c.minute ≤ 59 ∧ c.second ≤ 59 := by
  simp only [CalTime.ok, decide_eq_true_eq, and_assoc]

theorem monthDays_pos (y m : Nat) : 1 ≤ monthDays y m := by
  unfold monthDays
  split_ifs <;> omega

theorem monthDays_december (y : Nat) : monthDays y 12 = 31 := rfl

/-- A day past the last one of a month, or of a year, begins the next; past December 31, 2199 that is the roll-over (R556). -/
theorem CalTime.nextDay_ok {c : CalTime} (h : c.ok = true) : c.nextDay.1.ok = true ∧ c.nextDay.1.wday ≤ 6 ∧
    (c.nextDay.2 = true ↔ c.year = 2199 ∧ c.month = 12 ∧ c.day = 31) := by
  obtain ⟨hy, hm, hd, ht⟩ := c.ok_iff.1 h
  have hw : (c.wday + 1) % 7 ≤ 6 := by omega
  have hfirst (y m : Nat) : 1 ≤ 1 ∧ 1 ≤ monthDays y m := ⟨le_rfl, monthDays_pos y m⟩
  have hjan : 1 ≤ 1 ∧ 1 ≤ 12 := by decide
  have h2000 : 2000 ≤ 2000 ∧ 2000 ≤ 2199 := by decide
  simp only [CalTime.nextDay]
  split
  next hday =>
    have hlast : ¬ (c.year = 2199 ∧ c.month = 12 ∧ c.day = 31) := by
      rintro ⟨-, hmonth, hd31⟩
      rw [hmonth, monthDays_december] at hday
      omega
    exact ⟨(CalTime.ok_iff _).2 ⟨hy, hm, ⟨Nat.le_add_left _ _, hday⟩, ht⟩, hw, iff_of_false Bool.false_ne_true hlast⟩
  next hday =>
    split
    next hmonth =>
      exact ⟨(CalTime.ok_iff _).2 ⟨hy, ⟨Nat.le_add_left _ _, hmonth⟩, hfirst _ _, ht⟩, hw,
        iff_of_false Bool.false_ne_true (fun hl => by omega)⟩
    next hmonth =>
      have hdec : c.month = 12 := by omega
      rw [hdec, monthDays_december] at hday hd
      split
      next hyear =>
        exact ⟨(CalTime.ok_iff _).2 ⟨⟨Nat.le_succ_of_le hy.1, hyear⟩, hjan, hfirst _ _, ht⟩, hw,
          iff_of_false Bool.false_ne_true (fun hl => by omega)⟩
      next hyear =>
        exact ⟨(CalTime.ok_iff _).2 ⟨h2000, hjan, hfirst _ _, ht⟩, hw, iff_of_true rfl (by omega)⟩

/-- Settles O22: seconds, minutes and hours carry into each other, and past the last hour `nextDay_ok` holds. -/
theorem nextSecondStaysValid : Obligations.NextSecondStaysValid := by
  intro c h hw
  obtain ⟨hy, hm, hd, hh, hmin, hs⟩ := c.ok_iff.1 h
  simp only [CalTime.nextSecond]
  split
  next hsec => exact ⟨(CalTime.ok_iff _).2 ⟨hy, hm, hd, hh, hmin, hsec⟩, hw, iff_of_false Bool.false_ne_true (fun hl => by omega)⟩
  next hsec =>
    split
    next hminute =>
      exact ⟨(CalTime.ok_iff _).2 ⟨hy, hm, hd, hh, hminute, Nat.zero_le _⟩, hw, iff_of_false Bool.false_ne_true (fun hl => by omega)⟩
    next hminute =>
      split
      next hhour =>
        exact ⟨(CalTime.ok_iff _).2 ⟨hy, hm, hd, hhour, Nat.zero_le _, Nat.zero_le _⟩, hw, iff_of_false Bool.false_ne_true (fun hl => by omega)⟩
      next hhour =>
        have hmid : ({ c with hour := 0, minute := 0, second := 0 } : CalTime).ok = true :=
          (CalTime.ok_iff _).2 ⟨hy, hm, hd, Nat.zero_le _, Nat.zero_le _, Nat.zero_le _⟩
        obtain ⟨hok, hwd, hroll⟩ := CalTime.nextDay_ok hmid
        refine ⟨hok, hwd, hroll.trans ?_⟩
        have htime : c.hour = 23 ∧ c.minute = 59 ∧ c.second = 59 := by omega
        simp [htime]

end Sys2Proof.Machine
end

section
/-! The ledger and pair commands (R496, R505, R515, R541, Tables 12-12 and 12-13). -/

namespace Sys2Proof.Machine

open Sys2Proof

section
variable {s : State}

/-- A mounted ledger takes the fetch of a tenant that has none (R515). -/
theorem State.doLedgerFetch_starts (h : CmdHead) (a b m q : Nat) (per : Bool) (hf : s.led.fetches.any (fun f => f.head.tenant == h.tenant) = false)
    (hm : s.led.isMounted = true) :
    s.doLedgerFetch h a b m q per =
      ((s.onLed (fun l => { l with fetches :=
          l.fetches ++ [{ head := h, from_ := a, to_ := b, mask := m, queue := q, periodic := per, next := 0 }] })).onQueue q
        (fun x => { x with fetching := true }), { detail := (s.led.inRange h.tenant a b 0).length }) := by
  unfold State.doLedgerFetch
  rw [if_neg (by simp [hf]), if_neg (by simp [hm])]

theorem State.doLedgerRetain_takes (n days : Nat) (hn : s.takesNvm 1 = true) :
    s.doLedgerRetain n days =
      (let ts := if n = 255 then List.range 254 else [n]
      ((s.copied 1).onLed (fun l =>
        { l with retain := l.retain.filter (fun x => !ts.contains x.1) ++ (if days = 0 then [] else ts.map (fun t => (t, days))) })).ok) :=
  State.stored_takes _ hn

/-- The tenant's stream is sealed and written out, and its LEDGER_SEAL noted (R496). -/
def State.sealedOut (s : State) (t : Nat) : State :=
  (s.sealStream t 2).writeOut.onTenant t (fun y => { y with lastSeal := some s.now })

/-- The sealed record batches of a stream that no Flush has made durable. -/
def State.unflushed (s : State) (t : Nat) : Nat := (s.led.sealed_.filter (fun b => b.stream == t && b.btype == 0)).length

/-- 100 ms after the last one a LEDGER_SEAL seals; it answers at once where nothing waits for a Flush (R496). -/
theorem State.doLedgerSeal_seals {h : CmdHead} {x : Tenant} (hx : s.tenant? h.tenant = some x)
    (ht : ∀ a, x.lastSeal = some a → a + 100000000 ≤ s.now) (hm : s.led.isMounted = true) :
    s.doLedgerSeal h =
      (let t := s.sealedOut h.tenant
      if t.unflushed h.tenant = 0 then t.okWith [res32 [fN 16 8 (t.streamOf h.tenant).lastSeal, fN 24 8 (t.streamOf h.tenant).lastAddr]]
      else (t.onLed (fun l => { l with seals := l.seals ++ [(h, h.tenant, t.unflushed h.tenant)] })).later) := by
  simp only [State.doLedgerSeal, hx]
  rw [if_neg ?early, if_neg (by simp [hm])]
  · rfl
  case early =>
    split
    next a hl => simpa using ht a hl
    next => exact Bool.false_ne_true

theorem State.doHandover_begins (h : CmdHead) (d : Nat) (hn : s.board.pair.ho = .none) (hm : s.mode.mode ≠ .service ∨ s.execMask = 0) :
    s.doHandover h d = ((s.sendZl .hoPrep).onPair (fun p => { p with ho := .prep h (s.ptp + d * 1000000) })).later := by
  have hfree : ¬ (s.pr.ho ≠ .none ∨ (s.mode.mode = .service ∧ s.execMask ≠ 0)) := by
    rintro (h | ⟨hs, he⟩)
    · exact h hn
    · exact hm.elim (· hs) (he ·)
  exact if_neg hfree

end

/-- Settles O9: each command's effect is known where it is accepted; LEDGER_SEAL by whether a batch waits for its Flush. -/
theorem ledgerAndPairCommandsComplete : Obligations.LedgerAndPairCommandsComplete := by
  refine ⟨?read, ?fetch, ?retain, ?sealing, ?pair, ?handover⟩
  case read => exact fun s h ha => exec_answered rfl ha rfl
  case fetch => exact fun s h a b q mask per ha hf hm => exec_accepted rfl ha (State.doLedgerFetch_starts _ a b _ q per hf hm)
  case retain => exact fun s h n days ha hn => exec_answered rfl ha (State.doLedgerRetain_takes n days hn)
  case sealing =>
    intro s h x ha hx ht hm t n
    have heff := State.doLedgerSeal_seals (h := s.headOf h) hx ht hm
    by_cases hn : n = 0
    · exact (exec_answered rfl ha (heff.trans (if_pos hn))).trans (by rw [if_pos hn]; rfl)
    · exact (exec_later rfl ha (heff.trans (if_neg hn))).trans (by rw [if_neg hn]; rfl)
  case pair => exact fun s h ha => exec_answered rfl ha rfl
  case handover => exact fun s h d ha hn hm => exec_later rfl ha (State.doHandover_begins _ d hn hm)

end Sys2Proof.Machine
end

section
/-! The time and power commands (R557 to R566, R614, R640, R654, R655, Tables 12-14 to 12-16). -/

namespace Sys2Proof.Machine

open Sys2Proof

section
variable {s : State}

/-- A step to the other hour waits for the next second tick where none waits (R558). -/
theorem State.doSummer_waits (h : CmdHead) {fwd : Bool} (hc : s.board.time.cal.summer = !fwd) (hn : s.board.time.sumReq = none) :
    s.doSummer h fwd = (s.onTime (fun t => { t with sumReq := some (fwd, h) })).later :=
  if_neg (by simp [hc, hn])

theorem State.doWakeSet_alarm {which : Nat} (en : Bool) (cal : CalTime) (period : Nat) (hw : which ≠ 2) :
    s.doWakeSet which en cal period =
      ((s.setReg (0x050020 + 8 * which) (alarmTime en cal)).setReg (0x050024 + 8 * which) (alarmDay cal)).ok :=
  if_neg hw

/-- With a pack SHIP enters LEHR (R614). -/
theorem State.doShip_packed (hp : s.board.pwr.present = true) : s.doShip = ((s.enterLehr 0x13).settle).ok :=
  if_neg (by simp [hp])

/-- The part has the option that a block belongs to. -/
def State.hasBlock (s : State) (b : Nat) : Prop := (b ≠ 8 ∨ s.optL = true) ∧ (b ≠ 0x0A ∨ s.optT = true) ∧ (b ≠ 0x0B ∨ s.optZ = true)

/-- A block that the part has and that is at rest begins its reset or joins the one that runs (R654, R655). -/
theorem State.doBlockReset_takes (h : CmdHead) {b : Nat} (ho : s.hasBlock b) (hu : s.blockInUse b = false) :
    s.doBlockReset h b =
      (if s.inBlockReset b then
        State.later { s with rst := { s.rst with
          blocks := updFirst (fun x => x.block == b) (fun x => { x with more := x.more ++ [h] }) s.rst.blocks } }
      else
        let r : BlockReset := { block := b, head := some h, at_ := s.now }
        ({ s with rst := { s.rst with blocks := s.rst.blocks ++ [r] } }.quiesce b).later) := by
  obtain ⟨hl, ht, hz⟩ := ho
  have hpermitted : ¬ ((b = 8 ∧ !s.optL) ∨ (b = 0x0A ∧ !s.optT) ∨ (b = 0x0B ∧ !s.optZ)) := by
    rintro (⟨hb, hn⟩ | ⟨hb, hn⟩ | ⟨hb, hn⟩)
    · exact hl.elim (· hb) (fun h => by simp [h] at hn)
    · exact ht.elim (· hb) (fun h => by simp [h] at hn)
    · exact hz.elim (· hb) (fun h => by simp [h] at hn)
  unfold State.doBlockReset
  rw [if_neg hpermitted, if_neg (by simp [hu])]

end

/-- Settles O10: each command's effect is known where it is accepted; BLOCK_RESET by whether a reset of its block runs. -/
theorem timeAndPowerCommandsComplete : Obligations.TimeAndPowerCommandsComplete := by
  refine ⟨⟨?read, ?set, ?forward, ?back, ?alarm, ?period, ?trim⟩, ?power, ?ship, ?warm, ?begins, ?joins⟩
  case read => exact fun s h ha => exec_answered rfl ha rfl
  case set => exact fun s h cal date wday ha => exec_answered rfl ha rfl
  case forward => exact fun s h ha hc hn => exec_later rfl ha (State.doSummer_waits _ hc hn)
  case back => exact fun s h ha hc hn => exec_later rfl ha (State.doSummer_waits _ hc hn)
  case alarm => exact fun s h which en cal period ha hw => exec_answered rfl ha (State.doWakeSet_alarm en cal period hw)
  case period => exact fun s h en cal period ha => exec_answered rfl ha rfl
  case trim => exact fun s h p ha => exec_answered rfl ha rfl
  case power => exact fun s h ha => exec_answered rfl ha rfl
  case ship => exact fun s h ha hp => exec_answered rfl ha (State.doShip_packed hp)
  case warm => exact fun s h ha => exec_answered rfl ha rfl
  case begins =>
    exact fun s h b ha ho hu hr => exec_later rfl ha ((State.doBlockReset_takes _ ho hu).trans (if_neg (by simp [hr])))
  case joins => exact fun s h b ha ho hu hr => exec_later rfl ha ((State.doBlockReset_takes _ ho hu).trans (if_pos hr))

end Sys2Proof.Machine
end

section
/-! The state right after reset (R638, Table 03-9). -/

namespace Sys2Proof.Machine

open Sys2Proof

@[simp] theorem State.reset_chan (c : ChanNo) : State.reset.chan c = {} := Vector.getElem_replicate c.isLt

@[simp] theorem State.reset_dma (k : Fin 32) : State.reset.dma[k] = {} := Vector.getElem_replicate k.isLt

/-- Settles O45: every channel and every DMA channel stands as its structure's defaults give it; the rest holds no entries. -/
theorem resetState : Obligations.ResetState := by
  refine ⟨rfl, rfl, rfl, rfl, rfl, rfl, rfl, rfl, rfl, rfl, rfl, rfl, fun c => ?channel, fun k => ?dma⟩
  case channel =>
    rw [State.reset_chan]
    exact ⟨rfl, rfl, rfl⟩
  case dma => rw [State.reset_dma]

end Sys2Proof.Machine
end

section
/-! AUX controllers, rails, the pack and its charger (R583 to R588, R594, R595, R603 to R610). -/

namespace Sys2Proof.Machine

open Sys2Proof

/-- A next state that a branch inside its operations leads to. -/
theorem next_ite_pos {p : Prop} [Decidable p] {a b : State} (f : State → State) (h : p) :
    (.next (f (if p then a else b)) : Out) = .next (f a) := by
  rw [if_pos h]

section
variable {s : State}

/-! ### AUX controllers and rails (R583 to R595) -/

/-- A controller runs: it is on, in no hiccup and not latched off. -/
structure Aux.Runs (a : Aux) : Prop where
  on : a.on = true
  stopped : a.stopped = false
  latched : a.latched = false

theorem exec_auxPgood_running {k : Fin 4} (h : (s.aux k).Runs) :
    exec (.auxPgood k) s = .next (s.onAux k (fun a => { a with pgood := true })).watchSlot :=
  if_pos (by simp [h.on, h.stopped, h.latched])

/-- The hiccups of the last second, this one in front (R586). -/
def State.hiccups (s : State) (k : Fin 4) : List Nat := s.now :: (s.aux k).hicT.filter (fun t => decide (s.now < t + 1000000000))

/-- Three hiccups within 1 s latch (R586). -/
theorem exec_auxHiccup_running {k : Fin 4} (h : (s.aux k).Runs) :
    exec (.auxHiccup k) s =
      (let l := s.hiccups k
      let t := ((s.onAux k (fun a => { a with stopped := true, pgood := false, hicT := l })).setBit (0x06000C + 0x20 * k.val) 4).fault 0x02 0x01
      .next (if 3 ≤ l.length then t.auxLatch k else t)) :=
  if_neg (by simp [h.on, h.stopped, h.latched])

theorem exec_auxHiccupRestart_due {k : Fin 4} {t : Nat} {r : List Nat} (hs : (s.aux k).stopped = true) (ht : (s.aux k).hicT = t :: r)
    (hd : t + 10000000 ≤ s.now) :
    exec (.auxHiccupRestart k) s = .next (s.onAux k (fun a => { a with stopped := false, onT := s.now, fb0 := s.board.pwr.rd.fb.getD k.val 0 })) := by
  change execAuxHiccupRestart k s = _
  simp only [execAuxHiccupRestart, hs, ht, if_pos hd]

theorem exec_auxSlowLimit_due {k : Fin 4} {t : Nat} (ho : (s.aux k).on = true) (hl : (s.aux k).latched = false) (ht : (s.aux k).overT = some t)
    (hd : t + s.fld (0x060004 + 0x20 * k.val) 16 7 * 1000000 ≤ s.now) : exec (.auxSlowLimit k) s = .next (s.auxLatch k) := by
  change execAuxSlowLimit k s = _
  simp only [execAuxSlowLimit, ht]
  exact if_pos (by simp [ho, hl, hd])

theorem exec_auxTwarn_reached {k : Fin 4} {t : Int} (hn : (s.aux k).twarn = false) (ht : s.fld 0x0600A8 0 8 * 100 ≤ t)
    (hm : modeWarden s.mode.mode = true) :
    exec (.auxTwarn k t) s = .next (((s.onAux k (fun a => { a with twarn := true })).powerEvt 10 k.val).fault 0x02 0x03) :=
  if_neg (by simp [hn, ht, hm])

theorem exec_auxTshut_reached {k : Fin 4} {t : Int} (ht : s.fld 0x0600A8 8 8 * 100 ≤ t) (hm : modeWarden s.mode.mode = true) :
    exec (.auxTshut k t) s = .next ((s.onPwr (fun p =>
      { p with tshutT := some (p.tshutT.getD s.now), rd := { p.rd with tdrv := p.rd.tdrv.set k.val t } })).fault 0x02 0x04) :=
  if_neg (by simp [ht, hm])

/-- In LOCKOUT a driver still at TSHUT after 1 s powers the part down (R587). -/
theorem exec_thermalPowerDown_hot {t : Nat} (ht : s.board.pwr.tshutT = some t) (hd : t + 1000000000 ≤ s.now) (hm : s.mode.mode = .lockout)
    (hh : s.board.pwr.rd.tdrv.any (fun x => decide ((s.fld 0x0600A8 8 8 * 100 : Int) ≤ x)) = true) :
    exec .thermalPowerDown s = .next ((s.snapshot 6).toKeep .keep 0x19 0x0A true) := by
  change execThermalPowerDown s = _
  simp only [execThermalPowerDown, ht]
  exact if_pos ⟨hh, hd, hm⟩

/-- MON0 to MON3: the fault alone (R595). -/
theorem exec_railRange_monitor {src : Fin 8} (hm : modeUp s.mode.mode = true) (hs : src.val < 4) :
    exec (.railRange src) s = .next (s.fault 0x02 0x05) := by
  refine (whileUp_next hm).trans ?_
  rw [dif_neg (Nat.not_le.2 hs)]

/-- The PGOOD inputs follow the four monitors in the row's operand (R595). -/
theorem exec_railRange_pgood (k : Fin 4) (hm : modeUp s.mode.mode = true) :
    exec (.railRange ⟨k.val + 4, by omega⟩) s = .next ((s.onAux k (fun a => { a with pgood := false })).fault 0x02 0x05) := by
  refine (whileUp_next hm).trans ?_
  rw [dif_pos (Nat.le_add_left 4 k.val)]
  rfl

/-! ### Readings (R594) -/

/-- The controllers after a refresh of the readings: the slow limit's start, diode emulation and the end of a warning. -/
def State.auxRefreshed (s : State) (r : Readings) : State :=
  (List.finRange 4).foldl (fun u k =>
    let w := 0x20 * k.val
    let mv := r.iout.getD k.val 0 * u.fld (0x060008 + w) 16 16
    let lim := u.fld (0x060004 + w) 8 7 * 10000
    let de := u.bit (0x060000 + w) 8
    u.onAux k (fun x => { x with
      overT := if x.on && decide (lim < mv) then some (x.overT.getD u.now) else none
      de := de && x.on && (if x.de then decide (mv * 10 ≤ lim * 2) else decide (mv * 10 < lim))
      twarn := x.twarn && !decide (r.tdrv.getD k.val 0 < ((u.fld 0x0600A8 0 8 : Int) - u.fld 0x0600A8 16 8) * 100) }))
    (s.onPwr (fun p => { p with rd := r, rdT := s.now })).watchSlot

theorem exec_wardenReadingRefresh_due {r : Readings} (hm : modeWarden s.mode.mode = true) (hd : s.board.pwr.rdT + 1000000 ≤ s.now)
    (hp : (s.auxRefreshed r).syncHoldok.packTick.board.pwr.path ≠ .test) :
    exec (.wardenReadingRefresh r) s = .next (s.auxRefreshed r).syncHoldok.packTick :=
  (if_neg (by simp [hm, hd])).trans (if_neg hp)

/-! ### The pack (R603, R604) -/

theorem exec_packPresent_new {v : Nat} (hp : s.board.pwr.present = false) (hv : 4000 ≤ v) (hm : modeUp s.mode.mode = true) :
    exec (.packPresent v) s =
      .next ((s.onPwr (fun p => { p with present := true, rd := { p.rd with packv := v } })).powerEvt 3 v).syncHoldok.chgStart :=
  (if_neg (by simp [hp, hv])).trans (next_ite_pos (fun t => t.syncHoldok.chgStart) hm)

theorem exec_packRemoved_present (hp : s.board.pwr.present = true) (hm : modeUp s.mode.mode = true) :
    exec .packRemoved s = .next ((((s.onPwr (fun p =>
      { p with present := false, ntcBad := false, pack := { p.pack with full := none, emptyMk := false, stale := true } })).powerEvt 4 0).chgTo
        .off 0).syncHoldok) :=
  (if_neg (by simp [hp])).trans (next_ite_pos (fun t => (t.chgTo .off 0).syncHoldok) hm)

theorem exec_packNtc_new (hn : s.board.pwr.ntcBad = false) (hm : modeWarden s.mode.mode = true) :
    exec .packNtc s = .next ((((s.onPwr (fun p => { p with ntcBad := true, rd := { p.rd with tpack := none } })).chgTo .fault 5).syncHoldok).fault
      0x03 0x04) :=
  if_neg (by simp [hn, hm])

/-! ### The charger (R604 to R610) -/

/-- A pack between 0 and 45 °C leaves QUAL, for PRE below 1.0 V per cell and for FAST otherwise (R604). -/
theorem exec_qualEnd_inRange {t : Int} (hc : s.board.pwr.chg = .qual) (hd : s.board.pwr.chgT + 2000000000 ≤ s.now)
    (ht : s.board.pwr.rd.tpack = some t) (h0 : 0 ≤ t) (h45 : t ≤ 4500) :
    exec .qualEnd s = .next ((s.chgTo (if s.board.pwr.rd.packv < s.ncell * 1000 then .pre else .fast) 0).startSearch) := by
  refine (if_neg (by simp [hc, hd])).trans ?_
  simp only [ht]
  exact if_neg (by simp [h0, h45])

theorem exec_preTimeout_due (hc : s.board.pwr.chg = .pre) (hd : s.board.pwr.chgT + 1800000000000 ≤ s.now) :
    exec .preTimeout s = .next s.chgFault :=
  if_pos ⟨hc, hd⟩

/-- The share of the capacity that FAST may charge at; after a watchdog at most 5 % (R605, R608). -/
def State.fastPct (s : State) : Nat := if s.board.pwr.fallback then Nat.min 5 (s.fld 0x070004 0 7) else s.fld 0x070004 0 7

theorem exec_searchStep_rises {vin : Nat} (hc : s.board.pwr.chg = .fast) (hv : s.fld 0x070004 16 16 ≤ vin) (hn : s.board.pwr.searchT = none)
    (hd : s.board.pwr.stepT + 100000000 ≤ s.now) :
    exec (.searchStep vin) s = .next ((s.setSearch (Nat.min (s.packCap * s.fastPct / 100) (s.board.pwr.search + s.packCap * 2 / 100))).onPwr
      (fun p => { p with stepT := s.now })) := by
  refine (if_neg (by simp [hc])).trans ((if_neg hv.not_gt).trans ((if_neg (by simp [hn, hd])).trans ?_))
  simp only [hc]
  rfl

/-- A dip below VSRCMIN takes two steps back and holds the search (R605). -/
theorem exec_searchStep_dip {vin : Nat} (hc : s.board.pwr.chg = .pre ∨ s.board.pwr.chg = .fast) (hv : vin < s.fld 0x070004 16 16) :
    exec (.searchStep vin) s = .next ((s.setSearch (s.board.pwr.search - 2 * (s.packCap * 2 / 100))).onPwr (fun p =>
      { p with searchT := some s.now, stepT := s.now })) :=
  (if_neg (fun h => hc.elim h.1 h.2)).trans (if_pos hv)

theorem exec_searchHoldEnd_due {t : Nat} (ht : s.board.pwr.searchT = some t) (hd : t + 60000000000 ≤ s.now) :
    exec .searchHoldEnd s = .next (s.onPwr (fun p => { p with searchT := none })) := by
  change execSearchHoldEnd s = _
  simp only [execSearchHoldEnd, ht, if_pos hd]

theorem exec_fastmaxExpiry_due (hc : s.board.pwr.chg = .fast ∨ s.board.pwr.chg = .safe)
    (hd : s.board.pwr.chgT + s.fld 0x07000C 0 10 * 60000000000 ≤ s.now) :
    exec .fastmaxExpiry s = .next ((s.chgTo .full 3).fault 0x03 0x01) :=
  if_pos ⟨hc, hd⟩

/-- On INPUT a charger that 40 s have passed without a contact falls back; PRE and FAST become SAFE (R608, R609). -/
theorem exec_chargerWatchdog_due (hm : modeWarden s.mode.mode = true) (hf : s.board.pwr.fallback = false)
    (hd : s.board.pwr.kickT + 40000000000 ≤ s.now) (hp : s.board.pwr.path = .input) :
    exec .chargerWatchdog s =
      (let t := (s.onPwr (fun p => { p with fallback := true, contact := false })).setBit 0x070024 15
      let u := if s.board.pwr.chg = .pre ∨ s.board.pwr.chg = .fast then t.chgTo .safe 0 else t
      .next ((u.powerEvt 7 0).fault 0x03 0x03)) :=
  (if_neg (by simp [hm, hf, hd])).trans (if_neg (by simp [hp]))

theorem exec_hldKick_key : exec (.hldKick 0x4B49) s = .next (s.onPwr (fun p => { p with kickT := s.now, contact := true })) :=
  if_pos (e := Host.Outcome.next s) (rfl : (0x4B49 : BitVec 16) = 0x4B49#16)

theorem exec_packTest_able (hm : s.mode.mode = .ready) (hh : s.board.pwr.holdok = true) (hc : s.board.pwr.chg = .full)
    (hp : s.board.pwr.path = .input) :
    exec .packTest s = .next ((s.chgTo .test 0).onPwr (fun p => { p with path := .test })) :=
  if_pos ⟨hm, hh, hc, hp⟩

theorem exec_stoptest_running (hp : s.board.pwr.path = .test) : exec .stoptest s = .next (s.endTest false true) := if_pos hp

end

/-- Settles O26: each row under the conditions that its rule names. -/
theorem auxPackAndChargerEvents : Obligations.AuxPackAndChargerEvents := by
  refine ⟨⟨?pgood, ?hiccup, ?restart, ?slow, ?warn, ?shut, ?thermal, ?monitor, ?rail, ?refresh⟩,
    ?present, ?removed, ?ntc, ?qual, ?pre, ?rises, ?dip, ?hold, ?fastmax, ?watchdog, ?kick, ?test, ?stop⟩
  case pgood => exact fun s k ho hs hl => exec_auxPgood_running ⟨ho, hs, hl⟩
  case hiccup => exact fun s k ho hs hl => exec_auxHiccup_running ⟨ho, hs, hl⟩
  case restart => exact fun s k t r hs ht hd => exec_auxHiccupRestart_due hs ht hd
  case slow => exact fun s k t ho hl ht hd => exec_auxSlowLimit_due ho hl ht hd
  case warn => exact fun s k t hn ht hm => exec_auxTwarn_reached hn ht hm
  case shut => exact fun s k t ht hm => exec_auxTshut_reached ht hm
  case thermal => exact fun s t ht hd hm hh => exec_thermalPowerDown_hot ht hd hm hh
  case monitor => exact fun s src hm hs => exec_railRange_monitor hm hs
  case rail => exact fun s k hm => exec_railRange_pgood k hm
  case refresh => exact fun s r hm hd hp => exec_wardenReadingRefresh_due hm hd hp
  case present => exact fun s v hp hv hm => exec_packPresent_new hp hv hm
  case removed => exact fun s hp hm => exec_packRemoved_present hp hm
  case ntc => exact fun s hn hm => exec_packNtc_new hn hm
  case qual => exact fun s t hc hd ht h0 h45 => exec_qualEnd_inRange hc hd ht h0 h45
  case pre => exact fun s hc hd => exec_preTimeout_due hc hd
  case rises => exact fun s vin hc hv hn hd => exec_searchStep_rises hc hv hn hd
  case dip => exact fun s vin hc hv => exec_searchStep_dip hc hv
  case hold => exact fun s t ht hd => exec_searchHoldEnd_due ht hd
  case fastmax => exact fun s hc hd => exec_fastmaxExpiry_due hc hd
  case watchdog => exact fun s hm hf hd hp => exec_chargerWatchdog_due hm hf hd hp
  case kick => exact fun s => exec_hldKick_key
  case test => exact fun s hm hh hc hp => exec_packTest_able hm hh hc hp
  case stop => exact fun s hp => exec_stoptest_running hp

end Sys2Proof.Machine
end

section
/-! What a 1 s mean decides for the charger (R604, R606). -/

namespace Sys2Proof.Machine

open Sys2Proof

section
variable {s : State} {v : Nat} {t : Int}

/-- The state that has taken a 1 s mean: readings, HOLDOK, and a charger that may leave OFF. -/
def State.meanTaken (s : State) (v : Nat) (t : Int) : State :=
  (s.onPwr (fun p => { p with meanT := s.now, rd := { p.rd with packv := v, tpack := if p.ntcBad then none else some t }
                              means := ((v, t) :: p.means).take 61, vMax := Nat.max p.vMax v })).syncHoldok.chgStart

/-- A mean is due: the warden runs and 1 s has passed since the last one (R606). -/
def State.MeanDue (s : State) : Prop := modeWarden s.mode.mode = true ∧ s.board.pwr.meanT + 1000000000 ≤ s.now

theorem State.MeanDue.not_ignored (h : s.MeanDue) : ¬ (!modeWarden s.mode.mode ∨ s.now < s.board.pwr.meanT + 1000000000) := by
  obtain ⟨hm, hd⟩ := h
  simp [hm, hd]

/-- Beyond 60 °C or 1.80 V per cell a charger that is neither off nor under test goes to FAULT. -/
theorem exec_chargeMeanUpdate_fault (hd : s.MeanDue) (hoff : (s.meanTaken v t).board.pwr.chg ≠ .off)
    (hfault : (s.meanTaken v t).board.pwr.chg ≠ .fault) (htest : (s.meanTaken v t).board.pwr.chg ≠ .test)
    (hb : 6000 < t ∨ (s.meanTaken v t).ncell * 1800 < v) :
    exec (.chargeMeanUpdate v t) s = .next (s.meanTaken v t).chgFault :=
  (if_neg hd.not_ignored).trans (if_pos ⟨hoff, hfault, htest, hb⟩)

section
variable (hd : s.MeanDue) (hv : v ≤ (s.meanTaken v t).ncell * 1800)

include hd hv

theorem exec_chargeMeanUpdate_suspend (ht : t ≤ 6000) (hc : s.board.pwr.chg = .pre ∨ s.board.pwr.chg = .fast ∨ s.board.pwr.chg = .safe)
    (hw : 4500 < t) : exec (.chargeMeanUpdate v t) s = .next ((s.meanTaken v t).chgTo .suspend 4) := by
  have hin : ¬ (6000 < t ∨ (s.meanTaken v t).ncell * 1800 < v) := not_or.2 ⟨ht.not_gt, hv.not_gt⟩
  refine (if_neg hd.not_ignored).trans ((if_neg (fun h => hin h.2.2.2)).trans (if_pos ?_))
  rcases hc with hc | hc | hc <;> simp [hc, hw]

/-- Up to 45 °C and 1.80 V per cell PRE ends at 1.0 V per cell. -/
theorem exec_chargeMeanUpdate_fast (ht : t ≤ 4500) (hp : (s.meanTaken v t).board.pwr.chg = .pre) (hn : (s.meanTaken v t).ncell * 1000 ≤ v) :
    exec (.chargeMeanUpdate v t) s = .next ((s.meanTaken v t).chgTo .fast 0) := by
  have hin : ¬ (6000 < t ∨ (s.meanTaken v t).ncell * 1800 < v) := not_or.2 ⟨by omega, hv.not_gt⟩
  refine (if_neg hd.not_ignored).trans ((if_neg (fun h => hin h.2.2.2)).trans ((if_neg (by simp [ht])).trans ?_))
  unfold State.meanTaken at hp ⊢
  simp only [hp]
  exact if_pos hn

/-- Up to 45 °C and 1.80 V per cell FAST ends on −ΔV once its hold-off has passed. -/
theorem exec_chargeMeanUpdate_full (ht : t ≤ 4500) (hp : (s.meanTaken v t).board.pwr.chg = .fast ∨ (s.meanTaken v t).board.pwr.chg = .safe)
    (hh : (s.meanTaken v t).board.pwr.chgT + (s.meanTaken v t).fld 0x070008 8 8 * 60000000000 ≤ (s.meanTaken v t).now)
    (hdv : v + (s.meanTaken v t).ncell * (s.meanTaken v t).fld 0x070008 0 5 ≤ (s.meanTaken v t).board.pwr.vMax) :
    exec (.chargeMeanUpdate v t) s = .next (((s.meanTaken v t).chgTo .full 1).packFull) := by
  have hin : ¬ (6000 < t ∨ (s.meanTaken v t).ncell * 1800 < v) := not_or.2 ⟨by omega, hv.not_gt⟩
  refine (if_neg hd.not_ignored).trans ((if_neg (fun h => hin h.2.2.2)).trans ((if_neg (by simp [ht])).trans ?_))
  have hends := (Bool.and_eq_true _ _).mpr ⟨decide_eq_true hh, decide_eq_true hdv⟩
  unfold State.meanTaken at hp ⊢
  rcases hp with hp | hp
  all_goals
    simp only [hp]
    exact if_pos hends

end
end

/-- Settles O27: past its due time the mean is taken; the bounds of temperature and voltage then decide by the charger's state. -/
theorem chargeMeanDecides : Obligations.ChargeMeanDecides := by
  intro s v t hm hd a b p
  have hdue : s.MeanDue := ⟨hm, hd⟩
  refine ⟨?fault, ?suspend, ?fast, ?full⟩
  case fault => exact fun hoff hfault htest hb => exec_chargeMeanUpdate_fault hdue hoff hfault htest hb
  case suspend => exact fun ht hv hc hw => exec_chargeMeanUpdate_suspend hdue hv ht hc hw
  case fast => exact fun hp _ ht hn hv => exec_chargeMeanUpdate_fast hdue hv ht hp hn
  case full => exact fun hp ht hv hh hdv => exec_chargeMeanUpdate_full hdue hv ht hp hh hdv

end Sys2Proof.Machine
end

section
/-! The power path and the sequencer (R590 to R592, R595 to R601). -/

namespace Sys2Proof.Machine

open Sys2Proof

/-- From BOOT on the warden runs (Table 03-3). -/
theorem modeWarden_of_modeUp {m : Mode} (h : modeUp m = true) : modeWarden m = true := by
  cases m with
  | off | ship | keep | wake => cases h
  | _ => rfl

theorem ne_wake_of_modeUp {m : Mode} (h : modeUp m = true) : m ≠ .wake := by
  rintro rfl
  cases h

theorem ne_keep_of_modeUp {m : Mode} (h : modeUp m = true) : m ≠ .keep := by
  rintro rfl
  cases h

section
variable {s : State} {vin : Nat}

/-! ### The input (R595 to R601) -/

/-- The part on its pack (R597): a test ends, the path is HOLDUP, a charge is suspended and the loss reported. -/
def State.onPack (s : State) (vin : Nat) (ok : Bool) : State :=
  let a := (s.onPwr (fun p => { p with input := false, rd := { p.rd with vin := vin } })).endTest false false
  let b := a.onPwr (fun p => { p with path := .holdup, packT := a.now })
  let d := if b.board.pwr.chg = .pre ∨ b.board.pwr.chg = .fast ∨ b.board.pwr.chg = .safe then b.chgTo .suspend 6 else b
  if ok then d.powerEvt 0 vin else (d.powerEvt 0 vin).fault 0x03 0x06

/-- A loss on INPUT or TEST from BOOT on: with HOLDOK to the pack and LEHR, without it the power collapses. -/
theorem State.inputLoss_up (ok : Bool) (hp : s.board.pwr.path = .input ∨ s.board.pwr.path = .test) (hm : modeUp s.mode.mode = true) :
    s.inputLoss vin ok =
      (let e := s.onPack vin ok
      if s.board.pwr.holdok then (if s.mode.mode = .lehr then e else e.enterLehr 0x12) else (e.keepFault 0x0305).collapse 3 2) := by
  have hreturning : s.board.pwr.path ≠ .returning := by rcases hp with hp | hp <;> simp [hp]
  have hsupplied : ¬ (s.board.pwr.path ≠ .input ∧ s.board.pwr.path ≠ .test) := fun h => hp.elim h.1 h.2
  unfold State.inputLoss State.onPack
  rw [if_neg hreturning, if_neg hsupplied, if_neg (by simp [modeWarden_of_modeUp hm])]
  simp only [hm, if_true, if_neg (ne_wake_of_modeUp hm)]

/-- A fall outside any boundary window of an input that it leaves absent. -/
theorem exec_inputLoss_falls (ok : Bool) (hf : s.noFatal = true) (hb : s.boundaryNow = false) (hv : s.vinThere vin = false) :
    exec (.inputLoss vin ok) s =
      .next (if (s.board.pwr.path = .input ∨ s.board.pwr.path = .test) ∧ s.vinloss ≤ vin
        then s.onPwr (fun p => { p with input := false, rd := { p.rd with vin := vin } })
        else s.inputLoss vin ok) := by
  change execInputLoss vin ok s = _
  unfold execInputLoss
  rw [State.fatalFirst_idle s hf]
  refine (if_neg (by simp [hb])).trans (congrArg Host.Outcome.next ?_)
  unfold State.vinFall
  rw [if_neg (by simp [hv])]

/-- Inside a boundary window the boundary's work comes first, and the loss carries its stamp (R370). -/
theorem exec_inputLoss_boundary (ok : Bool) (hf : s.noFatal = true) (hb : s.boundaryNow = true) :
    exec (.inputLoss vin ok) s =
      (let t := ({ s.handleMinute with ptp := s.board.time.stamp }).vinFall vin ok
      .next (if t.ptp = s.board.time.stamp then { t with ptp := s.ptp } else t)) := by
  change execInputLoss vin ok s = _
  unfold execInputLoss
  rw [State.fatalFirst_idle s hf]
  exact if_pos hb

/-- From BOOT on a return of the input makes HOLDUP RETURNING (R599); the mode is none in which it would be a wake. -/
theorem exec_inputPresent_up (hi : s.board.pwr.input = false) (hv : s.vinThere vin = true) (hm : modeUp s.mode.mode = true) :
    exec (.inputPresent vin) s =
      (let t := s.onPwr (fun p => { p with input := true, inputT := s.now, rd := { p.rd with vin := vin }
                                           path := if p.path = .holdup then .returning else p.path })
      .next (t.powerEvt 1 vin).tryWake) := by
  refine (if_neg (by simp [hi, hv])).trans ((next_ite_pos (fun t =>
    (if t.mode.mode = .keep && t.bit 0x070010 26 then t.latchWake 5 else t).tryWake) hm).trans ?_)
  have hkeep : s.mode.mode ≠ .keep := ne_keep_of_modeUp hm
  exact congrArg (fun t : State => (Host.Outcome.next t.tryWake : Out))
    (if_neg (by simp [State.powerEvt, State.houseEvt, State.pushEvt, State.onPwr, hkeep]))

theorem exec_pathReturn_plain (h : s.tryReturn.board.pwr.wdDue = false) : exec .pathReturn s = .next s.tryReturn :=
  if_neg (by simp [h])

theorem exec_packExhausted_holdup (hp : s.board.pwr.path = .holdup ∨ s.board.pwr.path = .returning)
    (hv : s.board.pwr.rd.packv < s.ncell * s.packmin) : exec .packExhausted s = .next (s.collapse 3 2) :=
  if_pos ⟨hp, hv⟩

/-! ### The sequencer (R590 to R592) -/

/-- Watching the slot in progress touches only the time since when its condition holds. -/
theorem State.watchSlot_eq (s : State) : ∃ f : PowerSt → Option Nat, s.watchSlot = s.onPwr (fun p => { p with condT := f p }) := by
  by_cases hp : s.board.pwr.phase = 1
  · exact ⟨fun p => if s.slotHolds p.slot then some (p.condT.getD s.now) else none, if_neg (not_not_intro hp)⟩
  · exact ⟨PowerSt.condT, if_pos hp⟩

@[simp] theorem State.watchSlot_mode (s : State) : s.watchSlot.mode = s.mode := by
  obtain ⟨c, hc⟩ := s.watchSlot_eq
  rw [hc]
  rfl

@[simp] theorem State.watchSlot_now (s : State) : s.watchSlot.now = s.now := by
  obtain ⟨c, hc⟩ := s.watchSlot_eq
  rw [hc]
  rfl

@[simp] theorem State.watchSlot_phase (s : State) : s.watchSlot.board.pwr.phase = s.board.pwr.phase := by
  obtain ⟨c, hc⟩ := s.watchSlot_eq
  rw [hc]
  rfl

@[simp] theorem State.watchSlot_slot (s : State) : s.watchSlot.board.pwr.slot = s.board.pwr.slot := by
  obtain ⟨c, hc⟩ := s.watchSlot_eq
  rw [hc]
  rfl

section
variable (hm : s.mode.mode = .wake) (hp : s.board.pwr.phase = 1) (hd : s.watchSlot.slotDone = true)

include hm hp hd

theorem State.slotDone_not_ignored :
    ¬ (s.watchSlot.mode.mode ≠ .wake ∨ s.watchSlot.board.pwr.phase ≠ 1 ∨ !s.watchSlot.slotDone) := by
  simp [hm, hp, hd]

theorem exec_seqSlotDone_next {k : Nat} (hk : s.watchSlot.nextSlot (s.board.pwr.slot + 1) = some k) :
    exec .seqSlotDone s = .next (s.watchSlot.runSlot k) := by
  refine (if_neg (State.slotDone_not_ignored hm hp hd)).trans ?_
  simp only [State.watchSlot_slot, hk]

/-- After the last slot the cold reset ends and BOOT begins (R590, R75). -/
theorem exec_seqSlotDone_last (hk : s.watchSlot.nextSlot (s.board.pwr.slot + 1) = none) (hr : s.watchSlot.railsOk = true) :
    exec .seqSlotDone s =
      (let t := s.watchSlot.onPwr (fun p => { p with phase := 0, kickT := s.now, fallback := false, wdDue := false, tshutT := none })
      .next (t.draw.2.enterBoot (some (t.draw.1 % 64)) 4).tryReturn.chgStart) := by
  refine (if_neg (State.slotDone_not_ignored hm hp hd)).trans ?_
  simp only [State.watchSlot_slot, hk]
  rw [if_neg (by simp [hr]), State.watchSlot_now]

end

/-- A slot whose condition has not held within TIMEOUT powers the part down (R591). -/
theorem exec_seqTimeout_due (hm : s.mode.mode = .wake) (hp : s.board.pwr.phase = 1) (hw : s.fld (0x0600C0 + 4 * s.board.pwr.slot) 5 2 ≠ 0)
    (hn : s.board.pwr.condT = none) (hs : s.slotHolds s.board.pwr.slot = false)
    (hd : s.board.pwr.slotT + s.fld (0x0600C0 + 4 * s.board.pwr.slot) 24 8 * 1000000 ≤ s.now) :
    exec .seqTimeout s =
      (let t := (((s.setBit 0x0600A4 6).snapshot 2).keepFault 0x0206).toKeep .keep 5 0x0A true
      .next ((t.onPwr (fun p => { p with failed := true })).setBit 0x0600A4 6)) :=
  if_pos ⟨hm, hp, hw, by simp [hn], by simp [hs], hd⟩

theorem exec_powerDownStep_due (hp : s.board.pwr.phase = 2)
    (hd : ∀ t, s.board.pwr.condT = some t → t + s.fld 0x0600A0 0 8 * 100000 ≤ s.now) : exec .powerDownStep s = .next s.powerDownStep := by
  refine if_pos ⟨hp, ?_⟩
  split
  next t ht => exact decide_eq_true (hd t ht)
  next => rfl

end

/-- Settles O25: the input's loss by HOLDOK or its window, and each step of the sequencer under its conditions. -/
theorem powerPathAndSequencer : Obligations.PowerPathAndSequencer := by
  refine ⟨⟨?loss, ?dip, ?boundary, ?present, ?path, ?exhausted⟩, ?next, ?last, ?timeout, ?down⟩
  case loss =>
    intro s vin ok hf hb hv hl hp hm
    rw [exec_inputLoss_falls ok hf hb hv, if_neg (fun h => h.2.not_gt hl), State.inputLoss_up ok hp hm]
    rfl
  case dip =>
    intro s vin ok hf hb hv hl hp
    rw [exec_inputLoss_falls ok hf hb hv, if_pos ⟨hp, hl⟩]
  case boundary => exact fun s vin ok hf hb => exec_inputLoss_boundary ok hf hb
  case present => exact fun s vin hi hv hm => exec_inputPresent_up hi hv hm
  case path => exact fun s h => exec_pathReturn_plain h
  case exhausted => exact fun s hp hv => exec_packExhausted_holdup hp hv
  case next => exact fun s k hm hp hd hk => exec_seqSlotDone_next hm hp hd hk
  case last => exact fun s hm hp hd hk hr => exec_seqSlotDone_last hm hp hd hk hr
  case timeout => exact fun s hm hp hw hn hs hd => exec_seqTimeout_due hm hp hw hn hs hd
  case down => exact fun s hp hd => exec_powerDownStep_due hp hd

end Sys2Proof.Machine
end

section
/-! The calendar's ticks, its loads and the freeze of its read shadows (R554 to R567). -/

namespace Sys2Proof.Machine

open Sys2Proof

section
variable {s : State}

theorem State.onTime_congr {f k : TimeSt → TimeSt} (h : f s.board.time = k s.board.time) : s.onTime f = s.onTime k := by
  simp only [State.onTime, State.onBoard, h]

theorem State.onTime_self {f : TimeSt → TimeSt} (h : f s.board.time = s.board.time) : s.onTime f = s := by
  simp only [State.onTime, State.onBoard, h]

/-- A change of the timebase leaves it open to the mode whether a source is a wake (R563). -/
theorem State.onTime_wakes (s : State) (f : TimeSt → TimeSt) (src : Nat) :
    (if (s.onTime f).mode.mode = .keep then (s.onTime f).latchWake src else s.onTime f) =
      if s.mode.mode = .keep then (s.onTime f).latchWake src else s.onTime f :=
  rfl

/-! ### The second tick (R554 to R558, R565, R567) -/

/-- The calendar stands still in OFF and SHIP, and in KEEP with a failed crystal (R562). -/
theorem State.calStopped_iff (s : State) : s.calStopped = true ↔
    (s.board.time.xtalBad = true ∧ s.mode.mode = .keep) ∨ s.mode.mode = .off ∨ s.mode.mode = .ship := by
  simp [State.calStopped, or_assoc]

/-- The calendar one second on, stamped, with a waiting step of summer time taken (R555, R558, R567). -/
def State.calTicked (s : State) (stamp : Nat) : State :=
  let n := s.board.time.cal.nextSecond
  let t := s.onTime (fun t => { t with cal := n.1, xtalOk := true, xtalBad := false, tickT := s.now, stamp, repeat_ := t.repeat_ - 1 })
  (if n.2 then t.rollover else t).summerStep

/-- A running calendar ticks unless a load falls into the same KEEP tick (R557): then come the minute that is due, the prediction and the
two alarms. -/
theorem exec_secondTick_runs (stamp : Nat) (hs : s.calStopped = false)
    (hl : ∀ t, s.board.time.loadT = some t → s.now * 32768 / 1000000000 ≠ t * 32768 / 1000000000) :
    exec (.secondTick stamp) s =
      (let n := s.board.time.cal.nextSecond
      let u := s.calTicked stamp
      let v := { u with met := { u.met with due := n.1.second == 0 } }
      let w := if v.stewardOn && v.met.stamps.isEmpty then v.predict stamp (60 - n.1.second) else v
      .next ((w.alarmTick 0).alarmTick 1)) := by
  refine if_neg (not_or.2 ⟨by simp [hs], ?_⟩)
  split
  next t ht => exact fun h => hl t ht (of_decide_eq_true h)
  next => exact Bool.false_ne_true

theorem exec_periodicWakeExpiry_due (he : s.bit 0x050030 31 = true) (hs : s.calStopped = false)
    (hd : s.board.time.pwakeT + s.fld 0x050030 0 23 * 15625000 ≤ s.now) :
    exec .periodicWakeExpiry s =
      (let t := s.onTime (fun t => { t with pwakeT := t.pwakeT + s.fld 0x050030 0 23 * 15625000 })
      .next (if s.mode.mode = .keep then t.latchWake 2 else t)) :=
  (if_pos ⟨he, hd, by simp [hs]⟩).trans (congrArg Host.Outcome.next (s.onTime_wakes _ _))

/-! ### The crystal (R560 to R562) -/

theorem exec_autotrim_due {rate : Int} (hl : s.board.time.ptp = .locked) (hd : s.board.time.lockT + 3600000000000 ≤ s.now) :
    exec (.autotrim rate) s =
      (let t := (s.setReg 0x050014 (w32 rate)).onTime (fun t => { t with lockT := s.now })
      .next (if t.bit 0x050010 16 then t.setTrim (clampI (-511) 511 (rdiv (-rate * 10) 4768)) else t)) :=
  if_pos ⟨hl, hd⟩

/-- From BOOT on a failed crystal is a fault and clears VALID (R562). -/
theorem exec_xtalFail_up (hm : modeUp s.mode.mode = true) :
    exec .xtalFail s =
      .next ((((s.onTime (fun t => { t with xtalOk := false, xtalBad := true, rcond := false })).setFld 0x050018 0 1 0).calInvalid).fault 0x01 0x01) :=
  if_pos hm

/-! ### Loads and reads of the calendar (R557, R559, R580) -/

theorem exec_keepLoadTime_inRange (hc : s.calShadow.ok = true) : exec .keepLoadTime s = .next (s.loadTime s.calShadow) := if_pos hc

theorem exec_keepLoadTime_outOfRange (hc : s.calShadow.ok = false) : exec .keepLoadTime s = .next (s.setBit 0x050018 3) :=
  if_neg (by simp [hc])

theorem exec_calendarReadFreeze_first (hf : s.board.time.frozen = none) :
    exec .calendarReadFreeze s = .next (s.onTime (fun t => { t with frozen := some (t.cal, t.valid), frozenT := s.now })) :=
  congrArg Host.Outcome.next (State.onTime_congr (if_neg (by simp [hf])))

/-- A read of a frozen calendar changes nothing. -/
theorem exec_calendarReadFreeze_frozen (hf : s.board.time.frozen.isSome = true) : exec .calendarReadFreeze s = .next s :=
  congrArg Host.Outcome.next (State.onTime_self (if_pos hf))

theorem exec_freezeTimeout_due (hd : s.board.time.frozenT + 1000000000 ≤ s.now) :
    exec .freezeTimeout s = .next (s.onTime (fun t => { t with frozen := none })) :=
  if_pos hd

end

/-- Settles O21: each row under its conditions; a read of the calendar by whether its shadows are frozen. -/
theorem calendarTicksAndFreeze : Obligations.CalendarTicksAndFreeze := by
  refine ⟨⟨?tick, ?stopped, ?periodic, ?window, ?autotrim, ?xtal, ?load, ?refused, ?wday⟩, ?first, ?frozen, ?year, ?timeout⟩
  case tick => exact fun s stamp hs hl => exec_secondTick_runs stamp hs hl
  case stopped => exact fun s => s.calStopped_iff
  case periodic => exact fun s he hs hd => exec_periodicWakeExpiry_due he hs hd
  case window => exact fun s => rfl
  case autotrim => exact fun s rate hl hd => exec_autotrim_due hl hd
  case xtal => exact fun s hm => exec_xtalFail_up hm
  case load => exact fun s hc => exec_keepLoadTime_inRange hc
  case refused => exact fun s hc => exec_keepLoadTime_outOfRange hc
  case wday => exact fun s => rfl
  case first => exact fun s hf => exec_calendarReadFreeze_first hf
  case frozen => exact fun s hf => exec_calendarReadFreeze_frozen hf
  case year => exact fun s => rfl
  case timeout => exact fun s hd => exec_freezeTimeout_due hd

end Sys2Proof.Machine
end

section
/-! PTP time, its states and the pins (R568 to R577). -/

namespace Sys2Proof.Machine

open Sys2Proof

section
variable {s : State} {port : Nat}

/-! ### Announce (R568, R571, Table 15-2) -/

/-- The timebase that has heard a master of a rank on a port: the dataset comparison gives the slave port. -/
def TimeSt.ranked (t : TimeSt) (port rank : Nat) : TimeSt :=
  let u := if port = 0 then { t with rank0 := some rank } else { t with rank1 := some rank }
  { u with slave := u.choose }

@[simp] theorem TimeSt.ranked_ptp (t : TimeSt) (port rank : Nat) : (t.ranked port rank).ptp = t.ptp := by
  unfold TimeSt.ranked
  dsimp only
  split
  · rfl
  · rfl

theorem exec_ptpAnnounce_first {rank : Nat} (hp : s.ptpPort port = true) (hg : s.board.time.ptp ≠ .locking) (hl : s.board.time.ptp ≠ .locked) :
    exec (.ptpAnnounce port rank) s = .next (s.onTime (fun t => { t.ranked port rank with ptp := .locking, inN := 0, outN := 0 })) :=
  (if_neg (by simp [hp])).trans (congrArg Host.Outcome.next (State.onTime_congr (if_neg (by
    change ¬ ((s.board.time.ranked port rank).ptp = .locking ∨ (s.board.time.ranked port rank).ptp = .locked)
    simp [hg, hl]))))

theorem exec_ptpAnnounce_again {rank : Nat} (hp : s.ptpPort port = true) (ht : s.board.time.ptp = .locking ∨ s.board.time.ptp = .locked) :
    exec (.ptpAnnounce port rank) s = .next (s.onTime (fun t => t.ranked port rank)) :=
  (if_neg (by simp [hp])).trans (congrArg Host.Outcome.next (State.onTime_congr (if_pos (by
    change (s.board.time.ranked port rank).ptp = .locking ∨ (s.board.time.ranked port rank).ptp = .locked
    simpa using ht))))

/-! ### Sync (R569, R571, R572, R580) -/

theorem foldl_setReg_eq (l : List (Nat × Nat)) (s : State) :
    ∃ rs, l.foldl (fun s x => s.setReg x.1 x.2) s = { s with regs := rs } := by
  induction l generalizing s with
  | nil => exact ⟨s.regs, rfl⟩
  | cons x l ih =>
    obtain ⟨rs, hrs⟩ := ih (s.setReg x.1 x.2)
    exact ⟨rs, hrs⟩

/-- The writes that waited touch the registers alone. -/
theorem State.netTake_eq (s : State) : ∃ rs, s.netTake = ({ s with regs := rs } : State).onTime (fun t => { t with netNext := [] }) := by
  obtain ⟨rs, hrs⟩ := foldl_setReg_eq s.board.time.netNext s
  exact ⟨rs, congrArg (fun u : State => u.onTime (fun t => { t with netNext := [] })) hrs⟩

theorem State.netTake_up (h : s.netTake.ptpPort port = true) : (modeUp s.mode.mode && s.links.testBit port) = true := by
  obtain ⟨rs, hrs⟩ := s.netTake_eq
  rw [hrs] at h
  simp only [State.ptpPort, Bool.and_eq_true] at h
  obtain ⟨⟨⟨hm, -⟩, -⟩, hl⟩ := h
  exact Bool.and_eq_true_iff.2 ⟨hm, hl⟩

theorem State.netTake_none (h : s.board.time.netNext = []) : s.netTake = s := by
  simp only [State.netTake, h, List.foldl_nil]
  exact State.onTime_self (by rw [← h])

theorem State.netTake_time (s : State) : s.netTake.board.time = { s.board.time with netNext := [] } := by
  obtain ⟨rs, hrs⟩ := s.netTake_eq
  rw [hrs]
  rfl

/-- In LOCKED a Sync on the slave port stores the offset and corrects the frequency; the fourth one beyond 500 ns falls back to LOCKING. -/
theorem exec_ptpSync_locked {t1 t2 : Nat} (freq : Int) (hp : s.netTake.ptpPort port = true) (hs : s.board.time.slave = port)
    (hl : s.board.time.ptp = .locked) :
    exec (.ptpSync port (t1, t2) freq) s =
      (let offset : Int := (t2 : Int) - s.netTake.fld (0x320054 + 4 * port) 0 16 - t1 -
        (if port = 0 then s.board.time.delay0 else s.board.time.delay1)
      let inN := if offset.natAbs ≤ 50 then s.board.time.inN + 1 else 0
      let outN := if 500 < offset.natAbs then s.board.time.outN + 1 else 0
      let t := ((s.netTake.setReg 0x32004C (w32 offset)).onTime (fun t => { t with inN, outN })).ptpFreq freq
      .next (if 4 ≤ outN then t.onTime (fun t => { t with ptp := .locking, inN := 0, outN := 0 }) else t)) := by
  change execPtpSync port (t1, t2) freq s = _
  unfold execPtpSync
  rw [if_pos (State.netTake_up hp)]
  simp only [State.syncOffset, State.netTake_time, hp, hs, hl, beq_self_eq_true, Bool.or_true, Bool.and_self, Bool.not_true, if_true]
  rw [if_neg Bool.false_ne_true]
  exact (apply_ite Host.Outcome.next _ _ _).symm

theorem State.onTime_onTime (s : State) (f k : TimeSt → TimeSt) : (s.onTime f).onTime k = s.onTime (fun t => k (f t)) := rfl

/-- The clock is no part of the timebase that a servo corrects. -/
theorem State.ptpFreq_now (s : State) (f : Int) (k : TimeSt → TimeSt) : ((s.ptpFreq f).onTime k).now = s.now := rfl

/-- In LOCKING the sixteenth Sync in a row within 50 ns, itself within the step limit, locks. -/
theorem exec_ptpSync_locks {t1 t2 : Nat} (freq : Int) (hn : s.board.time.netNext = []) (hp : s.ptpPort port = true)
    (hs : s.board.time.slave = port) (hl : s.board.time.ptp = .locking) (h50 : (s.syncOffset port t1 t2).natAbs ≤ 50)
    (hstep : (s.syncOffset port t1 t2).natAbs ≤ s.fld 0x320040 16 16 * 1000) (h15 : 15 ≤ s.board.time.inN) :
    exec (.ptpSync port (t1, t2) freq) s =
      (let t := (s.setReg 0x32004C (w32 (s.syncOffset port t1 t2))).onTime (fun t => { t with inN := s.board.time.inN + 1, outN := 0 })
      .next (((t.ptpFreq freq).onTime (fun t => { t with stepPend := none, ptp := .locked, lockT := s.now, inN := 0, outN := 0 })).timeEvt 0)) := by
  have h500 : ¬ 500 < (s.syncOffset port t1 t2).natAbs := by omega
  have h16 : 16 ≤ s.board.time.inN + 1 := Nat.succ_le_succ h15
  have hup := State.netTake_up (s := s) (port := port) (by rw [State.netTake_none hn]; exact hp)
  change execPtpSync port (t1, t2) freq s = _
  unfold execPtpSync
  rw [if_pos hup, State.netTake_none hn]
  dsimp only
  rw [if_neg (by simp [hp, hs, hl]), if_neg (by simp [hl]), if_neg ?limit, if_pos h50, if_neg h500, if_pos h16]
  · rw [State.onTime_onTime, State.ptpFreq_now]
    rfl
  case limit =>
    change ¬ ((s.setReg 0x32004C (w32 (s.syncOffset port t1 t2))).fld 0x320040 16 16 * 1000 < _)
    rw [State.fld, State.setReg_reg_ne _ _ _ (by decide)]
    exact hstep.not_gt

/-! ### Delays (R568) -/

theorem exec_ptpDelayResp_port {d : Int × Int} (hp : s.ptpPort port = true) :
    exec (.ptpDelayResp port d) s =
      .next (s.onTime (fun t => if port = 0 then { t with delay0 := s.pathDelay port d.1 d.2 } else { t with delay1 := s.pathDelay port d.1 d.2 })) :=
  if_pos hp

theorem exec_ptpPdelayReq_peer (hp : s.ptpPort port = true) (hb : s.bit 0x320040 7 = true) :
    exec (.ptpPdelayReq port) s = .next { s with sent := .ptp port 3 :: .ptp port 2 :: s.sent } :=
  if_pos ⟨hp, hb⟩

theorem exec_ptpDelayReqSend_peer (hp : s.ptpPort port = true) (hb : s.bit 0x320040 7 = true) :
    exec (.ptpDelayReqSend port) s = .next { s with sent := .ptp port 1 :: s.sent } :=
  (if_neg (by simp [hp])).trans (if_pos hb)

theorem exec_ptpDelayReqSend_slave (hp : s.ptpPort port = true) (hb : s.bit 0x320040 7 = false) (hs : s.board.time.slave = port) :
    exec (.ptpDelayReqSend port) s = .next { s with sent := .ptp port 0 :: s.sent } :=
  (if_neg (by simp [hp])).trans ((if_neg (by simp [hb])).trans (if_pos hs))

/-! ### The states of the timebase (R571, R576) -/

/-- The last master is lost: HOLDOVER, the event and the fault (R571). -/
theorem exec_announceTimeout_slaved (hm : modeUp s.mode.mode = true) (ht : s.board.time.ptp = .locking ∨ s.board.time.ptp = .locked) :
    exec .announceTimeout s = .next ((((s.onTime (fun t =>
      { t with ptp := .holdover, slave := 3, rank0 := none, rank1 := none, holdT := s.now, inN := 0, outN := 0 })).bump 0x32006C 16 16).timeEvt 1).fault
        0x09 0x05) :=
  if_neg (by rcases ht with ht | ht <;> simp [hm, ht])

theorem exec_holdmaxExpiry_due (ok : Bool) (ht : s.board.time.ptp = .holdover)
    (hd : s.board.time.holdT + s.fld 0x320044 0 16 * 1000000000 ≤ s.now) :
    exec (.holdmaxExpiry ok) s =
      .next (if s.bit 0x320040 11 && ok then (s.onTime (fun t => { t with ptp := .mains, mainsT := s.now })).timeEvt 6
        else s.onTime (fun t => { t with ptp := .freerun })) :=
  (if_pos ⟨ht, hd⟩).trans (apply_ite Host.Outcome.next _ _ _).symm

theorem exec_mainsWindowEnd_due {count : Nat} (ht : s.board.time.ptp = .mains) (hd : s.board.time.mainsT + 600000000000 ≤ s.now) :
    exec (.mainsWindowEnd count) s =
      (let nom : Int := if s.bit 0x320040 12 then 36000 else 30000
      .next ((s.onTime (fun t => { t with mainsT := s.now })).ptpFreq (s.board.time.freq + rdiv (((count : Int) - nom) * 1000000000) nom))) :=
  if_pos ⟨ht, hd⟩

theorem exec_mainsRefInvalid_mains (ht : s.board.time.ptp = .mains) :
    exec .mainsRefInvalid s = .next ((s.onTime (fun t => { t with ptp := .freerun })).fault 0x09 0x07) :=
  if_pos ht

/-! ### A step of PTP time (R572) -/

theorem State.regrid_chan (s : State) (c d : ChanNo) :
    ((s.regrid c).chan d).loop = (s.chan d).loop ∧ ((s.regrid c).chan d).prog = (s.chan d).prog := by
  by_cases h : d = c
  · subst h
    rw [State.regrid, State.onMeas_chan]
    exact ⟨rfl, rfl⟩
  · rw [State.regrid, State.onMeas_chan_ne _ _ h]
    exact ⟨rfl, rfl⟩

/-- On every channel of the list the running output window has no end. -/
theorem State.forChans_regrid_winEnd (s : State) {l : List ChanNo} {c : ChanNo} (hc : c ∈ l) :
    ((s.forChans l State.regrid).chan c).meas.winEnd = none := by
  induction l using List.reverseRecOn with
  | nil => cases hc
  | append_singleton l d ih =>
    rw [State.forChans_concat]
    by_cases hd : c = d
    · subst hd
      rw [State.regrid, State.onMeas_chan]
    · rw [State.regrid, State.onMeas_chan_ne _ _ hd]
      exact ih ((List.mem_append.1 hc).resolve_right (fun h => hd (List.mem_singleton.1 h)))

/-- The state whose clock has stepped and whose windows stand on the new grid (R204, R572). -/
def State.regridded (s : State) (d : Int) : State := ({ s with ptp := ((s.ptp : Int) + d).toNat } : State).forChans allChans State.regrid

/-- What no step of one channel's grid changes, the step of all leaves as the new time finds it. -/
theorem State.regridded_fixes {β : Type} (p : State → β) (s : State) (d : Int) (hp : ∀ c u, p (State.regrid c u) = p u) :
    p (s.regridded d) = p { s with ptp := ((s.ptp : Int) + d).toNat } :=
  State.forChans_fixes p _ _ hp

/-- A step leaves every channel's loop and program; its output window ends at a point of the new grid (R204). -/
theorem State.regridded_chan (s : State) (d : Int) (c : ChanNo) : ((s.regridded d).chan c).loop = (s.chan c).loop ∧
    ((s.regridded d).chan c).prog = (s.chan c).prog ∧ ((s.regridded d).chan c).meas.winEnd = none := by
  refine ⟨State.regridded_fixes (fun u => (u.chan c).loop) s d (fun e u => (u.regrid_chan e c).1),
    State.regridded_fixes (fun u => (u.chan c).prog) s d (fun e u => (u.regrid_chan e c).2), ?_⟩
  unfold State.regridded
  exact State.forChans_regrid_winEnd _ (by unfold allChans; exact List.mem_finRange c)

/-- The timebase has stepped, and PTP_STEP and its count say so. -/
def State.stepNoted (s : State) (d : Int) : State :=
  ((s.onTime (fun t => { t with stepPend := none, tunsync := true, pairLive := false })).setReg 0x320068 (w32 (tdiv d 1000))).bump 0x32006C 0 16

theorem State.ptpStep_eq (s : State) (d : Int) : s.ptpStep d = ((s.regridded d).stepNoted d).fault 0x09 0x06 := by
  simp only [State.ptpStep, State.regridded, State.stepNoted]

theorem State.setReg_boardOnly (s : State) (a w : Nat) : BoardOnly s (s.setReg a w) := rfl

theorem State.stepNoted_boardOnly (s : State) (d : Int) : BoardOnly s (s.stepNoted d) :=
  ((State.onBoard_boardOnly _ _).trans (State.setReg_boardOnly _ _ _)).trans (State.bump_boardOnly _ _ _ _)

theorem State.stepNoted_stepPend (s : State) (d : Int) : (s.stepNoted d).board.time.stepPend = none := by
  simp [State.stepNoted, State.bump, State.setFld, State.onTime]

theorem State.chan_congr {s t : State} (h : t.chans = s.chans) (c : ChanNo) : t.chan c = s.chan c := by
  simp only [State.chan, h]

/-- What a fault leaves after work on the board: the clock, the Gathers, the queues and the channels; the fault joins those that wait (R673). -/
theorem BoardOnly.fault {s t : State} (h : BoardOnly s t) (uu cc : Nat) : (t.fault uu cc).ptp = s.ptp ∧
    (t.fault uu cc).col.fifo = s.col.fifo ++ [{ uu, cc, time := s.ptp }] ∧ (t.fault uu cc).gathers = s.gathers ∧
    (t.fault uu cc).queues = s.queues ∧ (t.fault uu cc).chans = s.chans := by
  rw [h]
  exact ⟨rfl, rfl, rfl, rfl, rfl⟩

/-- What a step of PTP time leaves: the new time, a PTP_STEP fault, no pending step, and every channel but for its window. -/
theorem State.ptpStep_effect (s : State) (d : Int) : (s.ptpStep d).ptp = ((s.ptp : Int) + d).toNat ∧ (s.ptpStep d).board.time.stepPend = none ∧
    (∃ f, (s.ptpStep d).col.fifo = s.col.fifo ++ [f] ∧ f.uu = 0x09 ∧ f.cc = 0x06) ∧ (s.ptpStep d).gathers = s.gathers ∧
    (s.ptpStep d).queues = s.queues ∧ ∀ c : ChanNo, ((s.ptpStep d).chan c).loop = (s.chan c).loop ∧
      ((s.ptpStep d).chan c).prog = (s.chan c).prog ∧ ((s.ptpStep d).chan c).meas.winEnd = none := by
  have hptp := State.regridded_fixes State.ptp s d (fun c u => u.onChan_ptp c _)
  have hcol := State.regridded_fixes State.col s d (fun c u => u.onChan_col c _)
  have hgathers := State.regridded_fixes State.gathers s d (fun c u => u.onChan_gathers c _)
  have hqueues := State.regridded_fixes State.queues s d (fun c u => u.onChan_queues c _)
  have hpend := (s.regridded d).stepNoted_stepPend d
  obtain ⟨fptp, ffifo, fgathers, fqueues, fchans⟩ := ((s.regridded d).stepNoted_boardOnly d).fault 0x09 0x06
  rw [State.ptpStep_eq]
  refine ⟨fptp.trans hptp, hpend, ⟨_, ffifo.trans (by rw [hcol]), rfl, rfl⟩, fgathers.trans hgathers, fqueues.trans hqueues, fun c => ?_⟩
  rw [State.chan_congr fchans]
  exact s.regridded_chan d c

theorem exec_backwardStep_due {d : Int} (hd : s.board.time.stepPend = some d) (he : s.execMask = 0) (hl : s.board.time.ptp = .locking) :
    exec .backwardStep s = .next (s.ptpStep (-d)) := by
  change execBackwardStep s = _
  simp only [execBackwardStep, hd]
  exact if_pos ⟨he, hl⟩

/-! ### The stored pair and the pins (R575, R577) -/

/-- The pair that is stored is that of the present moment. -/
theorem State.nextPair_now (s : State) : s.nextPair.count = s.elapsed ∧ s.nextPair.ptp = s.ptp := by
  unfold State.nextPair
  split
  · dsimp only
    split
    · exact ⟨rfl, rfl⟩
    · exact ⟨rfl, rfl⟩
  · exact ⟨rfl, rfl⟩

theorem exec_elapsedPairStore_due (hv : s.board.ptpValid = true) (hm : modeUp s.mode.mode = true) (hd : s.pairDue = true) :
    exec .elapsedPairStore s = .next (s.onTime (fun t => { t with pair := some s.nextPair, pairLive := true, rcond := !t.xtalBad })) :=
  if_pos (by simp [hv, hm, hd])

theorem exec_ppsOut_rises (hm : modeUp s.mode.mode = true) (hb : s.bit 0x32005C 0 = true) (hv : s.board.ptpValid = true)
    (hn : s.board.time.ppsHigh ≠ some (s.ptp / 1000000000 * 1000000000)) :
    exec .ppsOut s = .next (s.onTime (fun t => { t with ppsHigh := some (s.ptp / 1000000000 * 1000000000) })) :=
  if_pos (by simp [hm, hb, hv, hn])

theorem exec_ppsIn_enabled (hm : modeUp s.mode.mode = true) (hb : s.bit 0x32005C 1 = true) :
    exec .ppsIn s = .next ((s.setReg 0x320060 s.ptp).setReg 0x320064 (s.ptp / 4294967296)) :=
  if_pos (by simp [hm, hb])

end

/-- Settles O23: each row under its conditions; a Sync by the state of the timebase, a backward step by what it leaves of each part. -/
theorem ptpAndTimebase : Obligations.PtpAndTimebase := by
  refine ⟨⟨?first, ?again, ?locked, ?locks, ?delay, ?pdelay, ?peer, ?slave⟩, ?lost, ?holdmax, ?back, ?pair, ?mains, ?invalid, ?ppsOut, ?ppsIn⟩
  case first => exact fun s port rank hp hg hl => exec_ptpAnnounce_first hp hg hl
  case again => exact fun s port rank hp ht => exec_ptpAnnounce_again hp ht
  case locked => exact fun s port t1 t2 freq hp hs hl => exec_ptpSync_locked freq hp hs hl
  case locks => exact fun s port t1 t2 freq hn hp hs hl h50 hstep h15 => exec_ptpSync_locks freq hn hp hs hl h50 hstep h15
  case delay => exact fun s port there back hp => exec_ptpDelayResp_port hp
  case pdelay => exact fun s port hp hb => exec_ptpPdelayReq_peer hp hb
  case peer => exact fun s port hp hb => exec_ptpDelayReqSend_peer hp hb
  case slave => exact fun s port hp hb hs => exec_ptpDelayReqSend_slave hp hb hs
  case lost => exact fun s hm ht => exec_announceTimeout_slaved hm ht
  case holdmax => exact fun s ok ht hd => exec_holdmaxExpiry_due ok ht hd
  case back => exact fun s d hd he hl => ⟨_, exec_backwardStep_due hd he hl, s.ptpStep_effect _⟩
  case pair => exact fun s hv hm hd => ⟨exec_elapsedPairStore_due hv hm hd, s.nextPair_now⟩
  case mains => exact fun s count ht hd => exec_mainsWindowEnd_due ht hd
  case invalid => exact fun s ht => exec_mainsRefInvalid_mains ht
  case ppsOut => exact fun s hm hb hv hn => exec_ppsOut_rises hm hb hv hn
  case ppsIn => exact fun s hm hb => exec_ppsIn_enabled hm hb

end Sys2Proof.Machine
end

section
/-! The watchdogs, the event router and the house key's lock (R651, R657 to R671, R687). -/

namespace Sys2Proof.Machine

open Sys2Proof

section
variable {s : State} {w : Fin 5}

/-! ### Watchdogs (R657 to R663) -/

/-- The written PERIOD and WSTART come into force (R658). -/
def State.wdgWritten (s : State) (w : Fin 5) : State :=
  let a := match s.wdg[w].newPer with | some p => s.setFld (wdgA w 0) 16 14 p | none => s
  match s.wdg[w].newWin with | some p => a.setFld (wdgA w 0) 8 4 p | none => a

/-- A kick in the window restarts the period (R658). -/
theorem exec_wdgKick_open (hb : s.bit (wdgA w 0) 0 = true) (hm : modeUp s.mode.mode = true) (ho : s.wdgOpen w = true) :
    exec (.wdgKick w 0x4B43) s =
      .next ((s.wdgWritten w).onWdg w (fun x => { x with base := (s.wdgWritten w).now, newPer := none, newWin := none })) :=
  (if_neg (by simp [hb, hm])).trans (if_pos ⟨rfl, ho⟩)

/-- Any other kick expires the watchdog (R659). -/
theorem exec_wdgKick_wrong {v : BitVec 16} (hb : s.bit (wdgA w 0) 0 = true) (hm : modeUp s.mode.mode = true)
    (hv : v ≠ 0x4B43#16 ∨ s.wdgOpen w = false) : exec (.wdgKick w v) s = .next ((s.setBit (wdgA w 0xC) 4).wdgExpire w) :=
  (if_neg (by simp [hb, hm])).trans (if_neg (fun h => hv.elim (· h.1) (fun hc => by simp [hc] at h)))

theorem exec_wdgKey_locked {v : BitVec 16} (hb : s.bit (wdgA w 0) 2 = true) : exec (.wdgKey w v) s = .next s := if_pos hb

section
variable (hb : s.bit (wdgA w 0) 2 = false)

include hb

theorem exec_wdgKey_first : exec (.wdgKey w 0x4449) s = .next (s.onWdg w (fun x => { x with keyT := some s.now })) :=
  (if_neg (by simp [hb])).trans (if_pos rfl)

/-- The second key within 1 µs of the first clears EN (R663). -/
theorem exec_wdgKey_second {t : Nat} (ht : s.wdg[w].keyT = some t) (hd : s.now ≤ t + 1000) :
    exec (.wdgKey w 0x5341) s = .next ((s.onWdg w (fun x => { x with keyT := none })).setFld (wdgA w 0) 0 1 0) := by
  refine (if_neg (by simp [hb])).trans ((if_neg (by decide)).trans (congrArg Host.Outcome.next (if_pos ⟨rfl, ?_⟩)))
  simp only [ht, hd, decide_true]

/-- Any other value forgets the first key. -/
theorem exec_wdgKey_other {v : BitVec 16} (h1 : v ≠ 0x4449#16) (h2 : v ≠ 0x5341#16) :
    exec (.wdgKey w v) s = .next (s.onWdg w (fun x => { x with keyT := none })) :=
  (if_neg (by simp [hb])).trans ((if_neg h1).trans (congrArg Host.Outcome.next (if_neg (fun h => h2 h.1))))

end

theorem exec_wdgExpiry_due (hm : modeUp s.mode.mode = true) (hb : s.bit (wdgA w 0) 0 = true) (hd : s.wdg[w].base + s.wdgPeriod w ≤ s.now) :
    exec (.wdgExpiry w) s = .next (s.wdgExpire w) :=
  if_pos (Bool.and_eq_true_iff.2 ⟨Bool.and_eq_true_iff.2 ⟨hm, hb⟩, decide_eq_true hd⟩)

/-- The hard timer's end resets the core; WDG4's is a warm reset, in LEHR its hardware end (R660, R661). -/
theorem exec_wdgHard_due {t : Nat} (ht : s.wdg[w].hard = some t) (hd : t + 64000000 ≤ s.now) (hm : modeUp s.mode.mode = true) :
    exec (.wdgHard w) s =
      (let r := s.onWdg w (fun x => { x with hard := none, trap := false })
      .next (if w = 4 then (if s.mode.mode = .lehr then (r.keepFault 0x0E03).lehrAbort else (r.keepFault 0x0E03).warmReset 7)
        else (r.fault 0x0D 0x03).coreReset w)) := by
  change execWdgHard w s = _
  simp only [execWdgHard, ht]
  refine (if_pos ⟨hd, hm⟩).trans ?_
  by_cases hw : w = 4
  · subst hw
    exact (if_pos rfl).trans (congrArg Host.Outcome.next (if_pos rfl).symm)
  · exact (if_neg (fun h => hw (Fin.ext h))).trans (congrArg Host.Outcome.next (if_neg hw).symm)

theorem exec_wdgClock_up (hm : modeUp s.mode.mode = true) :
    exec (.wdgClock w) s =
      (let r := s.setFld (wdgA w 0) 1 1 (1 - s.fld (wdgA w 0) 1 1)
      .next (((r.setBit (wdgA w 0xC) 2).fault 0x0D 0x07).wdgExpire w)) :=
  whileUp_next hm

/-! ### Event router and house key (R651, R665 to R671, R687) -/

/-- A source that may be delivered is pending, unclaimed and routed to the core; without the grace of R668 it is enabled (R666, R667). -/
theorem State.deliverable_needs {core : Nat} {g : Bool} {x : EvrSrc} (h : s.deliverable core g x = true) :
    x.pend = true ∧ x.claimed = none ∧ bitsOf (s.srcReg x.id) 0 2 = core ∧ (g = false → (s.srcReg x.id).testBit 5 = true) := by
  simp only [State.deliverable, Bool.and_eq_true, Bool.or_eq_true, Option.isNone_iff_eq_none, beq_iff_eq] at h
  obtain ⟨⟨⟨⟨hp, hc⟩, hr⟩, he⟩, -⟩ := h
  exact ⟨hp, hc, hr, fun hg => he.resolve_right (fun hgrace => by simp [hg] at hgrace)⟩

theorem exec_nvmHkctlHken_service (hm : s.mode.mode = .service) (hr : s.nvm.roMask.testBit 0 = false) :
    exec .nvmHkctlHken s = .next { s with nvm := { s.nvm with hken := true } } :=
  if_pos ⟨hm, by simp [hr]⟩

end

/-- Settles O36: kicks and keys by their values, the timers by their due times, the router by its own operations. -/
theorem watchdogsAndRouter : Obligations.WatchdogsAndRouter := by
  refine ⟨⟨?kick, ?locked, ?key, ?lock, ?expiry, ?hard, ?clock⟩, ?accept, ?deliver, ?claim, ?complete, ?deliverable, ?house⟩
  case kick => exact fun s w hb hm => ⟨fun ho => exec_wdgKick_open hb hm ho, fun v hv => exec_wdgKick_wrong hb hm hv⟩
  case locked => exact fun s w v hb => exec_wdgKey_locked hb
  case key =>
    exact fun s w hb => ⟨exec_wdgKey_first hb, fun t ht _ hd => exec_wdgKey_second hb ht hd, fun v h1 h2 => exec_wdgKey_other hb h1 h2⟩
  case lock => exact fun s w => rfl
  case expiry => exact fun s w hm hb hd => exec_wdgExpiry_due hm hb hd
  case hard => exact fun s w t ht hd hm => exec_wdgHard_due ht hd hm
  case clock => exact fun s w hm => exec_wdgClock_up hm
  case accept => exact fun s n level => rfl
  case deliver => exact fun s c => rfl
  case claim => exact fun s c => rfl
  case complete => exact fun s c n => rfl
  case deliverable => exact fun s c g x h => State.deliverable_needs h
  case house => exact fun s hm hr => exec_nvmHkctlHken_service hm hr

end Sys2Proof.Machine
end

section
/-! The tray bus, its target and its identity polls (R619 to R637, Tables 17-4 and 17-5). -/

namespace Sys2Proof.Machine

open Sys2Proof

section
variable {s u : State} {p : Fin 4}

/-! ### A port's state -/

@[simp] theorem State.onPort_port (s : State) (p : Fin 4) (f : TrayPort → TrayPort) : (s.onPort p f).port p = f (s.port p) := by
  simp [State.onPort, State.port]

theorem State.onPort_polls (s : State) (p : Fin 4) (l : List (Nat × Nat)) (n : Nat) :
    ((s.onPort p (fun t => { t with polls := l, pollT := n })).port p).polls = l := by
  rw [State.onPort_port]

theorem State.takeCfg_port (s : State) (p : Fin 4) : (s.takeCfg p).port p = { s.port p with cfg := none } := by
  unfold State.takeCfg
  split
  next v hv => rw [State.onPort_port]; rfl
  next hv => rw [← hv]

theorem State.takeCfg_now (s : State) (p : Fin 4) : (s.takeCfg p).now = s.now := by
  unfold State.takeCfg
  split
  · rfl
  · rfl

/-- What was written to TRAY_CFG leaves the bus as free as it was. -/
@[simp] theorem State.takeCfg_busFree (s : State) (p : Fin 4) : (s.takeCfg p).busFree p = s.busFree p := by
  simp only [State.busFree, State.takeCfg_port, State.takeCfg_now]

theorem State.atFree_free (hf : s.busFree p = true) : s.atFree p = s.takeCfg p := if_pos hf

theorem State.busFree_active (hf : s.busFree p = true) : (s.port p).active = none := by
  simp only [State.busFree, Bool.and_eq_true, Option.isNone_iff_eq_none] at hf
  exact hf.1

/-! ### GO and ABORT (R620, Table 17-4) -/

theorem exec_go_busy (h : s.fld (trA p 8) 0 2 = 1 ∨ s.fld (trA p 8) 0 2 = 2) : exec (.go p) s = .next (s.setBit (trA p 0x84) 3) :=
  if_pos h

theorem exec_go_idle (h : s.fld (trA p 8) 0 2 = 0 ∨ s.fld (trA p 8) 0 2 = 3) :
    exec (.go p) s = .next ((s.setReg (trA p 8) 1).onPort p (fun t => { t with xferReq := true, abort := false })) :=
  if_neg (by rcases h with h | h <;> simp [h])

theorem exec_abort_running (h : (s.port p).active = some .xfer) : exec (.abort p) s = .next (s.onPort p (fun t => { t with abort := true })) :=
  if_pos h

theorem exec_abort_waiting (ha : (s.port p).active = none) (hr : (s.port p).xferReq = true) : exec (.abort p) s = .next (s.xferEnd p 7 []) :=
  (if_neg (by simp [ha])).trans (if_pos hr)

/-! ### The start of a transfer (R619, R620) -/

/-- The bus is free, and the port is driven and not locked. -/
structure State.MayStart (u : State) (p : Fin 4) : Prop where
  free : u.busFree p = true
  on : (u.takeCfg p).portOn p = true
  lock : (u.takeCfg p).busLock p = false

/-- The transfer of highest precedence takes a free bus; one through TRAY_XCTL shows there that it runs. -/
theorem exec_trayTransferStart_next {v : State} {j : TrayJob} (h : u.MayStart p) (hj : (u.takeCfg p).nextJob p = (some j, v))
    (hl : v.busLock p = false) :
    exec (.trayTransferStart p) u =
      (let t := v.onPort p (fun t => { t with active := some j })
      .next (if j = .xfer then t.setFld (trA p 8) 0 2 2 else t)) := by
  have hfree : (u.takeCfg p).busFree p = true := by rw [State.takeCfg_busFree, h.free]
  change execTrayTransferStart p u = _
  unfold execTrayTransferStart
  rw [State.atFree_free h.free]
  rw [if_neg (by simp [h.on, hfree, State.busFree_active hfree])]
  simp only [hj]
  rw [if_neg (by simp [hl])]

theorem State.nextJob_alert (ha : (s.port p).alertReq = true) :
    s.nextJob p = (some .alert, s.onPort p (fun t => { t with alertReq := false })) :=
  if_pos ha

theorem State.nextJob_xfer (ha : (s.port p).alertReq = false) (hx : (s.port p).xferReq = true) :
    s.nextJob p = (some .xfer, s.onPort p (fun t => { t with xferReq := false })) :=
  (if_neg (by simp [ha])).trans (if_pos hx)

theorem State.nextJob_poll {a o : Nat} {l : List (Nat × Nat)} (ha : (s.port p).alertReq = false) (hx : (s.port p).xferReq = false)
    (hl : (s.port p).polls = (a, o) :: l) : s.nextJob p = (some (.poll a o), s.onPort p (fun t => { t with polls := l })) := by
  simp only [State.nextJob, ha, hx, hl, Bool.false_eq_true, if_false]

/-! ### The end of a transfer (R621 to R624) -/

theorem exec_trayTransferEnd_running {j : TrayJob} (r : Fin 8) (d : List Byte) (h : (s.port p).active = some j) :
    exec (.trayTransferEnd p r d) s = .next (s.jobEnd p j r.val d) := by
  change execTrayTransferEnd p r d s = _
  simp only [execTrayTransferEnd, h]

theorem exec_trayTimeout_running {j : TrayJob} (h : (s.port p).active = some j) :
    exec (.trayTimeout p) s = .next (((s.jobEnd p j 4 []).setBit (trA p 0x84) 0).fault 0x04 0x01) := by
  change execTrayTimeout p s = _
  simp only [execTrayTimeout, h]

/-- Up to the third loss a transfer through TRAY_XCTL waits again (R624). -/
theorem exec_arbLost_xfer {a : BitVec 7} {l : List Byte} (h : (s.port p).active = some .xfer) (hn : (s.port p).losses < 3) :
    exec (.arbLost p a l) s =
      (let n := (s.port p).losses + 1
      let t := ((((s.bump (trA p 0x84) 16 16).setFld (trA p 8) 16 3 n).mailbox p a.toNat l true).stopSeen p).onPort p
        (fun t => { t with active := none, losses := n })
      .next ((t.setFld (trA p 8) 0 2 1).onPort p (fun t => { t with xferReq := true }))) := by
  change execArbLost p a l s = _
  simp only [execArbLost, h, if_true]
  exact if_neg (by omega)

theorem exec_trayStuck_idle (freed : Bool) (ho : s.portOn p = true) (ha : (s.port p).active = none) (hl : s.busLock p = false) :
    exec (.trayStuck p freed) s = .next (if freed then s.stopSeen p
      else ((s.setBit (trA p 0x84) 1).onPort p (fun t => { t with lockT := s.now })).fault 0x04 0x02) :=
  (if_neg (by simp [ho, ha, hl])).trans (apply_ite Host.Outcome.next _ _ _).symm

theorem exec_buslockRetry_due (freed : Bool) (hl : s.busLock p = true) (hd : (s.port p).lockT + 1000000000 ≤ s.now) :
    exec (.buslockRetry p freed) s = .next (if freed then (s.setFld (trA p 0x84) 1 1 0).stopSeen p
      else s.onPort p (fun t => { t with lockT := s.now })) :=
  (if_neg (by simp [hl, hd])).trans (apply_ite Host.Outcome.next _ _ _).symm

/-! ### The target and the alerts (R625 to R629) -/

/-- A write to OWNADDR with the target on reaches the mailbox: a full one sets the overrun, an empty one is filled (R626, R627). -/
theorem State.mailbox_own {addr : Nat} {l : List Byte} (ht : s.bit (trA p 0) 11 = true) (ha : s.fld (trA p 0) 4 7 = addr) (hl : l ≠ []) :
    s.mailbox p addr l false = if s.bit (trA p 0x40) 6 then s.setBit (trA p 0x40) 8
      else ((s.putWords (trA p 0x60) (l.take 32)).setFld (trA p 0x40) 0 6 (Nat.min 32 l.length)).setBit (trA p 0x40) 6 := by
  unfold State.mailbox
  rw [if_neg (by simp [ht, ha, hl])]
  dsimp only
  rw [List.length_take, if_neg Bool.false_ne_true]

theorem exec_targetWrite_idle {a : BitVec 7} {l : List Byte} (ho : (u.atFree p).portOn p = true) (hn : ((u.atFree p).port p).active = none) :
    exec (.targetWrite p a l) u = .next (((u.atFree p).mailbox p a.toNat l false).stopSeen p) :=
  if_pos ⟨ho, by simp [hn]⟩

theorem exec_alert_on {a : Option (BitVec 7)} (ho : (u.atFree p).portOn p = true) :
    exec (.alert p a) u = .next ((u.atFree p).alertSeen p (a.map BitVec.toNat)) :=
  if_pos ho

theorem exec_alertReread_due {a : Option (BitVec 7)} {e : Nat} (ho : (u.atFree p).portOn p = true) (he : ((u.atFree p).port p).alertT = some e)
    (hd : e + (if ((u.atFree p).port p).round then 100000 else 1000000000) ≤ (u.atFree p).now) :
    exec (.alertReread p a) u = .next ((u.atFree p).alertSeen p (a.map BitVec.toNat)) := by
  change execAlertReread p a u = _
  simp only [execAlertReread, he]
  exact if_pos ⟨ho, hd⟩

/-! ### Identities (R630, R632) -/

section
variable {α β : Type} [BEq β] [LawfulBEq β]

/-- Join the keys of the elements that a test admits to a list, each key once. -/
def joinKeys (test : α → Bool) (key : α → β) (l : List β) (as : List α) : List β :=
  as.foldl (fun l a => if test a && !l.contains (key a) then l ++ [key a] else l) l

omit [LawfulBEq β] in
theorem prefix_joinKeys (test : α → Bool) (key : α → β) (l : List β) (as : List α) : l <+: joinKeys test key l as := by
  induction as generalizing l with
  | nil => exact List.prefix_rfl
  | cons a as ih =>
    refine List.IsPrefix.trans ?_ (ih _)
    dsimp only
    split
    · exact List.prefix_append _ _
    · exact List.prefix_rfl

/-- The key of every admitted element is in the list. -/
theorem mem_joinKeys {test : α → Bool} {key : α → β} {a : α} (ht : test a = true) {as : List α} (l : List β) (ha : a ∈ as) :
    key a ∈ joinKeys test key l as := by
  induction as generalizing l with
  | nil => cases ha
  | cons b as ih =>
    rcases List.mem_cons.1 ha with rfl | ha
    · refine (prefix_joinKeys test key _ as).subset ?_
      dsimp only
      split
      · exact List.mem_append_right _ (List.mem_singleton_self _)
      next hn => simpa [ht] using hn
    · exact ih _ ha

end

theorem mem_allChans (c : ChanNo) : c ∈ allChans := by
  unfold allChans
  exact List.mem_finRange c

/-- A channel's identity map names a port (R630). -/
def State.mapsTo (s : State) (p : Fin 4) (c : ChanNo) : Bool :=
  (s.reg (0x080400 + 4 * c.val)).testBit 2 && bitsOf (s.reg (0x080400 + 4 * c.val)) 0 2 == p.val

/-- The identity that a channel's map names: the target's address and the offset there. -/
def State.fixKey (s : State) (c : ChanNo) : Nat × Nat := (s.fld (0x080400 + 4 * c.val) 3 7, s.fld (0x080400 + 4 * c.val) 16 8)

/-- After each interval the identities mapped to the port join its polls, each once (R632). -/
theorem exec_idpoll_due (ho : (u.atFree p).portOn p = true) (hi : (u.atFree p).fld (trA p 0) 16 8 ≠ 0)
    (hd : ((u.atFree p).port p).pollT + 100000000 * (u.atFree p).fld (trA p 0) 16 8 ≤ (u.atFree p).now) :
    exec (.idpoll p) u =
      (let s := u.atFree p
      .next (s.onPort p (fun x => { x with polls := joinKeys (s.mapsTo p) s.fixKey (s.port p).polls allChans, pollT := s.now }))) :=
  if_neg (by simp [ho, hi, hd])

theorem exec_identityReadDone_running {a o : Nat} {v : Option (BitVec 64)} (h : (s.port p).active = some (.poll a o)) :
    exec (.identityReadDone p a o v) s =
      .next (((s.onPort p (fun t => { t with active := none, losses := 0 })).stopSeen p).identityEnd p a o (v.map BitVec.toNat)) :=
  if_pos h

end

/-- Settles O40: each row under its conditions; the start by the three kinds of transfer in their order, a poll by the list that it joins. -/
theorem trayBusAndTargets : Obligations.TrayBusAndTargets := by
  refine ⟨⟨?go, ?abort, ?start, ?ends, ?lost, ?stuck, ?retry⟩, ?target, ?clear, ?alert, ?poll, ?read⟩
  case go => exact fun s p => ⟨exec_go_busy, exec_go_idle⟩
  case abort => exact fun s p => ⟨exec_abort_running, exec_abort_waiting⟩
  case start =>
    intro u p s hf ho hl
    have hs : u.MayStart p := ⟨hf, ho, hl⟩
    refine ⟨fun ha => ?alerts, fun ha hx => ?xfers, fun a o l ha hx hp => ?polls⟩
    case alerts => exact exec_trayTransferStart_next hs (State.nextJob_alert ha) hl
    case xfers => exact exec_trayTransferStart_next hs (State.nextJob_xfer ha hx) hl
    case polls => exact exec_trayTransferStart_next hs (State.nextJob_poll ha hx hp) hl
  case ends => exact fun s p j h => ⟨fun r d => exec_trayTransferEnd_running r d h, exec_trayTimeout_running h⟩
  case lost => exact fun s p a l h hn => exec_arbLost_xfer h hn
  case stuck => exact fun s p ho ha hl => ⟨exec_trayStuck_idle true ho ha hl, exec_trayStuck_idle false ho ha hl⟩
  case retry => exact fun s p hl hd => ⟨exec_buslockRetry_due true hl hd, exec_buslockRetry_due false hl hd⟩
  case target =>
    intro u p l s ho hn ht hl hw a
    have haddr : s.fld (trA p 0) 4 7 = a.toNat := by
      rw [BitVec.toNat_ofNat]
      exact (Nat.mod_eq_of_lt hw).symm
    have hbox := State.mailbox_own ht haddr hl
    refine ⟨fun hfull => ?full, fun hempty => ?empty⟩
    case full => rw [exec_targetWrite_idle ho hn, hbox, if_pos hfull]
    case empty => rw [exec_targetWrite_idle ho hn, hbox, if_neg (by simp [hempty])]
  case clear => exact fun s p => rfl
  case alert => exact fun u p a ho => ⟨exec_alert_on ho, fun e he hd => exec_alertReread_due ho he hd⟩
  case poll =>
    intro u p s ho hi hd
    refine ⟨_, exec_idpoll_due ho hi hd, ?_⟩
    rw [State.onPort_polls]
    exact ⟨rfl, prefix_joinKeys _ _ _ _, fun c hb hp => mem_joinKeys (by simpa [State.mapsTo] using ⟨hb, hp⟩) _ (mem_allChans c)⟩
  case read => exact fun s p a o v h => exec_identityReadDone_running h

end Sys2Proof.Machine
end

section
/-! Ledger events: recovery without a drive, seal ticks, reclaim, drive errors and the end of a resilvering (R478 to R513). -/

namespace Sys2Proof.Machine

open Sys2Proof

/-- A fold changes nothing that no step of it changes. -/
theorem foldl_fixes {α β γ : Type} (v : α → γ) {f : α → β → α} (h : ∀ s a, v (f s a) = v s) (l : List β) (s : α) :
    v (l.foldl f s) = v s :=
  (List.foldl_hom v (g₁ := f) (g₂ := fun x _ => x) (fun s a => (h s a).symm)).symm.trans (List.foldl_fixed l)

section
variable {s : State} {d : Fin 4}

/-! ### Recovery (R489, R508) -/

theorem exec_ledgerRecovery_done (l : List DriveFound) (j k : List Nat) (torn : Bool) (h : s.led.st ≠ .discovering) :
    exec (.ledgerRecovery l j k torn) s = .next s :=
  if_pos h

/-- No drive is there. -/
def NoDrive (l : List DriveFound) : Prop := ∀ f ∈ l, f.present = false

theorem NoDrive.getD {l : List DriveFound} (h : NoDrive l) (d : Nat) : (l.getD d {}).present = false := by
  rcases Nat.lt_or_ge d l.length with hd | hd
  · rw [List.getD_eq_getElem _ _ hd]
    exact h _ (List.getElem_mem hd)
  · rw [List.getD_eq_default _ _ hd]

/-- What stands on the links that have lanes. -/
theorem NoDrive.lanes {l : List DriveFound} (h : NoDrive l) (bf : Nat) :
    NoDrive ((List.range 4).map (fun d => if laneOk bf d then l.getD d {} else {})) := by
  intro f hf
  obtain ⟨d, -, rfl⟩ := List.mem_map.1 hf
  split
  · exact h.getD d
  · rfl

theorem NoDrive.no_size_fault {l : List DriveFound} (h : NoDrive l) : l.any (fun f => f.present && !f.lbaOk) = false :=
  List.any_eq_false.2 (fun f hf => by simp [h f hf])

/-- Without a drive, discovery ends FAILED (R489). -/
theorem NoDrive.discover {l : List DriveFound} (h : NoDrive l) (m : Ledger) : m.discover l = .failed := by
  have hu : (List.range 4).filter (usable l) = [] := List.filter_eq_nil_iff.2 (fun d _ => by simp [usable, h.getD d, -List.getD_eq_getElem?_getD])
  unfold Ledger.discover
  simp only [hu, List.isEmpty_nil, if_true]

/-- The mode and what the board holds. -/
def State.modeBoard (s : State) : ModeSt × Board := (s.mode, s.board)

theorem State.useSpare_modeBoard (s : State) : s.useSpare.modeBoard = s.modeBoard := by
  unfold State.useSpare
  dsimp only
  split
  · rfl
  · rfl

theorem State.retireRow_modeBoard (s : State) (region row : Nat) : (s.retireRow region row).1.modeBoard = s.modeBoard := by
  unfold State.retireRow
  split
  · rfl
  · exact s.useSpare_modeBoard

/-- A write of NVM moves rows alone, however often it is repeated. -/
theorem State.nvmTry_modeBoard (region row k : Nat) (s : State) : (s.nvmTry region row k).1.modeBoard = s.modeBoard := by
  induction k generalizing s with
  | zero => rfl
  | succ k ih =>
    unfold State.nvmTry
    split
    · rfl
    next n _ _ _ =>
      have hr := State.retireRow_modeBoard { s with nvm := n } region row
      split
      next t ht => exact (ih t).trans ((congrArg (fun x => x.1.modeBoard) ht).symm.trans hr)
      · exact hr

theorem State.nvmWrite_modeBoard (s : State) (region : Nat) : (s.nvmWrite region).1.modeBoard = s.modeBoard :=
  State.nvmTry_modeBoard _ _ _ s

/-- What recovery leaves when no drive is found: a ledger that runs and FAILED, in the mode that it met. -/
def FoundNone (s t : State) : Prop := t.led.running = true ∧ t.led.st = .failed ∧ t.led.perst = false ∧ t.mode = s.mode

theorem FoundNone.of_modeBoard {t u : State} (h : FoundNone s t) (hu : u.modeBoard = t.modeBoard) : FoundNone s u := by
  obtain ⟨hm, hb⟩ := Prod.mk.inj hu
  have hl : u.led = t.led := congrArg Board.led hb
  unfold FoundNone
  rw [hl, hm]
  exact h

theorem FoundNone.bootcnt {t : State} (h : FoundNone s t) (n : Nat) (m : Ledger → Nat) :
    FoundNone s (t.onLed (fun l => { l with bootcnt := n, bootNvm := m l })) := h

/-- The count of BOOTs moves no other part of the ledger's state. -/
theorem FoundNone.takeBootcnt {t : State} (h : FoundNone s t) : FoundNone s t.takeBootcnt :=
  (h.of_modeBoard (t.nvmWrite_modeBoard 0)).bootcnt _ _

theorem FoundNone.ite_takeBootcnt {t : State} {c : Prop} [Decidable c] (h : FoundNone s t) : FoundNone s (if c then t.takeBootcnt else t) := by
  split
  · exact h.takeBootcnt
  · exact h

/-- A ledger runs, and persistence is off. -/
def Ledger.flags (l : Ledger) : Bool × Bool := (l.running, l.perst)

theorem Ledger.sendTo_flags (l : Ledger) (d : Nat) (op : NvmeOp) : (l.sendTo d op).flags = l.flags := rfl

theorem foundNone_of_flags (s : State) {f : Ledger → Ledger} (hf : (f s.led).flags = (true, false)) :
    FoundNone s ((s.onLed f).onLed (fun l => { l with st := .failed })) :=
  ⟨congrArg Prod.fst hf, rfl, congrArg Prod.snd hf, rfl⟩

/-- The probes of discovery are commands to the drives. -/
theorem Ledger.probe_flags (l : Ledger) (d : Nat) : (l.probe d).flags = l.flags := by
  unfold Ledger.probe
  extract_lets m
  have hm : m.flags = l.flags := by
    unfold m
    split
    · rw [Ledger.sendTo_flags, Ledger.sendTo_flags]
    · rfl
  split
  · exact (foldl_fixes Ledger.flags (fun l op => l.sendTo_flags d op) _ m).trans hm
  · exact hm

/-- Discovery probes each link; with no drive found the ledger is FAILED. -/
theorem foundNone_probed (s : State) {f : Ledger → Ledger} (hf : ∀ l, (f l).flags = (true, false)) :
    FoundNone s ((s.onLed (fun l => (List.range 4).foldl Ledger.probe (f l))).onLed (fun l => { l with st := .failed })) :=
  foundNone_of_flags s ((foldl_fixes Ledger.flags Ledger.probe_flags (List.range 4) (f s.led)).trans (hf s.led))

theorem exec_ledgerRecovery_noDrive {l : List DriveFound} (j k : List Nat) (torn : Bool) (hs : s.led.st = .discovering) (hl : NoDrive l) :
    ∃ t, exec (.ledgerRecovery l j k torn) s = .next t ∧ FoundNone s t := by
  have hl' := hl.lanes (s.fld 0x310000 1 2)
  change ∃ t, execLedgerRecovery l j k torn s = _ ∧ _
  unfold execLedgerRecovery
  rw [if_neg (not_not.2 hs)]
  simp only [hl'.no_size_fault, hl'.discover, Bool.false_eq_true, reduceCtorEq, if_false, or_self]
  refine ⟨_, rfl, FoundNone.ite_takeBootcnt ?_⟩
  exact foundNone_probed s (fun _ => rfl)

/-! ### Seals, durability and reclaim (R496, R498, R503, R505) -/

theorem exec_sealTick_due (hr : s.led.running = true) (hm : s.led.isMounted = true)
    (ht : s.led.tickT / (Nat.max 1 s.led.sealint * 10000000) ≠ s.ptp / (Nat.max 1 s.led.sealint * 10000000)) :
    exec .sealTick s = .next ((s.onLed (fun l => { l with tickT := s.ptp })).sealAll 1) :=
  if_pos (by rw [hr, hm, Bool.true_and, Bool.true_and]; exact decide_eq_true ht)

theorem exec_batchDurable_mounted (hr : s.led.running = true) (hm : s.led.isMounted = true) : exec .batchDurable s = .next s.durable :=
  congrArg Host.Outcome.next (if_pos (by rw [hr, hm]; rfl))

theorem exec_stagingGap_free (hr : s.led.running = true) (hm : s.led.isMounted = true) (hu : s.led.used < 960) :
    exec .stagingGap s = .next (s.missGaps 2) :=
  if_pos (by simp [hr, hm, hu])

theorem exec_ledgerReclaim_due (hr : s.led.running = true) (hm : s.led.isMounted = true) (hv : s.board.ptpValid = true)
    (ho : s.stewardOn = true) (ht : s.led.reclaimT + 60000000000 ≤ s.now) :
    exec .ledgerReclaim s =
      .next (s.onLed (fun l => { ((s.led.segs.filter s.expired).map Seg.num).foldl Ledger.reclaim l with reclaimT := s.now })).spaceLow.writeOut :=
  if_neg (by simp [hr, hm, hv, ho, ht])

/-! ### Drive errors and resilvering (R510 to R513) -/

theorem exec_nvmeTimeout_alive (h : (s.led.drive d.val).alive = true) :
    exec (.nvmeTimeout d) s = .next ((((s.setBit 0x31001C 2).fault 0x08 0x08).onLed (fun l => l.retry d.val)).driveFail d.val) :=
  if_pos h

theorem exec_nvmeError_first (k : Nat) (h : (s.led.drive d.val).alive = true) :
    exec (.nvmeError d k false) s = .next ((((s.setBit 0x31001C 0).fault 0x08 0x01).onLed (fun l => l.retry d.val)).driveFail d.val) :=
  (if_neg (by simp [h])).trans (if_pos rfl)

/-- The ledger's state and its drives: what the copy to a drive leaves alone. -/
def Ledger.health (l : Ledger) : LedgerSt × List Drive := (l.st, l.drives)

theorem Ledger.sendTo_health (l : Ledger) (d : Nat) (op : NvmeOp) : (l.sendTo d op).health = l.health := rfl

/-- A copy to a drive is Reads and Writes alone. -/
theorem State.copyTo_health (s : State) (d : Nat) : (s.copyTo d).led.health = s.led.health := by
  unfold State.copyTo
  split
  · rfl
  next m _ => exact foldl_fixes Ledger.health (fun l _ => ((l.sendTo m _).sendTo_health d _).trans (l.sendTo_health m _)) _ s.led

/-- The drives after a resilvering: the copied ones online. -/
def online (ds : List Drive) : List Drive := ds.map (fun d => if d.state = 2 then { d with state := 1 } else d)

/-- A ledger whose drives are online again leaves DEGRADED. -/
def Ledger.settled (l : Ledger) : Ledger := if l.st = .degraded then { l with st := l.mountSt } else l

/-- With the copies made, the drives come online and the state follows. -/
theorem Ledger.settled_online {l m : Ledger} (hm : m.health = l.health) :
    let n := ({ m with drives := online m.drives } : Ledger).settled
    n.drives = online l.drives ∧ n.st = if l.st = .degraded then n.mountSt else l.st := by
  obtain ⟨hst, hdrives⟩ := Prod.mk.inj hm
  rw [← hst, ← hdrives]
  unfold Ledger.settled
  dsimp only
  split
  · exact ⟨rfl, rfl⟩
  · exact ⟨rfl, rfl⟩

theorem State.resilvered_online {t m : State} (hm : m.led.health = s.led.health)
    (ht : t.led = (m.onLed (fun l => { l with drives := online l.drives })).led) :
    let u := (t.onLed Ledger.settled).ledgerEvt 1
    u.led.drives = online s.led.drives ∧ u.led.st = if s.led.st = .degraded then u.led.mountSt else s.led.st := by
  have hu : ((t.onLed Ledger.settled).ledgerEvt 1).led = ({ m.led with drives := online m.led.drives } : Ledger).settled :=
    congrArg Ledger.settled ht
  dsimp only
  rw [hu]
  exact Ledger.settled_online hm

/-- The registers that show how far the copy stands are cleared. -/
theorem foldl_setReg_led (f : Nat → Nat) (l : List Nat) (s : State) : (l.foldl (fun s d => s.setReg (f d) 0) s).led = s.led :=
  foldl_fixes State.led (fun s d => congrArg Board.led (s.setReg_board (f d) 0)) l s

theorem exec_resilverDone_running (h : s.led.drives.any (fun d => d.state == 2) = true) :
    ∃ t, exec .resilverDone s = .next t ∧ t.led.drives = online s.led.drives ∧
      t.led.st = if s.led.st = .degraded then t.led.mountSt else s.led.st := by
  refine ⟨_, if_pos h, ?_⟩
  have hcopied := foldl_fixes (fun s => s.led.health) State.copyTo_health ((List.range 4).filter (fun d => (s.led.drive d).state == 2)) s
  exact State.resilvered_online hcopied (foldl_setReg_led (fun d => 0x31010C + 0x20 * d) [0, 1, 2, 3] _)

end

/-- Settles O38: each row under its conditions; recovery with no drive found by what its probes and the count of BOOTs leave. -/
theorem ledgerEvents : Obligations.LedgerEvents := by
  refine ⟨?done, ?none, ?tick, ?durable, ?gap, ?reclaim, ?errors, ?lost, ?resilver⟩
  case done => exact fun s l j k torn h => exec_ledgerRecovery_done l j k torn h
  case none =>
    intro s l j k torn hs hl
    exact exec_ledgerRecovery_noDrive j k torn hs (fun f hf => by simpa using List.all_eq_true.1 hl f hf)
  case tick => exact fun s hr hm ht => exec_sealTick_due hr hm ht
  case durable => exact fun s hr hm => exec_batchDurable_mounted hr hm
  case gap => exact fun s hr hm hu => exec_stagingGap_free hr hm hu
  case reclaim => exact fun s hr hm hv ho ht => exec_ledgerReclaim_due hr hm hv ho ht
  case errors => exact fun s d h => ⟨exec_nvmeTimeout_alive h, fun k => exec_nvmeError_first k h⟩
  case lost => exact fun s d => rfl
  case resilver => exact fun s h => exec_resilverDone_running h

end Sys2Proof.Machine
end

section
/-! The mirror of a redundant pair: identification, the owner's stream, resyncs, record copies and epoch marks (R521 to R534, R551). -/

namespace Sys2Proof.Machine

open Sys2Proof

section
variable {s u : State} {f : FrameHead}

/-! ### Identification (R524) -/

/-- The link is up on a part with option T whose pair island is clocked. -/
structure State.HearsIdent (s : State) : Prop where
  opt : s.optT = true
  pll : s.pllOn = true
  link : s.board.linkUp = true

theorem State.HearsIdent.open (h : s.HearsIdent) : ¬((!s.optT) = true ∨ (!s.pllOn) = true ∨ (!s.board.linkUp) = true) := by
  simp [h.opt, h.pll, h.link]

theorem exec_ident_badCrc (h : s.HearsIdent) (i : Ident) (hc : f.crcOk = false) :
    exec (.ident f i) s = .next ((s.setBit 0x330028 0).bump 0x330028 16 16) :=
  (if_neg h.open).trans (if_pos (by simp [hc]))

theorem exec_ident_noForm (h : s.HearsIdent) (i : Ident) (hc : f.crcOk = true) (hn : s.pr.noForm = true) : exec (.ident f i) s = .next s :=
  (if_neg h.open).trans ((if_neg (by simp [hc])).trans (if_pos hn))

/-- A part that a pair may still form with. -/
structure State.Joins (s : State) (f : FrameHead) : Prop extends s.HearsIdent where
  crc : f.crcOk = true
  may : s.pr.noForm = false

theorem exec_ident_wrongOpt (h : s.Joins f) {i : Ident} (hi : i.opt ≠ s.opt) : exec (.ident f i) s = .next (s.noPair 0x01) := by
  change execIdent f i s = _
  unfold execIdent
  rw [if_neg h.open, if_neg (by simp [h.crc]), if_neg (by simp [h.may]), if_pos hi]

theorem exec_ident_badCert (h : s.Joins f) {i : Ident} (hi : i.opt = s.opt) (hc : i.certOk = false) :
    exec (.ident f i) s = .next (s.noPair 0x02) := by
  change execIdent f i s = _
  unfold execIdent
  rw [if_neg h.open, if_neg (by simp [h.crc]), if_neg (by simp [h.may]), if_neg (not_not_intro hi), if_pos (by simp [hc])]

/-- The known incarnation of the partner forms the pair in the epoch that runs (R524, R528). -/
theorem exec_ident_known (h : s.Joins f) {i : Ident} (hi : i.opt = s.opt) (hc : i.certOk = true) (hm : i.mver = 3) (hs : s.pr.pInc = some i.inc)
    (hl : s.pr.lostSeen = false) :
    exec (.ident f i) s = .next (s.onBoard (fun b => { b with formed := true, pair := { b.pair with
      known := true, pSerial := i.serial, pPref := i.pref, pMver := i.mver, pInc := some i.inc, unmirrored := false, lostSeen := false,
      rcKnown := true, reacqT := if b.pair.hbMissed then b.pair.reacqT else none } })) := by
  change execIdent f i s = _
  unfold execIdent
  rw [if_neg h.open, if_neg (by simp [h.crc]), if_neg (by simp [h.may]), if_neg (not_not_intro hi), if_neg (by simp [hc])]
  refine (if_pos ⟨hs, by simp [hl]⟩).trans ?_
  simp only [hm, ne_eq, not_true_eq_false, decide_false, Bool.false_eq_true, if_false]

/-! ### The mirror stream and the resyncs (R529, R530, R533, R551) -/

theorem exec_mirrorSend_synced (ho : s.board.owner = true) (hf : s.board.formed = true) (hl : s.board.linkUp = true)
    (hu : s.pr.unmirrored = false) (hs : s.pr.sync ≠ 0) :
    exec .mirrorSend s =
      (let new := s.mirrorItems.filter (fun i => !s.pr.lastItems.contains i) ++ s.mirrorBack
      .next (if new.isEmpty then s
        else (s.sendZl (.mirror new)).onPair (fun p => { p with lastItems := s.mirrorItems, mseq := p.mseq + 1 }))) :=
  (if_pos (by simp [ho, hf, hl, hu, hs])).trans (apply_ite Host.Outcome.next _ _ _).symm

theorem State.follows_open (h : s.follows = true) : ¬(!s.follows) = true := by simp [h]

theorem exec_mirror_inOrder (lag : Nat) (l : List MirrorItem) (h : s.follows = true) (hf : s.takeFrame f = (true, u))
    (ho : (u.inOrder 3 f.fseq).1 = true) (hs : (u.inOrder 3 f.fseq).2.pr.sync ≠ 0) :
    exec (.mirror f lag l) s =
      (let t := (u.inOrder 3 f.fseq).2.applyItems l
      let n := Nat.min lag 0xFFFF
      .next ((t.setFld 0x330014 0 16 n).setFld 0x330014 16 16 (Nat.max n (t.fld 0x330014 16 16)))) := by
  change execMirror f lag l s = _
  unfold execMirror
  rw [if_neg (State.follows_open h), hf]
  have hord : ¬(!(u.inOrder 3 f.fseq).1) = true := by rw [ho]; exact Bool.false_ne_true
  exact (if_neg Bool.false_ne_true).trans ((if_neg hs).trans (if_neg hord))

theorem exec_mirror_dropped (lag : Nat) (l : List MirrorItem) (h : s.follows = true) (hf : s.takeFrame f = (false, u)) :
    exec (.mirror f lag l) s = .next u.outOfSync := by
  change execMirror f lag l s = _
  unfold execMirror
  rw [if_neg (State.follows_open h), hf]
  rfl

theorem State.follows_twin (h : s.follows = true) : s.mode.mode = .twin := by
  simp only [State.follows, Bool.and_eq_true, beq_iff_eq] at h
  exact h.1.1.1

theorem exec_snapshot_taken (l : List MirrorItem) (h : s.follows = true) (hf : s.takeFrame f = (true, u)) :
    exec (.snapshot f l) s =
      (let t := (u.inOrder 4 f.fseq).2
      .next ((if t.pr.sync = 1 then t else
        (t.onPair (fun p => { p with sync := 1, resyncT := some t.now, fseqIn := p.fseqIn.filter (fun x => x.1 != 3) })).bump 0x330018 16 16).applyItems
          l)) := by
  change execSnapshot f l s = _
  unfold execSnapshot
  rw [if_neg (by simp [State.follows_twin h]), if_neg (State.follows_open h), hf]
  rfl

theorem exec_resyncDone_running (h : s.pr.sync = 1) : exec .resyncDone s = .next (s.onPair (fun p => { p with sync := 2, resyncT := none })) :=
  if_pos h

theorem exec_resyncFail_running {t : Nat} (h : s.pr.resyncT = some t) :
    exec .resyncFail s =
      (let u := (s.passTo (t + 10000000000)).fault 0x0A 0x0D
      .next (if u.board.owner then u.startResync else (u.onPair (fun p => { p with resyncT := some u.now })).bump 0x330018 16 16)) := by
  change execResyncFail s = _
  simp only [execResyncFail, h]
  exact (apply_ite Host.Outcome.next _ _ _).symm

theorem exec_reccopy_taken (e : Entry) (l : List Entry) (h : s.follows = true) (hf : s.takeFrame f = (true, u)) :
    exec (.reccopy f (e :: l)) s =
      (let t := (u.inOrder 6 f.fseq).2
      .next (if t.pr.sync = 2 then t.stage e.tag.tenant (e :: l) (e.tag.kind == 0x60) else t)) := by
  change execReccopy f (e :: l) s = _
  unfold execReccopy
  rw [if_neg (State.follows_open h), hf]
  simp only [List.head?_cons, if_true, Bool.true_and, beq_iff_eq]
  exact (apply_ite Host.Outcome.next _ _ _).symm

/-! ### Epoch marks and acknowledgements (R521, R534) -/

theorem exec_epochmarkSend_owner (ho : s.board.owner = true) (hf : s.board.formed = true) (hl : s.board.linkUp = true) :
    exec .epochmarkSend s =
      (let t := match s.pr.markSentT with | some t => s.passTo (t + 1000000) | none => s
      .next ((t.sendZl (.epochMark (t.gat 0).cycle t.ptp)).onPair (fun p => { p with markSentT := some t.now }))) :=
  if_pos (by simp [ho, hf, hl])

/-- The record of a frame and what it says of the pair leave the Gathers alone. -/
theorem State.noted_gat (s : State) (ftype fseq : Nat) (p : Pair → Pair) (g : GatherNo) : ((s.inOrder ftype fseq).2.onPair p).gat g = s.gat g :=
  rfl

/-- A mark within the limits sets the count of Gather 0 and locks. -/
theorem exec_epochmark_within (n : Nat) (ho : s.board.owner = false) (hb : s.board.formed = true) (hf : s.takeFrame f = (true, u)) :
    exec (.epochmark f n true) s =
      .next (((u.onGat 0 (fun g => { g with cycle := n % 2 ^ 32 })).inOrder 7 f.fseq).2.onPair
        (fun p => { p with markT := some u.now, epochLock := true })) := by
  change execEpochmark f n true s = _
  unfold execEpochmark
  rw [if_neg (by simp [ho, hb]), hf]
  rfl

theorem exec_epochUnlock_locked {t : Nat} (h : s.pr.markT = some t) (hl : s.pr.epochLock = true) :
    exec .epochUnlock s = .next (((s.passTo (t + 10000000)).onPair (fun p => { p with epochLock := false, markT := none })).fault 0x0A 0x07) := by
  change execEpochUnlock s = _
  simp only [execEpochUnlock, h]
  exact if_pos hl

theorem exec_ack_taken (a b : Nat) (ho : s.optT = true) (hf : s.takeFrame f = (true, u)) :
    exec (.ack f a b) s = .next ((u.inOrder 9 f.fseq).2.onPair (fun p => { p with acked := (a, b) :: p.acked.filter (fun x => x.1 != a) })) := by
  change execAck f a b s = _
  unfold execAck
  rw [if_neg (by simp [ho]), hf]
  rfl

end

/-- The state that a frame leaves, by whether it is taken. -/
theorem State.takeFrame_eq {s : State} {f : FrameHead} {b : Bool} (h : (s.takeFrame f).1 = b) : s.takeFrame f = (b, (s.takeFrame f).2) :=
  Prod.ext h rfl

/-- Settles O42: each row under its conditions; identification by its checks in their order. -/
theorem mirrorAndEpoch : Obligations.MirrorAndEpoch := by
  refine ⟨?ident, ?send, ?mirror, ?dropped, ?snapshot, ?done, ?fail, ?copy, ?marks, ?mark, ?unlock, ?ack⟩
  case ident =>
    intro s f i ho hp hl
    have h : s.HearsIdent := ⟨ho, hp, hl⟩
    refine ⟨exec_ident_badCrc h i, exec_ident_noForm h i, fun hc hn => exec_ident_wrongOpt ⟨h, hc, hn⟩,
      fun hc hn => exec_ident_badCert ⟨h, hc, hn⟩, fun hc hn hi hk hm hs hlost => ?formed⟩
    exact ⟨_, exec_ident_known ⟨h, hc, hn⟩ hi hk hm hs hlost, rfl, rfl, rfl, rfl, rfl⟩
  case send => exact fun s ho hf hl hu hs => exec_mirrorSend_synced ho hf hl hu hs
  case mirror => exact fun s f lag l h ht ho hs => exec_mirror_inOrder lag l h (State.takeFrame_eq ht) ho hs
  case dropped => exact fun s f lag l h ht => exec_mirror_dropped lag l h (State.takeFrame_eq ht)
  case snapshot => exact fun s f l h ht => exec_snapshot_taken l h (State.takeFrame_eq ht)
  case done => exact fun s h => exec_resyncDone_running h
  case fail => exact fun s t h => exec_resyncFail_running h
  case copy => exact fun s f e l h ht => exec_reccopy_taken e l h (State.takeFrame_eq ht)
  case marks => exact fun s ho hf hl => exec_epochmarkSend_owner ho hf hl
  case mark =>
    intro s f n ho hb ht
    refine ⟨_, exec_epochmark_within n ho hb (State.takeFrame_eq ht), ?_, rfl, rfl⟩
    rw [State.noted_gat, State.onGat_gat]
  case unlock => exact fun s t h hl => exec_epochUnlock_locked h hl
  case ack => exact fun s f a b ho ht => exec_ack_taken a b ho (State.takeFrame_eq ht)

end Sys2Proof.Machine
end

section
/-! The planned handover of a redundant pair, and the roll call of one in KEEP (R541 to R543, R547, R548). -/

namespace Sys2Proof.Machine

open Sys2Proof

section
variable {s u : State} {f : FrameHead} {h : CmdHead}

/-! ### The steps of a handover by frames (R541, R542, R547) -/

/-- A handover frame that is taken is recorded, and then acts. -/
theorem State.hoFrame_taken (k : State → State) (hf : s.takeFrame f = (true, u)) : s.hoFrame f k = .next (k (u.inOrder 8 f.fseq).2) := by
  unfold State.hoFrame
  rw [hf]
  exact if_pos rfl

theorem exec_handoverPrep_taken (hf : s.takeFrame f = (true, u)) :
    exec (.handoverPrep f) s =
      (let t := (u.inOrder 8 f.fseq).2
      .next (if t.follows && t.pr.sync == 2 && t.pr.epochLock then (t.sendZl .hoReady).onPair (fun p => { p with ho := .answered }) else t)) := by
  change execHandoverPrep f s = _
  unfold execHandoverPrep
  rw [State.hoFrame_taken _ hf]

/-- The start of a period lies at or after the time asked for. -/
theorem State.le_periodStart (s : State) (t : Nat) : t ≤ s.periodStart t := Nat.le_add_right _ _

/-- READY before the deadline fixes the time of the handover. -/
theorem exec_handoverReady_timely {till : Nat} (sAt : Nat) (hf : s.takeFrame f = (true, u))
    (hh : (u.inOrder 8 f.fseq).2.pr.ho = .prep h till) (ht : (u.inOrder 8 f.fseq).2.ptp ≤ till) :
    exec (.handoverReady f sAt) s =
      (let t := (u.inOrder 8 f.fseq).2
      let at_ := t.periodStart (Nat.max sAt (t.ptp + 200000))
      .next ((t.sendZl (.hoTime at_)).onPair (fun p => { p with ho := .timed h at_ }))) := by
  change execHandoverReady f sAt s = _
  unfold execHandoverReady
  rw [State.hoFrame_taken _ hf]
  simp only [hh]
  rw [if_neg (Nat.not_lt.2 ht)]

theorem exec_handoverTime_answered (sAt : Nat) (hf : s.takeFrame f = (true, u)) (hh : (u.inOrder 8 f.fseq).2.pr.ho = .answered) :
    exec (.handoverTime f sAt) s = .next ((u.inOrder 8 f.fseq).2.onPair (fun p => { p with ho := .due sAt })) := by
  change execHandoverTime f sAt s = _
  unfold execHandoverTime
  rw [State.hoFrame_taken _ hf]
  rw [if_pos hh]

theorem exec_handoverState_due {sAt : Nat} (l : List MirrorItem) (hf : s.takeFrame f = (true, u))
    (hh : (u.inOrder 8 f.fseq).2.pr.ho = .due sAt) (hw : (u.inOrder 8 f.fseq).2.follows = true) :
    exec (.handoverState f l) s = .next ((u.inOrder 8 f.fseq).2.applyItems l) := by
  change execHandoverState f l s = _
  unfold execHandoverState
  rw [State.hoFrame_taken _ hf]
  simp only [hh]
  rw [if_pos hw]

/-- The old owner's last step: it enters TWIN and completes the command at the time that was fixed. -/
theorem exec_handoverAck_given {sAt : Nat} (hn : s.noFatal = true) (hf : s.takeFrame f = (true, u))
    (hh : (u.inOrder 8 f.fseq).2.pr.ho = .given h sAt) :
    exec (.handoverAck f) s =
      (let t := (u.inOrder 8 f.fseq).2
      let a := (t.cancelDeferred.onBoard (fun b => { b with owner := false, pipeOut := false, pair := { b.pair with rcPrimary := false } })).tkStamp
      let b := (if modeGives a.mode.mode then a.enterMode .twin 0x0F 0 else a).settle
      .next ((((b.pairEvt 1).corrFrom b.evtFifo.length h.corr).endHandover h .ok sAt).dropServed)) := by
  change execHandoverAck f s = _
  unfold execHandoverAck
  rw [State.fatalFirst_idle s hn, State.hoFrame_taken _ hf]
  simp only [hh]

/-! ### The steps of a handover by time (R541 to R543) -/

theorem exec_handoverPipeRelease_timed {sAt : Nat} (hh : s.pr.ho = .timed h sAt) :
    exec .handoverPipeRelease s =
      (let t := s.tickTo (sAt - 1000)
      .next ((t.sendZl (.hoState t.mirrorItems)).onBoard (fun b => { b with
        pipeOut := false, pair := { b.pair with ho := .given h sAt, lastItems := t.mirrorItems } }))) := by
  change execHandoverPipeRelease s = _
  simp only [execHandoverPipeRelease, hh]

theorem exec_handoverPipeTake_due {sAt : Nat} (hn : s.noFatal = true) (hh : s.pr.ho = .due sAt) (hw : s.follows = true) :
    exec .handoverPipeTake s =
      (let a := ((s.tickTo sAt).onBoard (fun b => { b with
        owner := true, barred := false, pipeOut := true, pair := { b.pair with ho := .none, rcPrimary := true } })).tkStamp
      let m := a.enterMode a.workMode 0x10 0
      let d := m.forChans allChans (fun c u =>
        if (u.chan c).loop.st = .released ∧ (u.chan c).loop.before ≠ .released ∧ u.mayDrive c = true then
          (u.onLoop c (fun l => { l with before := .stopped })).setSt c (u.chan c).loop.before .none 0
        else u)
      .next ((((d.settle.adopt false).freshStorms.pairEvt 2).programEvts 3).sendZl .hoAck)) := by
  change execHandoverPipeTake s = _
  unfold execHandoverPipeTake
  rw [State.fatalFirst_idle s hn]
  simp only [hh]
  exact if_neg (State.follows_open hw)

theorem exec_handoverTimeout_prep {till : Nat} (hh : s.pr.ho = .prep h till) :
    exec .handoverTimeout s = .next ((s.tickTo till).endHandover h .timeout 0) := by
  change execHandoverTimeout s = _
  simp only [execHandoverTimeout, hh]

theorem exec_handoverTimeout_timed {sAt : Nat} (hh : s.pr.ho = .timed h sAt) :
    exec .handoverTimeout s = .next ((s.tickTo (sAt + 10000)).endHandover h .timeout 0) := by
  change execHandoverTimeout s = _
  simp only [execHandoverTimeout, hh]

/-- The partner has not raised PIPE_OUT: the owner takes the Pipe back (R543). -/
theorem exec_handoverTimeout_given {sAt : Nat} (hh : s.pr.ho = .given h sAt) (hp : s.board.pipeIn = false) :
    exec .handoverTimeout s = .next (((s.tickTo (sAt + 10000)).onBoard (fun b => { b with pipeOut := true })).endHandover h .timeout 0) := by
  change execHandoverTimeout s = _
  simp only [execHandoverTimeout, hh]
  exact if_neg (by simp [hp])

/-! ### The roll call (R548, Table 14-8) -/

theorem exec_rollCallPulse_first (hr : s.rollOn = true) (hp : s.pr.rcPrimary = true) (h0 : s.pr.rcPulse = 0) :
    exec .rollCallPulse s = .next (s.onPair (fun p => { p with rcPulse := s.now })) := by
  change execRollCallPulse s = _
  unfold execRollCallPulse
  rw [if_pos (by simp [hr, hp]), if_pos h0]

theorem exec_rollPulseDetect_on (hr : s.rollOn = true) :
    exec .rollPulseDetect s = .next (s.onPair (fun p => { p with
      rcMisses := 0, rcSearch := false, rcAbsent := false, rcSkips := 0
      rcCalls := if p.rcPrimary then satAdd 0xFFFF p.rcCalls 1 else p.rcCalls, rcPulse := if p.rcPrimary then p.rcPulse else s.now })) :=
  if_neg (by simp [hr])

theorem exec_rollCallReply_secondary (hr : s.rollOn = true) (hp : s.pr.rcPrimary = false) :
    exec .rollCallReply s =
      .next ((s.passTo (s.pr.rcPulse + 320 * 1000000000 / 32768)).onPair (fun p => { p with rcCalls := satAdd 0xFFFF p.rcCalls 1 })) :=
  if_pos (by simp [hr, hp])

theorem State.onPair_congr {f g : Pair → Pair} (h : f s.pr = g s.pr) : s.onPair f = s.onPair g :=
  congrArg (fun p => s.onBoard (fun b => { b with pair := p })) h

theorem exec_rollCallMiss_present (hr : s.rollOn = true) (ha : s.pr.rcAbsent = false) :
    exec .rollCallMiss s = .next (s.onPair (fun p => { p with
      rcMisses := Nat.min 3 (p.rcMisses + 1), rcSearch := p.rcSearch || decide (2 ≤ p.rcMisses) })) :=
  (if_neg (by simp [hr])).trans (congrArg Host.Outcome.next (State.onPair_congr (if_neg (by simp [ha]))))

theorem exec_rollCallSearchEnd_running (hr : s.rollOn = true) (hs : s.pr.rcSearch = true) :
    exec .rollCallSearchEnd s = .next (s.onPair (fun p => { p with rcSearch := false, rcAbsent := true, rcSkips := 0 })) :=
  if_pos (by simp [hr, hs])

end

/-- Settles O43: each step of a handover by the state that it meets; the fixed time by the start of a period, `le_periodStart`. -/
theorem handoverAndRollCall : Obligations.HandoverAndRollCall := by
  refine ⟨?frames, ?timed, ?take, ?prep, ?given, ?roll⟩
  case frames =>
    intro s f u hf
    refine ⟨exec_handoverPrep_taken hf, fun h till sAt hh ht => ⟨exec_handoverReady_timely sAt hf hh ht, ?_⟩,
      fun sAt hh => exec_handoverTime_answered sAt hf hh, fun sAt l hh hw => exec_handoverState_due l hf hh hw,
      fun h sAt hn hh => exec_handoverAck_given hn hf hh⟩
    have hat := State.le_periodStart (u.inOrder 8 f.fseq).2 (Nat.max sAt ((u.inOrder 8 f.fseq).2.ptp + 200000))
    exact ⟨(Nat.le_max_right _ _).trans hat, (Nat.le_max_left _ _).trans hat⟩
  case timed => exact fun s h sAt hh => ⟨exec_handoverPipeRelease_timed hh, exec_handoverTimeout_timed hh⟩
  case take => exact fun s sAt hn hh hw => exec_handoverPipeTake_due hn hh hw
  case prep => exact fun s h d hh => exec_handoverTimeout_prep hh
  case given => exact fun s h d hh hp => exec_handoverTimeout_given hh hp
  case roll =>
    exact fun s hr => ⟨exec_rollCallPulse_first hr, exec_rollPulseDetect_on hr, exec_rollCallReply_secondary hr,
      exec_rollCallMiss_present hr, exec_rollCallSearchEnd_running hr⟩

end Sys2Proof.Machine
end
